-- ==== Sys2Proof/Word.lean ====
section
/-! DEFINITION. The word types of the PV1216 and their plainest arithmetic (00 R2, R3). -/

namespace Sys2Proof

/-- A 32-bit register word. -/
abbrev Word := BitVec 32

/-- A byte of memory, of a payload or of a frame. -/
abbrev Byte := BitVec 8

/-- A TS32 stamp (12 R301). -/
abbrev Ts32 := BitVec 32

/-- A 64-bit two's-complement position count (10 R240). -/
abbrev Pos64 := BitVec 64

/-- The number of an instance and a mask bit: bit `k` of `m`. -/
def maskBit (m k : Nat) : Bool := m.testBit k

/-- Round `a / b` up; 0 for a zero divisor. -/
def ceilDiv (a b : Nat) : Nat := if b = 0 then 0 else (a + b - 1) / b

/-- Limit an integer to the closed range `lo` to `hi` (00 R3). -/
def clampInt (lo hi x : Int) : Int := if x < lo then lo else if hi < x then hi else x

/-- Limit a number to the closed range `lo` to `hi`. -/
def clampNat (lo hi x : Nat) : Nat := if x < lo then lo else if hi < x then hi else x

end Sys2Proof
end

