-- ==== Sys2Proof/Config.lean ====
section
/-! DEFINITION. What the spec leaves open: free values as opaque constants, nothing of which any proof can see. -/

namespace Sys2Proof.Config

/-- A free value: `freeNat k n` is the `n`-th unstated number of kind `k`; the step supplies `n` from the
counter `freeCount` of the state and advances it.  No statement rests on any value of it. -/
opaque freeNat : Nat → Nat → Nat

end Sys2Proof.Config
end

