-- ==== Sys2Proof/Types/Time.lean ====
section
/-! DEFINITION. The plain data of the time bases, captures, compares, PPS, Ethernet and PTP (12). -/

namespace Sys2Proof.Machine

/-- States of a time base (12 Table 12.3). -/
inductive TbState where
  | off | free | acquiring | locked | holdover
  deriving DecidableEq, Repr

/-- SOURCE of a time base (12 Table 12.4). -/
inductive TbSource where
  | none | ptp | ppsIn
  deriving DecidableEq, Repr

/-- STEP_MODE of a servo (12 R293). -/
inductive StepMode where
  | never | first | always
  deriving DecidableEq, Repr

/-- An instant of a time base: 80 bits (12 R287). -/
structure Stamp where
  seconds : Nat := 0
  ns : Nat := 0
  frac : Nat := 0
  deriving DecidableEq, Repr

/-- One time base (12 R287 to R294, Tables 12.3, 12.4, 12.7). -/
structure TimeBase where
  /-- STATE | 3 bits | 12 R289, Table 12.7 | reset OFF; TB0 leaves OFF at once (R289) -/
  state : TbState := .off
  /-- VALID | 1 bit | 12 R289 | reset 0 -/
  valid : Bool := false
  /-- STEPPED | 1 bit RW1C | 12 R290, Table 12.7 | reset 0 -/
  stepped : Bool := false
  /-- SECONDS, NANOSECONDS, FRAC | 80 bits | 12 R287 | reset 0 -/
  time : Stamp := {}
  /-- DCO phase of the model's clock, in ticks times 2^40 | model's own | 12 R288 | reset 0 -/
  phase : Nat := 0
  /-- ENABLE | 1 bit | 12 Table 12.4 | reset 0 (TB0: 1) -/
  enable : Bool := false
  /-- SOURCE | 2 bits | 12 Table 12.4 | reset NONE -/
  source : TbSource := .none
  /-- DOMAIN | 8 bits | 12 Table 12.7 | reset 0 -/
  domain : Nat := 0
  /-- FREQ_ADJ | signed 32 bits | 12 R288 | reset 0 -/
  freqAdj : Int := 0
  /-- KP | 16 bits | 12 Table 12.4 | reset 0x4000 -/
  kp : Nat := 0x4000
  /-- KI | 16 bits | 12 Table 12.4 | reset 0x0400 -/
  ki : Nat := 0x0400
  /-- STEP_MODE | 2 bits | 12 Table 12.4 | reset FIRST -/
  stepMode : StepMode := .first
  /-- STEP_THR_NS | 32 bits | 12 Table 12.4 | reset 1,000,000 -/
  stepThr : Nat := 1000000
  /-- LOCK_NS | 32 bits | 12 Table 12.4 | reset 100 -/
  lockNs : Nat := 100
  /-- LOCK_COUNT | 8 bits | 12 Table 12.4 | reset 8 -/
  lockCount : Nat := 8
  /-- HOLDOVER_MS | 16 bits | 12 Table 12.4 | reset 2,000 -/
  holdoverMs : Nat := 2000
  /-- PPS_IN_DELAY_NS | signed 16.16 | 12 Table 12.4 | reset 0 -/
  ppsInDelay : Int := 0
  /-- OFFSET (last theta) | signed 16.16 | 12 Table 12.7 | reset 0 -/
  offset : Int := 0
  /-- STEPS | 32 bits | 12 Table 12.7 | reset 0 -/
  steps : Nat := 0
  /-- HOLDOVER_COUNT | 32 bits | 12 Table 12.7 | reset 0 -/
  holdoverCount : Nat := 0
  /-- integ | signed, 16-bit fraction | 12 R293 | reset 0 -/
  integ : Int := 0
  /-- clamped | 1 bit | 12 R293 | reset 0 -/
  clamped : Bool := false
  /-- consecutive samples within LOCK_NS | 8 bits | 12 R293 | reset 0 -/
  goodRun : Nat := 0
  /-- consecutive samples beyond 4 LOCK_NS | 3 bits | 12 R293 | reset 0 -/
  badRun : Nat := 0
  /-- FREQ_ADJ of the last 16 samples | 16 x 32 bits | 12 R293 | reset empty -/
  history : List Int := []
  /-- HOLD_FREQ | signed 32 bits | 12 R293 | reset 0 -/
  holdFreq : Int := 0
  /-- sample that waits: theta and T, both in units of 2^-16 ns | 12 R293, R302 | reset none -/
  sample : Option (Int × Nat) := none
  /-- value that a SET loads at the next tick | 80 bits | 12 R290 | reset none -/
  setPending : Option Stamp := none
  /-- theta of a step that takes place at the next tick | signed | 12 R290 | reset none -/
  stepPending : Option Int := none
  /-- snapshot of the block | 9 words | 12 R306 | reset zeros -/
  snap : List Word := []
  deriving DecidableEq, Repr

/-- One capture unit (12 R304, Table 12.8). -/
structure CapUnit where
  /-- CAP_TB | 2 bits | 12 Table 12.8 | reset 0 -/
  tb : Fin 4 := 0
  /-- ENABLE | 1 bit | 12 Table 12.8 | reset 0 -/
  enable : Bool := false
  /-- VALID | 1 bit | 12 Table 12.8 | reset 0 -/
  valid : Bool := false
  /-- OVERRUN | RW1C | 12 R304 | reset 0 -/
  overrun : Bool := false
  /-- FOREIGN_WRITE | RW1C | 12 R306 | reset 0 -/
  foreignWrite : Bool := false
  /-- TIME_VALID | 1 bit | 12 Table 12.8 | reset 0 -/
  timeValid : Bool := false
  /-- CAP_SEQ | 16 bits | 12 R304 | reset 0 -/
  seq : Nat := 0
  /-- CAP_NS, CAP_S, CAP_FRAC | 80 bits | 12 Table 12.8 | reset 0 -/
  time : Stamp := {}
  /-- CAP_SEQ has been read by a snapshot | model's own | 12 R304 | reset 1 -/
  seen : Bool := true
  /-- model time of the last capture (two events in a tick make one) | model's own | 12 R304 | reset none -/
  lastAt : Option Nat := none
  /-- snapshot of the block | 5 words | 12 R306 | reset zeros -/
  snap : List Word := []
  deriving DecidableEq, Repr

/-- One compare unit (12 R305, Table 12.9). -/
structure CmpUnit where
  /-- CMP_TB | 2 bits RWL | 12 Table 12.9 | reset 0 -/
  tb : Fin 4 := 0
  /-- ARM | 1 bit | 12 Table 12.9 | reset 0 -/
  arm : Bool := false
  /-- PERIODIC | 1 bit RWL | 12 Table 12.9 | reset 0 -/
  periodic : Bool := false
  /-- FIRED | RW1C | 12 Table 12.9 | reset 0 -/
  fired : Bool := false
  /-- LATE_ARM | RW1C | 12 R305 | reset 0 -/
  lateArm : Bool := false
  /-- FOREIGN_WRITE | RW1C | 12 R306 | reset 0 -/
  foreignWrite : Bool := false
  /-- STALE_KEY | RW1C | 12 Table 12.9 | reset 0 -/
  staleKey : Bool := false
  /-- FIRE_COUNT | 16 bits | 12 Table 12.9 | reset 0 -/
  fireCount : Nat := 0
  /-- CMP_KEY | 32 bits RWL | 12 Table 12.9 | reset 0 -/
  key : Ts32 := 0
  /-- CMP_PERIOD_NS | 32 bits RWL | 12 Table 12.9 | reset 1,000 -/
  period : Nat := 1000
  /-- LAST_FIRE_TS32 | 32 bits | 12 Table 12.9 | reset 0 -/
  lastFire : Ts32 := 0
  /-- SKIPPED | 32 bits | 12 Table 12.9 | reset 0 -/
  skipped : Nat := 0
  /-- armed on a key already reached | model's own | 12 R305 | reset 0 -/
  armedLate : Bool := false
  /-- model time of the write that armed it; ARM takes effect at the tick after | 12 R305 | reset none -/
  armedAt : Option Nat := none
  deriving DecidableEq, Repr

/-- One PPS output (12 R303, Table 12.4). -/
structure PpsOut where
  /-- PPS_OUT enable | 1 bit | 12 Table 12.4 | reset 0 -/
  enable : Bool := false
  /-- PPS_OUT time base | 8 bits as given | 12 Table 12.4 | reset 0 (DESIGN CHOICE 0: the table gives none) -/
  tbAsGiven : Nat := 0
  /-- PPS_OUT offset | 32 bits | 12 Table 12.4 | reset 0 -/
  offset : Nat := 0
  /-- PPS_OUT width | 32 bits | 12 Table 12.4 | reset 10,000,000 -/
  width : Nat := 10000000
  /-- level of the ball PPS_OUT[k] | 1 bit | 12 R303 | reset 0 -/
  level : Bool := false
  /-- latest second whose rising instant is done with: produced, or passed before the output was enabled | 48 bits | 12 R303 |
  reset none -/
  lastSecond : Option Nat := none
  deriving DecidableEq, Repr

/-- The time base of a PPS output (0 to 3; what a disabled output stores beyond has no effect, 17 R393). -/
def PpsOut.tb (o : PpsOut) : Fin 4 := ⟨o.tbAsGiven % 4, by omega⟩

/-- The PPS block (12 R302, Table 12.10). -/
structure Pps where
  /-- PPS_SEQ | 16 bits | 12 Table 12.10 | reset 0 -/
  seq : Nat := 0
  /-- instant of the last accepted edge on the model's clock, in units of 2^-16 ns | model's own | 12 R302 | reset none -/
  lastAt : Option Nat := none
  /-- PPS_NS, PPS_S, PPS_FRAC of each base | 4 x 80 bits | 12 Table 12.10 | reset 0 -/
  capture : Vector Stamp 4 := Vector.replicate 4 {}
  /-- PPS_GLITCH | 32 bits | 12 R302 | reset 0 -/
  glitch : Nat := 0
  /-- PPS_OUT0 and PPS_OUT1 | 2 outputs | 12 R303 | reset disabled -/
  out : Vector PpsOut 2 := Vector.replicate 2 {}
  /-- snapshot of the block | 18 words | 12 R306 | reset zeros -/
  snap : List Word := []
  deriving DecidableEq, Repr

/-- The host-direct time block and the model's clock. -/
structure TimeBlock where
  /-- TB0 to TB3 | 4 time bases | 12 R287 | reset TB0 ENABLE 1 and FREE at zero, TB1 to TB3 OFF (R289) -/
  tb : Vector TimeBase 4 := (Vector.replicate 4 {}).set 0 { enable := true, state := .free }
  /-- CAP0 to CAP7 | 8 capture units | 12 Table 12.8 | reset per field -/
  cap : Vector CapUnit 8 := Vector.replicate 8 {}
  /-- CMP0 to CMP7 | 8 compare units | 12 Table 12.9 | reset per field -/
  cmp : Vector CmpUnit 8 := Vector.replicate 8 {}
  /-- PPS block | 12 Table 12.10 | reset per field -/
  pps : Pps := {}
  /-- ns on the always-on clock since entry to DEEP SLEEP | 32 bits | 12 R304 | reset 0 -/
  aonNs : Nat := 0
  deriving DecidableEq, Repr

end Sys2Proof.Machine
end

