-- ==== Sys2Proof/Types/Position.lean ====
section
/-! DEFINITION. The plain data of the position channels, probes and trigger generators (10). -/

namespace Sys2Proof.Machine

/-- An open fine-speed window (10 R248). -/
structure FineWindow where
  /-- time of the start edge in TB0 nanoseconds -/
  start : Nat
  /-- edges after the start edge -/
  edges : Nat := 0
  deriving DecidableEq, Repr

/-- One quadrature channel (10 R237 to R250, Tables 10.4 to 10.6). -/
structure QeChan where
  /-- ENABLE / ENABLED | 1 bit | 10 Table 10.4 | reset 0 -/
  enable : Bool := false
  /-- CLASS (0 W, 1 A) | 1 bit | 10 Table 10.4 | reset W -/
  classA : Bool := false
  /-- INPUT / LVDS | 1 bit | 10 R237 | reset LVCMOS -/
  lvds : Bool := false
  /-- TERM | 1 bit | 10 R237 | reset 0 -/
  term : Bool := false
  /-- INVERT | 1 bit | 10 R240 | reset 0 -/
  invert : Bool := false
  /-- INDEX_QUAL AB11 | 1 bit | 10 R244 | reset NONE -/
  qualAB11 : Bool := false
  /-- MIN_SPACING_NS | 16 bits | 10 Table 10.4 | reset 40 -/
  minSpacing : Nat := 40
  /-- STILL_T in ms | 16 bits | 10 Table 10.4 | reset 10 -/
  stillT : Nat := 10
  /-- FINE_WIN in ms | 16 bits | 10 Table 10.4 | reset 1 -/
  fineWin : Nat := 1
  /-- COUNT | 64 bits | 10 Table 10.5 | reset 0 -/
  count : Pos64 := 0
  /-- tracked state (A, B) | 2 bits | 10 R240 | reset (0, 0) (DESIGN CHOICE) -/
  tracked : Bool × Bool := (false, false)
  /-- LEVEL_A, LEVEL_B: the last sample | 2 bits | 10 Table 10.6 | reset 0 -/
  sample : Bool × Bool := (false, false)
  /-- LEVEL_Z | 1 bit | 10 Table 10.6 | reset 0 -/
  levelZ : Bool := false
  /-- model time of the last accepted edge | model's own | 10 R241 | reset none -/
  lastAccept : Option Nat := none
  /-- STILL | 1 bit | 10 Table 10.6 | reset 1 -/
  still : Bool := true
  /-- STARTING | 1 bit | 10 Table 10.6 | reset 0 -/
  starting : Bool := false
  /-- REVERSED | 1 bit | 10 Table 10.6 | reset 0 -/
  reversed : Bool := false
  /-- FINE_VALID | 1 bit | 10 Table 10.6 | reset 0 -/
  fineValid : Bool := false
  /-- DIR | 1 bit | 10 Table 10.6 | reset 0 -/
  dirDown : Bool := false
  /-- ILLEGAL | RW1C | 10 Table 10.6 | reset 0 -/
  illegal : Bool := false
  /-- SPACING | RW1C | 10 Table 10.6 | reset 0 -/
  spacing : Bool := false
  /-- SLOW | 1 bit | 10 Table 10.6 | reset 0 -/
  slow : Bool := false
  /-- TIME_VALID | 1 bit | 10 Table 10.6 | reset 0 -/
  timeValid : Bool := false
  /-- direction history: the last accepted edge went down | 10 R249 | reset none -/
  history : Option Bool := none
  /-- TB0 nanoseconds of the last accepted edge | 10 R247 | reset 0 -/
  lastEdgeNs : Nat := 0
  /-- LAST_EDGE_TS32 | 32 bits | 10 Table 10.5 | reset 0 -/
  lastEdgeTs : Ts32 := 0
  /-- COARSE_SPEED | signed 32.16 | 10 R247 | reset 0 -/
  coarse : Int := 0
  /-- FINE_SPEED | signed 32.16 | 10 R248 | reset 0 -/
  fine : Int := 0
  /-- open fine window | 10 R248 | reset none -/
  window : Option FineWindow := none
  /-- FINE_T | 32 bits | 10 Table 10.5 | reset 0 -/
  fineT : Nat := 0
  /-- INDEX_LATCH | 64 bits | 10 R244 | reset 0 -/
  indexLatch : Pos64 := 0
  /-- INDEX_COUNT | 32 bits | 10 Table 10.5 | reset 0 -/
  indexCount : Nat := 0
  /-- ILLEGAL_COUNT | 32 bits | 10 Table 10.5 | reset 0 -/
  illegalCount : Nat := 0
  /-- SPACING_FAULTS | 32 bits | 10 Table 10.5 | reset 0 -/
  spacingFaults : Nat := 0
  /-- REVERSALS | 32 bits | 10 Table 10.5 | reset 0 -/
  reversals : Nat := 0
  deriving DecidableEq, Repr

/-- EDGE selection of probes and GPIO (10 R245, 18 Table 18.5). -/
inductive EdgeKind where
  | rise | fall | both
  deriving DecidableEq, Repr

/-- One probe input (10 R245, R246, Table 10.7). -/
structure Probe where
  /-- ENABLE | 1 bit | 10 Table 10.4 | reset 0 -/
  enable : Bool := false
  /-- EDGE | 2 bits | 10 Table 10.4 | reset RISE -/
  edge : EdgeKind := .rise
  /-- FILTER | 8 bits | 10 Table 10.4 | reset 0 -/
  filter : Nat := 0
  /-- filtered level of PRB | 1 bit | 10 R245 | reset 0 (DESIGN CHOICE) -/
  level : Bool := false
  /-- level of PRB at the last sample | 1 bit | 10 R245 | reset 0 (DESIGN CHOICE) -/
  raw : Bool := false
  /-- ended samples that saw that level | 8 bits | 10 R245 | reset 0 (DESIGN CHOICE) -/
  held : Nat := 0
  /-- SEQ | 16 bits | 10 Table 10.7 | reset 0 -/
  seq : Nat := 0
  /-- OVERRUN | RW1C | 10 R246 | reset 0 -/
  overrun : Bool := false
  /-- TIME_VALID | 1 bit | 10 Table 10.7 | reset 0 -/
  timeValid : Bool := false
  /-- EDGE_LEVEL | 1 bit | 10 Table 10.7 | reset 0 -/
  edgeLevel : Bool := false
  /-- LATCH_TS32 | 32 bits | 10 Table 10.7 | reset 0 -/
  latchTs : Ts32 := 0
  /-- COUNT0 to COUNT7 | 8 x 64 bits | 10 Table 10.7 | reset 0 -/
  counts : Vector Pos64 8 := Vector.replicate 8 0
  /-- SEQ has been read by a snapshot | model's own | 10 R246 | reset 1 -/
  seen : Bool := true
  /-- snapshot of the block | 18 words | 10 R259 | reset zeros -/
  snap : List Word := []
  deriving DecidableEq, Repr

/-- EDGE of a trigger generator (10 Table 10.4, 02 Table 2.2). -/
inductive TrigEdge where
  | pulse | rise | fall
  deriving DecidableEq, Repr

/-- One trigger generator (10 R251 to R256, Tables 10.4, 10.8). -/
structure TrigGen where
  /-- ENABLE | 1 bit | 10 Table 10.4 | reset 0 -/
  enable : Bool := false
  /-- MODE (1 TIME) | 1 bit | 10 Table 10.4 | reset POSITION -/
  timeMode : Bool := false
  /-- SOURCE | 3 bits | 10 Table 10.4 | reset QE0 -/
  source : Fin 8 := 0
  /-- ORIGIN | 64 bits | 10 Table 10.4 | reset 0 -/
  origin : Pos64 := 0
  /-- PITCH | 16.16 | 10 Table 10.4 | reset 0x0001_0000 -/
  pitch : Nat := 0x10000
  /-- START | TS32 | 10 Table 10.4 | reset 0 -/
  start : Ts32 := 0
  /-- PERIOD_NS | 32 bits | 10 Table 10.4 | reset 10,000 -/
  period : Nat := 10000
  /-- MIN_PERIOD_NS | 32 bits | 10 Table 10.4 | reset 1,000 -/
  minPeriod : Nat := 1000
  /-- PORT_MASK | 12 bits | 10 Table 10.4 | reset 0 -/
  portMask : Nat := 0
  /-- EDGE | 2 bits | 10 Table 10.4 | reset PULSE -/
  edge : TrigEdge := .pulse
  /-- OUT_WIDTH_NS | 16 bits | 10 Table 10.4 | reset 100 -/
  outWidth : Nat := 100
  /-- OUT_POL LOW | 1 bit | 10 Table 10.4 | reset HIGH -/
  outLow : Bool := false
  /-- T_NEXT | 64.16 | 10 R252 | reset 0 (DESIGN CHOICE; NEXT_POS reads 0) -/
  tNext : Int := 0
  /-- MAX_POS | 64 bits | 10 R252 | reset 0 -/
  maxPos : Int := 0
  /-- next TS32 key of TIME mode | 32 bits | 10 R254 | reset 0 (DESIGN CHOICE) -/
  nextKey : Ts32 := 0
  /-- HELD | 1 bit | 10 R253 | reset 0 -/
  held : Bool := false
  /-- TRIG_SEQ | 32 bits | 10 R255 | reset 0 -/
  seq : Nat := 0
  /-- TRIG_SKIPPED | 32 bits | 10 R255 | reset 0 -/
  skipped : Nat := 0
  /-- HOLDS | 32 bits | 10 R253 | reset 0 -/
  holds : Nat := 0
  /-- LAST_TRIG_TS32 | 32 bits | 10 Table 10.8 | reset 0 -/
  lastTs : Ts32 := 0
  /-- model time of the last issued trigger | model's own | 10 R255 | reset none -/
  lastAt : Option Nat := none
  /-- model time of the sample in which a threshold was last passed | model's own | 10 R252 | reset none -/
  dueAt : Option Nat := none
  deriving DecidableEq, Repr

/-- The position block (10). -/
structure PosBlock where
  /-- QE0 to QE7 | 8 channels | 10 Table 10.5 | reset per field -/
  qe : Vector QeChan 8 := Vector.replicate 8 {}
  /-- PRB0 to PRB7 | 8 probes | 10 Table 10.7 | reset per field -/
  probe : Vector Probe 8 := Vector.replicate 8 {}
  /-- TG0 to TG11 | 12 generators | 10 Table 10.8 | reset per field -/
  trig : Vector TrigGen 12 := Vector.replicate 12 {}
  /-- TRIG_OUT[p] active | 12 balls | 10 R251 | reset idle -/
  trigOut : Vector Bool 12 := Vector.replicate 12 false
  deriving DecidableEq, Repr

end Sys2Proof.Machine
end

