-- ==== Sys2Proof/Types/Events.lean ====
section
/-! DEFINITION. The plain data of the event fabric and of the fault collector (18, 19). -/

namespace Sys2Proof.Machine

/-- One event channel (18 R417 to R423, Table 18.3). -/
structure EvtChan where
  /-- ENABLED | 1 bit | 18 Table 18.3 | reset 0 -/
  enabled : Bool := false
  /-- SEC | 1 bit | 18 Table 18.3 | reset 0 -/
  sec : Bool := false
  /-- LOOP_ACTIVE | RW1C | 18 Table 18.3 | reset 0 -/
  loopActive : Bool := false
  /-- ON_CYCLE | 1 bit | 18 Table 18.3 | reset 0 -/
  onCycle : Bool := false
  /-- FOREIGN_WRITE | RW1C | 18 Table 18.3 | reset 0 -/
  foreignWrite : Bool := false
  /-- FIRINGS | 32 bits | 18 Table 18.3 | reset 0 -/
  firings : Nat := 0
  /-- HELD | 32 bits | 18 Table 18.3 | reset 0 -/
  held : Nat := 0
  /-- LAST_TS32 | 32 bits | 18 Table 18.3 | reset 0 -/
  lastTs : Ts32 := 0
  /-- sources | up to 8 producer numbers | 18 R421 | reset none -/
  sources : List Nat := []
  /-- consumer mask | 96 bits | 18 R421 | reset 0 -/
  consumers : Nat := 0
  /-- LOCKOUT_NS | 20 bits | 18 R418 | reset 20 (DESIGN CHOICE: the spec gives no reset value) -/
  lockoutNs : Nat := 20
  /-- in lockout | 1 bit | 18 R418 | reset 0 -/
  locked : Bool := false
  /-- model time of the last firing | model's own | 18 R423 | reset none -/
  lastAt : Option Nat := none
  /-- consecutive firings within twice the lockout | 11 bits | 18 R423 | reset 0 -/
  streak : Nat := 0
  deriving DecidableEq, Repr

/-- One consumer input (18 R419, Table 18.4). -/
structure EvtCons where
  /-- PENDING | 1 bit | 18 Table 18.4 | reset 0 -/
  pending : Bool := false
  /-- BUSY | 1 bit | 18 Table 18.4 | reset 0 -/
  busy : Bool := false
  /-- OVR / OVERRUN | RW1C | 18 Table 18.4 | reset 0 -/
  ovr : Bool := false
  /-- COALESCE | 8 bits | 18 Table 18.4 | reset 0 -/
  coalesce : Nat := 0
  /-- model time at which the capture window opened | model's own | 18 R419 | reset none -/
  winStart : Option Nat := none
  /-- TB0 TS32 when the event that filled the slot arrived | 32 bits | 09 Table 9.8 | reset 0 -/
  captureTs : Ts32 := 0
  deriving DecidableEq, Repr

/-- One GPIO pin with its input and output parameter words (18 R425, R426, Table 18.5). -/
structure Gpio where
  /-- EDGE | 2 bits | 18 Table 18.5 | reset RISE -/
  edge : EdgeKind := .rise
  /-- FILTER | 8 bits | 18 Table 18.5 | reset 0 -/
  filter : Nat := 0
  /-- LEVEL, the level of the last sample | 1 bit | 18 Table 18.5, R425 | reset 0 -/
  level : Bool := false
  /-- filtered level | 1 bit | 18 R425, 10 R245 | reset 0 (DESIGN CHOICE) -/
  filtered : Bool := false
  /-- ended samples that saw LEVEL | 8 bits | 18 R425, 10 R245 | reset 0 (DESIGN CHOICE) -/
  heldFor : Nat := 0
  /-- WIDTH_NS | 16 bits | 18 Table 18.5 | reset 100 -/
  width : Nat := 100
  /-- POL active low | 1 bit | 18 Table 18.5 | reset 0 -/
  activeLow : Bool := false
  /-- MODE TOGGLE | 1 bit | 18 Table 18.5 | reset PULSE -/
  toggle : Bool := false
  /-- DRIVE | 1 bit | 18 Table 18.5 | reset 0 -/
  drive : Bool := false
  /-- driven level | 1 bit | 18 R426 | reset 0 (DESIGN CHOICE: idle at the inactive level) -/
  outLevel : Bool := false
  deriving DecidableEq, Repr

/-- The event fabric (18). -/
structure EvtBlock where
  /-- EC0 to EC63 | 64 channels | 18 Table 18.3 | reset per field -/
  chan : Vector EvtChan 64 := Vector.replicate 64 {}
  /-- consumer inputs 0 to 95 | 96 words | 18 Table 18.4 | reset per field -/
  cons : Vector EvtCons 96 := Vector.replicate 96 {}
  /-- GPIO0 to GPIO31 | 32 pins | 18 Table 18.5 | reset per field -/
  gpio : Vector Gpio 32 := Vector.replicate 32 {}
  /-- INHIBIT_NS of STROBE_INH0 to 3 | 4 x 20 bits | 18 Table 18.5 | reset 10,000 -/
  inhibitNs : Vector Nat 4 := Vector.replicate 4 10000
  /-- STROBE_OUT[k] held off | 4 balls | 18 R415 | reset 0 -/
  strobeOff : Vector Bool 4 := Vector.replicate 4 false
  /-- level of OBS[k] | 8 balls | 20 R463 | reset low -/
  obsHigh : Vector Bool 8 := Vector.replicate 8 false
  /-- model time at which a stretched pulse on OBS[k] ends | model's own | 20 R463 | reset 0 -/
  obsUntil : Vector Nat 8 := Vector.replicate 8 0
  deriving DecidableEq, Repr

/-- Fault classes (19 R429). -/
inductive FltClass where
  | none | drizzle | squall | gale
  deriving DecidableEq, Repr

/-- The rank of a class, as FIRST_CLASS codes it (19 Table 19.4). -/
def FltClass.rank : FltClass → Nat
  | .none => 0 | .drizzle => 1 | .squall => 2 | .gale => 3

/-- A report on its way to the collector or held there (19 R428, Table 19.5). -/
structure Report where
  /-- source group, Table 19.1 -/
  group : Nat
  /-- class of Table 19.1 -/
  cls : FltClass
  /-- INSTANCE, 0xFFFF for none -/
  inst : Nat := 0xFFFF
  /-- CAUSE -/
  cause : Nat := 0
  /-- VALUE_A -/
  valueA : Nat := 0
  /-- VALUE_B -/
  valueB : Nat := 0
  /-- VALUE_C -/
  valueC : Nat := 0
  /-- the report is of a level condition (19 R428) -/
  level : Bool := false
  deriving DecidableEq, Repr

/-- Counts of one source group (19 Table 19.4). -/
structure FltGroup where
  /-- DRIZZLE_COUNT | 32 bits | 19 Table 19.4 | reset 0 -/
  drizzle : Nat := 0
  /-- SQUALL_COUNT | 32 bits | 19 Table 19.4 | reset 0 -/
  squall : Nat := 0
  /-- GALE_COUNT | 32 bits | 19 Table 19.4 | reset 0 -/
  gale : Nat := 0
  /-- LAST_TS32 | 32 bits | 19 Table 19.4 | reset 0 -/
  lastTs : Ts32 := 0
  deriving DecidableEq, Repr

/-- The first record (19 R434). -/
structure FirstRecord where
  /-- FIRST_SRC, FIRST_DETAIL -/
  report : Report
  /-- FIRST_CLASS, raised under R435 -/
  cls : FltClass
  /-- FIRST_TIME -/
  time : Stamp
  /-- FIRST_TIME_VALID -/
  timeValid : Bool
  /-- TS32 of the detail -/
  ts : Ts32
  deriving DecidableEq, Repr

/-- The fault collector (19). -/
structure FltBlock where
  /-- FLT_STATUS | 64 bits | 19 Table 19.4 | reset 0 -/
  status : Nat := 0
  /-- first record (FIRST_SRC, FIRST_CLASS, FIRST_TIME, FIRST_TIME_VALID, FIRST_DETAIL, HELD) | 19 Table 19.4 | reset none -/
  first : Option FirstRecord := none
  /-- OVERFLOW | 1 bit | 19 Table 19.4 | reset 0 -/
  overflow : Bool := false
  /-- FAULT_N_ACTIVE, the level of FAULT_N | 1 bit | 19 R432 | reset 0 -/
  faultN : Bool := false
  /-- a Gale not yet acknowledged | 1 bit | 19 R431 | reset 0 -/
  galeHeld : Bool := false
  /-- counts of groups 0 to 32 | 33 x 4 words | 19 Table 19.4 | reset 0 -/
  groups : Vector FltGroup 33 := Vector.replicate 33 {}
  /-- level conditions that persist | 19 R428 | reset none -/
  levels : List Report := []
  /-- reports on their way to the collector | 19 R428 | reset none -/
  inFlight : List Report := []
  /-- snapshot of +0x008 to +0x014 | 4 words | 19 R437 | reset zeros -/
  snap : List Word := []
  deriving DecidableEq, Repr

end Sys2Proof.Machine
end

