-- ==== Sys2Proof/Types/Mgmt.lean ====
section
/-! DEFINITION. The plain data of the management processor, the power controller, resets, fuses and the test
access port (20, 21). -/

namespace Sys2Proof.Machine

/-- Power states (21 Table 21.10). -/
inductive PowerState where
  | active | hold | standby | deepSleep
  deriving DecidableEq, Repr

/-- Device states (20 Table 20.3, 16 Table 16.2). -/
inductive DevState where
  | rom | init | operational | test | pause | halted
  deriving DecidableEq, Repr

/-- Life-cycle states (20 Table 20.8). -/
inductive LifeCycle where
  | blank | manufactured | provisioned | decommissioned
  deriving DecidableEq, Repr

/-- Reset causes of a BOOT entry (20 Table 20.6). -/
inductive ResetCause where
  | cold | warmPin | devReset | perst | watchdog | mgt
  deriving DecidableEq, Repr

/-- One copy of the boot header (20 R443). -/
structure BootHeader where
  gen : Nat := 0
  activeSlot : Nat := 0
  /-- TRIAL_SLOT, none for 0xFF -/
  trialSlot : Option Nat := none
  trialS : Nat := 120
  attempts : Nat := 0
  deriving DecidableEq, Repr

/-- What the header and the checks of an update image yield (20 R453). -/
structure ImageInfo where
  /-- KIND: false FIRMWARE, true LIBRARY -/
  isLibrary : Bool := false
  librarySlot : Nat := 0
  version : Nat := 1
  rollback : Nat := 0
  schema : Nat := 1
  minSchema : Nat := 1
  size : Nat := 0
  /-- SHA-384 of the key in the header -/
  keyHash : Nat := 0
  /-- the signature verifies -/
  signatureOk : Bool := true
  deriving DecidableEq, Repr

/-- An entry of a settings store (20 R450). -/
inductive SettingsRecord where
  /-- COMMAND: opcode and request payload -/
  | command (opcode : Nat) (payload : List Byte)
  /-- DEVICE: HOST_INDEPENDENT, INLINE_ECC, SCRUB_H, IDLE_S_MAX -/
  | device (hostIndependent inlineEcc : Bool) (scrubH idleSMax : Nat)
  /-- ALLOW: IPv4 addresses and prefix lengths -/
  | allow (entries : List (Nat × Nat))
  /-- RESERVE: the sequence reserve -/
  | reserve (value : Nat)
  /-- ARM: link mask, MODE (true TEST), REQUIRE_LOCK, ARM_WAIT_S -/
  | arm (mask : Nat) (testMode requireLock : Bool) (waitS : Nat)
  deriving DecidableEq, Repr

/-- A settings store that is complete in flash (20 R449). -/
structure SettingsStore where
  generation : Nat
  schema : Nat
  /-- STATE: TRIAL (true) or COMMITTED -/
  trial : Bool
  imageVersion : Nat
  records : List SettingsRecord
  deriving DecidableEq, Repr

/-- The DARK and FLAT tables of one bank of a pipe in a table store (20 R450). -/
structure TableImage where
  pipe : Nat
  bank : Nat
  cells : List (Nat × Byte)
  deriving DecidableEq, Repr

/-- Results of a settings read (20 R452, Table 20.6). -/
inductive SettingsResult where
  | loaded | migrated | empty | unreadable
  deriving DecidableEq, Repr

/-- What a SETTINGS_SAVE captured when it was taken, or the store that a SETTINGS_LOAD applies (20 R451). -/
structure SettingsWork where
  session : Nat
  /-- GENERATION of the store that is loaded -/
  generation : Nat := 0
  records : List SettingsRecord := []
  tables : List TableImage := []
  deriving DecidableEq, Repr

/-- A log entry (20 Table 20.5). -/
structure LogEntry where
  index : Nat
  time : Stamp
  timeValid : Bool
  cont : Bool := false
  session : Nat := 0xFF
  typ : Nat
  data : List Nat
  deriving DecidableEq, Repr

/-- State of an update (17 UPDATE_STATUS; 20 R454 to R456). -/
inductive UpdateState where
  | idle | receiving | verifying | verified
  deriving DecidableEq, Repr

/-- Why the management core restarts (19 R433; 20 R448, R456, R458). -/
inductive PauseKind where
  /-- an MGT report or the watchdog: into the running image -/
  | restart
  /-- UPDATE_ACTIVATE: into the target slot -/
  | activation
  /-- the end of a trial: into the previous image -/
  | fallback
  deriving DecidableEq, Repr

/-- An update in progress (20 R454). -/
structure Update where
  /-- STATE | 2 bits | 20 R454 | reset IDLE -/
  state : UpdateState := .idle
  /-- holder of the lock | session | 20 R454 | reset none -/
  holder : Option Nat := none
  /-- target slot | 1 bit | 20 R454 | reset 0 -/
  target : Nat := 0
  /-- KIND LIBRARY and slot | 20 R453 | reset FIRMWARE -/
  isLibrary : Bool := false
  librarySlot : Nat := 0
  /-- image size | 32 bits | 20 R454 | reset 0 -/
  size : Nat := 0
  /-- IMAGE_VERSION declared | 32 bits | 20 R453 | reset 0 -/
  version : Nat := 0
  /-- bytes received so far | cells by image offset | 20 R454 | reset none -/
  data : List (Nat × Byte) := []
  /-- blocks complete | block numbers | 20 R454 | reset none -/
  blocksDone : List Nat := []
  /-- parts received of blocks that are not complete: (block, offset, length) | 17 R413 | reset none -/
  parts : List (Nat × Nat × Nat) := []
  /-- what the verified image declares | 20 R453, R455 | reset none -/
  image : Option ImageInfo := none
  /-- a verified LIBRARY image is on its way into its slot | 1 bit | 20 R456 | reset 0 -/
  activating : Bool := false
  /-- trial window asked for | 16 bits | 17 Table 17.14 | reset 120 -/
  trialS : Nat := 120
  /-- status of the last update command | 16 bits | 17 Table 17.14 | reset OK -/
  lastStatus : Nat := 0
  /-- model time of the holder's last update command | model's own | 20 R454 | reset 0 -/
  lastAt : Nat := 0
  /-- sectors erased | sector numbers | 20 R454 | reset none -/
  erased : List Nat := []
  deriving DecidableEq, Repr

/-- An entry or exit of a power state on its way (21 R483, R484). -/
structure Transition where
  /-- state aimed at -/
  target : PowerState
  deriving DecidableEq, Repr

/-- Sensor samples (20 Table 20.4). -/
structure Sensors where
  /-- thermal sites 0 to 15, in 1/8 degrees C | 16 x signed 16 bits | 20 Table 20.4 | reset 0 (DESIGN CHOICE) -/
  thermal : Vector Int 16 := Vector.replicate 16 0
  /-- voltage monitors 0 to 11, in mV | 12 x 16 bits | 20 Table 20.4 | reset 0 (DESIGN CHOICE) -/
  voltage : Vector Nat 12 := Vector.replicate 12 0
  deriving DecidableEq, Repr

/-- The management processor (20). -/
structure MgmtBlock where
  /-- DEV_STATE | 4 bits | 16 Table 16.2, 20 R444 | reset ROM -/
  dev : DevState := .rom
  /-- start-up step of Table 20.1, 0 before step 1 | model's own | 20 R438 | reset 0 -/
  step : Nat := 0
  /-- a cold start-up (true) or a warm one runs | 1 bit | 20 R438 | reset 1 -/
  coldStart : Bool := true
  /-- cause of the last reset | 20 Table 20.6 | reset cold -/
  cause : ResetCause := .cold
  /-- FW_VERSION | 32 bits | 16 Table 16.2 | reset 0 -/
  fwVersion : Nat := 0
  /-- IMAGE_SLOT | 1 bit | 16 Table 16.2 | reset 0 -/
  imageSlot : Nat := 0
  /-- TRIAL | 1 bit | 16 Table 16.2 | reset 0 -/
  trial : Bool := false
  /-- HOST_INDEPENDENT | 1 bit | 16 R388 | reset 0 -/
  hostIndependent : Bool := false
  /-- HOST_INDEPENDENT as it stood at the end of the last tick | 1 bit | 16 R388 | reset 0 -/
  hostIndependentWas : Bool := false
  /-- boot header copies in flash | 2 x 64 bytes | 20 R443 | reset slot A active (DESIGN CHOICE: flash content) -/
  bootHdr : Vector (Option BootHeader) 2 := (Vector.replicate 2 none).set 0 (some {})
  /-- images in slots A and B | 2 x 8 MiB | 20 Table 20.2 | reset a valid image in A (DESIGN CHOICE: flash content) -/
  slots : Vector (Option ImageInfo) 2 := (Vector.replicate 2 none).set 0 (some {})
  /-- settings stores A and B | 2 x 1 MiB | 20 R449 | reset empty (DESIGN CHOICE: flash content) -/
  stores : Vector (Option SettingsStore) 2 := Vector.replicate 2 none
  /-- table stores A and B: tables of the active banks | 2 x 4 MiB | 20 R450 | reset empty (DESIGN CHOICE: flash content) -/
  tableStores : Vector (List TableImage) 2 := Vector.replicate 2 []
  /-- the flash is of 64 MiB or more | 1 bit | 20 R442 | reset 1 (DESIGN CHOICE: board) -/
  bigFlash : Bool := true
  /-- result of the last settings read | 20 R452 | reset EMPTY -/
  settingsResult : SettingsResult := .empty
  /-- schema of the committed store last read | 20 R452 | reset 0 -/
  storeSchema : Nat := 0
  /-- IDLE_S_MAX | 16 bits | 20 R450 | reset 3,600 -/
  idleSMax : Nat := 3600
  /-- SCRUB_H of the DEVICE record; it applies at the next reset | 8 bits | 20 R450, 15 R365 | reset 24 -/
  scrubH : Nat := 24
  /-- INLINE_ECC of the DEVICE record; it applies at the next reset | 1 bit | 20 R450, 15 R362 | reset 0 (DESIGN CHOICE) -/
  inlineEcc : Bool := false
  /-- the management core restarts: no firmware acts (20 R457, 19 R433) | 1 bit | reset 0 -/
  mgtDown : Bool := false
  /-- DEV_STATE was TEST when the pause began | 1 bit | 20 R456 | reset 0 -/
  testBefore : Bool := false
  /-- why it restarts | 20 R456, R458 | reset none -/
  pause : Option PauseKind := none
  /-- ALLOW list | up to 16 entries | 20 R450 | reset empty -/
  allow : List (Nat × Nat) := []
  /-- sequence reserve in the settings store | 64 bits | 13 R310, 20 R450 | reset 0 -/
  reserveValue : Nat := 0
  /-- ARM record waiting for its conditions | 20 R441 | reset none -/
  armRecord : Option (Nat × Bool × Bool × Nat) := none
  /-- log entries staged in management memory | 64 KiB | 20 R446 | reset empty -/
  logStaged : List LogEntry := []
  /-- log ring in flash | 65,536 x 32 bytes | 20 R446 | reset empty (DESIGN CHOICE: flash content) -/
  logRing : List LogEntry := []
  /-- INDEX of the next log entry | 32 bits | 20 R446 | reset 0 (DESIGN CHOICE) -/
  logNext : Nat := 0
  /-- sensor samples | 20 R445 -/
  sensors : Sensors := {}
  /-- update in progress | 20 R454 -/
  update : Update := {}
  /-- settings that a SETTINGS_SAVE or SETTINGS_LOAD in the background works on | 20 R451 | reset none -/
  settingsWork : List SettingsWork := []
  /-- a pause that follows the response of the present command | 20 R456, R458 | reset none -/
  pauseAsked : Option PauseKind := none
  /-- model time at which the trial window opened | model's own | 20 R457 | reset 0 -/
  trialAt : Nat := 0
  /-- TRIAL_S of the window | 16 bits | 20 R457 | reset 120 -/
  trialS : Nat := 120
  /-- SETTINGS_ACCEPT_DEFAULTS taken in this window | 1 bit | 20 R457 | reset 0 -/
  acceptDefaults : Bool := false
  /-- a TRIAL store was written in this window | 1 bit | 20 R457 | reset 0 -/
  trialStore : Bool := false
  /-- OBS_SEL_k | 8 x 10 bits | 20 Table 20.12 | reset 0 -/
  obsSel : Vector Nat 8 := Vector.replicate 8 0
  /-- model time of start-up step 9, from which ARM_WAIT_S counts | model's own | 20 R441 | reset 0 -/
  openedAt : Nat := 0
  /-- warm-reset region list (base, size) | always-on registers | 20 R462 | reset empty -/
  wipeRegions : List (Nat × Nat) := []
  /-- life cycle from fuses | 2 bits | 20 R459 | reset MANUFACTURED (DESIGN CHOICE: fuses) -/
  lifeCycle : LifeCycle := .manufactured
  /-- life-cycle transition programmed for the next cold reset | 20 R460 | reset none -/
  lifeCycleNext : Option LifeCycle := none
  /-- fuse policy word, as programmed | 6 bits | 20 Table 20.9 | reset 0x3F (DESIGN CHOICE: fuses) -/
  policyFuse : Nat := 0x3F
  /-- the first boot in DECOMMISSIONED is due | 1 bit | 20 R460 | reset 0 -/
  eraseDue : Bool := false
  /-- root key hash to be programmed with PROVISIONED | 20 R460 | reset none -/
  rootKeyNext : Option Nat := none
  /-- policy word to be programmed with PROVISIONED | 20 R460 | reset none -/
  policyNext : Option Nat := none
  /-- root key hash | 384 bits | 20 R453 | reset 0 (DESIGN CHOICE: fuses) -/
  rootKeyHash : Nat := 0
  /-- factory key hash | 384 bits | 20 R453 | reset 0 (DESIGN CHOICE: mask ROM) -/
  factoryKeyHash : Nat := 0
  /-- anti-rollback fuse counter | 6 bits | 20 R453 | reset 0 (DESIGN CHOICE: fuses) -/
  rollbackFuse : Nat := 0
  /-- VDD_FUSE at 1.8 V | 1 bit | 21 R475 | reset 0 (DESIGN CHOICE: board) -/
  fuseSupply : Bool := false
  /-- STEPPING | 8 bits | 16 Table 16.2 | reset 0 (DESIGN CHOICE: fuses) -/
  stepping : Nat := 0
  /-- SERIAL | 64 bits | 16 Table 16.2 | reset 0 (DESIGN CHOICE: fuses) -/
  serial : Nat := 0
  deriving DecidableEq, Repr

/-- JTAG instructions (21 R488). -/
inductive JtagIr where
  | bypass | idcode | samplePreload | extest | extestPulse | extestTrain | clamp | highz | lifecycle
  deriving DecidableEq, Repr

/-- The power controller, the clocks, the reset pins and the test access port (21). -/
structure PowerBlock where
  /-- POWER_STATE | 3 bits | 16 Table 16.2, 21 R483 | reset ACTIVE -/
  state : PowerState := .active
  /-- RETURN_STATE is HOLD | 1 bit | 21 R484 | reset ACTIVE (DESIGN CHOICE) -/
  returnHold : Bool := false
  /-- transition on its way | 21 R483 | reset none -/
  transit : Option Transition := none
  /-- POR_N high | 1 bit | 21 R477 | reset 1 (DESIGN CHOICE: POR_N rises) -/
  porHigh : Bool := true
  /-- WRST_N high | 1 bit | 21 R481 | reset 1 (DESIGN CHOICE) -/
  wrstHigh : Bool := true
  /-- clock-presence bits 0 to 25 of Table 20.4 | 26 bits | 20 Table 20.4 | reset all present (DESIGN CHOICE) -/
  clockOk : Vector Bool 26 := Vector.replicate 26 true
  /-- current JTAG instruction | 21 R488 | reset IDCODE (PRESUMED: IEEE 1149.1) -/
  jtagIr : JtagIr := .idcode
  /-- JTAG data shifted out last | 32 bits | 21 R488 | reset 0 -/
  jtagOut : Nat := 0
  /-- balls held by EXTEST or CLAMP | 21 R488 | reset none -/
  jtagHolds : Bool := false
  /-- balls floated by HIGHZ | 21 R488 | reset none -/
  jtagFloats : Bool := false
  deriving DecidableEq, Repr

end Sys2Proof.Machine
end

