-- ==== Sys2Proof/Types/Host.lean ====
section
/-! DEFINITION. The plain data of the host interface and the DMA engines (16). -/

namespace Sys2Proof.Machine

/-- One MSI-X vector (16 R373). -/
structure MsixVector where
  /-- Message Address and Message Upper Address | 64 bits | 16 Table 16.2 | reset 0 (PCIe default) -/
  addr : Nat := 0
  /-- Message Data | 32 bits | 16 Table 16.2 | reset 0 (PCIe default) -/
  data : Nat := 0
  /-- Vector Control mask bit | 1 bit | 16 Table 16.2 | reset 1 (PCIe default) -/
  masked : Bool := true
  /-- PBA bit | 1 bit | 16 Table 16.2 | reset 0 -/
  pba : Bool := false
  deriving DecidableEq, Repr

/-- One PCIe mailbox (16 R371). -/
structure Mailbox where
  /-- MBX_READY bit | 1 bit | 16 Table 16.2 | reset 0 -/
  ready : Bool := false
  /-- MBX_RESP bit | RW1C | 16 Table 16.2 | reset 0 -/
  resp : Bool := false
  /-- MBX_LOST bit | RW1C | 16 Table 16.2 | reset 0 -/
  lost : Bool := false
  /-- request window | 4 KiB | 16 Table 16.2 | reset 0 (cells; unlisted offsets read 0) -/
  request : List (Nat × Byte) := []
  /-- response window | 4 KiB | 16 Table 16.2 | reset 0 -/
  response : List Byte := []
  deriving DecidableEq, Repr

/-- STATE of a unit that is enabled and drained (16 R378, 17 R405). -/
inductive UnitState where
  | disabled | enabling | enabled | draining
  deriving DecidableEq, Repr

/-- RUN of a DMA channel (16 R378). -/
inductive DmaRun where
  | idle | running | stopped
  deriving DecidableEq, Repr

/-- Stop causes (16 Table 16.9). -/
inductive StopCause where
  | none | loop | loopSuspect | timeout | urCa | poison | ecc | badDesc | address | aborted
  deriving DecidableEq, Repr

/-- A DMA descriptor (16 Table 16.7). -/
structure Descriptor where
  src : Nat := 0
  dst : Nat := 0
  /-- bytes 16 to 19, whole -/
  lengthWord : Nat := 0
  /-- bytes 20 to 23, whole -/
  control : Nat := 0
  next : Nat := 0
  deriving DecidableEq, Repr

/-- The descriptor in progress on an engine (16 R382). -/
structure Transfer where
  desc : Descriptor
  /-- source accesses completed -/
  accesses : Nat := 0
  /-- used bytes read so far -/
  taken : Nat := 0
  /-- bytes written so far -/
  written : Nat := 0
  /-- bytes in the holding register -/
  hold : List Byte := []
  /-- all writes issued; the read-back is awaited (R384) -/
  awaitReadback : Bool := false
  deriving DecidableEq, Repr

/-- One DMA channel (16 Table 16.10). -/
structure DmaChan where
  /-- STATE | 2 bits | 16 Table 16.10 | reset DISABLED -/
  state : UnitState := .disabled
  /-- ENABLE_PENDING | 1 bit | 16 Table 16.10 | reset 0 -/
  enablePending : Bool := false
  /-- ENABLE reads | 1 bit | 16 Table 16.10 | reset 0 -/
  enable : Bool := false
  /-- RUN | 2 bits | 16 Table 16.10 | reset IDLE -/
  run : DmaRun := .idle
  /-- STOP_CAUSE | 4 bits | 16 Table 16.10 | reset NONE -/
  stop : StopCause := .none
  /-- LAST_TAG | 16 bits | 16 Table 16.10 | reset 0 -/
  lastTag : Nat := 0
  /-- PRIO | 3 bits | 16 Table 16.10 | reset 2 (host channels) -/
  prio : Nat := 2
  /-- FOREIGN_WRITE | RW1C | 16 Table 16.10 | reset 0 -/
  foreignWrite : Bool := false
  /-- DB_DROPPED | RW1C | 16 Table 16.10 | reset 0 -/
  dbDropped : Bool := false
  /-- HEAD | 64 bits | 16 Table 16.10 | reset 0 -/
  head : Nat := 0
  /-- CHAIN_LIMIT | 17 bits | 16 Table 16.10 | reset 4,096 -/
  chainLimit : Nat := 4096
  /-- CUR_DESC | 64 bits | 16 Table 16.10 | reset 0 -/
  curDesc : Nat := 0
  /-- BYTES_DONE | 32 bits | 16 Table 16.10 | reset 0 -/
  bytesDone : Nat := 0
  /-- DESC_COUNT | 32 bits | 16 Table 16.10 | reset 0 -/
  descCount : Nat := 0
  /-- CPL_ADDR | 64 bits | 16 Table 16.10 | reset 0 -/
  cplAddr : Nat := 0
  /-- COMPLETED | 32 bits | 16 Table 16.10 | reset 0 -/
  completed : Nat := 0
  /-- ERRORS | 32 bits | 16 Table 16.10 | reset 0 -/
  errors : Nat := 0
  /-- address of the descriptor to fetch next | 64 bits | 16 R380 | reset none -/
  fetchAt : Option Nat := none
  /-- fetched descriptor that waits for the engine | 16 R376 | reset none -/
  ready : Option Descriptor := none
  /-- the last doorbell: model time, and DB_DROPPED before it | 16 R379 | reset none -/
  doorbellAt : Option (Nat × Bool) := none
  /-- read-back until the first completion after CLEAR | 1 bit | 16 R384 | reset 0 -/
  stopReadback : Bool := false
  deriving DecidableEq, Repr

/-- A DMA channel: D2H0 to D2H15 or H2D0 to H2D7 (16 R375). -/
inductive DmaSel where
  | d2h (c : Fin 16) | h2d (c : Fin 8)
  deriving DecidableEq, Repr

/-- How a read request ends (16 R368, Table 16.9). -/
inductive ReadEnd where
  /-- data, whole -/
  | data (bytes : List Byte)
  /-- Unsupported Request or Completer Abort -/
  | urCa
  /-- poisoned -/
  | poison
  deriving DecidableEq, Repr

/-- Where a register lies that host software reads or writes: BAR0, BAR2, or of configuration space the MSI-X control word and
Device Control 2 (16 R368, R369, R373). -/
inductive RegPlace where
  | bar0 (off : Fin 0x10000) | bar2 (off : Fin 0x2000000) | msixControl | deviceControl2
  deriving DecidableEq, Repr

/-- A host read of a register: where, and its length in bytes (16 R369). -/
structure RegRead where
  place : RegPlace
  len : Fin 513
  deriving DecidableEq, Repr

/-- What a register write carries: 4 bytes, 8 bytes as low and high word, or an access of another size (16 R369). -/
inductive RegData where
  | word (v : Word) | pair (lo hi : Word) | other (bytes : List Byte)
  deriving DecidableEq, Repr

/-- One DMA engine: the channel that holds it and its transfer (16 R376). -/
structure DmaEngine where
  /-- D2H_ACT / H2D_ACT | 16 Table 16.10 | reset 0 -/
  act : Nat := 0
  /-- descriptor in progress; D2H_BUSY / H2D_BUSY | 16 Table 16.10 | reset none -/
  xfer : Option Transfer := none
  deriving DecidableEq, Repr

/-- PRIO of the firmware channels (16 Table 16.6). -/
def d2hPrio (c : Nat) : Nat :=
  if c = 0 then 6 else if c = 1 then 7 else if c ≤ 5 then 5 else if c ≤ 7 then 6 else 2

/-- PRIO of the H2D channels (16 Table 16.6). -/
def h2dPrio (c : Nat) : Nat :=
  if c = 0 then 7 else if c ≤ 3 then 6 else 2

/-- The host interface (16). -/
structure HostBlock where
  /-- SCRATCH | 32 bits | 16 Table 16.2 | reset 0 -/
  scratch : Word := 0
  /-- WIN_BASE | 16 bits | 16 Table 16.2 | reset 0 -/
  winBase : Nat := 0
  /-- LINK_GEN | 3 bits | 16 Table 16.2 | reset 0 -/
  linkGen : Nat := 0
  /-- LINK_WIDTH | 4 bits | 16 Table 16.2 | reset 0 -/
  linkWidth : Nat := 0
  /-- mailboxes 1 to 4 | 16 R371 | reset per field -/
  mbx : Vector Mailbox 4 := Vector.replicate 4 {}
  /-- MSI-X enabled in configuration space | 1 bit | 16 R373 | reset 0 (PCIe default) -/
  msixEnable : Bool := false
  /-- function mask | 1 bit | 16 R373 | reset 0 (PCIe default) -/
  functionMask : Bool := false
  /-- Completion Timeout Value of Device Control 2 | 4 bits | 16 R368 | reset 5, 16 ms to 55 ms (PRESUMED code) -/
  timeoutValue : Nat := 5
  /-- Completion Timeout Disable of Device Control 2 | 1 bit | 16 R368 | reset 0 -/
  timeoutDisable : Bool := false
  /-- vector 4 waits for MSI-X to be enabled | 1 bit | 16 R389 | reset 0 -/
  vector4Due : Bool := false
  /-- MSI-X table and PBA | 64 vectors | 16 Table 16.2 | reset per field -/
  msix : Vector MsixVector 64 := Vector.replicate 64 {}
  /-- PERST_N asserted | 1 bit | 16 R388 | reset 0 (DESIGN CHOICE) -/
  perst : Bool := false
  /-- the assertion in force was handled with HOST_INDEPENDENT = 1 | 1 bit | 16 R390 | reset 0 -/
  perstIndependent : Bool := false
  /-- a PERST_N assertion in DEEP SLEEP waits for the wake | 1 bit | 20 R465 | reset 0 -/
  perstPending : Bool := false
  /-- WAKE_N driven low | 1 bit | 16 R390 | reset 0 -/
  wakeN : Bool := false
  /-- RDYBSY pin | 1 bit | 16 R374 | reset 0 -/
  rdybsy : Bool := false
  /-- D2H channels 0 to 15 | 16 Table 16.10 | reset per field, PRIO of Table 16.6 -/
  d2h : Vector DmaChan 16 := Vector.ofFn fun (c : Fin 16) => { prio := d2hPrio c.val }
  /-- H2D channels 0 to 7 | 16 Table 16.10 | reset per field, PRIO of Table 16.6 -/
  h2d : Vector DmaChan 8 := Vector.ofFn fun (c : Fin 8) => { prio := h2dPrio c.val }
  /-- D2H engine | 16 R376 | reset idle -/
  d2hEngine : DmaEngine := {}
  /-- H2D engine | 16 R376 | reset idle -/
  h2dEngine : DmaEngine := {}
  /-- OUT_CONS_r | 16 x 32 bits | 16 Table 16.10 | reset 0 -/
  outCons : Vector Nat 16 := Vector.replicate 16 0
  /-- CONS_REJECT | 32 bits | 16 Table 16.10 | reset 0 -/
  consReject : Nat := 0
  /-- snapshot high words taken by low-word reads: (low-word address, high word) | 01 R18 | reset none -/
  snaps : List (Nat × Word) := []
  deriving DecidableEq, Repr

end Sys2Proof.Machine
end

