-- ==== Sys2Proof/Types/Mbx.lean ====
section
/-! DEFINITION. The plain data of Mboxis: requests, responses, sessions and claims (17). -/

namespace Sys2Proof.Machine

/-- A request as firmware receives it (17 Table 17.1): header fields and payload. -/
structure Req where
  opcode : Nat := 0
  session : Nat := 1
  /-- FLAGS: [0] RESPONSE, [1] QUERY, [2] BULK, [3] CLEAR -/
  flags : Nat := 0
  sequence : Nat := 0
  payload : List Byte := []
  /-- the data that firmware's BULK fetch from host memory returns (R392) -/
  bulk : List Byte := []
  /-- a reserved header field is not zero, or LENGTH is beyond the port's limit (R391, R393, R396) -/
  bad : Bool := false
  /-- it names session 14 or 15, which are never open (R398) -/
  noSession : Bool := false
  /-- it came by Ethernet, from this IPv4 address and UDP port (R396, R399) -/
  net : Bool := false
  srcIp : Nat := 0
  srcPort : Nat := 0
  deriving DecidableEq, Repr

/-- Status codes (17 Table 17.5). -/
inductive Status where
  | ok | busy | notOwner | badParam | noResource | superseded | denied | wrongState | checkFail | timeout
  | unsupported | budgetExceeded | loop | pending
  deriving DecidableEq, Repr

/-- The code of a status (17 Table 17.5). -/
def Status.code : Status → Nat
  | .ok => 0 | .busy => 1 | .notOwner => 2 | .badParam => 3 | .noResource => 4 | .superseded => 5
  | .denied => 6 | .wrongState => 7 | .checkFail => 8 | .timeout => 9 | .unsupported => 10
  | .budgetExceeded => 11 | .loop => 12 | .pending => 13

/-- A response (17 Table 17.1). -/
structure Resp where
  opcode : Nat
  session : Nat
  sequence : Nat
  status : Status
  payload : List Byte := []
  deriving DecidableEq, Repr

/-- A notice of a superseded setting (17 R403). -/
structure Notice where
  opcode : Nat
  resource : Nat
  reported : Bool := false
  deriving DecidableEq, Repr

/-- One session (17 R398, R399). -/
structure Session where
  /-- open | 1 bit | 17 Table 17.2 | reset 0 (session 0 always open) -/
  isOpen : Bool := false
  /-- bound source address of a network session | 32 bits | 17 R399 | reset 0 -/
  addr : Nat := 0
  /-- bound source port of a network session | 16 bits | 17 R399 | reset 0 -/
  port : Nat := 0
  /-- granted IDLE_S | 16 bits | 17 R399 | reset 0 -/
  idleS : Nat := 0
  /-- the last request and its response | 17 R394 | reset none -/
  last : Option (Req × Resp) := none
  /-- the outstanding request | 17 R395 | reset none -/
  outstanding : Option Req := none
  /-- model time of the last request | model's own | 17 R399 | reset 0 -/
  lastAt : Nat := 0
  /-- notices, oldest first | at most 16 | 17 R403 | reset none -/
  notices : List Notice := []
  /-- background command running: opcode | 17 R404 | reset none -/
  background : Option Req := none
  deriving DecidableEq, Repr

/-- Who last wrote a setting that no session holds (17 R403). -/
structure Writer where
  opcode : Nat
  resource : Nat
  /-- selector bytes of a device-wide setting that has several -/
  selector : List Byte
  session : Nat
  /-- bytes written; none where the command left the field as it was -/
  payload : List (Option Byte)
  deriving DecidableEq, Repr

/-- The Mboxis front end (17). -/
structure MbxBlock where
  /-- sessions 0 to 13 | 17 Table 17.2 | reset only session 0 open -/
  sess : Vector Session 14 := (Vector.replicate 14 {}).set 0 { isOpen := true }
  /-- claims: (resource identifier, session) | 17 R400 | reset none -/
  claims : List (Nat × Nat) := []
  /-- requests waiting for firmware with the model time of their arrival, in the order of R402 | 17 R402 | reset empty -/
  queue : List (Nat × Req) := []
  /-- the mailboxes are open | 1 bit | 17 Table 17.2, 20 R438 | reset 0 -/
  isOpen : Bool := false
  /-- last writers of unowned settings | 17 R403 | reset none -/
  writers : List Writer := []
  /-- last sideband response | 17 R397 | reset none -/
  sbResponse : List Byte := []
  /-- a sideband response is complete and unread | 1 bit | 17 R397 | reset 0 -/
  sbUnread : Bool := false
  /-- LOST of the sideband | 1 bit | 17 R397 | reset 0 -/
  sbLost : Bool := false
  /-- a PERST_N of a pause closes sessions 1 to 4 at reopening | 1 bit | 20 R456 | reset 0 -/
  perstClose : Bool := false
  /-- DEV_RESET accepted; the warm reset follows | 1 bit | 17 Table 17.6 | reset 0 -/
  resetAsked : Bool := false
  deriving DecidableEq, Repr

end Sys2Proof.Machine
end

