-- ==== Sys2Proof/Types/Out.lean ====
section
/-! DEFINITION. What leaves the device: the model's own record of messages, frames and ball levels. -/

namespace Sys2Proof.Machine

/-- Output balls whose level the model follows (21 Table 21.1). -/
inductive Ball where
  | trigOut (p : Nat) | ppsOut (k : Nat) | gpio (k : Nat) | strobeOut (k : Nat) | faultN | wakeN | rdybsy
  | obs (k : Nat) | tdo
  deriving DecidableEq, Repr

/-- A PTP message with the fields the device handles (12 Table 12.6; messageType codes of IEEE 1588-2019: 0 Sync,
1 Delay_Req, 2 Pdelay_Req, 3 Pdelay_Resp, 8 Follow_Up, 9 Delay_Resp, 10 Pdelay_Resp_Follow_Up, 11 Announce). -/
structure PtpMsg where
  typ : Nat
  domain : Nat := 0
  /-- it carries a feature that Table 12.6 does not list (12 R298) -/
  unsupported : Bool := false
  /-- transport UDP/IPv4 -/
  udp : Bool := false
  twoStep : Bool := false
  srcIdentity : Nat := 0
  srcPort : Nat := 0
  seq : Nat := 0
  /-- correctionField, units of 2^-16 ns -/
  correction : Int := 0
  /-- originTimestamp, receiveTimestamp or requestReceiptTimestamp, in whole ns -/
  stamp : Nat := 0
  /-- requestingPortIdentity of a response -/
  reqIdentity : Nat := 0
  reqPort : Nat := 0
  /-- Announce: grandmaster data, stepsRemoved, currentUtcOffset and its valid flag -/
  gmIdentity : Nat := 0
  gmPriority1 : Nat := 0
  gmClass : Nat := 0
  gmAccuracy : Nat := 0
  gmVariance : Nat := 0
  gmPriority2 : Nat := 0
  stepsRemoved : Nat := 0
  utcOffset : Int := 0
  utcValid : Bool := false
  /-- logMessageInterval -/
  logInterval : Int := 0x7F
  /-- bytes that follow the fields above -/
  tail : List Byte := []
  /-- source MAC and IPv4 address of a received message; none for one that the device originates -/
  fromMac : Option Nat := none
  fromIp : Option Nat := none
  deriving DecidableEq, Repr

/-- A character of a valve link (11 Tables 11.3, R272): K28.5, K27.7, K29.7, K30.7 or a data byte. -/
inductive VChar where
  | idle | sof | eof | abort
  | data (b : Byte)
  deriving DecidableEq, Repr

/-- One item that leaves the device. -/
inductive Out where
  /-- MSI-X message of a vector (16 R373): vector, Message Address, Message Data -/
  | msix (vector addr data : Nat)
  /-- a 66-bit block on the downlink of a lane, as transmitted (02 R35, R42) -/
  | block (lane : Nat) (blk : BitVec 66)
  /-- a trigger packet towards a CoaXPress camera (02 Table 2.6): port, edge, sequence, delay field -/
  | cxpTrigger (port : Nat) (edge : TrigEdge) (seq delay : Nat)
  /-- a CoaXPress control command (02 Table 2.6): port, tag if any, address, value -/
  | cxpWrite (port : Nat) (tag : Option Nat) (addr value : Nat)
  /-- a CoaXPress control command that reads (02 Table 2.6): port, tag if any, address, words -/
  | cxpRead (port : Nat) (tag : Option Nat) (addr count : Nat)
  /-- a CoaXPress discovery attempt (02 R54) -/
  | cxpDiscovery (port : Nat)
  /-- a level change at a ball -/
  | ball (b : Ball) (level : Bool)
  /-- a ball that the device no longer drives (18 R426) -/
  | released (b : Ball)
  /-- bytes written to host memory by a channel of the D2H engine, or by none (16 R375, R384): channel, address, bytes, Relaxed
  Ordering attribute -/
  | hostWrite (chan : Option Nat) (addr : Nat) (bytes : List Byte) (relaxed : Bool)
  /-- a read request to host memory: address, length -/
  | hostRead (addr len : Nat)
  /-- an Ethernet frame: port, kind of 12 R286, bytes -/
  | eth (port kind : Nat) (bytes : List Byte)
  /-- a UDP/IPv4 datagram from the address of an Ethernet port (14 R345, 13 R311, 17 R396): port, source UDP port,
  destination address and UDP port, DSCP, payload; sent with the port's VLAN and with the UDP checksum -/
  | udp (port src destIp dest dscp : Nat) (payload : List Byte)
  /-- a PTP message sent or forwarded on an Ethernet port, with the bytes of its frame from the destination address to the FCS
  (12 R299, R300) -/
  | ptp (port : Nat) (m : PtpMsg) (frame : List Byte)
  /-- the characters of a valve frame, whole or cut short, on a link; between frames the link sends K28.5 (11 Table 11.3) -/
  | valve (link : Nat) (chars : List VChar)
  /-- a response of a mailbox, a network session or the sideband (17) -/
  | response (r : Resp)
  /-- bytes shifted out of the sideband (17 R397) -/
  | sideband (bytes : List Byte)
  deriving DecidableEq, Repr

end Sys2Proof.Machine
end

