-- ==== Sys2Proof/Types/Camera.lean ====
section
/-! DEFINITION. The plain data of the camera ports and lanes (02). -/

namespace Sys2Proof.Machine

/-- LINK_STATE (02 Table 2.9). -/
inductive LinkState where
  | down | search | hello | negotiate | step10g | stepPam4 | cxpDiscovery | cxpConfig | run | runDegraded
  deriving DecidableEq, Repr

/-- A complete control-channel message (02 R43). -/
structure CtrlMsg where
  typ : Nat
  seq : Nat
  body : List Nat
  deriving DecidableEq, Repr

/-- The stamp of a line part on arrival (03 R66). -/
structure LineStamp where
  pos : Pos64 := 0
  time : Stamp := {}
  ts : Ts32 := 0
  deriving DecidableEq, Repr

/-- A line part being received on a lane (02 R37, R39). -/
structure LaneLine where
  stream : Fin 4
  /-- line number [31:0] of the LINE_START -/
  number : Nat
  /-- data blocks announced by the LINE_START -/
  announced : Nat
  /-- stamp of the line's first block, taken on the lane where it came earlier (03 R66) -/
  stamp : LineStamp := {}
  /-- payloads of the data blocks, in order -/
  blocks : List (BitVec 64) := []
  /-- its CRC-32 does not match -/
  crcBad : Bool := false
  /-- it ended early: elastic error, skew, loss of a lane, or no LINE_END -/
  cut : Bool := false
  deriving DecidableEq, Repr

/-- One lane (02 R35 to R51, Tables 2.8, 2.10). -/
structure Lane where
  /-- STATE | 4 bits | 02 Table 2.10 | reset 0 -/
  state : LinkState := .down
  /-- BLOCK_LOCK | 1 bit | 02 Table 2.10 | reset 0 -/
  lock : Bool := false
  /-- SIGNAL | 1 bit | 02 Table 2.10 | reset 0 -/
  signal : Bool := false
  /-- EQ_FOM | 8 bits | 02 Table 2.10 | reset 0 -/
  eqFom : Nat := 0
  /-- FILL | 6 bits | 02 Table 2.10, R50 | reset 0 -/
  fill : Nat := 0
  /-- CRC_ERR | 32 bits | 02 Table 2.8 | reset 0 -/
  crcErr : Nat := 0
  /-- BAD_HEADER | 32 bits | 02 Table 2.8 | reset 0 -/
  badHeader : Nat := 0
  /-- IDLE deletions | 16 bits | 02 Table 2.8 | reset 0 -/
  idleDel : Nat := 0
  /-- IDLE insertions | 16 bits | 02 Table 2.8 | reset 0 -/
  idleIns : Nat := 0
  /-- ELASTIC_ERR | 16 bits | 02 Table 2.8 | reset 0 -/
  elasticErr : Nat := 0
  /-- descrambler register | 58 bits | 02 R35 | reset 0 (DESIGN CHOICE; self-synchronising) -/
  descr : BitVec 58 := 0
  /-- last received PAM4 value P | 2 bits | 02 R40 | reset 0 -/
  lastP : Nat := 0
  /-- line part in progress | 02 R39 | reset none -/
  line : Option LaneLine := none
  /-- completed line parts that wait for the other lane's, oldest first | at most 16 | 02 R37, R51 | reset none -/
  done : List LaneLine := []
  /-- failed attempts of the present step | 2 bits | 02 R46 | reset 0 -/
  attempts : Nat := 0
  /-- mode of the lane | 4 bits | 02 Table 2.9 codes | reset 0 -/
  mode : Nat := 0
  /-- precoding in the last RATE_REQ | 1 bit | 02 R41 | reset 0 -/
  precode : Bool := false
  /-- check window running | 1 bit | 02 R46 | reset 0 -/
  checking : Bool := false
  /-- invalid headers in the check window | 32 bits | 02 R46 | reset 0 -/
  checkBad : Nat := 0
  /-- invalid headers that the camera saw | 32 bits | 02 Table 2.3 | reset 0 -/
  cameraBad : Nat := 0
  /-- fragments of a message in progress: bytes, next index | 02 R43 | reset none -/
  frags : Option (List Byte × Nat) := none
  /-- messages received and not yet handled | 02 R43 | reset none -/
  inbox : List CtrlMsg := []
  /-- HELLO received | 1 bit | 02 Table 2.4 | reset 0 -/
  helloSeen : Bool := false
  /-- frame counter at which the lane rejoins | 32 bits | 02 R58 | reset none -/
  rejoinAt : Option Nat := none
  /-- downlink scrambler register | 58 bits | 02 R35, R42 | reset 0 (DESIGN CHOICE; self-synchronising) -/
  txScr : BitVec 58 := 0
  /-- bit times since the last downlink block boundary | 0 to 65 | 02 R45 | reset 0 (DESIGN CHOICE) -/
  txBits : Nat := 0
  /-- downlink blocks since the last IDLE | 02 R50 | reset 0 -/
  txSinceIdle : Nat := 0
  /-- payloads of the CTRL blocks that wait for the downlink, oldest first | 02 R43 | reset none -/
  txCtrl : List (BitVec 64) := []
  /-- payloads of the TRIGGER blocks that wait for the downlink, oldest first | 02 R45 | reset none -/
  txTrig : List (BitVec 64) := []
  deriving DecidableEq, Repr

/-- `CAM_PORT_CONFIG` of a port (02 R34, 17 Table 17.7). -/
structure PortConfig where
  /-- PROTOCOL is CoaXPress -/
  cxp : Bool
  maxMode : Nat
  lanes : Nat
  /-- PRECODE 0 OFF, 1 PREFERRED, 2 ON -/
  precode : Nat
  /-- MERGE SPLIT -/
  split : Bool
  streamMask : Nat
  cxpLatency : Nat
  cxpStreamId : Vector Nat 4
  chMask : Vector Nat 4
  startCol : Vector Nat 4
  deriving DecidableEq, Repr

/-- CAPS of a camera (02 Table 2.3). -/
structure Caps where
  highestMode : Nat
  lanes : Nat
  precoding : Bool
  streams : Nat
  pixels : Nat
  channels : Nat
  depths : Nat
  applyLatency : Nat
  identity : List Nat := []
  deriving DecidableEq, Repr

/-- An unanswered control message (02 R43). -/
structure Outstanding where
  lane : Nat
  msg : CtrlMsg
  repeats : Nat := 0
  deriving DecidableEq, Repr

/-- What one stream gave to a line: pixels, a CRC mark and an early end (02 R55 to R57). -/
structure StreamPart where
  pixels : List (List Nat)
  crc : Bool
  cut : Bool
  deriving DecidableEq, Repr

/-- A line held by the merger: number and, per stream, what it gave (02 R56). -/
structure MergeLine where
  number : Nat
  parts : Vector (Option StreamPart) 4 := Vector.replicate 4 none
  stamp : LineStamp
  deriving DecidableEq, Repr

/-- What a CoaXPress camera answers on the control channel (02 Table 2.6). -/
inductive CxpResp where
  /-- the camera answers discovery -/
  | found
  /-- the answers of the bootstrap reads: highest speed as a MODE code, connections, whether the camera declares the
  high-speed upconnection, and whether it takes tagged commands -/
  | bootstrap (speed connections : Nat) (highUp tagged : Bool)
  /-- ConnectionConfig has been taken -/
  | configured
  /-- a register access: status and data -/
  | access (status : Nat) (data : List Byte)
  /-- a heartbeat -/
  | heartbeat
  deriving DecidableEq, Repr

/-- A CoaXPress stream packet (02 Table 2.6, R53). -/
inductive CxpPacket where
  | imageHeader (streamId : Nat)
  | line (streamId number : Nat) (pixels : List (List Nat)) (crcOk : Bool)
  | imageEnd (streamId : Nat)
  deriving DecidableEq, Repr

/-- Exposure settings (03 R82). -/
structure Settings where
  tag : Nat
  streamMask : Nat
  body : List Nat
  deriving DecidableEq, Repr

/-- A command that awaits the end of what it started (17 CAM_REG_ACCESS, ENG_FENCE_CLEAR). -/
structure RegAccess where
  /-- the request, answered when the camera answers or the test ends -/
  req : Req
  /-- model time at which it was taken -/
  since : Nat
  /-- host buffer of a BULK answer: address and length (17 R392) -/
  dest : Option (Nat × Nat) := none
  deriving DecidableEq, Repr

/-- One camera port (02, 03 R82 to R85). -/
structure Port where
  /-- CAM_PORT_CONFIG | 24 bytes | 02 R34 | reset none -/
  config : Option PortConfig := none
  /-- state of Table 17.4 | 17 R405 | reset DISABLED -/
  unit : UnitState := .disabled
  /-- ENABLE_PENDING | 1 bit | 17 R405 | reset 0 -/
  enablePending : Bool := false
  /-- LINK_STATE | 4 bits | 02 Table 2.9 | reset 0 -/
  link : LinkState := .down
  /-- MODE | 4 bits | 02 Table 2.9 | reset 0 -/
  mode : Nat := 0
  /-- common target mode | 4 bits | 02 R46 | reset 0 -/
  target : Nat := 0
  /-- PRECODE | 1 bit | 02 Table 2.9 | reset 0 -/
  precode : Bool := false
  /-- CAM_DEGRADED | 1 bit | 02 Table 2.9 | reset 0 -/
  degraded : Bool := false
  /-- RATE_LIMITED | 1 bit | 02 Table 2.9 | reset 0 -/
  rateLimited : Bool := false
  /-- PAIRED | 1 bit | 02 Table 2.9 | reset 0 -/
  paired : Bool := false
  /-- STREAMS_ACTIVE | 4 bits | 02 Table 2.9 | reset 0 -/
  streamsActive : Nat := 0
  /-- APPLY_LATENCY | 3 bits | 02 Table 2.9 | reset 0 -/
  applyLatency : Nat := 0
  /-- primary lane of the port | 1 bit | 02 R42 | reset 0 -/
  primary : Nat := 0
  /-- connections in RUN on CoaXPress | 3 bits | 02 Table 2.9 | reset 0 -/
  connections : Nat := 0
  /-- LINK_CHANGES | 16 bits | 02 Table 2.8 | reset 0 -/
  linkChanges : Nat := 0
  /-- CRC_ERR S0 to S3 | 4 x 32 bits | 02 Table 2.8 | reset 0 -/
  crcErrS : Vector Nat 4 := Vector.replicate 4 0
  /-- UNMAPPED | 32 bits | 02 Table 2.8 | reset 0 -/
  unmapped : Nat := 0
  /-- FRAME_START and FRAME_END of other streams | 32 bits | 03 R68 | reset 0 -/
  otherFrames : Nat := 0
  /-- CAPS of the camera | 02 Table 2.3 | reset none -/
  caps : Option Caps := none
  /-- unanswered control messages | 02 R43 | reset none -/
  outstanding : List Outstanding := []
  /-- sequence of the next control message | 8 bits | 02 R43 | reset 0 -/
  nextSeq : Nat := 0
  /-- lines held by the merger | at most 4 | 02 R56 | reset none -/
  held : List MergeLine := []
  /-- the line numbers passed on last | at most 4 | 02 R56 | reset none -/
  passed : List Nat := []
  /-- a camera frame is open on the link | 1 bit | 03 R492 | reset 0 -/
  inFrame : Bool := false
  /-- frame counter of the last FRAME_START | 32 bits | 02 Table 2.2 | reset 0 -/
  frameCounter : Nat := 0
  /-- CoaXPress event packets | count | 02 Table 2.6 | reset 0 -/
  cxpEvents : Nat := 0
  /-- last CoaXPress event packet | up to 254 bytes | 02 Table 2.6 | reset empty -/
  cxpLastEvent : List Byte := []
  /-- CoaXPress discovery attempts | count | 02 R54 | reset 0 -/
  cxpTries : Nat := 0
  /-- CoaXPress heartbeats received | count | 02 Table 2.6 | reset 0 -/
  cxpBeats : Nat := 0
  /-- the camera declares the high-speed upconnection | 1 bit | 02 Table 2.6 | reset 0 -/
  cxpHighDeclared : Bool := false
  /-- the upconnection runs at 41.6 Mb/s instead of 20.833 Mb/s | 1 bit | 02 Table 2.6 | reset 0 -/
  cxpHighUp : Bool := false
  /-- control commands carry a tag | 1 bit | 02 Table 2.6 | reset 0 -/
  cxpTagged : Bool := false
  /-- tag of the next control command | 8 bits | 02 Table 2.6 | reset 0 (DESIGN CHOICE) -/
  cxpTag : Nat := 0
  /-- pending exposure settings | 03 R82 | reset none -/
  pendingSettings : Option Settings := none
  /-- most recent settings sent | 03 R85 | reset none -/
  lastSettings : Option Settings := none
  /-- resend at the first camera frame boundary | 1 bit | 03 R85 | reset 0 -/
  resend : Bool := false
  /-- EXPECTED_TAG now | 16 bits | 03 R84 | reset 0 -/
  expectedTag : Nat := 0
  /-- settings on their way: (frames still to open, tag) | 03 R83 | reset none -/
  schedule : List (Nat × Nat) := []
  /-- register access under way | 17 Table 17.7 | reset none -/
  regAccess : Option RegAccess := none
  deriving DecidableEq, Repr

/-- All camera ports and lanes (02). -/
structure CamBlock where
  /-- CP0 to CP11 | 12 ports | 02 Table 2.8 | reset per field -/
  port : Vector Port 12 := Vector.replicate 12 {}
  /-- L0 to L23 | 24 lanes | 02 Table 2.10 | reset per field -/
  lane : Vector Lane 24 := Vector.replicate 24 {}
  deriving DecidableEq, Repr

end Sys2Proof.Machine
end

