-- ==== Sys2Proof/Types/Pipe.lean ====
section
/-! DEFINITION. The plain data of line framing, the correction pipes, Tare and the binning chains (03 to 06). -/

namespace Sys2Proof.Machine

/-- The tag that travels with a line (03 Table 3.1). -/
structure LineTag where
  number : Nat := 0
  pos : Pos64 := 0
  ts : Ts32 := 0
  index : Nat := 0
  short : Bool := false
  long : Bool := false
  crc : Bool := false
  drop : Bool := false
  first : Bool := false
  last : Bool := false
  /-- SETTINGS_TAG of the line's bolt, carried for ORIGIN (07 Table 7.4) -/
  settings : Nat := 0
  deriving DecidableEq, Repr

/-- A bolt: what its header holds (03 Table 3.2). -/
structure Bolt where
  number : Nat := 0
  firstLine : Nat := 0
  firstPos : Pos64 := 0
  firstTime : Stamp := {}
  firstTs : Ts32 := 0
  lineCount : Nat := 0
  tag : Nat := 0
  expectedTag : Nat := 0
  shortBolt : Bool := false
  continued : Bool := false
  incomplete : Bool := false
  crc : Bool := false
  shortLine : Bool := false
  longLine : Bool := false
  mismatch : Bool := false
  missingStart : Bool := false
  missingEnd : Bool := false
  degraded : Bool := false
  shortLines : Nat := 0
  longLines : Nat := 0
  crcLines : Nat := 0
  shXfer : Bool := false
  banks : Nat := 0
  camFrame : Nat := 0
  /-- time base and position channel of SOURCES -/
  tb : Nat := 0
  posCh : Nat := 0
  deriving DecidableEq, Repr

/-- Statistics of one channel over a bolt (03 Table 3.9). -/
structure ChanStats where
  count : Nat := 0
  sum : Nat := 0
  min : Nat := 0xFFFF
  max : Nat := 0
  satHigh : Nat := 0
  satLow : Nat := 0
  /-- 256 bins -/
  hist : List Nat := List.replicate 256 0
  deriving DecidableEq, Repr

/-- A statistics record (03 Table 3.9). -/
structure StatsRecord where
  bolt : Bolt := {}
  chMask : Nat := 0
  depth : Nat := 16
  chans : Vector ChanStats 8 := Vector.replicate 8 {}
  deriving DecidableEq, Repr

/-- The shadowed registers of a pipe, as their words (03 Table 3.6). -/
structure ShadowSet where
  format : Word := 0x0FFF4000#32
  fill : Word := 0
  stages : Word := 0x00001200#32
  banks : Word := 0
  lutSplit : Word := 16
  sat : Word := 0x0000FFFF#32
  stats : Word := 0x0F
  /-- MATRIX0 to MATRIX7; reset identity -/
  matrix : Vector Word 8 :=
    ((((Vector.replicate 8 0).set 0 0x00001000#32).set 2 0x10000000#32).set 5 0x00001000#32).set 7 0x10000000#32
  mofs : Vector Word 2 := Vector.replicate 2 0
  deriving DecidableEq, Repr

/-- A line on its way to the stitcher (04, 07): tag, bolt number and the class of each pixel; the feature values are
kept beside it. -/
structure PipeLine where
  tag : LineTag
  bolt : Nat
  classes : List Nat
  /-- matrix outputs m(0) to m(3) of each pixel -/
  values : List (List Nat)
  /-- channels of the pipe -/
  channels : Nat
  deriving DecidableEq, Repr

/-- The correction counter record (04 Table 4.4). -/
structure CorrCounters where
  /-- DARK_CLAMP | 32 bits | 04 Table 4.4 | reset 0 -/
  darkClamp : Nat := 0
  /-- DEFECT_REPLACED | 32 bits | 04 Table 4.4 | reset 0 -/
  defectReplaced : Nat := 0
  /-- DEFECT_UNRESOLVED | 32 bits | 04 Table 4.4 | reset 0 -/
  defectUnresolved : Nat := 0
  /-- FLAT_SAT | 32 bits | 04 Table 4.4 | reset 0 -/
  flatSat : Nat := 0
  /-- MATRIX_CLAMP_LOW | 32 bits | 04 Table 4.4 | reset 0 -/
  matrixLow : Nat := 0
  /-- MATRIX_SAT_HIGH | 32 bits | 04 Table 4.4 | reset 0 -/
  matrixHigh : Nat := 0
  /-- TABLE_ECC_CORR | 32 bits | 04 Table 4.4 | reset 0 -/
  eccCorr : Nat := 0
  /-- TABLE_ECC_UNCORR | 32 bits | 04 Table 4.4 | reset 0 -/
  eccUncorr : Nat := 0
  /-- FIRST_BOLT | 64 bits | 04 R104 | reset all ones -/
  firstBolt : Nat := 2 ^ 64 - 1
  deriving DecidableEq, Repr

/-- Tare parameters (05 Table 5.3). -/
structure TareParams where
  /-- SLOT_MASK | 8 bits | 05 Table 5.3 | reset 0x0F -/
  slotMask : Nat := 0x0F
  /-- WINDOW | 32 bits | 05 Table 5.3 | reset 4,096 -/
  window : Nat := 4096
  /-- MAX_BOLTS | 16 bits | 05 Table 5.3 | reset 1,024 -/
  maxBolts : Nat := 1024
  /-- MIN_COUNT | 32 bits | 05 Table 5.3 | reset 1,024 -/
  minCount : Nat := 1024
  /-- TARGET_MODE KEEP | 1 bit | 05 Table 5.3 | reset KEEP -/
  keep : Bool := true
  /-- TARGET[0..7] | 8 x 16 bits | 05 Table 5.3 | reset 49,152 -/
  target : Vector Nat 8 := Vector.replicate 8 49152
  /-- GAIN_MIN | 16 bits | 05 Table 5.3 | reset 0x2000 -/
  gainMin : Nat := 0x2000
  /-- GAIN_MAX | 16 bits | 05 Table 5.3 | reset 0xFFFF -/
  gainMax : Nat := 0xFFFF
  /-- STEP_LIMIT | 16 bits | 05 Table 5.3 | reset 600 -/
  stepLimit : Nat := 600
  /-- DARK_STEP_LIMIT | 16 bits | 05 Table 5.3 | reset 1,024 -/
  darkStepLimit : Nat := 1024
  /-- SMOOTH_LIMIT | 16 bits | 05 Table 5.3 | reset 512 -/
  smoothLimit : Nat := 512
  /-- CLAMP_LIMIT | 16 bits | 05 Table 5.3 | reset 50 -/
  clampLimit : Nat := 50
  /-- DRIFT_LIMIT | 16 bits | 05 Table 5.3 | reset 200 -/
  driftLimit : Nat := 200
  /-- DARK_DRIFT_LIMIT | 16 bits | 05 Table 5.3 | reset 256 -/
  darkDriftLimit : Nat := 256
  /-- CHECK_ENABLE | bits 1, 2, 4 | 05 Table 5.3 | reset all 1 -/
  checkEnable : Nat := 0x16
  /-- PEDESTAL | 12 bits | 05 Table 5.3 | reset 0 -/
  pedestal : Nat := 0
  /-- DARK_EVERY | 16 bits | 05 Table 5.3 | reset 1,024 -/
  darkEvery : Nat := 1024
  /-- DARK_DELAY | 4 bits | 05 Table 5.3 | reset 2 -/
  darkDelay : Nat := 2
  /-- DARK_MAX | 16 bits | 05 Table 5.3 | reset 4,096 -/
  darkMax : Nat := 4096
  /-- INTERVAL | 17 bits | 05 Table 5.3 | reset 0 -/
  interval : Nat := 0
  deriving DecidableEq, Repr

/-- STATE of a Tare unit (05 Table 5.4). -/
inductive TareState where
  | idle | waitStart | accumulate | evaluate | write | swapPending
  deriving DecidableEq, Repr

/-- A Tare run in progress (05 R112 to R118). -/
structure TareRun where
  dark : Bool
  /-- the parameters when TARE_RUN was accepted (05 R128) -/
  params : TareParams
  /-- numbers of the pool blocks taken (05 R113) -/
  blocks : List Nat
  startTag : Nat := 0
  /-- accumulators: for each pixel, for each slot, sum and count -/
  acc : List (List (Int × Nat)) := []
  /-- what the bolt in progress added to each pixel-slot: sum and number (05 R118) -/
  boltAdd : List (List (Int × Nat)) := []
  /-- the same of each accepted bolt -/
  bolts : List (List (List (Int × Nat))) := []
  /-- dark lines of the window: accepted, rejected -/
  darkAccepted : Nat := 0
  darkRejected : Nat := 0
  firstBolt : Nat := 0
  lastBolt : Nat := 0
  /-- the bolt in progress is accepted (its tag is the start tag) -/
  accepting : Bool := false
  /-- PIPE_TABLE_LOAD to the inactive bank since the window opened (05 R122) -/
  loadConflict : Bool := false
  /-- new entries of a passed run that are being written: per slot, per pixel (05 R121) -/
  result : List (Nat × List (Option Int)) := []
  deriving DecidableEq, Repr

/-- The Tare unit of a pipe (05 R129, Table 5.4). -/
structure TareUnit where
  params : TareParams := {}
  /-- STATE | 3 bits | 05 Table 5.4 | reset IDLE -/
  state : TareState := .idle
  /-- KIND | 2 bits | 05 Table 5.4 | reset none -/
  kind : Nat := 0
  /-- run in progress | 05 R113 | reset none -/
  run : Option TareRun := none
  /-- ROLLBACK_VALID | 1 bit | 05 R125 | reset 0 -/
  rollbackValid : Bool := false
  /-- a rollback waits for its boundary | 1 bit | 05 R125 | reset 0 -/
  rollbackPending : Bool := false
  /-- LAST_REASON | 8 bits | 05 Table 5.4 | reset 0 -/
  lastReason : Nat := 0
  /-- LAST_FAIL_MASK | 5 bits | 05 Table 5.4 | reset 0 -/
  lastFailMask : Nat := 0
  /-- TARE_PASS_COUNT | 32 bits | 05 Table 5.4 | reset 0 -/
  passCount : Nat := 0
  /-- TARE_FAIL_COUNT | 32 bits | 05 Table 5.4 | reset 0 -/
  failCount : Nat := 0
  /-- BOLTS_ACCEPTED | 16 bits | 05 Table 5.4 | reset 0 -/
  boltsAccepted : Nat := 0
  /-- BOLTS_DISCARDED | 16 bits | 05 Table 5.4 | reset 0 -/
  boltsDiscarded : Nat := 0
  /-- TARE_LAST_TIME | 80 bits | 05 Table 5.4 | reset 0 -/
  lastTime : Stamp := {}
  /-- TARE_LAST_BOLT | 64 bits | 05 Table 5.4 | reset 0 -/
  lastBolt : Nat := 0
  /-- the swap's first line records time and bolt | 1 bit | 05 R124 | reset 0 -/
  markSwap : Bool := false
  /-- MIN_SEEN | 32 bits | 05 Table 5.4 | reset 0 -/
  minSeen : Nat := 0
  /-- MAX_STEP | 32 bits | 05 Table 5.4 | reset 0 -/
  maxStep : Nat := 0
  /-- CLAMPED | 32 bits | 05 Table 5.4 | reset 0 -/
  clamped : Nat := 0
  /-- DRIFT | 32 bits | 05 Table 5.4 | reset 0 -/
  drift : Nat := 0
  /-- SMOOTH_MAX | 32 bits | 05 Table 5.4 | reset 0 -/
  smoothMax : Nat := 0
  /-- DARK_ACCEPTED | 16 bits | 05 Table 5.4 | reset 0 -/
  darkAccepted : Nat := 0
  /-- DARK_REJECTED | 16 bits | 05 Table 5.4 | reset 0 -/
  darkRejected : Nat := 0
  /-- line triggers since the last dark request | 16 bits | 05 R126 | reset 0 -/
  trigCount : Nat := 0
  /-- lines still to enter before each pending dark line | 05 R126 | reset none -/
  darkPending : List Nat := []
  /-- snapshot of TARE_LAST_TIME | 3 words | 05 R129 | reset 0 -/
  snap : List Word := []
  deriving DecidableEq, Repr

/-- Binning parameters (06 Table 6.6). -/
structure BinParams where
  /-- BIN_EN | 1 bit | 06 Table 6.6 | reset 0 -/
  enable : Bool := false
  /-- RATIO | 7 bits | 06 Table 6.6 | reset 1 -/
  ratio : Nat := 1
  /-- SLOT_MASK | 8 bits | 06 Table 6.6 | reset 0x0F -/
  slotMask : Nat := 0x0F
  /-- FIR_EN | 1 bit | 06 Table 6.6 | reset 0 -/
  firEn : Bool := false
  /-- STEP_THR | 16 bits | 06 Table 6.6 | reset 0 -/
  stepThr : Nat := 0
  /-- SPEED_EN | 1 bit | 06 Table 6.6 | reset 0 -/
  speedEn : Bool := false
  /-- SPEED_SLOT | 3 bits | 06 Table 6.6 | reset 0 -/
  speedSlot : Nat := 0
  /-- SPEED_X0 | 14 bits | 06 Table 6.6 | reset 0 -/
  speedX0 : Nat := 0
  /-- SPEED_W | 15 bits | 06 Table 6.6 | reset 256 -/
  speedW : Nat := 256
  /-- SPEED_CLUSTER | 4 bits | 06 Table 6.6 | reset 0 -/
  speedCluster : Nat := 0
  /-- SPEED_OFFSET | 20 bits | 06 Table 6.6 | reset 0 -/
  speedOffset : Nat := 0
  deriving DecidableEq, Repr

/-- One column-slot of a binning chain (06 R133 to R141). -/
structure BinCell where
  /-- integrators I1, I2, I3, modulo 2^36 -/
  i1 : Nat := 0
  i2 : Nat := 0
  i3 : Nat := 0
  /-- comb registers I3', C1', C2', modulo 2^36 -/
  d3 : Nat := 0
  d1 : Nat := 0
  d2 : Nat := 0
  /-- FIR taps u(n), newest first, at most 15 -/
  taps : List Nat := []
  /-- boxcar, newest first, at most 4 lines -/
  box : List Nat := []
  /-- output samples whose lines all follow the last fine restart -/
  since : Nat := 0
  /-- COARSE -/
  coarse : Bool := false
  /-- the fine path restarts after the next boundary's sample (06 Table 6.3) -/
  restart : Bool := false
  /-- value last delivered by the fine path -/
  lastFine : Nat := 0
  deriving DecidableEq, Repr

/-- The binning chain of a pipe (06). -/
structure BinChain where
  params : BinParams := {}
  /-- parameters that wait for the next bolt boundary | 06 R146 | reset none -/
  pending : Option BinParams := none
  /-- pool blocks held | 06 R131 | reset 0 -/
  blocks : Nat := 0
  /-- column-slots, per column, per slot of SLOT_MASK | 64 bytes each | 06 R131 | reset none -/
  cells : List (List BinCell) := []
  /-- lines since n0, modulo M | 06 R132 | reset 0 -/
  phase : Nat := 0
  /-- a global restart waits for the next bolt's first line | 1 bit | 06 Table 6.3 | reset 1 -/
  restartNext : Bool := true
  /-- binning bank in use by the FIR | 1 bit | 06 R137 | reset 0 -/
  bankNow : Nat := 0
  /-- SETTINGS_TAG of the previous bolt | 16 bits | 06 Table 6.3 | reset none -/
  lastTag : Option Nat := none
  /-- SEQ of the speed entries | 32 bits | 06 R145 | reset 0 -/
  seq : Nat := 0
  /-- BIN_CLAMP | 32 bits | 06 Table 6.7 | reset 0 -/
  clampCount : Nat := 0
  /-- STEP_RESTARTS | 32 bits | 06 Table 6.7 | reset 0 -/
  stepRestarts : Nat := 0
  /-- GLOBAL_RESTARTS | 32 bits | 06 Table 6.7 | reset 0 -/
  globalRestarts : Nat := 0
  /-- COARSE_SAMPLES | 32 bits | 06 Table 6.7 | reset 0 -/
  coarseSamples : Nat := 0
  /-- OUTPUT_SAMPLES | 32 bits | 06 Table 6.7 | reset 0 -/
  outputSamples : Nat := 0
  deriving DecidableEq, Repr

/-- An image transfer in parts (17 R408): the bytes received so far. -/
structure LoadState where
  kind : Nat
  bank : Nat
  total : Nat
  bytes : List Byte
  deriving DecidableEq, Repr

/-- One pipe with its line framing (03, 04). -/
structure Pipe where
  /-- channels | 4 bits | 03 R491 | reset 4 -/
  channels : Nat := 4
  /-- sample depth | 5 bits | 03 R491 | reset 16 -/
  depth : Nat := 16
  /-- position channel | 3 bits | 03 R491 | reset QE0 -/
  posCh : Fin 8 := 0
  /-- time base | 2 bits | 03 R491 | reset TB0 -/
  tb : Fin 4 := 0
  /-- state of Table 17.4 | 17 R405 | reset DISABLED -/
  unit : UnitState := .disabled
  /-- ENABLE_PENDING | 1 bit | 17 R405 | reset 0 -/
  enablePending : Bool := false
  /-- lines of a bolt already open at the enable are discarded | 1 bit | 03 R492 | reset 0 -/
  waitFrame : Bool := false
  /-- staged shadow set | 03 Table 3.6 | reset per register -/
  staged : ShadowSet := {}
  /-- active shadow set | 03 R73 | reset per register -/
  active : ShadowSet := {}
  /-- ARM | 1 bit | 03 Table 3.4 | reset 0 -/
  arm : Bool := false
  /-- BAD_VALUE | RW1C | 03 Table 3.4 | reset 0 -/
  badValue : Bool := false
  /-- STALE_WRITE | RW1C | 03 Table 3.4 | reset 0 -/
  staleWrite : Bool := false
  /-- FOREIGN_WRITE | RW1C | 03 Table 3.4 | reset 0 -/
  foreignWrite : Bool := false
  /-- XFER_COUNT | 16 bits | 03 Table 3.4 | reset 0 -/
  xferCount : Nat := 0
  /-- ACTIVE_TAG | 16 bits | 03 Table 3.5 | reset 0 -/
  activeTag : Nat := 0
  /-- BANK_LOADED_CORR | 2 bits | 03 Table 3.5 | reset 0 -/
  loadedCorr : Vector Bool 2 := Vector.replicate 2 false
  /-- BANK_LOADED_LUT | 2 bits | 03 Table 3.5 | reset 0 -/
  loadedLut : Vector Bool 2 := Vector.replicate 2 false
  /-- BANK_LOADED_BIN | 2 bits | 03 Table 3.5 | reset 0 -/
  loadedBin : Vector Bool 2 := Vector.replicate 2 false
  /-- binning coefficient banks | 2 x 256 bytes | 06 R136 | reset 0 (DESIGN CHOICE: register window) -/
  coef : Vector (List Byte) 2 := Vector.replicate 2 (List.replicate 256 0)
  /-- `PIPE_SH_XFER_BOLT` | 64 bits | 03 R73 | reset 0 -/
  xferBolt : Nat := 0
  /-- `PIPE_SH_SHORT_LINES` | 32 bits | 03 R73 | reset 0 -/
  shortLines : Nat := 0
  /-- `PIPE_SH_LONG_LINES` | 32 bits | 03 R73 | reset 0 -/
  longLines : Nat := 0
  /-- `PIPE_SH_BOLT_EVENTS` [15:0] | 16 bits | 03 R73 | reset 0 -/
  shortBolts : Nat := 0
  /-- `PIPE_SH_BOLT_EVENTS` [31:16] | 16 bits | 03 R73 | reset 0 -/
  continuedBolts : Nat := 0
  /-- `PIPE_SH_ORPHAN_ENDS` | 32 bits | 03 R73 | reset 0 -/
  orphanEnds : Nat := 0
  /-- LINE_NUMBER of the next line | 64 bits | 03 R65 | reset 0 -/
  lineNumber : Nat := 0
  /-- number of the next bolt | 64 bits | 03 R71 | reset 0 -/
  boltNumber : Nat := 0
  /-- open bolt; IN_BOLT | 03 R69 | reset none -/
  bolt : Option Bolt := none
  /-- the last bolt closed by its BOLT_LINES-th line and nothing has arrived since | 03 R69 | reset none -/
  fullBolt : Option Bolt := none
  /-- statistics of the open bolt | 03 R87 | reset empty -/
  stats : Vector ChanStats 8 := Vector.replicate 8 {}
  /-- a transfer took effect at the boundary and its bolt number is still to be recorded | 1 bit | 03 R76 | reset 0 -/
  xferMark : Bool := false
  /-- closed bolts whose header is still to be emitted | 03 R72 | reset none -/
  closed : List Bolt := []
  /-- closed statistics records not yet complete | 03 R87 | reset none -/
  statsPending : List StatsRecord := []
  /-- statistics record of the most recent closed bolt | 03 R87 | reset empty -/
  statsLast : StatsRecord := {}
  /-- copy taken by PART 0 | 17 R410 | reset empty -/
  statsCopy : StatsRecord := {}
  counters : CorrCounters := {}
  tare : TareUnit := {}
  bin : BinChain := {}
  /-- corrected values of the previous line | 05 R127 | reset empty -/
  prevValues : List (List Nat) := []
  /-- classes after morphology of the previous line | 05 R127 | reset empty -/
  prevClasses : List Nat := []
  /-- lines that wait for the stitcher | 01 R8 | reset none -/
  outLines : List PipeLine := []
  /-- table image transfers in progress, at most one per KIND | 17 R408 | reset none -/
  loads : List LoadState := []
  deriving DecidableEq, Repr

end Sys2Proof.Machine
end

