-- ==== Sys2Proof/Types/Stitch.lean ====
section
/-! DEFINITION. The plain data of the stitcher, the segmenter and the object record (07). -/

namespace Sys2Proof.Machine

/-- The camera block of a pipe in `STITCH_CONFIG` (07 Tables 7.1, 7.2). -/
structure StitchCam where
  /-- FLIP | 1 bit | 07 Table 7.1 | reset 0 -/
  flip : Bool := false
  /-- SEAM_MODE BLEND | 1 bit | 07 Table 7.1 | reset HARD -/
  blend : Bool := false
  /-- BLEND_W | 16 bits | 07 Table 7.1 | reset 16 -/
  blendW : Nat := 16
  /-- A0, unsigned 18.6 | 24 bits | 07 Table 7.2 | reset 0 -/
  a0 : Nat := 0
  /-- A1, unsigned 2.22 | 24 bits | 07 Table 7.2 | reset 1.0 -/
  a1 : Nat := 0x400000
  /-- B2, signed 12.12 | 24 bits | 07 Table 7.2 | reset 0 -/
  b2 : Int := 0
  /-- B3, signed 12.12 | 24 bits | 07 Table 7.2 | reset 0 -/
  b3 : Int := 0
  /-- C_LO | 18 bits | 07 Table 7.1 | reset 0 -/
  cLo : Nat := 0
  /-- C_HI | 18 bits | 07 Table 7.1 | reset 16,383 -/
  cHi : Nat := 16383
  /-- DELAY | 13 bits | 07 Table 7.1 | reset 0 -/
  delay : Nat := 0
  /-- RESERVE | 7 bits | 07 Table 7.1 | reset 0 -/
  reserve : Nat := 0
  /-- LINE_PIXELS that `STITCH_CONFIG` used | 15 bits | 07 R155 | reset 0x4000 -/
  linePixels : Nat := 0x4000
  deriving DecidableEq, Repr

/-- A line in stitched columns: tag, bolt, and class and values of each column from C_LO on (07 R153). -/
structure StLine where
  tag : LineTag
  bolt : Nat
  cols : List (Nat × List Nat)
  /-- a band column of a neighbour can be supplied: (column, class, values) outside the own range -/
  band : List (Nat × Nat × List Nat) := []
  deriving DecidableEq, Repr

/-- A line waiting in a delay queue: input row, entries taken and the line (07 R158). -/
structure QueuedLine where
  row : Nat
  entries : Nat
  line : Option StLine
  deriving DecidableEq, Repr

/-- The delay queue of a pipe (07 R158). -/
structure DelayQueue where
  /-- lines held, oldest first | 07 R158 | reset none -/
  lines : List QueuedLine := []
  /-- entry position of the oldest entry and of the next one | 07 R158 | reset 0 -/
  head : Nat := 0
  tail : Nat := 0
  /-- BLOCKS_PEAK | 10 bits | 07 Table 7.6 | reset 0 -/
  peak : Nat := 0
  /-- LINE_DROP | 32 bits | 07 Table 7.6 | reset 0 -/
  drops : Nat := 0
  deriving DecidableEq, Repr

/-- What a member pipe gives to a row: a line that arrived in the input row, and the line that the union row takes. -/
structure RowSlot where
  /-- the pipe's line of the input row has arrived (it can be empty after a drop) -/
  came : Bool := false
  /-- LINE_NUMBER of that line (14 R333) -/
  number : Option Nat := none
  /-- the union row's line of the pipe; none is an empty line -/
  union : Option StLine := none
  deriving DecidableEq, Repr

/-- An input row (07 R150), and with it the union row of the same number (07 R151). -/
structure InputRow where
  number : Nat
  /-- tag and bolt of the line that opened the row -/
  opener : LineTag
  openerBolt : Nat
  /-- pipe of the opener -/
  openerPipe : Nat
  /-- tag and bolt of REF_PIPE's line, when it came -/
  ref : Option (LineTag × Nat) := none
  slots : Vector RowSlot 12 := Vector.replicate 12 {}
  deriving DecidableEq, Repr

/-- A run of a union row (07 R163): columns, class, and values of each column. -/
structure Run where
  start : Nat
  stop : Nat
  cls : Nat
  seg : Nat
  values : List (List Nat)
  deriving DecidableEq, Repr

/-- The tag of a union row (07 R151). -/
structure RowTag where
  pos : Pos64 := 0
  ts : Ts32 := 0
  bolt : Nat := 0
  settings : Nat := 0
  coarse : Bool := false
  deriving DecidableEq, Repr

/-- A join of an own part to a neighbour's part (13 R313 to R316). -/
structure EllJoin where
  /-- PART_ID of the neighbour's part, as last received -/
  part : Nat
  /-- side key: FIRST_POS64 (station-aligned) and FIRST_COL -/
  keyPos : Pos64
  keyCol : Nat
  /-- joined pairs of edge pixels in paired rows (13 Table 13.4 PERIMETER) -/
  pairs : Nat := 0
  /-- own row that was joined last -/
  row : Nat := 0
  /-- lowest and highest ROW_POS64 of the neighbour's joined rows -/
  lo : Int
  hi : Int
  /-- the PART of the neighbour's part has come -/
  got : Bool := false
  deriving DecidableEq, Repr

/-- A PART body (13 Table 13.4), station-aligned, as it is sent, received and merged. -/
structure PartBody where
  ownerPart : Nat := 0
  firstPos : Int := 0
  lastPos : Int := 0
  firstCol : Nat := 0
  colMin : Nat := 0
  colMax : Nat := 0
  firstTs : Ts32 := 0
  closeTs : Ts32 := 0
  area : Nat := 0
  sumCol : Nat := 0
  sumRow : Nat := 0
  perimeter : Nat := 0
  runs : Nat := 0
  sums : List Nat := [0, 0, 0, 0]
  mins : List Nat := [0xFFFF, 0xFFFF, 0xFFFF, 0xFFFF]
  maxs : List Nat := [0, 0, 0, 0]
  /-- AREA_C1 to AREA_C15 -/
  classArea : List Nat := List.replicate 15 0
  incomplete : Bool := false
  seamCam : Bool := false
  shortBolt : Bool := false
  coarse : Bool := false
  deriving DecidableEq, Repr

/-- A PART received for an own part: its side, the PART_ID it is known by, the joined pixel pairs of paired rows, and its
body (13 R315, R319). -/
structure PartIn where
  left : Bool
  part : Nat
  pairs : Nat
  body : PartBody
  deriving DecidableEq, Repr

/-- What the segmenter has gathered of one object (07 R164 to R172). -/
structure SegObj where
  /-- pixels of class 0 to 15 -/
  classArea : List Nat := List.replicate 16 0
  firstRow : Nat := 0
  lastRow : Nat := 0
  colMin : Nat := 0
  colMax : Nat := 0
  sumCol : Nat := 0
  /-- sum of union row numbers over the pixels -/
  sumRow : Nat := 0
  perimeter : Nat := 0
  runCount : Nat := 0
  segments : Nat := 0
  sums : List Nat := [0, 0, 0, 0]
  mins : List Nat := [0xFFFF, 0xFFFF, 0xFFFF, 0xFFFF]
  maxs : List Nat := [0, 0, 0, 0]
  firstTag : RowTag := {}
  lastTag : RowTag := {}
  incomplete : Bool := false
  /-- a pixel lies in a seam column (R165) -/
  seamUnit : Bool := false
  /-- (pipe, bolt number) of its lines -/
  bolts : List (Nat × Nat) := []
  /-- columns of its runs in the last row, as closed intervals -/
  last : List (Nat × Nat) := []
  /-- columns of its runs in the row that is being formed -/
  cur : List (Nat × Nat) := []
  /-- object table entry | 14 bits | 07 R166, 13 Table 13.3 -/
  entry : Nat := 0
  /-- stitched column of its first pixel (13 R314) -/
  firstCol : Nat := 0
  /-- it holds a pixel in the first, last stitched column -/
  edgeLeft : Bool := false
  edgeRight : Bool := false
  /-- entries of objects that have merged into it, by which a neighbour can still name it -/
  ids : List Nat := []
  /-- joins to the parts of the left, right neighbour (13 R313, R316) -/
  joinLeft : List EllJoin := []
  joinRight : List EllJoin := []
  /-- PART messages received for it (13 R315) -/
  got : List PartIn := []
  /-- it touched an edge whose side was not UP: its own device finalises it (13 R321) -/
  alone : Bool := false
  deriving DecidableEq, Repr

/-- Parameters of a policy class (09 Table 9.10). -/
structure Policy where
  /-- ENTRY | 4 bits | 09 Table 9.10 | reset 0 -/
  entry : Nat := 0
  /-- DEADLINE_MODE POSITION | 1 bit | 09 Table 9.10 | reset TIME -/
  posMode : Bool := false
  /-- DEADLINE_US | 17 bits | 09 Table 9.10 | reset 250 -/
  deadlineUs : Nat := 250
  /-- DEADLINE_COUNTS | 31 bits | 09 Table 9.10 | reset 65,536 -/
  deadlineCounts : Nat := 65536
  /-- MAX_WAIT_US | 17 bits | 09 Table 9.10 | reset 100,000 -/
  maxWaitUs : Nat := 100000
  /-- FALLBACK REJECT | 1 bit | 09 Table 9.10 | reset REJECT -/
  fallback : Nat := 2
  /-- LATE_ACTION ABORT | 1 bit | 09 Table 9.10 | reset FINISH -/
  abort : Bool := false
  /-- REDISPATCH_MARGIN_US | 17 bits | 09 Table 9.10 | reset 20 -/
  marginUs : Nat := 20
  deriving DecidableEq, Repr

/-- A closed object with what closure fixes (07 R167). -/
structure ClosedObj where
  obj : SegObj
  closeTs : Ts32
  closeCoarse : Bool
  /-- column of the closing pixel -/
  closeCol : Nat
  shortBolt : Bool
  /-- time key and position key of the deadline, fixed at closure or hand-over (09 R223, 13 R315) -/
  timeKey : Ts32
  posKey : Option Pos64
  /-- parameters of its policy class then (09 R229) -/
  pol : Policy := {}
  /-- model time of the closure; once it waits for the finaliser, since when it does -/
  closeNow : Nat
  /-- closing row's union row number and tag position -/
  closeRow : Nat := 0
  closePos : Pos64 := 0
  /-- SEAM_DEV (07 R171) -/
  seamDev : Bool := false
  /-- parts of other devices merged into it: (side left, PART_ID) in order (13 R319) -/
  mergedParts : List (Bool × Nat) := []
  /-- first and last own union row that a joined object spans, the rows of merged parts included (13 R315) -/
  span : Option (Nat × Nat) := none
  /-- the merged values of a joined object (13 Table 13.4) -/
  merged : Option PartBody := none
  deriving DecidableEq, Repr

/-- The record of an object (07 Tables 7.4, 7.5), with the rows kept beside it (14 R333). -/
structure ObjRecord where
  id : BitVec 64 := 0
  firstPos : Pos64 := 0
  posLength : Nat := 0
  tsClose : Ts32 := 0
  colMin : Nat := 0
  colMax : Nat := 0
  verdict : Nat := 0
  late : Bool := false
  redispatched : Bool := false
  seamCam : Bool := false
  seamDev : Bool := false
  cropExpired : Bool := false
  incomplete : Bool := false
  shortBolt : Bool := false
  coarse : Bool := false
  classes : List Nat := [0, 0, 0, 0]
  areas : List Nat := [0, 0, 0, 0]
  means : List Nat := [0, 0, 0, 0]
  result : Nat := 0
  bolt : Nat := 0
  tag : Nat := 0
  firstRow : Nat := 0
  lastRow : Nat := 0
  /-- crop request of the object (14 R332) -/
  crop : Bool := false
  /-- forwarded parts that wait for the VERDICT: (side left, PART_ID) (13 R319) -/
  parts : List (Bool × Nat) := []
  /-- TS32 of the first row's tag (11 R264) -/
  tsFirst : Ts32 := 0
  deriving DecidableEq, Repr

/-- The stitcher (07). -/
structure StitchBlock where
  /-- MEMBERS | 12 bits | 07 Table 7.1 | reset 0 -/
  members : Nat := 0
  /-- REF_PIPE | 4 bits | 07 Table 7.1 | reset 0 -/
  refPipe : Fin 12 := 0
  /-- WEB_WIDTH | 18 bits | 07 Table 7.1 | reset 16,384 -/
  webWidth : Nat := 16384
  /-- ROW_SKEW | 16 bits | 07 Table 7.1 | reset 1,000 -/
  rowSkew : Nat := 1000
  /-- camera blocks | 12 x 32 bytes | 07 Table 7.1 | reset per field -/
  cam : Vector StitchCam 12 := Vector.replicate 12 {}
  /-- delay queues | line-buffer pool | 07 R158 | reset empty -/
  queue : Vector DelayQueue 12 := Vector.replicate 12 {}
  /-- open input row | 07 R150 | reset none -/
  row : Option InputRow := none
  /-- number of the next input row | 07 R150 | reset 0 -/
  nextRow : Nat := 0
  /-- closed rows that wait for component union | 07 R151 | reset none -/
  closed : List InputRow := []
  /-- ROW_NUMBER | 64 bits | 07 Table 7.6 | reset 0 -/
  rowNumber : Nat := 0
  /-- ROW_MISS | 32 bits | 07 Table 7.6 | reset 0 -/
  rowMiss : Nat := 0
  /-- BLEND_SINGLE | 32 bits | 07 Table 7.6 | reset 0 -/
  blendSingle : Nat := 0
  /-- LINE_NUMBER of each pipe's line in the last 65,536 input rows, newest first | 14 R333 | reset empty -/
  rowMap : List (Nat × List (Option Nat)) := []
  /-- CLASS_LUT_LOAD transfer in progress | 17 R408 | reset none -/
  lutLoad : Option LoadState := none
  /-- closed bolts that were marked SHORT_BOLT: (pipe, bolt) | 07 Table 7.5 | reset none -/
  shortBolts : List (Nat × Nat) := []
  deriving DecidableEq, Repr

/-- The segmenter (07). -/
structure SegBlock where
  /-- MIN_AREA | 16 bits | 07 R175 | reset 1 -/
  minArea : Nat := 1
  /-- MAX_ROWS | 16 bits | 07 R175 | reset 65,535 -/
  maxRows : Nat := 65535
  /-- open objects, ascending by column | object table of 16,384 entries | 07 R166 | reset none -/
  objs : List SegObj := []
  /-- closed objects that wait for the finaliser, in order of closure | 07 R170 | reset none -/
  waiting : List ClosedObj := []
  /-- untracked runs of the previous union row, as intervals | 07 R166 | reset none -/
  untracked : List (Nat × Nat) := []
  /-- empty columns of the previous union row, as intervals | 07 R168 | reset none -/
  emptyCols : List (Nat × Nat) := []
  /-- OPEN_PEAK | 15 bits | 07 Table 7.6 | reset 0 -/
  openPeak : Nat := 0
  /-- CLOSED | 32 bits | 07 Table 7.6 | reset 0 -/
  closed : Nat := 0
  /-- SMALL_DROPPED | 32 bits | 07 Table 7.6 | reset 0 -/
  smallDropped : Nat := 0
  /-- SPLITS | 32 bits | 07 Table 7.6 | reset 0 -/
  splits : Nat := 0
  /-- SEG_OVERFLOW | 32 bits | 07 Table 7.6 | reset 0 -/
  overflow : Nat := 0
  /-- INCOMPLETE_RECORDS | 32 bits | 07 Table 7.6 | reset 0 -/
  incompleteRecords : Nat := 0
  /-- FINAL_WAIT_MAX | 32 bits | 07 Table 7.6 | reset 0 -/
  finalWaitMax : Nat := 0
  /-- SEAM_OBJECTS | 32 bits | 07 Table 7.6 | reset 0 -/
  seamObjects : Nat := 0
  deriving DecidableEq, Repr

end Sys2Proof.Machine
end

