-- ==== Sys2Proof/Types/Eject.lean ====
section
/-! DEFINITION. The plain data of the Gust path and of the ejector scheduler (08, 11). -/

namespace Sys2Proof.Machine

/-- A rule (08 Table 8.4), as its sixteen bytes give it. -/
structure GustRule where
  threshA : Nat := 0
  threshB : Nat := 0
  sel : Nat := 0
  cmp : Nat := 0
  verdict : Nat := 0
  flags : Nat := 0
  priority : Nat := 0
  sel2 : Nat := 0
  reserved : Nat := 0
  deriving DecidableEq, Repr

/-- A rule bank (08 R186, R195). -/
structure GustBank where
  /-- 256 rules | 16 bytes each | 08 Table 8.4 | reset zero -/
  rules : List GustRule := List.replicate 256 {}
  /-- DEFAULT_VERDICT | 4 bits | 08 R196 | reset 1 in bank 0, 0 in bank 1 -/
  default : Nat := 0
  /-- BANK_LOADED | 1 bit | 08 Table 8.7 | reset 1 in bank 0 -/
  loaded : Bool := false
  deriving DecidableEq, Repr

/-- The Gust path (08). -/
structure GustBlock where
  bank : Vector GustBank 2 := (Vector.replicate 2 {}).set 0 { default := 1, loaded := true }
  /-- BANK_ACT | 1 bit | 08 Table 8.7 | reset 0 -/
  act : Fin 2 := 0
  /-- SWAP_PENDING | 1 bit | 08 Table 8.7 | reset 0 -/
  swapPending : Bool := false
  /-- LOAD_OPEN | 1 bit | 08 Table 8.7 | reset 0 -/
  loadOpen : Bool := false
  /-- ACCEPT_COUNT | 32 bits | 08 Table 8.8 | reset 0 -/
  accept : Nat := 0
  /-- REJECT_COUNT | 32 bits | 08 Table 8.8 | reset 0 -/
  reject : Nat := 0
  /-- MARK_COUNT | 32 bits | 08 Table 8.8 | reset 0 -/
  mark : Nat := 0
  /-- REFER_COUNT | 32 bits | 08 Table 8.8 | reset 0 -/
  refer : Nat := 0
  /-- DEFAULT_COUNT | 32 bits | 08 Table 8.8 | reset 0 -/
  defaults : Nat := 0
  /-- REFER_OVERFLOW | 32 bits | 08 Table 8.8 | reset 0 -/
  referOverflow : Nat := 0
  /-- SWAPS | 32 bits | 08 Table 8.8 | reset 0 -/
  swaps : Nat := 0
  /-- RULE_ECC_CORR | 32 bits | 08 Table 8.8 | reset 0 -/
  eccCorr : Nat := 0
  /-- RULE_ECC_UNCORR | 32 bits | 08 Table 8.8 | reset 0 -/
  eccUncorr : Nat := 0
  /-- HIT_0 to HIT_255 | 256 x 32 bits | 08 Table 8.8 | reset 0 -/
  hit : Vector Nat 256 := Vector.replicate 256 0
  /-- per-device sequence, the next value | 52 bits | 13 R309, R310 | reset 0 (set from RESERVE at start-up) -/
  sequence : Nat := 0
  deriving DecidableEq, Repr

/-- A valve command (11 Table 11.1). -/
structure ValveCmd where
  fireKey : Nat := 0
  duration : Nat := 1
  first : Nat := 0
  last : Nat := 0
  row : Nat := 0
  posMode : Bool := false
  noValves : Bool := false
  /-- the bank in use held no map: the command fires no marker (11 R262) -/
  noMap : Bool := false
  deriving DecidableEq, Repr

/-- A command with its final verdict on its way into the scheduler (11 R260). -/
structure EjEntry where
  cmd : ValveCmd
  verdict : Nat
  /-- it comes through the Gust crossing (08 R185) -/
  fromGust : Bool
  deriving DecidableEq, Repr

/-- A command in the slot table or in the position list (11 R267, R269). -/
structure EjCmd where
  cmd : ValveCmd
  valves : Bool
  markers : Bool
  /-- first and last slot start, in TB0 nanoseconds (time mode) -/
  from_ : Int := 0
  until_ : Int := 0
  /-- model time of entry (position mode) -/
  entered : Nat := 0
  marked : Bool := false
  /-- marker zones that it fires, as configured at its entry (11 R270, R281) -/
  zones : List Nat := []
  /-- part of a test pulse -/
  test : Bool := false
  deriving DecidableEq, Repr

/-- Row map (11 R262). -/
structure RowMap where
  vbase : Nat
  firstCols : List Nat
  endCol : Nat
  deriving DecidableEq, Repr

/-- A valve row (11 Table 11.5, R262, R263). -/
structure EjRow where
  /-- maps of banks 0 and 1 | 8 KiB each | 11 R262 | reset none -/
  map : Vector (Option RowMap) 2 := Vector.replicate 2 none
  /-- MAP_BANK_ACT bit | 1 bit | 11 Table 11.6 | reset 0 -/
  act : Fin 2 := 0
  /-- a swap waits for a union row start | 1 bit | 11 R263 | reset 0 -/
  swapPending : Bool := false
  /-- load in progress into the inactive bank | 11 R263 | reset none -/
  load : Option LoadState := none
  /-- MODE POSITION | 1 bit | 11 Table 11.5 | reset TIME -/
  posMode : Bool := false
  /-- FLIGHT_NS | 30 bits | 11 Table 11.5 | reset 0 -/
  flight : Nat := 0
  /-- LEAD_NS | 30 bits | 11 Table 11.5 | reset 0 -/
  lead : Nat := 0
  /-- STRETCH | 16.16 | 11 Table 11.5 | reset 0x10000 -/
  stretch : Nat := 0x10000
  /-- EXTEND_NS | signed 32 bits | 11 Table 11.5 | reset 0 -/
  extend : Int := 0
  /-- DIST_COUNTS | 40 bits | 11 Table 11.5 | reset 0 -/
  dist : Nat := 0
  /-- LEAD_COUNTS | 40 bits | 11 Table 11.5 | reset 0 -/
  leadCounts : Nat := 0
  /-- EXTEND_COUNTS | signed 32 bits | 11 Table 11.5 | reset 0 -/
  extendCounts : Int := 0
  deriving DecidableEq, Repr

/-- A valve frame (11 Table 11.3). -/
structure ValveFrame where
  safe : Bool
  flags : Nat
  seq : Nat
  slotTs : Ts32
  bitmap : List Byte
  deriving DecidableEq, Repr

/-- A valve link (11 R271 to R279, Table 11.7). -/
structure EjLink where
  /-- LINK_STATE | 2 bits | 11 Table 11.7 | reset DISABLED -/
  state : UnitState := .disabled
  /-- ENABLE_PENDING | 1 bit | 11 Table 11.7 | reset 0 -/
  enablePending : Bool := false
  /-- LINK_UP | 1 bit | 11 Table 11.7 | reset 0 -/
  up : Bool := false
  /-- ARM: 0 DISARMED, 1 RUN, 2 TEST | 2 bits | 11 Table 11.7 | reset 0 -/
  arm : Nat := 0
  /-- ARM from the next freeze point on | 2 bits | 11 R277 | reset 0 -/
  armNext : Nat := 0
  /-- FAULTED | 1 bit | 11 Table 11.7 | reset 0 -/
  faulted : Bool := false
  /-- LAST_STATUS | 8 bits | 11 Table 11.7 | reset 0 -/
  lastStatus : Nat := 0
  /-- TX_SEQ | 16 bits | 11 Table 11.7 | reset 0 -/
  txSeq : Nat := 0
  /-- SEQ of the next frame | 16 bits | 11 R271 | reset 0 -/
  nextSeq : Nat := 0
  /-- ACK_MISS | 32 bits | 11 Table 11.7 | reset 0 -/
  ackMiss : Nat := 0
  /-- ACK_NAK | 32 bits | 11 Table 11.7 | reset 0 -/
  ackNak : Nat := 0
  /-- ACK_CRC_ERR | 32 bits | 11 Table 11.7 | reset 0 -/
  ackCrcErr : Nat := 0
  /-- SAFE_FRAMES | 32 bits | 11 Table 11.7 | reset 0 -/
  safeFrames : Nat := 0
  /-- FAULTS | 32 bits | 11 Table 11.7 | reset 0 -/
  faults : Nat := 0
  /-- ACK_RTT_MAX | 16 bits | 11 Table 11.7 | reset 0 -/
  rttMax : Nat := 0
  /-- consecutive good acknowledgements | 7 bits | 11 R273, R275 | reset 0 -/
  goodRun : Nat := 0
  /-- consecutive missed frames | 5 bits | 11 R273 | reset 0 -/
  missRun : Nat := 0
  /-- SEQ and end time of the frames that await their acknowledgement, oldest first | 11 R272 | reset none -/
  awaiting : List (Nat × Nat) := []
  /-- frame formed at the freeze point | 11 R266 | reset none -/
  frame : Option ValveFrame := none
  /-- start of the slot whose frame was sent at a Gale, in TB0 nanoseconds | 11 R278 | reset none -/
  galeFrame : Option Int := none
  /-- SAFE frames still to send in a drain | 5 bits | 11 R275 | reset 0 -/
  drainLeft : Nat := 0
  /-- safe pattern | 64 bytes | 11 R279 | reset 0 -/
  safe : List Byte := List.replicate 64 0
  /-- safe pattern that applies from the next freeze point | 11 R279 | reset none -/
  safeNext : Option (List Byte) := none
  /-- load of the safe pattern in progress | 11 R263 | reset none -/
  load : Option LoadState := none
  deriving DecidableEq, Repr

/-- A marker zone (11 Table 11.5). -/
structure MarkZone where
  enable : Bool := false
  first : Nat := 0
  last : Nat := 0
  deriving DecidableEq, Repr

/-- ACTION of a verdict (11 R261). -/
inductive EjAction where
  | none | valves | markers | both
  deriving DecidableEq, Repr

/-- A test pulse sequence (11 R280). -/
structure TestPulse where
  first : Nat
  last : Nat
  slots : Nat
  gap : Nat
  /-- repetitions still to enter -/
  left : Nat
  /-- start of the next one, TB0 nanoseconds -/
  next : Int
  /-- last slot start of the sequence so far -/
  until_ : Int
  deriving DecidableEq, Repr

/-- The ejector scheduler (11). -/
structure EjBlock where
  /-- SLOT_NS | 20 bits | 11 Table 11.5 | reset 100,000 -/
  slotNs : Nat := 100000
  /-- PHASE_NS | 20 bits | 11 Table 11.5 | reset 0 -/
  phaseNs : Nat := 0
  /-- ACK_TIMEOUT_NS | 13 bits | 11 Table 11.5 | reset 4,000 -/
  ackTimeout : Nat := 4000
  /-- ACK_MISS_LIMIT | 5 bits | 11 Table 11.5 | reset 1 -/
  missLimit : Nat := 1
  /-- ACTION for ACCEPT, REJECT, MARK | 3 x 2 bits | 11 Table 11.5 | reset NONE, VALVES, MARKERS -/
  action : List EjAction := [.none, .valves, .markers]
  /-- ROW_OF_CLASS | 16 x 2 bits | 11 Table 11.5 | reset 0 -/
  rowOfClass : List Nat := List.replicate 16 0
  /-- MARGIN | 12 bits | 11 Table 11.5 | reset 0 -/
  margin : Nat := 0
  /-- MIN_ON | 7 bits | 11 Table 11.5 | reset 1 -/
  minOn : Nat := 1
  /-- MAX_ON | 12 bits | 11 Table 11.5 | reset 4,094 -/
  maxOn : Nat := 4094
  /-- POS_MAX_WAIT_MS | 16 bits | 11 Table 11.5 | reset 10,000 -/
  posMaxWait : Nat := 10000
  /-- MARK_ZONE[0..7] | 8 zones | 11 Table 11.5 | reset disabled -/
  zone : List MarkZone := List.replicate 8 {}
  row : Vector EjRow 4 := Vector.replicate 4 {}
  link : Vector EjLink 4 := Vector.replicate 4 {}
  /-- commands on their way into the scheduler, oldest first | 11 R260, 01 R16 | reset none -/
  entries : List EjEntry := []
  /-- pending time-mode commands | at most 65,536 | 11 R267 | reset none -/
  pendTime : List EjCmd := []
  /-- position list | at most 4,096 | 11 R269 | reset none -/
  pendPos : List EjCmd := []
  /-- start of the last frozen slot, in TB0 nanoseconds | 11 R266 | reset none -/
  frozen : Option Int := none
  /-- the bitmap of the frozen slot | 256 bytes | 11 R266 | reset 0 -/
  bitmap : List Bool := []
  /-- the frozen slot has not started yet | 1 bit | 11 R266 | reset 0 -/
  slotDue : Bool := false
  /-- markers to fire at the next slot start: zone numbers | 11 R270 | reset none -/
  markDue : List Nat := []
  /-- GALE_SAFE | 1 bit | 11 Table 11.6 | reset 0 -/
  galeSafe : Bool := false
  /-- test pulse sequence running; TEST_ACTIVE | 11 R280 | reset none -/
  test : Option TestPulse := none
  /-- MARGIN_MIN | signed 32 bits | 11 Table 11.6 | reset 0x7FFF_FFFF -/
  marginMin : Int := 0x7FFFFFFF
  /-- CMD_ACCEPTED | 32 bits | 11 Table 11.8 | reset 0 -/
  accepted : Nat := 0
  /-- CMD_NONE | 32 bits | 11 Table 11.8 | reset 0 -/
  cmdNone : Nat := 0
  /-- LATE_PARTIAL | 32 bits | 11 Table 11.8 | reset 0 -/
  latePartial : Nat := 0
  /-- LATE_MISSED | 32 bits | 11 Table 11.8 | reset 0 -/
  lateMissed : Nat := 0
  /-- HORIZON_DROPPED | 32 bits | 11 Table 11.8 | reset 0 -/
  horizonDropped : Nat := 0
  /-- CMD_OVERFLOW | 32 bits | 11 Table 11.8 | reset 0 -/
  cmdOverflow : Nat := 0
  /-- DISARM_DROPPED | 32 bits | 11 Table 11.8 | reset 0 -/
  disarmDropped : Nat := 0
  /-- TEST_DROPPED | 32 bits | 11 Table 11.8 | reset 0 -/
  testDropped : Nat := 0
  /-- NO_VALVES_COUNT | 32 bits | 11 Table 11.8 | reset 0 -/
  noValves : Nat := 0
  /-- MARKS_FIRED | 32 bits | 11 Table 11.8 | reset 0 -/
  marksFired : Nat := 0
  /-- TEST_PULSES | 32 bits | 11 Table 11.8 | reset 0 -/
  testPulses : Nat := 0
  /-- CROSS3, CROSS4, CROSS5 | 3 x 32 bits | 08 Table 8.9 | reset 0 -/
  cross : List Nat := [0, 0, 0]
  deriving DecidableEq, Repr

end Sys2Proof.Machine
end

