-- ==== Sys2Proof/Types/Engine.lean ====
section
/-! DEFINITION. The plain data of the Ndedor engines, their clusters and the dispatcher (09). -/

namespace Sys2Proof.Machine

/-- STATE of an engine (09 Table 9.12). -/
inductive EngState where
  | off | idle | object | event | fenced | testing | loading
  deriving DecidableEq, Repr

/-- FAIL_CAUSE (09 Table 9.12). -/
inductive FailCause where
  | none | localEcc | watchdog | clock | selftest
  deriving DecidableEq, Repr

/-- An object that the dispatcher holds (09 R217, R223). -/
structure RefObj where
  record : ObjRecord
  /-- feature block (07 Table 7.3), 128 bytes -/
  features : List Byte
  cmd : ValveCmd
  /-- time key of the deadline -/
  timeKey : Ts32
  /-- position deadline, in POSITION mode -/
  posKey : Option Pos64
  cls : Fin 16
  /-- the class's parameters at closure (09 R229) -/
  pol : Policy
  crop : Bool
  redispatched : Bool := false
  /-- its fallback has been applied -/
  decided : Bool := false
  deriving DecidableEq, Repr

/-- What an engine works on. -/
inductive EngTask where
  | none
  /-- an object task, assigned, and whether its first instruction has issued -/
  | object (o : RefObj) (started : Bool)
  /-- an event task of a task input 0 to 3 -/
  | event (tin : Nat)
  deriving DecidableEq, Repr

/-- A transfer in a queue of an engine DMA unit (09 R210). -/
structure EngDma where
  put : Bool
  ext : Nat
  loc : Nat
  len : Nat
  rows : Nat
  extStride : Int
  locStride : Int
  /-- the task that issued it has ended (09 R234) -/
  stale : Bool := false
  deriving DecidableEq, Repr

/-- One engine (09 Tables 9.1, 9.12).  Its local memory is a part of the internal memory (01 Table 1.7). -/
structure Engine where
  /-- s0 to s31 | 32 x 32 bits | 09 Table 9.1 | reset 0 -/
  sreg : Vector Word 32 := Vector.replicate 32 0
  /-- v0 to v15 | 16 x 256 bits | 09 Table 9.1 | reset 0 -/
  vreg : Vector (BitVec 256) 16 := Vector.replicate 16 0
  /-- a0 to a3 | 4 x 1,024 bits | 09 Table 9.1 | reset 0 -/
  acc : Vector (BitVec 1024) 4 := Vector.replicate 4 0
  /-- p0 to p7 (p0 reads all ones) | 8 x 32 bits | 09 Table 9.1 | reset 0 -/
  pred : Vector Word 8 := Vector.replicate 8 0
  /-- program counter | 32 bits | 09 Table 9.1 | reset 0 (DESIGN CHOICE) -/
  pc : Word := 0
  /-- budget counter | 32 bits | 09 Table 9.1 | reset 0 (DESIGN CHOICE) -/
  budget : Nat := 0
  /-- STATE | 3 bits | 09 Table 9.12 | reset OFF -/
  state : EngState := .off
  /-- CLOCK in 10 MHz units | 8 bits | 09 Table 9.12 | reset 0 -/
  clock : Nat := 0
  /-- FAIL_CAUSE | 4 bits | 09 Table 9.12 | reset 0 -/
  failCause : FailCause := .none
  /-- FENCE_COUNT | 8 bits RS | 09 Table 9.12 | reset 0, kept over a warm reset -/
  fenceCount : Nat := 0
  /-- corrected local-memory errors | count | 09 R209 | reset 0 -/
  eccCorr : Nat := 0
  task : EngTask := .none
  /-- DMA queues 0 to 3 | 8 transfers each | 09 R212 | reset empty -/
  dma : Vector (List EngDma) 4 := Vector.replicate 4 []
  /-- the ENG_FENCE_CLEAR that the test under way answers | 09 R235 | reset none -/
  test : Option RegAccess := none
  deriving DecidableEq, Repr

/-- One cluster (09 Tables 9.11, 9.13). -/
structure Cluster where
  /-- CL_STATE | 2 bits | 09 Table 9.13 | reset DISABLED -/
  state : UnitState := .disabled
  /-- ENABLE_PENDING | 1 bit | 09 Table 9.13 | reset 0 -/
  enablePending : Bool := false
  /-- installed image; IMAGE_LOADED, IMAGE_ID | 09 R213, Table 9.13 | reset none -/
  image : Option (List Byte) := none
  /-- an accepted image that is still to be installed | 09 R215 | reset none -/
  installing : Option (List Byte) := none
  /-- CLASS_MASK | 16 bits | 09 Table 9.11 | reset 0xFFFF -/
  classMask : Nat := 0xFFFF
  /-- CLOCK_MAX in MHz | 11 bits | 09 Table 9.11 | reset 1,500 -/
  clockMax : Nat := 1500
  /-- SPILL_BASE | 40 bits | 09 Table 9.11 | reset 0 -/
  spillBase : Nat := 0
  /-- SPILL_SIZE | 33 bits | 09 Table 9.11 | reset 0 -/
  spillSize : Nat := 0
  /-- TIN_ENTRY[0..3] | 4 x 8 bits | 09 Table 9.11 | reset 0xFF -/
  tinEntry : Vector Nat 4 := Vector.replicate 4 0xFF
  /-- TIN_HOME[0..3] | 4 x 4 bits | 09 Table 9.11 | reset 0 -/
  tinHome : Vector (Fin 16) 4 := Vector.replicate 4 0
  deriving DecidableEq, Repr

/-- Engines, clusters and the dispatcher (09). -/
structure EngBlock where
  eng : Vector Engine 192 := Vector.replicate 192 {}
  cluster : Vector Cluster 12 := Vector.replicate 12 {}
  policy : Vector Policy 16 := Vector.replicate 16 {}
  /-- refer queue | at most 4,096 | 08 R193 | reset empty -/
  refer : List RefObj := []
  /-- re-dispatch list | at most 192 | 09 R232 | reset empty -/
  again : List RefObj := []
  /-- image transfer in progress: cluster mask and bytes | 17 R408 | reset none -/
  load : Option LoadState := none
  /-- engine program library in flash | 16 slots | 20 Table 20.2 | reset empty (DESIGN CHOICE: flash content) -/
  library : Vector (Option (List Byte)) 16 := Vector.replicate 16 none
  /-- DISPATCHED | 32 bits | 09 Table 9.14 | reset 0 -/
  dispatched : Nat := 0
  /-- VERDICTS | 32 bits | 09 Table 9.14 | reset 0 -/
  verdicts : Nat := 0
  /-- REDISPATCHED | 32 bits | 09 Table 9.14 | reset 0 -/
  redispatched : Nat := 0
  /-- FALLBACK_DEADLINE | 32 bits | 09 Table 9.14 | reset 0 -/
  fallbackDeadline : Nat := 0
  /-- FALLBACK_FAULT | 32 bits | 09 Table 9.14 | reset 0 -/
  fallbackFault : Nat := 0
  /-- LATE_RESULTS | 32 bits | 09 Table 9.14 | reset 0 -/
  lateResults : Nat := 0
  /-- NO_ELIGIBLE | 32 bits | 09 Table 9.14 | reset 0 -/
  noEligible : Nat := 0
  /-- PROG_FAULTS | 32 bits | 09 Table 9.14 | reset 0 -/
  progFaults : Nat := 0
  /-- ENGINE_FAILURES | 32 bits | 09 Table 9.14 | reset 0 -/
  failures : Nat := 0
  /-- WAITING_PEAK | 13 bits | 09 Table 9.14 | reset 0 -/
  waitingPeak : Nat := 0
  /-- SLACK_MIN | 32 bits | 09 Table 9.14 | reset 0xFFFF_FFFF -/
  slackMin : Word := 0xFFFFFFFF#32
  /-- SLACK_MIN holds a measured value | 1 bit | 09 R228 | reset 0 (DEDUCED: the reset value stands for none) -/
  slackSeen : Bool := false
  deriving DecidableEq, Repr

end Sys2Proof.Machine
end

