-- ==== Sys2Proof/Types/Output.lean ====
section
/-! DEFINITION. The plain data of the Fathom rings, the crops, the strips and the output rings (14). -/

namespace Sys2Proof.Machine

/-- The Fathom ring of a pipe (14 Tables 14.1, 14.10). -/
structure FathomPipe where
  /-- ENABLE / ENABLED | 1 bit | 14 Table 14.1 | reset 0 -/
  enable : Bool := false
  /-- DEPTH | 5 bits | 14 Table 14.1 | reset 12 -/
  depth : Nat := 12
  /-- CH_MASK | 8 bits | 14 Table 14.1 | reset 0x0F -/
  chMask : Nat := 0x0F
  /-- BASE | 40 bits | 14 Table 14.1 | reset 0 -/
  base : Nat := 0
  /-- LINES | 25 bits | 14 Table 14.1 | reset 65,536 -/
  lines : Nat := 65536
  /-- MAX_LINE_HZ | 18 bits | 14 Table 14.1 | reset 131,000 -/
  maxLineHz : Nat := 131000
  /-- STRIDE, P in bytes | 32 bits | 14 Table 14.10 | reset 0 -/
  stride : Nat := 0
  /-- LINE_PIXELS used for P | 15 bits | 14 R328 | reset 0 -/
  linePixels : Nat := 0
  /-- SKIPPED_LINES | 32 bits | 14 Table 14.10 | reset 0 -/
  skipped : Nat := 0
  /-- RATE_OVER | 32 bits | 14 Table 14.10 | reset 0 -/
  rateOver : Nat := 0
  /-- ECC_BAD_LINES | 32 bits | 14 Table 14.10 | reset 0 -/
  eccBad : Nat := 0
  /-- RATE_PEAK_HZ / 1,000 | 32 bits | 14 Table 14.10 | reset 0 -/
  ratePeak : Nat := 0
  /-- TB0 millisecond of the present window and lines stored in it | 14 R330 | reset 0 -/
  windowMs : Nat := 0
  windowLines : Nat := 0
  /-- lines in staging: number, index entry (24 bytes before STORE) and payload | 256 KiB | 14 R330 | reset none -/
  staging : List (Nat × List Byte × List Byte) := []
  deriving DecidableEq, Repr

/-- A piece of a crop (14 R333, R334). -/
structure CropPiece where
  pipe : Fin 12
  x0 : Nat
  width : Nat
  /-- first input row of the piece and its number of rows -/
  rowLo : Nat
  count : Nat
  /-- LINE_NUMBER of each row, none where the row is MISSING; filled when cutting starts -/
  rows : List (Option Nat) := []
  truncated : Bool
  flip : Bool
  deriving DecidableEq, Repr

/-- An object waiting for its crop (14 R335, R336). -/
structure CropJob where
  record : ObjRecord
  pieces : List CropPiece
  colLo : Nat
  colHi : Nat
  /-- cutting has started (R335) -/
  started : Bool := false
  deriving DecidableEq, Repr

/-- Strip conversion settings: `CODER_CONFIG` of a pipe (17 Table 17.12). -/
structure CoderCfg where
  /-- ENABLE | 1 bit | 17 Table 17.12 | reset 0 (DESIGN CHOICE: the spec gives none) -/
  enable : Bool := false
  /-- depth P | 5 bits | 14 Table 14.5 | reset 8 (DESIGN CHOICE) -/
  depth : Nat := 8
  /-- CH_MASK | 8 bits | 17 Table 17.12 | reset 0x0F (DESIGN CHOICE) -/
  chMask : Nat := 0x0F
  /-- NEAR | 3 bits | 14 Table 14.5 | reset 0 (DESIGN CHOICE) -/
  near : Nat := 0
  /-- ILV 2 | 1 bit | 14 Table 14.5 | reset 0 -/
  ilv : Nat := 0
  /-- RESTART_LINES | 16 bits | 14 Table 14.5 | reset 0 (DESIGN CHOICE) -/
  restart : Nat := 0
  /-- STRIP_ROWS | 11 bits | 14 R337 | reset 64 (DESIGN CHOICE) -/
  stripRows : Nat := 64
  deriving DecidableEq, Repr

/-- `PREVIEW_CONFIG` of a pipe (04 R107, 17 Table 17.12). -/
structure PreviewCfg where
  /-- ENABLE | 1 bit | 17 Table 17.12 | reset 0 (DESIGN CHOICE) -/
  enable : Bool := false
  /-- FORMAT 2 RGB888, 3 YCBCR422 | 2 bits | 17 Table 17.12 | reset 2 (DESIGN CHOICE) -/
  format : Nat := 2
  /-- MONO | 1 bit | 17 Table 17.12 | reset 0 (DESIGN CHOICE) -/
  mono : Bool := false
  /-- SRC_R, SRC_G, SRC_B | 3 x 3 bits | 17 Table 17.12 | reset 0, 1, 2 (DESIGN CHOICE) -/
  src : List Nat := [0, 1, 2]
  /-- XSCALE | 5 bits | 04 R107 | reset 1 (DESIGN CHOICE) -/
  xscale : Nat := 1
  /-- K | 16 bits | 04 R107 | reset 0x1000 -/
  k : Nat := 0x1000
  /-- CURVE LINEAR | 1 bit | 04 R107 | reset SRGB (DESIGN CHOICE) -/
  linear : Bool := false
  /-- STRIP_ROWS | 11 bits | 14 R337 | reset 64 (DESIGN CHOICE) -/
  stripRows : Nat := 64
  deriving DecidableEq, Repr

/-- Machine-vision strip settings of a ring (14 Table 14.6). -/
structure MvCfg where
  /-- MV_DEPTH | 5 bits | 14 Table 14.6 | reset 16 -/
  depth : Nat := 16
  /-- MV_CH_MASK | 8 bits | 14 Table 14.6 | reset 0x0F -/
  chMask : Nat := 0x0F
  /-- STRIP_ROWS | 11 bits | 14 Table 14.6 | reset 64 -/
  stripRows : Nat := 64
  deriving DecidableEq, Repr

/-- Which strip a row goes to: an MV strip of a ring, the coded strip or the preview strip of the pipe. -/
inductive StripKind where
  | mv (ring : Fin 16) | coded | preview
  deriving DecidableEq, Repr

/-- A strip being gathered (14 R337). -/
structure Strip where
  kind : StripKind
  format : Nat
  chMask : Nat
  width : Nat
  rowBytes : Nat
  /-- packed rows in order, each with its COARSE bits per pixel -/
  rows : List (List Byte × List Bool) := []
  first : LineTag
  last : LineTag
  bolt : Nat
  newParams : Bool
  /-- samples of CODED rows -/
  samples : Nat := 0
  /-- the rows of a CODED strip as samples: per row, per pixel, per channel (14 R338) -/
  pixels : List (List (List Nat)) := []
  deriving DecidableEq, Repr

/-- Strips of one pipe: settings in use, settings that wait for the next bolt boundary, strips in progress. -/
structure StripUnit where
  coder : CoderCfg := {}
  coderNext : Option CoderCfg := none
  preview : PreviewCfg := {}
  previewNext : Option PreviewCfg := none
  /-- machine-vision settings in use per ring -/
  mv : Vector MvCfg 16 := Vector.replicate 16 {}
  mvNext : Vector (Option MvCfg) 16 := Vector.replicate 16 none
  strips : List Strip := []
  /-- kinds whose next strip carries NEW_PARAMS -/
  fresh : List StripKind := []
  deriving DecidableEq, Repr

/-- An output item (14 Table 14.8) before it is put into messages. -/
structure OutItem where
  kind : Nat
  source : Option (Fin 12)
  payload : List Byte
  /-- the one ring it is for, when its settings are a ring's own (MV_STRIP) -/
  ring : Option (Fin 16) := none
  deriving DecidableEq, Repr

/-- A message of a ring: MSG_SEQ is given when it is formed (14 Table 14.7). -/
structure OutMsg where
  kind : Nat
  source : Option (Fin 12)
  seq : Nat
  bytes : List Byte
  deriving DecidableEq, Repr

/-- Parameters of an output ring (14 Table 14.6). -/
structure RingCfg where
  /-- DEST UDP | 1 bit | 14 Table 14.6 | reset HOST -/
  udp : Bool := false
  /-- KINDS | 9 bits | 14 Table 14.6 | reset 0 -/
  kinds : Nat := 0
  /-- SOURCE_MASK | 12 bits | 14 Table 14.6 | reset 0xFFF -/
  sources : Nat := 0xFFF
  /-- BASE | 64 bits | 14 Table 14.6 | reset 0 (DESIGN CHOICE) -/
  base : Nat := 0
  /-- SIZE | 31 bits | 14 Table 14.6 | reset 1 MiB -/
  size : Nat := 0x100000
  /-- PROD_ADDR | 64 bits | 14 Table 14.6 | reset 0 (DESIGN CHOICE) -/
  prodAddr : Nat := 0
  /-- INT_COUNT | 16 bits | 14 Table 14.6 | reset 1 -/
  intCount : Nat := 1
  /-- INT_US | 14 bits | 14 Table 14.6 | reset 0 -/
  intUs : Nat := 0
  /-- PORT | 2 bits | 14 Table 14.6 | reset E0 -/
  port : Fin 4 := 0
  /-- DEST_IP | 32 bits | 14 Table 14.6 | reset 0 (DESIGN CHOICE) -/
  destIp : Nat := 0
  /-- DEST_UDP | 16 bits | 14 Table 14.6 | reset 23,117 -/
  destUdp : Nat := 23117
  /-- SRC_UDP | 16 bits | 14 Table 14.6 | reset 23,117 -/
  srcUdp : Nat := 23117
  /-- DSCP | 6 bits | 14 Table 14.6 | reset 0 -/
  dscp : Nat := 0
  /-- DGRAM_MAX | 14 bits | 14 Table 14.6 | reset 1,472 -/
  dgramMax : Nat := 1472
  /-- RATE_MBPS | 14 bits | 14 Table 14.6 | reset 100 -/
  rate : Nat := 100
  /-- BATCH | 6 bits | 14 Table 14.6 | reset 1 -/
  batch : Nat := 1
  /-- FLUSH_US | 10 bits | 14 Table 14.6 | reset 10 -/
  flushUs : Nat := 10
  mv : MvCfg := {}
  deriving DecidableEq, Repr

/-- One output ring (14 Table 14.11, R340 to R345). -/
structure OutRing where
  cfg : RingCfg := {}
  /-- STATE | 2 bits | 14 Table 14.11 | reset DISABLED -/
  state : UnitState := .disabled
  /-- ENABLE_PENDING | 1 bit | 14 Table 14.11 | reset 0 -/
  enablePending : Bool := false
  /-- session that last configured it | 14 R340 | reset none -/
  owner : Option Nat := none
  /-- MSG_SEQ | 32 bits | 14 Table 14.11 | reset 0 -/
  msgSeq : Nat := 0
  /-- PRODUCER | 32 bits | 14 Table 14.11 | reset 0 -/
  producer : Nat := 0
  /-- DROPPED | 32 bits | 14 Table 14.11 | reset 0 -/
  dropped : Nat := 0
  /-- HELD_PEAK | 32 bits | 14 Table 14.11 | reset 0 -/
  heldPeak : Nat := 0
  /-- bytes of the busiest 100 ms window; RATE_PEAK_MBPS | 32 bits | 14 Table 14.11 | reset 0 -/
  ratePeak : Nat := 0
  /-- OVERSIZE | 32 bits | 14 Table 14.11 | reset 0 -/
  oversize : Nat := 0
  /-- the next message carries GAP | 1 bit | 14 R343 | reset 0 -/
  gap : Bool := false
  /-- open batches: kind, items so far | 14 R341 | reset none -/
  batches : List (Nat × List (List Byte)) := []
  /-- messages held in staging, oldest first | 14 R343 | reset none -/
  held : List OutMsg := []
  /-- fragments to send: message, offset, bytes | 14 R345 | reset none -/
  frags : List (OutMsg × Nat × List Byte) := []
  /-- DGRAM_SEQ | 32 bits | 14 Table 14.9 | reset 0 -/
  dgramSeq : Nat := 0
  /-- token bucket of the shaper in 1/1,000 byte and the model time it was last filled | 14 R343 | reset full -/
  tokens : Nat := 65536000
  tokensAt : Nat := 0
  /-- messages since the last MSI-X message of the ring | 14 Table 14.6 | reset 0 -/
  irqCount : Nat := 0
  /-- 100 ms window of TB0 and bytes sent in it | 14 Table 14.11 | reset 0 -/
  window : Nat := 0
  windowBytes : Nat := 0
  deriving DecidableEq, Repr

/-- The output subsystem (14). -/
structure OutBlock where
  /-- Fathom rings of P0 to P11 | 14 Table 14.10 | reset per field -/
  fathom : Vector FathomPipe 12 := Vector.replicate 12 {}
  /-- MARGIN_ROWS | 11 bits | 14 Table 14.1 | reset 16 -/
  marginRows : Nat := 16
  /-- MARGIN_COLS | 11 bits | 14 Table 14.1 | reset 16 -/
  marginCols : Nat := 16
  /-- CROP_MAX_ROWS | 15 bits | 14 Table 14.1 | reset 4,096 -/
  cropMaxRows : Nat := 4096
  /-- CROP_MAX_COLS | 15 bits | 14 Table 14.1 | reset 4,096 -/
  cropMaxCols : Nat := 4096
  /-- CROP_WAIT_US | 17 bits | 14 Table 14.1 | reset 2,000 -/
  cropWaitUs : Nat := 2000
  /-- CROP_CODE: 0 RAW, 1 CODED, 2 BOTH | 2 bits | 14 Table 14.1 | reset RAW -/
  cropCode : Nat := 0
  /-- BUDGET_USED as B in bytes per second | 14 Table 14.10 | reset 0 -/
  budget : Nat := 0
  /-- objects waiting for or in their crop | at most 1,024 | 14 R336 | reset none -/
  jobs : List CropJob := []
  /-- CROP_QUEUE_PEAK | 11 bits | 14 Table 14.10 | reset 0 -/
  jobsPeak : Nat := 0
  /-- CROPS_CUT | 32 bits | 14 Table 14.10 | reset 0 -/
  cropsCut : Nat := 0
  /-- CROPS_EXPIRED | 32 bits | 14 Table 14.10 | reset 0 -/
  cropsExpired : Nat := 0
  /-- CROPS_EMPTY | 32 bits | 14 Table 14.10 | reset 0 -/
  cropsEmpty : Nat := 0
  /-- CROP_DROPPED | 32 bits | 14 Table 14.10 | reset 0 -/
  cropDropped : Nat := 0
  /-- CODER_DROPPED | 32 bits | 14 Table 14.10 | reset 0 -/
  coderDropped : Nat := 0
  /-- CROP_CODED_MSPS | 12 bits | 14 R339 | reset 0 (DESIGN CHOICE) -/
  cropCodedMsps : Nat := 0
  /-- coder backlog: model time in ps at which the accepted work ends | 14 R339 | reset 0 -/
  coderBusyUntil : Nat := 0
  strip : Vector StripUnit 12 := Vector.replicate 12 {}
  /-- items waiting to be put into messages, oldest first | 14 R341 | reset none -/
  items : List OutItem := []
  /-- RESULT_SEQ | 32 bits | 14 R341 | reset 0 -/
  resultSeq : Nat := 0
  /-- OR0 to OR15 | 14 Table 14.11 | reset per field -/
  ring : Vector OutRing 16 := Vector.replicate 16 {}
  deriving DecidableEq, Repr

end Sys2Proof.Machine
end

