-- ==== Sys2Proof/Types/Net.lean ====
section
/-! DEFINITION. The plain data of the Ethernet ports and of the PTP instances (12 R283 to R300). -/

namespace Sys2Proof.Machine

/-- Modes of an Ethernet port (12 Table 12.2 MODE). -/
inductive EthMode where
  | off | x1000 | r10g | r25g
  deriving DecidableEq, Repr

/-- What the MAC does with the transmit stamp of a PTP message as it passes (12 R296, R299, R300): nothing, write it into
originTimestamp, add the time since a receive stamp to correctionField, or hold it for firmware. -/
inductive TxStamp where
  | none
  | origin (b : Fin 4)
  | passage (b : Fin 4) (rx : Int)
  | hold (i : Fin 4) (peer : Bool) (seq : Nat)
  deriving DecidableEq, Repr

/-- A frame queued at an Ethernet port (12 R286). -/
structure TxFrame where
  /-- place in the precedence of R286: 0 PTP event, 1 Ell, 2 PTP general, 3 management, 4 output stream -/
  cls : Nat
  /-- model time at which it became due -/
  at_ : Nat
  /-- forwarded by a transparent-clock pair (12 R300) -/
  forwarded : Bool := false
  /-- bytes from the destination address to the FCS -/
  len : Nat
  out : Out
  use : TxStamp := .none
  /-- position of its transmission within the tick and ALIGN, in units of 2^-16 ns (12 R288, R296) -/
  sub : Nat := 0
  align : Nat := 0
  deriving DecidableEq, Repr

/-- One Ethernet port (12 R283 to R286, Table 12.2). -/
structure EthPort where
  /-- MODE | 2 bits | 12 Table 12.2 | reset OFF -/
  mode : EthMode := .off
  /-- FEC_ON | 1 bit | 12 Table 12.2 | reset 0 -/
  fec : Bool := false
  /-- clause 37 auto-negotiation | 1 bit | 12 Table 12.1 | reset 0 -/
  autoNeg : Bool := false
  /-- LINK_UP | 1 bit | 12 Table 12.2 | reset 0 -/
  up : Bool := false
  /-- MAC address | 48 bits | 12 R285 | reset 0 (DESIGN CHOICE: the spec gives none) -/
  mac : Nat := 0
  /-- VLAN ID, 0 untagged | 12 bits | 12 R285 | reset 0 (DESIGN CHOICE) -/
  vlan : Nat := 0
  /-- IPv4 address | 32 bits | 12 R285 | reset 0 (DESIGN CHOICE) -/
  ip : Nat := 0
  /-- netmask | 32 bits | 17 Table 17.11 | reset 0 (DESIGN CHOICE) -/
  netmask : Nat := 0
  /-- gateway | 32 bits | 17 Table 17.11 | reset 0 (DESIGN CHOICE) -/
  gateway : Nat := 0
  /-- multicast groups, IPv4 | up to 16 x 32 bits | 12 R285, 17 Table 17.11 | reset none -/
  groups : List Nat := []
  /-- RX_FRAMES | 32 bits | 12 Table 12.2 | reset 0 -/
  rxFrames : Nat := 0
  /-- TX_FRAMES | 32 bits | 12 Table 12.2 | reset 0 -/
  txFrames : Nat := 0
  /-- FCS_ERR | 32 bits | 12 Table 12.2 | reset 0 -/
  fcsErr : Nat := 0
  /-- RX_DROP | 32 bits | 12 Table 12.2 | reset 0 -/
  rxDrop : Nat := 0
  /-- PTP_RX | 32 bits | 12 Table 12.2 | reset 0 -/
  ptpRx : Nat := 0
  /-- PTP_TX | 32 bits | 12 Table 12.2 | reset 0 -/
  ptpTx : Nat := 0
  /-- USER_TX_NS | signed 16.16 | 12 R297 | reset 0 (DESIGN CHOICE) -/
  userTx : Int := 0
  /-- USER_RX_NS | signed 16.16 | 12 R297 | reset 0 (DESIGN CHOICE) -/
  userRx : Int := 0
  /-- DELAY_ASYM_NS | signed 16.16 | 12 R297 | reset 0 (DESIGN CHOICE) -/
  asym : Int := 0
  /-- meanLinkDelay | units of 2^-16 ns | 12 R300 | reset 0 -/
  linkDelay : Int := 0
  /-- queued frames | 12 R286 | reset none -/
  txQueue : List TxFrame := []
  /-- bits of the frame in transmission that are still to leave | 17 bits | 12 R286 | reset 0 -/
  txLeft : Nat := 0
  deriving DecidableEq, Repr

/-- A received Ethernet frame, without preamble, as the MAC sees it. -/
structure EthFrame where
  fcsOk : Bool
  dst : Nat
  src : Nat
  vlan : Option Nat
  etherType : Nat
  payload : List Byte
  /-- length in bytes with header and FCS -/
  len : Nat
  deriving DecidableEq, Repr

/-- A foreign master heard on a port (12 R298; IEEE 1588-2019): its last Announce, and when that and the one before came. -/
structure Foreign where
  msg : PtpMsg
  last : Nat
  prev : Option Nat := none
  deriving DecidableEq, Repr

/-- One PTP instance (12 R298, Table 12.6). -/
structure PtpInst where
  /-- ENABLE | 1 bit | 12 R298 | reset 0 (DESIGN CHOICE) -/
  enable : Bool := false
  /-- clock type boundary | 1 bit | 12 R298 | reset ordinary (DESIGN CHOICE) -/
  boundary : Bool := false
  /-- delay mechanism P2P | 1 bit | 12 R298 | reset E2E (DESIGN CHOICE) -/
  p2p : Bool := false
  /-- transport UDP/IPv4 | 1 bit | 12 R298 | reset IEEE 802.3 (DESIGN CHOICE) -/
  udp : Bool := false
  /-- slaveOnly | 1 bit | 12 R298 | reset 1 -/
  slaveOnly : Bool := true
  /-- domainNumber | 7 bits | 12 R298 | reset 0 (DESIGN CHOICE) -/
  domain : Nat := 0
  /-- port mask | 4 bits | 12 R298 | reset 0 (DESIGN CHOICE) -/
  ports : Nat := 0
  /-- priority1 | 8 bits | 12 R298 | reset 128 -/
  priority1 : Nat := 128
  /-- priority2 | 8 bits | 12 R298 | reset 128 -/
  priority2 : Nat := 128
  /-- clockClass | 8 bits | 12 R298 | reset 248 -/
  clockClass : Nat := 248
  /-- logSyncInterval | signed 8 bits | 12 R298 | reset 0 -/
  logSync : Int := 0
  /-- logAnnounceInterval | signed 8 bits | 12 R298 | reset 1 -/
  logAnnounce : Int := 1
  /-- announceReceiptTimeout | signed 8 bits | 12 R298 | reset 3 -/
  receiptTimeout : Int := 3
  /-- logMinDelayReqInterval | signed 8 bits | 12 R298 | reset 0 -/
  logDelayReq : Int := 0
  /-- logMinPdelayReqInterval | signed 8 bits | 12 R298 | reset 0 -/
  logPdelayReq : Int := 0
  /-- portState of E0 to E3 | IEEE 1588 code | 17 Table 17.11 | reset DISABLED 3 (PRESUMED: IEEE 1588-2019) -/
  portState : Vector Nat 4 := Vector.replicate 4 3
  /-- foreign masters heard on each port | 12 R298 | reset none -/
  foreign : Vector (List Foreign) 4 := Vector.replicate 4 []
  /-- Announce of the master that is followed | 12 R298 | reset none -/
  parent : Option PtpMsg := none
  /-- port that follows a master | 12 R298 | reset none -/
  slavePort : Option (Fin 4) := none
  /-- sequence of sent messages | 16 bits | 12 R298 | reset 0 -/
  seq : Nat := 0
  /-- meanPathDelay | units of 2^-16 ns | 17 Table 17.11 | reset 0 -/
  meanPathDelay : Int := 0
  /-- offsetFromMaster | units of 2^-16 ns | 17 Table 17.11 | reset 0 -/
  offset : Int := 0
  /-- last one-step or followed-up Sync: t1 corrected and t2, units of 2^-16 ns | 12 R293 | reset none -/
  sync : Option (Int × Int) := none
  /-- two-step Sync that waits for its Follow_Up: sequence, correction, t2 | 12 R298 | reset none -/
  syncWait : Option (Nat × Int × Int) := none
  /-- Delay_Req sent: sequence and t3 held for firmware (12 R299) | reset none -/
  delayReq : Option (Nat × Int) := none
  /-- Pdelay_Req sent per port: sequence and t1 held for firmware (12 R299) | reset none -/
  pdelayReq : Vector (Option (Nat × Int)) 4 := Vector.replicate 4 none
  /-- two-step Pdelay_Resp per port: sequence, t1, t2 with correction, t4 | 12 R298 | reset none -/
  pdelayWait : Vector (Option (Nat × Int × Int × Int)) 4 := Vector.replicate 4 none
  /-- model time of the last sample | model's own | 12 R293 | reset none -/
  lastSample : Option Nat := none
  deriving DecidableEq, Repr

/-- A PTP event message as received: message, position within the tick and ALIGN of the receive stamp, and, where the device
forwards or answers it, the same of its transmission, all in units of 2^-16 ns (12 R296, R299, R300). -/
structure PtpEvent where
  msg : PtpMsg
  sub : Nat := 0
  align : Nat := 0
  subTx : Nat := 0
  alignTx : Nat := 0
  deriving DecidableEq, Repr

/-- Messages that an interval timer makes firmware send (12 R298). -/
inductive PtpTimer where
  | sync | announce | delayReq | pdelayReq
  deriving DecidableEq, Repr

/-- A transparent-clock pair (12 R300). -/
structure TcPair where
  /-- pair in use | 1 bit | 12 R300 | reset 0 (DESIGN CHOICE) -/
  enable : Bool := false
  /-- peer-to-peer | 1 bit | 12 R300 | reset 0 (DESIGN CHOICE) -/
  p2p : Bool := false
  /-- TC_TB | 2 bits | 12 R300 | reset TB0 (DESIGN CHOICE) -/
  tb : Fin 4 := 0
  deriving DecidableEq, Repr

/-- The Ethernet ports and PTP (12). -/
structure NetBlock where
  /-- E0 to E3 | 4 ports | 12 Table 12.2 | reset per field -/
  port : Vector EthPort 4 := Vector.replicate 4 {}
  /-- I0 to I3 | 4 instances | 12 R298 | reset per field -/
  inst : Vector PtpInst 4 := Vector.replicate 4 {}
  /-- pairs E0 with E1 and E2 with E3 | 12 R300 | reset off -/
  tc : Vector TcPair 2 := Vector.replicate 2 {}
  deriving DecidableEq, Repr

end Sys2Proof.Machine
end

