-- ==== Sys2Proof/Types/Station.lean ====
section
/-! DEFINITION. The plain data of the station exchange Ell (13). -/

namespace Sys2Proof.Machine

/-- States of a side (13 R321, Table 13.7). -/
inductive SideState where
  | off | hello | up | lost | mismatch
  deriving DecidableEq, Repr

/-- A ROWS body (13 Table 13.3). -/
structure EllRow where
  pos : Int := 0
  cls : Nat := 0
  empty : Bool := false
  coarse : Bool := false
  part : Nat := 0
  firstCol : Nat := 0
  firstPos : Int := 0
  deriving DecidableEq, Repr

/-- An own union row on a side: number, station-aligned position, class and object table entry of the edge pixel,
and the received row it is paired with (13 R312). -/
structure OwnRow where
  row : Nat
  pos : Int
  cls : Nat
  entry : Nat
  now : Nat
  paired : Option EllRow := none
  deriving DecidableEq, Repr

/-- One side of the device (13 R321, Table 13.7). -/
structure EllSide where
  /-- LEFT_EN / RIGHT_EN | 1 bit | 13 Table 13.1 | reset 0 -/
  enable : Bool := false
  /-- LEFT_IP / RIGHT_IP | 32 bits | 13 Table 13.1 | reset 0.0.0.0 -/
  ip : Nat := 0
  /-- STATE | 3 bits | 13 Table 13.7 | reset OFF -/
  state : SideState := .off
  /-- SEQ of the next message sent | 32 bits | 13 R311 | reset 0 -/
  seqTx : Nat := 0
  /-- SEQ of the last message received | 32 bits | 13 R311 | reset none -/
  seqRx : Option Nat := none
  /-- RX_MESSAGES | 32 bits | 13 Table 13.7 | reset 0 -/
  rxMessages : Nat := 0
  /-- SEQ_GAP | 32 bits | 13 Table 13.7 | reset 0 -/
  seqGap : Nat := 0
  /-- LATE_ROWS | 32 bits | 13 Table 13.7 | reset 0 -/
  lateRows : Nat := 0
  /-- LATE_PART | 32 bits | 13 Table 13.7 | reset 0 -/
  latePart : Nat := 0
  /-- FORWARDED | 32 bits | 13 Table 13.7 | reset 0 -/
  forwarded : Nat := 0
  /-- MERGED | 32 bits | 13 Table 13.7 | reset 0 -/
  merged : Nat := 0
  /-- VERDICT_MISSED | 32 bits | 13 Table 13.7 | reset 0 -/
  verdictMissed : Nat := 0
  /-- LOSSES | 32 bits | 13 Table 13.7 | reset 0 -/
  losses : Nat := 0
  /-- MERGE_MAX_NS | 32 bits | 13 Table 13.7 | reset 0 -/
  mergeMax : Nat := 0
  /-- LOSS_US has passed without a message; the change to LOST follows at the end of the tick | 13 R322 | reset 0 -/
  lossDue : Bool := false
  /-- own union rows, oldest first, the last 65,536 | 13 R312 | reset none -/
  rows : List OwnRow := []
  deriving DecidableEq, Repr

/-- A part that has closed under R167 and is not yet handed over (13 R315, R316). -/
structure StationPart where
  part : ClosedObj
  /-- the sides whose paired row after the last row is no longer awaited (13 R322): left, right -/
  rowLeft : Bool := false
  rowRight : Bool := false
  deriving DecidableEq, Repr

/-- A forwarded part that waits for its VERDICT (13 R319, R320). -/
structure Forwarded where
  /-- its object table entry, and the entries that merged into it -/
  part : Nat
  ids : List Nat := []
  /-- it was sent to the left side -/
  left : Bool
  colMin : Nat
  colMax : Nat
  sentAt : Nat
  /-- what the command of SEAM_FALLBACK needs: class 0, close and first TS32, first position, length -/
  cls : Nat
  tsClose : Ts32
  tsFirst : Ts32
  firstPos : Int
  posLength : Nat
  /-- parts of the other side that were merged into it: (side left, PART_ID) -/
  parts : List (Bool × Nat) := []
  deriving DecidableEq, Repr

/-- An Ell datagram as received on a side (13 R311). -/
structure EllDatagram where
  checksumOk : Bool
  /-- sender's address -/
  from_ : Nat
  bytes : List Byte
  deriving DecidableEq, Repr

/-- The station exchange (13). -/
structure StationBlock where
  /-- PLANT_DEVICE | 12 bits | 13 Table 13.1 | reset 0 -/
  plantDevice : Nat := 0
  /-- STATION_ID | 8 bits | 13 Table 13.1 | reset 0 -/
  stationId : Nat := 0
  /-- INDEX | 4 bits | 13 Table 13.1 | reset 0 -/
  index : Nat := 0
  /-- COL_BASE | 22 bits | 13 Table 13.1 | reset 0 -/
  colBase : Nat := 0
  /-- UDP_PORT | 16 bits | 13 Table 13.1 | reset 23,116 -/
  udpPort : Nat := 23116
  /-- POS_OFFSET | signed 64 bits | 13 Table 13.1 | reset 0 -/
  posOffset : Int := 0
  /-- ROW_TOL | 8 bits | 13 Table 13.1 | reset 2 -/
  rowTol : Nat := 2
  /-- LOSS_US | 14 bits | 13 Table 13.1 | reset 100 -/
  lossUs : Nat := 100
  /-- MERGE_TIMEOUT_US | 10 bits | 13 Table 13.1 | reset 20 -/
  mergeTimeoutUs : Nat := 20
  /-- VERDICT_WAIT_US | 17 bits | 13 Table 13.1 | reset 500 -/
  verdictWaitUs : Nat := 500
  /-- SEAM_FALLBACK: verdict code | 2 bits | 13 Table 13.1 | reset REJECT -/
  fallback : Nat := 2
  /-- left side (0) and right side (1) | 13 Table 13.7 | reset per field -/
  side : Vector EllSide 2 := Vector.replicate 2 {}
  /-- parts that wait for rows or PART messages | 13 R315, R316 | reset none -/
  parts : List StationPart := []
  /-- forwarded parts without their VERDICT | 13 R319 | reset none -/
  forwarded : List Forwarded := []
  deriving DecidableEq, Repr

end Sys2Proof.Machine
end

