-- ==== Sys2Proof/Types/Dram.lean ====
section
/-! DEFINITION. The plain data of the external DRAM controller (15). -/

namespace Sys2Proof.Machine

/-- STATE of the controller (15 Table 15.5). -/
inductive DramState where
  | off | training | wiping | ready | selfRefresh | failed
  deriving DecidableEq, Repr

/-- CH_STATE of a channel (15 Table 15.5). -/
inductive DramChState where
  | off | training | active | srEntry | selfRefresh | srExit | failed
  deriving DecidableEq, Repr

/-- An agent that accesses the internal address space (01, Memory ordering). -/
inductive Agent where
  | engine (e : Fin 192)
  | engineDma (e : Fin 192)
  | h2d (c : Fin 8)
  | d2h (c : Fin 16)
  | mgmt
  | outputs
  | host
  deriving DecidableEq, Repr

/-- An access to internal memory: the agent that issues it, and whether it writes (01 R22, R23). -/
structure Access where
  agent : Agent
  write : Bool
  deriving DecidableEq, Repr

/-- The number of an agent in INSTANCE of a reserved-access report (01 R22): engines 0 to 191, their DMA units from 0x100,
H2D channels from 0x200, D2H channels from 0x210, then the management core, the output subsystem and the host through PCIe
(DESIGN CHOICE: the spec gives agents no numbers). -/
def Agent.code : Agent → Nat
  | .engine e => e.val
  | .engineDma e => 0x100 + e.val
  | .h2d c => 0x200 + c.val
  | .d2h c => 0x210 + c.val
  | .mgmt => 0x300
  | .outputs => 0x301
  | .host => 0x302

/-- A request in a port queue of a channel (15 R356): a 64-byte granule with a byte mask. -/
structure DramReq where
  port : Fin 5
  agent : Agent
  write : Bool
  /-- address / 64 -/
  granule : Nat
  /-- byte mask of a write -/
  mask : Nat := 0
  /-- data of a write, 64 bytes -/
  data : List Byte := []
  deriving DecidableEq, Repr

/-- A request with the model time at which it entered its port queue. -/
structure DramWait where
  req : DramReq
  entered : Nat
  deriving DecidableEq, Repr

/-- What the mode registers of a rank report (15 R348): vendor, density in Gb, I/O width. -/
structure RankId where
  vendor : Nat
  density : Nat
  io : Nat
  deriving DecidableEq, Repr

/-- What training meets on one channel (15 R348, R350): its ranks' identification, and the step of 2 to 7 that fails in the
first attempt and in the retry. -/
structure ChanTraining where
  ranks : List RankId
  first : Option (Fin 8) := none
  retry : Option (Fin 8) := none
  deriving DecidableEq, Repr

/-- What training meets on the eight channels, and the data rate it runs at as a SPEED code of Table 15.5. -/
structure DramTraining where
  speed : Fin 4
  chan : Vector ChanTraining 8
  deriving DecidableEq, Repr

/-- One DRAM channel (15 Table 15.5). -/
structure DramChan where
  /-- CH_STATE | 3 bits | 15 Table 15.5 | reset OFF -/
  state : DramChState := .off
  /-- TRAIN_FAIL | 3 bits | 15 Table 15.5 | reset 0 -/
  trainFail : Nat := 0
  /-- REF_RATE | 2 bits | 15 Table 15.5 | reset 0 -/
  refRate : Nat := 0
  /-- rate read from the memory that applies at the next refresh | 2 bits | 15 R352 | reset none -/
  rateNext : Option Nat := none
  /-- refreshes postponed, per bank of each rank (number rank x 16 + bank) | 32 x 3 bits | 15 R352 | reset 0 -/
  postponed : Vector Nat 32 := Vector.replicate 32 0
  /-- per-bank refresh commands issued | model's own | 15 R352 | reset 0 -/
  refreshes : Vector Nat 32 := Vector.replicate 32 0
  /-- the row that is open in each bank of each rank | 32 x 18 bits | 15 R353 | reset none -/
  openRow : Vector (Option Nat) 32 := Vector.replicate 32 none
  /-- identification of the ranks read at training | 15 R348 | reset none -/
  ranks : List RankId := []
  /-- training was retried from step 1 | 1 bit | 15 R350 | reset 0 -/
  retried : Bool := false
  /-- requests in the port queues, oldest first | 15 R356 | reset none -/
  queue : List DramWait := []
  /-- write queue, oldest first; WQ_FILL is its length | 64 entries | 15 R354 | reset empty -/
  wq : List DramWait := []
  /-- the channel serves writes from 48 entries down to 16 | 1 bit | 15 R355 | reset 0 -/
  draining : Bool := false
  /-- model time of the last DQS tracking | model's own | 15 R351 | reset none -/
  trackedAt : Option Nat := none
  /-- ECC_CORR | 32 bits | 15 Table 15.5 | reset 0 -/
  eccCorr : Nat := 0
  /-- ECC_UNCORR | 32 bits | 15 Table 15.5 | reset 0 -/
  eccUncorr : Nat := 0
  /-- LINK_CORR | 32 bits | 15 Table 15.5 | reset 0 -/
  linkCorr : Nat := 0
  /-- FORWARDED | 32 bits | 15 Table 15.5 | reset 0 -/
  forwarded : Nat := 0
  /-- SR_ENTRIES | 32 bits | 15 Table 15.5 | reset 0 -/
  srEntries : Nat := 0
  /-- SR_ABORTS | 32 bits | 15 Table 15.5 | reset 0 -/
  srAborts : Nat := 0
  deriving DecidableEq, Repr

/-- A port of Table 15.3 with its counts (15 Table 15.5). -/
structure DramPort where
  /-- TARGET_NS | 32 bits | 15 Table 15.3 | reset default target -/
  target : Nat
  /-- LAT_MAX | 32 bits | 15 Table 15.5 | reset 0 -/
  latMax : Nat := 0
  /-- OVER_TARGET | 32 bits | 15 Table 15.5 | reset 0 -/
  late : Nat := 0
  deriving DecidableEq, Repr

/-- The uncorrectable error capture (15 Table 15.6). -/
structure DramCapture where
  /-- VALID | RW1C | 15 Table 15.6 | reset 0 -/
  valid : Bool := false
  /-- CHANNEL | 3 bits | reset 0 -/
  channel : Nat := 0
  /-- RANK, BANK, ROW of the address within the channel | 1, 4 and 18 bits | 15 R349, Table 15.6 | reset 0 -/
  rank : Nat := 0
  bank : Nat := 0
  row : Nat := 0
  /-- PORT | 3 bits | reset 0 -/
  port : Nat := 0
  /-- LINK | 1 bit | reset 0 -/
  link : Bool := false
  /-- ADDRESS | 40 bits | reset 0 -/
  addr : Nat := 0
  /-- TS32 | 32 bits | reset 0 -/
  ts : Ts32 := 0
  deriving DecidableEq, Repr

/-- The DRAM controller (15). -/
structure DramBlock where
  /-- STATE | 3 bits | 15 Table 15.5 | reset OFF -/
  state : DramState := .off
  /-- INLINE_ECC | 1 bit | 15 Table 15.5 | reset 0 -/
  inlineEcc : Bool := false
  /-- RANKS2 | 1 bit | 15 Table 15.5 | reset 0 -/
  ranks2 : Bool := false
  /-- SPEED | 2 bits | 15 Table 15.5 | reset 0 -/
  speed : Nat := 0
  /-- DENSITY | 3 bits | 15 Table 15.5 | reset 0 -/
  density : Nat := 0
  /-- ADDR_MIB | 32 bits | 15 Table 15.5 | reset 0 -/
  addrMib : Nat := 0
  /-- IDLE_SR_NS | 20 bits | 15 R359 | reset 0 -/
  idleSr : Nat := 0
  /-- SCRUB_H | 8 bits | 15 R365 | reset 24 -/
  scrubH : Nat := 24
  chan : Vector DramChan 8 := Vector.replicate 8 {}
  /-- ports 0 to 4 | 15 Table 15.3 | reset default targets -/
  port : Vector DramPort 5 :=
    ((((Vector.replicate 5 { target := 2000 }).set 1 { target := 20000 }).set 2 { target := 1000 }).set 3
      { target := 5000 }).set 4 { target := 50000 }
  capture : DramCapture := {}
  deriving DecidableEq, Repr

end Sys2Proof.Machine
end

