-- ==== Sys2Proof/Syntax.lean ====
section
/-! DEFINITION. The commands of the block: one constructor per row of the opcode table, with the operands that
the outside world gives with the event. -/

namespace Sys2Proof

open Sys2Proof.Machine

/-- A block whose first word takes a snapshot when read (12 R306). -/
inductive SnapBlock where
  | timeBase (b : Fin 4) | capture (k : Fin 8) | pps
  deriving DecidableEq, Repr

/-- The commands of the PV1216: what the outside world sends to the block, as the opcode table lists it. -/
inductive Instr where
  /-- DATA_BLOCK_RX (R39). A Phirvo Link data block is received, tagged with the stream of the preceding LINE_START and passed towards line framing. -/
  | dataBlockRx (l : Fin 24) (blk : BitVec 66) (fill : Fin 33)
  /-- INVALID_BLOCK_RX (R38). A block with an invalid header or an unknown control type is discarded and counted in BAD_HEADER. -/
  | invalidBlockRx (l : Fin 24) (blk : BitVec 66)
  /-- IDLE_BLOCK_RX (R50). An IDLE block arrives and is deleted, or an IDLE is inserted after it, to keep the elastic fill at 16. -/
  | idleBlockRx (l : Fin 24) (blk : BitVec 66) (fill : Fin 33)
  /-- LINE_START_RX (R39). A LINE_START block sets the stream tag and block count for the following data blocks of the lane. -/
  | lineStartRx (l : Fin 24) (blk : BitVec 66) (skew : Fin 256)
  /-- LINE_END_RX (R67). A LINE_END block completes a line, which is CRC-checked, merged, measured, tagged and handed to its pipe. -/
  | lineEndRx (l : Fin 24) (blk : BitVec 66)
  /-- FRAME_START_RX (R68). A FRAME_START of the framing stream opens a bolt, which is a bolt boundary and a camera frame boundary. -/
  | frameStartRx (l : Fin 24) (blk : BitVec 66)
  /-- FRAME_END_RX (R69). A FRAME_END of the framing stream closes the open bolt or is counted as an orphan end. -/
  | frameEndRx (l : Fin 24) (blk : BitVec 66)
  /-- CTRL_FRAGMENT_RX (R43). A CTRL block is received as one fragment of a control-channel message. -/
  | ctrlFragmentRx (l : Fin 24) (blk : BitVec 66)
  /-- PL_HELLO_RX (R46). A HELLO message from the camera is received during bring-up. -/
  | plHelloRx (l : Fin 24)
  /-- CAPS_RX (R46). A CAPS message with a valid CRC gives the camera capabilities and sets the target mode. -/
  | capsRx (l : Fin 24)
  /-- RATE_ACK_RX (R46). A RATE_ACK confirms the requested mode, and the lane waits for lock at the new rate. -/
  | rateAckRx (l : Fin 24)
  /-- RATE_NAK_RX (R41). A RATE_NAK refuses a mode or precoding, and the device repeats the request without precoding or fails the step. -/
  | rateNakRx (l : Fin 24)
  /-- CHECK_RESULT_RX (R46). A CHECK_RESULT message reports the invalid headers that the camera saw in the check window. -/
  | checkResultRx (l : Fin 24)
  /-- REG_RESP_RX (R43). A REG_RESP message returns the status and data of a camera register access. -/
  | regRespRx (l : Fin 24)
  /-- SETTINGS_APPLIED_RX (R84). A SETTINGS_APPLIED message sets APPLY_LATENCY for later settings expectations. -/
  | settingsAppliedRx (l : Fin 24)
  /-- KEEPALIVE_RX (R44). A KEEPALIVE message refreshes the primary-lane silence timer. -/
  | keepaliveRx (l : Fin 24)
  /-- CTRL_ACK_RX (R43). An ACK message ends the repetition of the control message that carries the same sequence. -/
  | ctrlAckRx (l : Fin 24)
  /-- CTRL_ACK_TIMEOUT (R43). An unanswered control message is repeated after 1 ms, and after the third repetition the link returns to SEARCH. -/
  | ctrlAckTimeout (p : Fin 12) (seq : Fin 256)
  /-- KEEPALIVE_TIMER (R43). Every 10 ms a KEEPALIVE is sent on the primary lane. -/
  | keepaliveTimer (p : Fin 12)
  /-- PRIMARY_SILENCE_TIMEOUT (R44). The primary lane received no message for 50 ms, so the port returns to SEARCH. -/
  | primarySilenceTimeout (p : Fin 12)
  /-- BLOCK_LOCK (R46). A lane sees 64 consecutive valid headers and achieves block lock for its bring-up step. -/
  | blockLock (l : Fin 24) (fom : Fin 256)
  /-- BRINGUP_STEP_TIMEOUT (R46). A bring-up step exceeds its timeout and the lane repeats the step, steps down or returns to step 1. -/
  | bringupStepTimeout (l : Fin 24)
  /-- CHECK_WINDOW_END (R46). A 10 ms check window ends and the rate step passes with zero invalid headers or fails. -/
  | checkWindowEnd (l : Fin 24)
  /-- LANE_HELLO_WAIT_EXPIRY (R48). One lane has not reached HELLO 100 ms after the other reached RUN, so the port enters RUN_DEGRADED. -/
  | laneHelloWaitExpiry (p : Fin 12)
  /-- LANE_LOSS (R58). One lane of a two-lane port is lost, so the line in flight ends short and LANE_DOWN is sent. -/
  | laneLoss (l : Fin 24)
  /-- PORT_LOSS (R57). All lanes of a port are lost, so the open bolt closes SHORT_BOLT and the port returns to step 1. -/
  | portLoss (p : Fin 12)
  /-- CXP_DISCOVERY_RETRY (R54). Every 100 ms a CoaXPress port repeats the discovery procedure until a camera answers. -/
  | cxpDiscoveryRetry (p : Fin 12)
  /-- CXP_CONTROL_RESPONSE (R52). A CoaXPress control acknowledgement or heartbeat is received from the camera. -/
  | cxpControlResponse (p : Fin 12) (r : CxpResp)
  /-- CXP_EVENT_PACKET (R52). A CoaXPress event packet is counted and kept for CAM_LINK_STATUS. -/
  | cxpEventPacket (p : Fin 12) (data : List Byte)
  /-- CXP_STREAM_PACKET (R53). A CoaXPress stream packet is repacked into 64-bit blocks and tagged, or discarded as UNMAPPED. -/
  | cxpStreamPacket (p : Fin 12) (conn : Fin 4) (pk : CxpPacket)
  /-- CXP_CONNECTION_LOSS (R59). Loss of a CoaXPress connection reconfigures the remaining connections or returns the camera to discovery. -/
  | cxpConnectionLoss (p : Fin 12) (k : Fin 4)
  /-- LINE_AT_STITCHER (R150). A member pipe line leaves morphology and arrives at the stitcher, joining or opening an input row. -/
  | lineAtStitcher (p : Fin 12)
  /-- ROW_WINDOW_END (R150). The ROW_SKEW window of an input row ends, the row closes and placeholders are issued for absent pipes. -/
  | rowWindowEnd
  /-- UNION_ROW_START (R197). A union row enters component union, where runs are connected, objects merge and closures are detected. -/
  | unionRowStart
  /-- FINALISE (R170). The finaliser takes a closed object, assigns its identifier, computes features, evaluates the rules and computes its valve command. -/
  | finalise
  /-- EJ_COMMAND_ENTRY (R267). A valve command enters the ejector scheduler and is accepted, partly late, dropped or listed. -/
  | ejCommandEntry (n : Fin 3)
  /-- DISPATCH (R224). The dispatcher assigns the waiting object with the earliest time key to an eligible idle engine. -/
  | dispatch
  /-- OBJECT_TASK_START (R225). The first instruction of an assigned object task issues with the object block in place. -/
  | objectTaskStart (e : Fin 192)
  /-- EVENT_TASK_START (R220). A pending task-input activation starts its event task on the home or a substitute engine. -/
  | eventTaskStart (j : Fin 48)
  /-- DEADLINE_REACHED (R226). An object without a verdict reaches its deadline and takes its class fallback, flagged LATE. -/
  | deadlineReached (id : BitVec 64)
  /-- BUDGET_EXPIRY (R231). A task budget counter expires, so the engine is fenced as failed. -/
  | budgetExpiry (e : Fin 192)
  /-- CLOCK_ADAPT_FAULT (R201). An engine clock generator cannot hold 800 MHz or loses lock, which is an engine failure. -/
  | clockAdaptFault (e : Fin 192)
  /-- ENGINE_DMA_COMPLETE (R212). An engine DMA transfer completes and its writes become visible. -/
  | engineDmaComplete (e : Fin 192) (q : Fin 4)
  /-- IMAGE_INSTALL_DONE (R215). An accepted engine image is installed in the unfenced engines of the target clusters. -/
  | imageInstallDone (c : Fin 12)
  /-- CLUSTER_ENABLE_DONE (R230). A cluster reaches ENABLED from ENABLING and its OFF engines become IDLE. -/
  | clusterEnableDone (c : Fin 12)
  /-- CLUSTER_DRAIN_END (R230). The last task of a draining cluster ends and the cluster becomes DISABLED. -/
  | clusterDrainEnd (c : Fin 12)
  /-- ENG_SELFTEST_DONE (R235). The self-test of a fenced engine ends, returning it to service or leaving it FENCED. -/
  | engSelftestDone (e : Fin 192) (pass : Bool)
  /-- ADD (R207). Scalar add. -/
  | add (e : Fin 192)
  /-- SUB (R207). Scalar subtract. -/
  | sub (e : Fin 192)
  /-- AND (R207). Scalar bitwise AND. -/
  | andS (e : Fin 192)
  /-- OR (R207). Scalar bitwise OR. -/
  | orS (e : Fin 192)
  /-- XOR (R207). Scalar bitwise XOR. -/
  | xorS (e : Fin 192)
  /-- SHL (R207). Scalar shift left by 0 to 31. -/
  | shl (e : Fin 192)
  /-- SHR (R207). Scalar logical shift right. -/
  | shr (e : Fin 192)
  /-- SRA (R207). Scalar arithmetic shift right. -/
  | sra (e : Fin 192)
  /-- SLT (R207). Scalar signed set-less-than. -/
  | slt (e : Fin 192)
  /-- SLTU (R207). Scalar unsigned set-less-than. -/
  | sltu (e : Fin 192)
  /-- MIN (R207). Scalar minimum. -/
  | minS (e : Fin 192)
  /-- MAX (R207). Scalar maximum. -/
  | maxS (e : Fin 192)
  /-- MOVHI (R207). Sets RD to IMM19 shifted left by 13. -/
  | movhi (e : Fin 192)
  /-- MUL (R207). Scalar multiply, low word. -/
  | mul (e : Fin 192)
  /-- MULH (R207). Scalar signed multiply, high word. -/
  | mulh (e : Fin 192)
  /-- MULHU (R207). Scalar unsigned multiply, high word. -/
  | mulhu (e : Fin 192)
  /-- DIV (R207). Scalar signed divide rounding toward zero. -/
  | div (e : Fin 192)
  /-- DIVU (R207). Scalar unsigned divide. -/
  | divu (e : Fin 192)
  /-- REM (R207). Scalar signed remainder with the sign of the dividend. -/
  | rem (e : Fin 192)
  /-- REMU (R207). Scalar unsigned remainder. -/
  | remu (e : Fin 192)
  /-- VADD (R204). Vector lane add with wrap or saturation. -/
  | vadd (e : Fin 192)
  /-- VSUB (R204). Vector lane subtract. -/
  | vsub (e : Fin 192)
  /-- VMUL (R204). Vector lane multiply with rounding right shift. -/
  | vmul (e : Fin 192)
  /-- VMIN (R204). Vector lane minimum. -/
  | vmin (e : Fin 192)
  /-- VMAX (R204). Vector lane maximum. -/
  | vmax (e : Fin 192)
  /-- VAND (R203). Vector lane AND. -/
  | vand (e : Fin 192)
  /-- VOR (R203). Vector lane OR. -/
  | vor (e : Fin 192)
  /-- VXOR (R203). Vector lane XOR. -/
  | vxor (e : Fin 192)
  /-- VSHL (R207). Vector shift left of every lane by SHIFT. -/
  | vshl (e : Fin 192)
  /-- VSHR (R207). Vector logical shift right with rounding. -/
  | vshr (e : Fin 192)
  /-- VSRA (R207). Vector arithmetic shift right with rounding. -/
  | vsra (e : Fin 192)
  /-- VABSD (R204). Vector lane absolute difference. -/
  | vabsd (e : Fin 192)
  /-- VCMPEQ (R207). Vector compare equal writing a predicate. -/
  | vcmpeq (e : Fin 192)
  /-- VCMPLT (R207). Vector signed compare less-than writing a predicate. -/
  | vcmplt (e : Fin 192)
  /-- VCMPLTU (R207). Vector unsigned compare less-than writing a predicate. -/
  | vcmpltu (e : Fin 192)
  /-- VSEL (R207). Vector select between two registers by predicate. -/
  | vsel (e : Fin 192)
  /-- VBCAST (R207). Broadcasts a scalar to every predicated lane. -/
  | vbcast (e : Fin 192)
  /-- VMACP (R205). Adds two lane products into an accumulator. -/
  | vmacp (e : Fin 192)
  /-- VMACS (R205). Adds a lane-by-scalar product into an accumulator. -/
  | vmacs (e : Fin 192)
  /-- VACCCLR (R207). Clears predicated lanes of an accumulator. -/
  | vaccclr (e : Fin 192)
  /-- VACCRD (R205). Reads an accumulator shifted into a vector register. -/
  | vaccrd (e : Fin 192)
  /-- VSUM (R207). Sums predicated lanes into a scalar register. -/
  | vsum (e : Fin 192)
  /-- LD_W (R208). Loads a word from the engine address space. -/
  | ldW (e : Fin 192)
  /-- LD_H (R208). Loads a sign-extended half word. -/
  | ldH (e : Fin 192)
  /-- LD_HU (R208). Loads a zero-extended half word. -/
  | ldHu (e : Fin 192)
  /-- LD_B (R208). Loads a sign-extended byte. -/
  | ldB (e : Fin 192)
  /-- LD_BU (R208). Loads a zero-extended byte. -/
  | ldBu (e : Fin 192)
  /-- ST_W (R208). Stores a word. -/
  | stW (e : Fin 192)
  /-- ST_H (R208). Stores a half word. -/
  | stH (e : Fin 192)
  /-- ST_B (R208). Stores a byte. -/
  | stB (e : Fin 192)
  /-- VLD (R208). Loads a 32-byte vector. -/
  | vld (e : Fin 192)
  /-- VST (R208). Stores a 32-byte vector. -/
  | vst (e : Fin 192)
  /-- VLD_B (R207). Loads one element and broadcasts it to all lanes. -/
  | vldB (e : Fin 192)
  /-- ATOM_ADD (R207). Atomic 32-bit add in cluster shared memory returning the old value. -/
  | atomAdd (e : Fin 192)
  /-- ILLEGAL_INSTRUCTION (R219). An illegal instruction word is a program fault. -/
  | illegalInstruction (e : Fin 192)
  /-- B (R207). Unconditional branch. -/
  | branch (e : Fin 192)
  /-- BZ (R207). Branch when RS is zero. -/
  | bz (e : Fin 192)
  /-- BNZ (R207). Branch when RS is not zero. -/
  | bnz (e : Fin 192)
  /-- BLTZ (R207). Branch when RS is negative. -/
  | bltz (e : Fin 192)
  /-- CALL (R207). Branch writing the return address to s30. -/
  | call (e : Fin 192)
  /-- RET (R216). Jumps to the address in RS, RET to 0 being a program fault. -/
  | ret (e : Fin 192)
  /-- VERDICT (R218). Ends an object task with a verdict, result and crop choice applied by the dispatcher. -/
  | verdict (e : Fin 192)
  /-- END (R220). Ends an event task. -/
  | endTask (e : Fin 192)
  /-- GET (R210). Issues a DMA copy from an external address to local memory. -/
  | getDma (e : Fin 192)
  /-- PUT (R210). Issues a DMA copy from local memory to an external address. -/
  | putDma (e : Fin 192)
  /-- WAIT (R212). Waits until a DMA queue is empty and its writes are visible. -/
  | waitDma (e : Fin 192)
  /-- POLL (R207). Reads DMA queue state. -/
  | poll (e : Fin 192)
  /-- FENCE (R25). Waits until all earlier accesses and transfers of the engine are visible. -/
  | fence (e : Fin 192)
  /-- TIME (R207). Reads TB0 TS32 into RD. -/
  | timeRead (e : Fin 192)
  /-- BUDGET (R207). Reads the budget counter into RD. -/
  | budgetRead (e : Fin 192)
  /-- SIGNAL (R207). Pulses the cluster event producer ENG_SIGNAL. -/
  | signal (e : Fin 192)
  /-- NOP (R207). No operation. -/
  | nop (e : Fin 192)
  /-- TARE_EVALUATE (R117). After the window closes, the Tare unit computes and checks the new table and writes it on PASS. -/
  | tareEvaluate (p : Fin 12)
  /-- TARE_INTERVAL_EXPIRY (R128). The INTERVAL timer expires and an automatic flat run starts or is retried. -/
  | tareIntervalExpiry (p : Fin 12)
  /-- BOLT_HEADER_EMIT (R72). After the bolt last line leaves the stitcher, the bolt header is emitted. -/
  | boltHeaderEmit (p : Fin 12)
  /-- STATS_COMPLETE (R87). The statistics record of a bolt becomes complete. -/
  | statsComplete (p : Fin 12)
  /-- PIPE_DRAIN_END (R492). The last line of a draining pipe has passed and its records are emitted, so the pipe becomes DISABLED. -/
  | pipeDrainEnd (p : Fin 12)
  /-- FATHOM_LINE_STORED (R327). The payload writes of a Fathom line are visible and its index entry is rewritten with STORED set. -/
  | fathomLineStored (p : Fin 12)
  /-- CROP_CUT_START (R335). Cutting of a crop starts once the verdict is final and every piece last-row entry is written. -/
  | cropCutStart (id : BitVec 64)
  /-- CROP_WAIT_EXPIRY (R335). CROP_WAIT_US after the final verdict, cutting starts with unwritten lines flagged MISSING. -/
  | cropWaitExpiry (id : BitVec 64)
  /-- CROP_READ_DONE (R336). The last piece of a crop has been read, and the pieces and then the record are queued to their rings. -/
  | cropReadDone (id : BitVec 64)
  /-- OUTPUT_MESSAGE_ENQUEUE (R341). An output item is put into a message for each ring that carries its kind. -/
  | outputMessageEnqueue
  /-- OUTPUT_FLUSH_TIMEOUT (R341). FLUSH_US after its first item, a RECORD or RESULT message is sent. -/
  | outputFlushTimeout (r : Fin 16) (kind : Fin 2)
  /-- OUTPUT_IRQ_TIMEOUT (R340). The INT_US moderation timer expires and the ring MSI-X vector fires. -/
  | outputIrqTimeout (r : Fin 16)
  /-- UDP_DATAGRAM_SEND (R345). A UDP ring sends the next fragment of a message within its rate shaping. -/
  | udpDatagramSend (r : Fin 16)
  /-- OUTPUT_RING_DRAIN_END (R340). A draining ring has delivered every staged message and becomes DISABLED. -/
  | outputRingDrainEnd (r : Fin 16)
  /-- SLOT_FREEZE (R266). At the freeze point the bitmap of the slot is fixed and the frame of each link is formed. -/
  | slotFreeze
  /-- SLOT_START (R270). A slot starts, firing marker producers and EJ_SLOT. -/
  | slotStart
  /-- POS_CMD_WAIT_EXPIRY (R269). A position-mode command held longer than POS_MAX_WAIT_MS is dropped as HORIZON_DROPPED. -/
  | posCmdWaitExpiry
  /-- VALVE_ACK_RX (R272). A valve board acknowledgement is received and judged good, NAK or CRC error. -/
  | valveAckRx (l : Fin 4) (head : List VChar) (seq : List VChar) (status : List VChar) (tail : List VChar)
  /-- VALVE_ACK_TIMEOUT (R273). No good acknowledgement arrives within ACK_TIMEOUT_NS, counting a miss and faulting the link at the limit. -/
  | valveAckTimeout (l : Fin 4)
  /-- LINK_DRAIN_END (R275). A draining valve link has sent 16 SAFE frames and goes to K28.5 and DISABLED. -/
  | linkDrainEnd (l : Fin 4)
  /-- TEST_PULSE_DUE (R280). A further repetition of a test pulse enters the slot table GAP slots after the previous one. -/
  | testPulseDue
  /-- QE_EDGE (R241). A sampled transition of A or B is counted, judged ILLEGAL or held, and updates speed and triggers. -/
  | qeEdge (c : Fin 8) (a : Bool) (b : Bool)
  /-- TRIG_TIME_DUE (R254). A time-mode generator reaches START + k PERIOD_NS and issues a trigger or skips it. -/
  | trigTimeDue (g : Fin 12)
  /-- TRIG_OUT_PULSE_END (R256). TRIG_OUT returns to idle after OUT_WIDTH_NS. -/
  | trigOutPulseEnd (p : Fin 12)
  /-- QE_INDEX (R244). An index event latches the count, increments INDEX_COUNT and fires the index producer. -/
  | qeIndex (c : Fin 8) (z : Bool)
  /-- QE_STILL_TIMEOUT (R249). No edge for STILL_T puts the channel into STILL and clears its speeds. -/
  | qeStillTimeout (c : Fin 8)
  /-- PROBE_LATCH (R245). A filtered probe edge latches all eight counts and TS32 and fires the probe producer. -/
  | probeLatch (p : Fin 8) (level : Bool)
  /-- PROBE_SNAPSHOT_READ (R259). A read of a probe block at +0x00 snapshots the whole block. -/
  | probeSnapshotRead (p : Fin 8)
  /-- ETH_FRAME_RX (R285). An Ethernet frame is received, filtered and handed on, with ARP and ICMP echo answered. -/
  | ethFrameRx (n : Fin 4) (f : EthFrame)
  /-- ETH_LINK_CHANGE (R283). An Ethernet port gains or loses PCS lock. -/
  | ethLinkChange (n : Fin 4) (up : Bool)
  /-- PTP_EVENT_RX (R296). A PTP event message is timestamped on receipt and handed to firmware or forwarded. -/
  | ptpEventRx (n : Fin 4) (e : PtpEvent)
  /-- PTP_GENERAL_RX (R298). A PTP general message such as Announce or Delay_Resp is received by firmware. -/
  | ptpGeneralRx (n : Fin 4) (m : PtpMsg)
  /-- PTP_MESSAGE_TIMER (R298). A PTP interval expires and firmware sends a Sync, Announce or delay request. -/
  | ptpMessageTimer (inst : Fin 4) (n : Fin 4) (k : PtpTimer) (sub : Nat) (align : Nat)
  /-- SERVO_SAMPLE (R293). An offset sample steers FREQ_ADJ or steps the time base and updates its lock state. -/
  | servoSample (b : Fin 4)
  /-- HOLDOVER_TIMEOUT (R294). No sample within HOLDOVER_MS puts the time base into HOLDOVER. -/
  | holdoverTimeout (b : Fin 4)
  /-- PPS_IN_EDGE (R302). A PPS_IN rising edge captures every enabled time base and forms a servo sample. -/
  | ppsInEdge (frac : Fin 262144)
  /-- PPS_OUT_RISE (R303). A time base reaches a whole second plus offset and PPS_OUT rises. -/
  | ppsOutRise (k : Fin 2)
  /-- PPS_OUT_FALL (R303). PPS_OUT falls after its width. -/
  | ppsOutFall (k : Fin 2)
  /-- CMP_FIRE (R305). An armed compare unit reaches its key and fires its producer. -/
  | cmpFire (k : Fin 8)
  /-- CMP_ARM_WRITE (R305). A write of ARM to a compare unit arms it from the next tick. -/
  | cmpArmWrite (k : Fin 8) (v : Word) (ses : Fin 4)
  /-- CAP_SW_TRIG (R304). A write of SW_TRIG captures the selected time base. -/
  | capSwTrig (k : Fin 8) (v : Word) (ses : Fin 4)
  /-- CAPTURE_EVENT (R304). A fabric event captures the selected time base into a capture unit. -/
  | captureEvent (k : Fin 8)
  /-- TIME_SNAPSHOT_READ (R306). A read of a time-base, capture or PPS snapshot word snapshots that block. -/
  | timeSnapshotRead (blk : SnapBlock)
  /-- ELL_HELLO_RX (R321). An Ell HELLO moves the side to UP or MISMATCH. -/
  | ellHelloRx (d : Fin 2) (m : EllDatagram)
  /-- ELL_ROWS_RX (R312). A ROWS message pairs with an own union row and joins edge pixels. -/
  | ellRowsRx (d : Fin 2) (m : EllDatagram)
  /-- ELL_PART_RX (R316). A PART message is merged, forwarded or finalised at the owner. -/
  | ellPartRx (d : Fin 2) (m : EllDatagram)
  /-- ELL_VERDICT_RX (R320). A VERDICT message makes the recipient schedule valves for its forwarded part. -/
  | ellVerdictRx (d : Fin 2) (m : EllDatagram)
  /-- ELL_HELLO_TIMER (R311). Every 1 ms a HELLO is sent on each enabled side. -/
  | ellHelloTimer (d : Fin 2)
  /-- ELL_LOSS_TIMEOUT (R321). LOSS_US without a message moves the side from UP to LOST. -/
  | ellLossTimeout (d : Fin 2)
  /-- ELL_MERGE_TIMEOUT (R322). A paired row missing for MERGE_TIMEOUT_US finalises the part alone. -/
  | ellMergeTimeout (d : Fin 2) (part : Fin 16384)
  /-- ELL_VERDICT_TIMEOUT (R322). No VERDICT within VERDICT_WAIT_US applies SEAM_FALLBACK to the part. -/
  | ellVerdictTimeout (d : Fin 2) (part : Fin 16384)
  /-- DRAM_REQUEST (R356). A DRAM request enters its port queue and ages towards its target. -/
  | dramRequest (r : DramReq)
  /-- DRAM_REQUEST_COMPLETE (R356). A DRAM read returns its data or a write command is issued. -/
  | dramRequestComplete (c : Fin 8) (write : Bool)
  /-- DRAM_REFRESH_DUE (R352). A per-bank refresh falls due. -/
  | dramRefreshDue (c : Fin 8) (b : Fin 32)
  /-- DRAM_MR_POLL (R352). Every 16 ms the refresh-rate mode register is read. -/
  | dramMrPoll (c : Fin 8) (rate : Fin 3) (tooHot : Bool)
  /-- DRAM_DQS_TRACK (R351). Every 100 ms the DQS oscillator is read and write timing corrected. -/
  | dramDqsTrack (c : Fin 8)
  /-- DRAM_IDLE_SR_ENTRY (R360). A channel idle for IDLE_SR_NS enters self-refresh. -/
  | dramIdleSrEntry (c : Fin 8)
  /-- DRAM_SCRUB_DUE (R365). A scrub pass over addressable DRAM starts every SCRUB_H hours. -/
  | dramScrubDue
  /-- DRAM_TRAINING_DONE (R350). DRAM training ends in READY or FAILED. -/
  | dramTrainingDone (t : DramTraining)
  /-- DRAM_WIPE_DONE (R462). The DRAM wipe of a reset completes. -/
  | dramWipeDone
  /-- MBX_DOORBELL (R371). A DOORBELL write hands the request of a mailbox to firmware or is dropped. -/
  | mbxDoorbell (k : Fin 4) (v : Word) (bulk : List Byte)
  /-- MBX_REQUEST_WRITE (R371). A write to a request window is stored or dropped with MBX_LOST. -/
  | mbxRequestWrite (k : Fin 4) (off : Fin 4096) (bs : List Byte)
  /-- NET_REQUEST_RX (R396). A network Mboxis datagram is accepted, queued or answered BUSY. -/
  | netRequestRx (ip : BitVec 32) (port : BitVec 16) (bs : List Byte)
  /-- SB_WRITE_REQUEST (R397). A sideband WRITE_REQUEST frame hands over a request or sets LOST. -/
  | sbWriteRequest (bs : List Byte)
  /-- SB_READ_RESPONSE (R397). A sideband READ_RESPONSE frame returns the last response. -/
  | sbReadResponse (n : Fin 4097)
  /-- SB_READ_STATUS (R397). A sideband READ_STATUS frame returns the status byte and clears LOST. -/
  | sbReadStatus
  /-- SESSION_IDLE_TIMEOUT (R399). A network session idle for IDLE_S seconds closes. -/
  | sessionIdleTimeout (n : Fin 8)
  /-- BACKGROUND_COMMAND_DONE (R404). A background command finishes and its final status is kept. -/
  | backgroundCommandDone (k : Fin 14) (info : ImageInfo)
  /-- SLIDING_WINDOW_ACCESS (R372). A BAR2 access in the sliding window reaches internal address WIN_BASE plus offset. -/
  | slidingWindowAccess (off : Fin 0x1000000) (len : Fin 513) (data : Option (List Byte)) (ses : Fin 4)
  /-- COUNTER_LOW_READ (R18). A read of a wide counter low word snapshots the whole counter. -/
  | counterLowRead (read : RegRead)
  /-- RESERVED_ADDRESS_ACCESS (R22). An access to a reserved address completes without effect and counts a Drizzle fault. -/
  | reservedAddressAccess (a : Fin 0x10000000000) (acc : Access)
  /-- SH_ARM (R75). A write of ARM checks the staged values and arms the shadow set or sets BAD_VALUE. -/
  | shArm (p : Fin 12) (v : Word)
  /-- SH_DISARM (R73). A write of DISARM clears ARM without a transfer. -/
  | shDisarm (p : Fin 12) (v : Word)
  /-- SH_REG_WRITE (R74). A write to a shadowed register is staged, or dropped as stale or foreign. -/
  | shRegWrite (p : Fin 12) (off : Fin 0x10000) (v : Word)
  /-- DMA_ENABLE (R378). A write of ENABLE starts a DMA channel enabling. -/
  | dmaEnable (k : DmaSel) (v : Word)
  /-- DMA_ENABLE_DONE (R378). An enabling DMA channel reaches ENABLED with RUN IDLE. -/
  | dmaEnableDone (k : DmaSel)
  /-- DMA_DISABLE (R378). A write of DISABLE drains or disables a DMA channel. -/
  | dmaDisable (k : DmaSel) (v : Word)
  /-- DMA_CLEAR (R378). A write of CLEAR returns a STOPPED channel to IDLE. -/
  | dmaClear (k : DmaSel) (v : Word)
  /-- DMA_DOORBELL (R379). A DOORBELL write starts a descriptor chain or is dropped. -/
  | dmaDoorbell (k : DmaSel) (v : Word)
  /-- DMA_DESCRIPTOR_FETCHED (R381). A fetched descriptor is checked and run or stops the channel. -/
  | dmaDescriptorFetched (k : DmaSel) (r : ReadEnd)
  /-- DMA_READ_COMPLETION (R382). A DMA source read returns and its bytes are packed into destination writes. -/
  | dmaReadCompletion (h2d : Bool) (r : ReadEnd)
  /-- DMA_DESCRIPTOR_COMPLETE (R384). The last write of a descriptor leaves the engine and the completion word and vector follow. -/
  | dmaDescriptorComplete (h2d : Bool)
  /-- DMA_READBACK_DONE (R384). The read-back of a descriptor returns and completes it. -/
  | dmaReadbackDone (h2d : Bool) (r : ReadEnd)
  /-- DMA_COMPLETION_TIMEOUT (R368). A non-posted request of a DMA channel times out and the channel stops with TIMEOUT. -/
  | dmaCompletionTimeout (k : DmaSel)
  /-- OUT_CONS_WRITE (R387). A consumer-index write frees ring room or is rejected. -/
  | outConsWrite (r : Fin 16) (v : Word)
  /-- MSIX_VECTOR_UNMASK (R373). Unmasking a vector with its PBA bit set sends one message. -/
  | msixVectorUnmask (v : Fin 64)
  /-- REGISTER_WRITE (R199). A write to a register without its own row clears counts, RW1C bits or sets RW fields. -/
  | registerWrite (place : RegPlace) (d : RegData) (ses : Fin 4)
  /-- PERST_ASSERT (R388). PERST_N, hot reset or FLR assertion causes a warm reset or the host-independent effects. -/
  | perstAssert
  /-- PERST_DEASSERT (R389). PERST_N deassertion starts link training and BAR0 restoration. -/
  | perstDeassert
  /-- D3HOT_ENTRY (R388). Entry to D3hot acts as a PERST_N assertion for DMA and HOST rings. -/
  | d3hotEntry
  /-- MAILBOX_REOPEN (R389). Firmware reopens mailboxes 1 to 4 after restoring BAR0. -/
  | mailboxReopen
  /-- GPIO_EDGE (R425). A filtered edge on GPIO fires its producer. -/
  | gpioEdge (pin : Fin 32) (level : Bool)
  /-- CONSUMER_BUSY_END (R419). A busy consumer ends its activation and starts the pending one. -/
  | consumerBusyEnd (j : Fin 96)
  /-- EVT_LOCKOUT_END (R418). A channel lockout ends. -/
  | evtLockoutEnd (n : Fin 64)
  /-- EVT_SW_FIRE (R427). A write of SW_FIRE fires the channel. -/
  | evtSwFire (n : Fin 64) (ses : Fin 4)
  /-- GPIO_PULSE_END (R426). A GPIO_OUT pulse ends after WIDTH_NS. -/
  | gpioPulseEnd (k : Fin 24)
  /-- STROBE_INHIBIT_END (R415). A strobe inhibit ends after INHIBIT_NS. -/
  | strobeInhibitEnd (k : Fin 4)
  /-- FAULT_REPORT (R428). A report reaches the collector, setting its group bit and counts. -/
  | faultReport (rs : List Report)
  /-- REFERENCE_LOST (R480). A reference clock is declared lost within 10 µs of its last edge. -/
  | referenceLost (k : Fin 9)
  /-- CLOCK_LOSS (R17). An internal clock is lost and its DCFIFOs freeze on that side. -/
  | clockLoss (k : Fin 17)
  /-- SENSOR_SAMPLE (R445). Every millisecond firmware samples sensors and raises THERMAL or VOLTAGE. -/
  | sensorSample (thermal : Vector Int 16) (voltage : Vector Nat 12)
  /-- LOG_FLUSH (R446). Staged log entries are written to flash at page fill or each second. -/
  | logFlush
  /-- WATCHDOG_EXPIRY (R448). The management watchdog expires and restarts the core or starts the fallback. -/
  | watchdogExpiry
  /-- STARTUP_BEGIN (R477). With POR_N high and references present, the start-up steps begin. -/
  | startupBegin
  /-- MAILBOXES_OPEN (R438). Start-up reaches step 9 and the mailboxes open. -/
  | mailboxesOpen
  /-- BOOT_ARM_APPLY (R441). Session 0 arms a link of the ARM record once it is up and TB0 locked. -/
  | bootArmApply (l : Fin 4)
  /-- ARM_WAIT_EXPIRY (R441). ARM_WAIT_S passes without the arming conditions and the link stays disarmed. -/
  | armWaitExpiry
  /-- UPDATE_IDLE_TIMEOUT (R454). 60 s without update commands ends the lock and invalidates the target slot. -/
  | updateIdleTimeout
  /-- ACTIVATION_RESTART_DONE (R456). The new image adopts the registers, reopens the mailboxes and starts its trial. -/
  | activationRestartDone
  /-- TRIAL_CONFIRM (R457). The trial image passes its checks, commits its store and advances the rollback counter. -/
  | trialConfirm
  /-- TRIAL_WINDOW_END (R458). The trial window ends unconfirmed and falls back to the previous image. -/
  | trialWindowEnd
  /-- POWER_TRANSITION_DONE (R483). Entry to or return from HOLD, STANDBY or DEEP SLEEP completes. -/
  | powerTransitionDone
  /-- WAKE (R484). Activation of the WAKE consumer returns the device to RETURN_STATE. -/
  | wake
  /-- WARM_RESET (R481). WRST_N or DEV_RESET causes a warm reset. -/
  | warmReset (pin : Bool)
  /-- POR_FALL (R478). POR_N falls and every ball takes its reset state. -/
  | porFall
  /-- BROWN_OUT (R479). VDD_AON or VDD_IO18 collapses and the device acts as if POR_N fell. -/
  | brownOut
  /-- JTAG_LIFECYCLE_PROGRAM (R460). JTAG programs a life-cycle transition effective at the next cold reset. -/
  | jtagLifecycleProgram (target : LifeCycle) (keyHash : BitVec 384) (policy : BitVec 6)
  /-- BYPASS (R488). JTAG BYPASS. -/
  | bypass
  /-- IDCODE (R488). JTAG IDCODE. -/
  | idcode
  /-- SAMPLE_PRELOAD (R488). JTAG SAMPLE/PRELOAD. -/
  | samplePreload
  /-- EXTEST (R488). JTAG EXTEST, refused with a link armed. -/
  | extest
  /-- EXTEST_PULSE (R488). JTAG EXTEST_PULSE. -/
  | extestPulse
  /-- EXTEST_TRAIN (R488). JTAG EXTEST_TRAIN. -/
  | extestTrain
  /-- CLAMP (R488). JTAG CLAMP. -/
  | clamp
  /-- HIGHZ (R488). JTAG HIGHZ. -/
  | highz
  /-- DEV_IDENTIFY (R408). Returns device identity and state. -/
  | devIdentify (q : Req)
  /-- SESSION_OPEN (R399). Opens a network session. -/
  | sessionOpen (q : Req)
  /-- SESSION_CLOSE (R399). Closes the session and releases its claims and lock. -/
  | sessionClose (q : Req)
  /-- SESSION_CLAIM (R401). Claims resources all or nothing, or returns notices. -/
  | sessionClaim (q : Req)
  /-- SESSION_RELEASE (R401). Releases claimed resources. -/
  | sessionRelease (q : Req)
  /-- DEV_STATE_SET (R409). Sets power state, HOST_INDEPENDENT and TEST. -/
  | devStateSet (q : Req)
  /-- DEV_RESET (R409). Requests a warm reset after the response. -/
  | devReset (q : Req)
  /-- DEV_HEALTH (R408). Returns stitch, segment, Gust and crossing counters. -/
  | devHealth (q : Req)
  /-- CAM_PORT_CONFIG (R34). Sets protocol, mode, lanes, precoding, merge and streams of a port. -/
  | camPortConfig (q : Req)
  /-- CAM_PORT_ENABLE (R46). Enables ports and starts bring-up. -/
  | camPortEnable (q : Req)
  /-- CAM_PORT_DISABLE (R49). Disables or drains ports. -/
  | camPortDisable (q : Req)
  /-- CAM_LINK_STATUS (R61). Returns port status records. -/
  | camLinkStatus (q : Req)
  /-- CAM_REG_ACCESS (R408). Reads or writes camera registers. -/
  | camRegAccess (q : Req)
  /-- CAM_EXPOSURE_SET (R82). Stages tagged exposure settings for a port. -/
  | camExposureSet (q : Req)
  /-- PIPE_CONFIG (R77). Configures a pipe and writes its shadow set. -/
  | pipeConfig (q : Req)
  /-- PIPE_TABLE_LOAD (R79). Loads a correction table or class LUT into an inactive bank. -/
  | pipeTableLoad (q : Req)
  /-- PIPE_ENABLE (R492). Enables pipes. -/
  | pipeEnable (q : Req)
  /-- PIPE_DISABLE (R492). Disables or drains pipes. -/
  | pipeDisable (q : Req)
  /-- PIPE_STATS_READ (R410). Returns pipe statistics and counters. -/
  | pipeStatsRead (q : Req)
  /-- TARE_CONFIG (R128). Sets Tare parameters of a pipe. -/
  | tareConfig (q : Req)
  /-- TARE_RUN (R114). Starts a flat or dark Tare run. -/
  | tareRun (q : Req)
  /-- TARE_STATUS (R129). Returns the Tare status block. -/
  | tareStatus (q : Req)
  /-- TARE_ROLLBACK (R125). Returns to the bank in use before the last swap. -/
  | tareRollback (q : Req)
  /-- BIN_CONFIG (R146). Sets binning chain parameters. -/
  | binConfig (q : Req)
  /-- BIN_COEF_LOAD (R136). Loads a binning coefficient bank. -/
  | binCoefLoad (q : Req)
  /-- STITCH_CONFIG (R148). Sets the stitch group and column mapping. -/
  | stitchConfig (q : Req)
  /-- CLASS_LUT_LOAD (R176). Loads one class LUT into every member pipe. -/
  | classLutLoad (q : Req)
  /-- SEG_CONFIG (R175). Sets MIN_AREA and MAX_ROWS. -/
  | segConfig (q : Req)
  /-- GUST_RULES_LOAD (R195). Loads rule bank parts or requests a swap. -/
  | gustRulesLoad (q : Req)
  /-- ENG_IMAGE_LOAD (R214). Loads an engine image into clusters. -/
  | engImageLoad (q : Req)
  /-- ENG_POOL_CONFIG (R230). Configures and enables or disables a cluster. -/
  | engPoolConfig (q : Req)
  /-- ENG_STATUS (R236). Returns engine map and dispatcher status. -/
  | engStatus (q : Req)
  /-- ENG_FENCE_CLEAR (R235). Starts the self-test of a fenced engine. -/
  | engFenceClear (q : Req)
  /-- ENG_POLICY_SET (R229). Sets a policy class deadline and fallback. -/
  | engPolicySet (q : Req)
  /-- QE_CONFIG (R257). Configures a quadrature channel or presets its count. -/
  | qeConfig (q : Req)
  /-- QE_READ (R257). Returns channel and probe blocks. -/
  | qeRead (q : Req)
  /-- TRIG_CONFIG (R251). Configures a trigger generator. -/
  | trigConfig (q : Req)
  /-- PROBE_CONFIG (R257). Configures a probe input. -/
  | probeConfig (q : Req)
  /-- EJ_CONFIG (R281). Sets ejector scheduling, rows, links and zones. -/
  | ejConfig (q : Req)
  /-- EJ_MAP_LOAD (R263). Loads a row map or safe pattern. -/
  | ejMapLoad (q : Req)
  /-- EJ_ARM (R276). Arms valve links in RUN or TEST. -/
  | ejArm (q : Req)
  /-- EJ_DISARM (R277). Disarms valve links. -/
  | ejDisarm (q : Req)
  /-- EJ_TEST_PULSE (R280). Starts a test pulse sequence. -/
  | ejTestPulse (q : Req)
  /-- ETH_PORT_CONFIG (R283). Configures an Ethernet port. -/
  | ethPortConfig (q : Req)
  /-- PTP_CONFIG (R298). Configures a PTP instance and transparent clocks. -/
  | ptpConfig (q : Req)
  /-- PTP_STATUS (R298). Returns PTP instance status. -/
  | ptpStatus (q : Req)
  /-- TIME_BASE_CONFIG (R290). Configures a time base, sets it or its PPS outputs. -/
  | timeBaseConfig (q : Req)
  /-- STATION_CONFIG (R307). Sets station layout and Ell parameters. -/
  | stationConfig (q : Req)
  /-- ELL_STATUS (R324). Returns Ell side blocks. -/
  | ellStatus (q : Req)
  /-- FATHOM_CONFIG (R325). Configures a Fathom ring and crop parameters. -/
  | fathomConfig (q : Req)
  /-- OUTPUT_RING_CONFIG (R340). Configures and enables an output ring. -/
  | outputRingConfig (q : Req)
  /-- CODER_CONFIG (R339). Configures JPEG-LS coding. -/
  | coderConfig (q : Req)
  /-- PREVIEW_CONFIG (R110). Configures preview strips. -/
  | previewConfig (q : Req)
  /-- DRAM_STATUS (R366). Returns DRAM registers. -/
  | dramStatus (q : Req)
  /-- DRAM_QOS_SET (R358). Sets DRAM latency targets and IDLE_SR_NS. -/
  | dramQosSet (q : Req)
  /-- EVT_CHANNEL_CONFIG (R421). Configures an event channel after the loop check. -/
  | evtChannelConfig (q : Req)
  /-- EVT_CHANNEL_STATUS (R427). Returns event channel blocks. -/
  | evtChannelStatus (q : Req)
  /-- FLT_READ (R437). Returns fault status and first record. -/
  | fltRead (q : Req)
  /-- FLT_ACK (R436). Clears status bits and releases the first record. -/
  | fltAck (q : Req)
  /-- MGT_SENSORS_READ (R445). Returns sensor samples. -/
  | mgtSensorsRead (q : Req)
  /-- LOG_READ (R446). Returns log entries. -/
  | logRead (q : Req)
  /-- SETTINGS_SAVE (R451). Saves the current configuration to the settings store. -/
  | settingsSave (q : Req)
  /-- SETTINGS_LOAD (R451). Applies the committed settings store. -/
  | settingsLoad (q : Req)
  /-- SETTINGS_ACCEPT_DEFAULTS (R414). Confirms a trial image with unreadable settings. -/
  | settingsAcceptDefaults (q : Req)
  /-- UPDATE_BEGIN (R454). Takes the update lock and starts a transfer. -/
  | updateBegin (q : Req)
  /-- UPDATE_BLOCK (R413). Delivers part of an update block. -/
  | updateBlock (q : Req)
  /-- UPDATE_VERIFY (R455). Verifies the received image in the background. -/
  | updateVerify (q : Req)
  /-- UPDATE_ACTIVATE (R456). Activates a verified image. -/
  | updateActivate (q : Req)
  /-- UPDATE_ABORT (R458). Aborts an update or trial. -/
  | updateAbort (q : Req)
  /-- UPDATE_STATUS (R408). Returns update status. -/
  | updateStatus (q : Req)
  /-- LCS_READ (R461). Returns life-cycle and fuse policy. -/
  | lcsRead (q : Req)
  /-- OBS_SELECT (R463). Routes signals to the OBS pins. -/
  | obsSelect (q : Req)
  /-- QE_SPACING_END (R241). At the first sample after MIN_SPACING has run out, a class W channel counts a held transition whose input still differs from the tracked state by one line. -/
  | qeSpacingEnd (c : Fin 8)
  /-- ENGINE_CLOCK_STEP (R201). An engine clock generator moves its frequency by a 10 MHz step as its droop and temperature monitors, CLOCK_MAX or the VDD_CORE set point allow. -/
  | engineClockStep (e : Fin 192) (up : Bool)
  /-- CLOCK_RESTORED (R480). A reference or internal clock that was declared lost is present again, so the sampler returns to the TB0 clock, SLOW clears and its level fault report ceases. -/
  | clockRestored (k : Fin 26)
  /-- PCIE_LINK_CHANGE (R344). The PCI Express link completes training, retrains to another rate or width, or goes down, changing LINK_GEN and LINK_WIDTH. -/
  | pcieLinkChange (gen : Fin 5) (width : Fin 9)
  /-- MGT_RESTART_DONE (R433). The management core finishes a restart after an MGT report, a watchdog expiry or a trial fallback, and reopens its mailboxes to leave PAUSE. -/
  | mgtRestartDone
  /-- PTP_ANNOUNCE_TIMEOUT (R298). announceReceiptTimeout Announce intervals pass without an Announce, so the BMCA changes the PTP port state. -/
  | ptpAnnounceTimeout (inst : Fin 4) (n : Fin 4)
  /-- LIBRARY_ACTIVATION_DONE (R456). Within 2 s of UPDATE_ACTIVATE a LIBRARY image becomes the named library slot and the update STATE returns to IDLE. -/
  | libraryActivationDone
  deriving DecidableEq, Repr

end Sys2Proof
end

