-- ==== Sys2Proof/Machine/State.lean ====
section
/-! DEFINITION. The whole state of the block, and the state right after a cold reset. -/

namespace Sys2Proof.Machine

/-- The device never stops (00 R8 to 19 R437: every error of the spec is a report, a status code, a flag or a
program fault of one engine), so no meaning raises a fault and the type has no constructor. -/
inductive Fault where
  deriving DecidableEq, Repr

/-- Why a command has no meaning. -/
inductive Refusal where
  /-- the dispatcher raises it for a command whose meaning is not written yet: safe, nothing is claimed of it -/
  | notModelled (mnemonic : String)
  deriving DecidableEq, Repr

/-- The state of the PV1216: plain data, one record per part of the device. -/
structure State where
  /-- commands waiting, first in first out | model's own | the row's form of a block | reset empty -/
  pending : List Instr := []
  /-- the model's clock in ns since the reset | model's own | DESIGN CHOICE | reset 0 -/
  now : Nat := 0
  /-- draws of free values so far | model's own | DESIGN CHOICE | reset 0 -/
  freeCount : Nat := 0
  /-- what left the device, newest first | model's own | reset empty -/
  out : List Out := []
  /-- the last value a host read returned | 32 bits | model's own | reset 0 -/
  readData : Word := 0
  /-- bytes of the last block read | model's own | reset empty -/
  readBytes : List Byte := []
  /-- internal memory: cells that differ from their blank value | 40-bit address space | 01 R19, R462 | reset blank -/
  mem : List Host.Cell := []
  time : TimeBlock := {}
  pos : PosBlock := {}
  evt : EvtBlock := {}
  flt : FltBlock := {}
  mgmt : MgmtBlock := {}
  power : PowerBlock := {}
  host : HostBlock := {}
  mbx : MbxBlock := {}
  cam : CamBlock := {}
  /-- P0 to P11 | 12 pipes | 03, 04, 05, 06 | reset per field -/
  pipe : Vector Pipe 12 := Vector.replicate 12 {}
  stitch : StitchBlock := {}
  seg : SegBlock := {}
  gust : GustBlock := {}
  ej : EjBlock := {}
  eng : EngBlock := {}
  outp : OutBlock := {}
  net : NetBlock := {}
  station : StationBlock := {}
  dram : DramBlock := {}
  /-- 64-bit words (address / 8) of internal memory whose stored code has an uncorrectable error, and those with a
  correctable one | the world's act | 01 Table 0.1, 04 R103 | reset none -/
  eccBad : List Nat := []
  eccSoft : List Nat := []
  deriving DecidableEq, Repr

/-- The state right after a cold reset, at the rise of POR_N (00 R7, 20 R438, 21 R477). -/
def State.reset : State := {}

end Sys2Proof.Machine
end

