-- ==== Sys2Proof/Machine/Flags.lean ====
section
/-! DEFINITION. Counts and sticky bits: how the registers of the block count, saturate, wrap and clear
(00 R5, R6; 08 R199). -/

namespace Sys2Proof.Machine

/-- One more on a count of `w` bits that saturates at all ones. -/
def satInc (w n : Nat) : Nat := if n + 1 < 2 ^ w then n + 1 else 2 ^ w - 1

/-- `k` more on a count of `w` bits that saturates at all ones. -/
def satAdd (w n k : Nat) : Nat := if n + k < 2 ^ w then n + k else 2 ^ w - 1

/-- One more on a count of `w` bits that counts modulo 2^w. -/
def modInc (w n : Nat) : Nat := (n + 1) % 2 ^ w

/-- A write of `v` to a sticky bit of access RW1C: 1 clears, 0 leaves (00 R5). -/
def w1c (old v : Bool) : Bool := old && !v

/-- A write of `v` to a count: 0 clears it, any other value is ignored (08 R199). -/
def countWrite (old : Nat) (v : Word) : Nat := if v = 0 then 0 else old

/-- Bit `k` of a register word. -/
def bit (v : Word) (k : Nat) : Bool := v.getLsbD k

/-- Bits `hi` to `lo` of a register word, as a number. -/
def bits (v : Word) (hi lo : Nat) : Nat := v.toNat / 2 ^ lo % 2 ^ (hi + 1 - lo)

/-- A flag at bit `k` of a word under construction. -/
def flagAt (f : Bool) (k : Nat) : Nat := if f then 2 ^ k else 0

/-- A number as a 32-bit register word. -/
def w32 (n : Nat) : Word := BitVec.ofNat 32 n

/-- An integer as a 32-bit two's-complement register word. -/
def wInt (n : Int) : Word := BitVec.ofInt 32 n

/-- The low word of a 64-bit field. -/
def lo64 (n : Nat) : Word := BitVec.ofNat 32 n

/-- The high word of a 64-bit field. -/
def hi64 (n : Nat) : Word := BitVec.ofNat 32 (n / 2 ^ 32)

end Sys2Proof.Machine
end

