-- ==== Sys2Proof/Machine/Operands.lean ====
section
/-! DEFINITION. Byte strings: the little-endian fields of payloads, descriptors, records and frames (00 R2). -/

namespace Sys2Proof.Machine

/-- Byte `i` of a string, 0 beyond its end. -/
def byteAt (bs : List Byte) (i : Nat) : Nat := ((bs[i]?).map BitVec.toNat).getD 0

/-- The `n`-byte little-endian number at offset `i`. -/
def leAt (bs : List Byte) (i : Nat) : Nat → Nat
  | 0 => 0
  | n + 1 => byteAt bs i + 256 * leAt bs (i + 1) n

/-- A 16-bit field at offset `i`. -/
def le16 (bs : List Byte) (i : Nat) : Nat := leAt bs i 2

/-- A 32-bit field at offset `i`. -/
def le32 (bs : List Byte) (i : Nat) : Nat := leAt bs i 4

/-- A 64-bit field at offset `i`. -/
def le64 (bs : List Byte) (i : Nat) : Nat := leAt bs i 8

/-- A number of `w` bits read as two's complement. -/
def signed (w n : Nat) : Int := (BitVec.ofNat w n).toInt

/-- The `n` little-endian bytes of a number. -/
def bytesOf : Nat → Nat → List Byte
  | 0, _ => []
  | n + 1, v => BitVec.ofNat 8 v :: bytesOf n (v / 256)

/-- The `n` little-endian bytes of an integer in two's complement. -/
def bytesOfInt (n : Nat) (v : Int) : List Byte := bytesOf n (v % (2 ^ (8 * n) : Nat)).toNat

/-- `n` zero bytes. -/
def zeros (n : Nat) : List Byte := List.replicate n 0

/-- A string cut or filled with zero to `n` bytes. -/
def fit (n : Nat) (bs : List Byte) : List Byte := (bs ++ zeros n).take n

/-- The string from offset `i`, `n` bytes long, cut at the end. -/
def slice (bs : List Byte) (i n : Nat) : List Byte := (bs.drop i).take n

/-- Are all bytes of offsets `i` to `i + n - 1` zero? -/
def zeroAt (bs : List Byte) (i n : Nat) : Bool := leAt bs i n == 0

/-- The little-endian bytes of a list of words. -/
def wordsBytes (ws : List Word) : List Byte := ws.flatMap fun w => bytesOf 4 w.toNat

/-- The numbers below `n` whose bit is set in `m`, ascending. -/
def maskList (n m : Nat) : List Nat := (List.range n).filter fun k => m.testBit k

/-- Put `x` before the first element that it may not follow. -/
def insertBy {α : Type} (le : α → α → Bool) (x : α) : List α → List α
  | [] => [x]
  | y :: t => if le y x then y :: insertBy le x t else x :: y :: t

/-- Sort a list, keeping the order of equals. -/
def sortBy {α : Type} (le : α → α → Bool) (l : List α) : List α := l.foldl (fun t x => insertBy le x t) []

/-! ### CRCs (02 R38, R43; 11 R271) -/

/-- One bit of the CRC-32 of IEEE 802.3. -/
def crc32Bit (c : BitVec 32) (b : Bool) : BitVec 32 :=
  if c.getLsbD 0 != b then (c >>> 1) ^^^ 0xEDB88320#32 else c >>> 1

/-- The CRC-32 of payloads, bit 0 first (02 R38). -/
def crc32 (blocks : List (BitVec 64)) : BitVec 32 :=
  ~~~(blocks.foldl (fun c b => (List.range 64).foldl (fun c i => crc32Bit c (b.getLsbD i)) c) 0xFFFFFFFF#32)

/-- The CRC-32 of bytes, as the FCS of an Ethernet frame takes it (12 R299; PRESUMED: IEEE 802.3). -/
def crc32Bytes (bs : List Byte) : BitVec 32 :=
  ~~~(bs.foldl (fun c b => (List.range 8).foldl (fun c i => crc32Bit c (b.getLsbD i)) c) 0xFFFFFFFF#32)

/-- One byte of the CRC-16 with polynomial 0x1021. -/
def crc16Byte (c : BitVec 16) (b : Byte) : BitVec 16 :=
  (List.range 8).foldl (fun c _ => if c.getLsbD 15 then (c <<< 1) ^^^ 0x1021#16 else c <<< 1)
    (c ^^^ ((b.zeroExtend 16) <<< 8))

/-- The CRC-16 with polynomial 0x1021 and initial value 0xFFFF (02 R43, 11 R271). -/
def crc16 (bs : List Byte) : BitVec 16 := bs.foldl crc16Byte 0xFFFF#16

end Sys2Proof.Machine
end

