-- ==== Sys2Proof/Machine/Ops.lean ====
section
/-! DEFINITION. The operations every part of the device shares: banks, memory, output, reports, free values,
time readings and interrupts. -/

namespace Sys2Proof.Machine

/-- Change instance `i` of a bank. -/
def upd {α : Type} {n : Nat} (v : Vector α n) (i : Fin n) (f : α → α) : Vector α n := v.set i (f v[i])

/-- Instance number `k` of a bank of `n`, if there is one. -/
def idx? (n k : Nat) : Option (Fin n) := if h : k < n then some ⟨k, h⟩ else none

/-- Instance number `k` of a bank of `n + 1`, taken modulo the bank's size. -/
def idxMod (n k : Nat) : Fin (n + 1) := ⟨k % (n + 1), Nat.mod_lt _ (Nat.succ_pos n)⟩

/-- Apply `f` for each instance number of a list. -/
def forEach {α β : Type} (l : List α) (f : α → β → β) (s : β) : β := l.foldl (fun t a => f a t) s

/-! ### Memory (01 R19, 20 R462) -/

/-- What an unlisted address reads as: zero, the wipe value (20 R462), except the FLAT tables of the correction
tables region, which start with gain 0x4000 (20 R450). -/
def blank (a : Nat) : Byte :=
  if 0x100A000000 ≤ a ∧ a < 0x100A600000 ∧ 0x20000 ≤ (a - 0x100A000000) % 0x40000 ∧ a % 2 = 1 then 0x40 else 0

/-- The byte at an address. -/
def memRead (m : List Host.Cell) (a : Nat) : Byte :=
  match m with
  | [] => blank a
  | (b, w) :: t => if b = a then w else memRead t a

/-- Write one byte, keeping addresses rising and no cell equal to its blank value. -/
def memWrite (m : List Host.Cell) (a : Nat) (v : Byte) : List Host.Cell :=
  match m with
  | [] => if v = blank a then [] else [(a, v)]
  | (b, w) :: t =>
    if a < b then (if v = blank a then (b, w) :: t else (a, v) :: (b, w) :: t)
    else if a = b then (if v = blank a then t else (a, v) :: t)
    else (b, w) :: memWrite t a v

/-- `n` bytes from an address up. -/
def memReadN (m : List Host.Cell) (a : Nat) : Nat → List Byte
  | 0 => []
  | n + 1 => memRead m a :: memReadN m (a + 1) n

/-- Write a byte string from an address up. -/
def memWriteN (m : List Host.Cell) (a : Nat) : List Byte → List Host.Cell
  | [] => m
  | v :: vs => memWriteN (memWrite m a v) (a + 1) vs

/-- Return every cell of the addresses `lo` to `hi - 1` to its blank value (a wipe, 20 R462). -/
def memWipe (m : List Host.Cell) (lo hi : Nat) : List Host.Cell := m.filter fun c => c.1 < lo || hi ≤ c.1

/-- The canonical form: addresses strictly rising, no cell equal to its blank value. -/
def memWf : List Host.Cell → Bool
  | [] => true
  | [(a, v)] => v != blank a
  | (a, v) :: (b, w) :: t => v != blank a && decide (a < b) && memWf ((b, w) :: t)

/-! ### Output, reports and free values -/

/-- An item leaves the device. -/
def State.emit (s : State) (o : Out) : State := { s with out := o :: s.out }

/-- An Ethernet port has sent a frame (12 Table 12.2). -/
def State.sentFrame (s : State) (p : Fin 4) : State :=
  { s with net := { s.net with port := upd s.net.port p fun x => { x with txFrames := x.txFrames + 1 } } }

/-- A frame of class `cls` becomes due on an Ethernet port (12 R286).  A port without a link takes none. -/
def State.queueFrame (s : State) (p : Fin 4) (f : TxFrame) : State :=
  if (s.net.port[p]).up then
    { s with net := { s.net with port := upd s.net.port p fun x => { x with txQueue := x.txQueue ++ [{ f with at_ := s.now }] } } }
  else s

/-- Bytes of a frame with `n` bytes after the Ethernet header, tag and FCS included, at least 64 (12 R285). -/
def ethLength (p : EthPort) (n : Nat) : Nat := max 64 (n + 18 + if p.vlan = 0 then 0 else 4)

/-- A UDP/IPv4 datagram becomes due on a port (12 R286). -/
def State.sendUdp (s : State) (p : Fin 4) (cls src destIp dest dscp : Nat) (payload : List Byte) : State :=
  s.queueFrame p { cls := cls, at_ := s.now, len := ethLength s.net.port[p] (28 + payload.length)
                   out := .udp p.val src destIp dest dscp payload }

/-- An Ethernet port has accepted a frame. -/
def State.tookFrame (s : State) (p : Fin 4) : State :=
  { s with net := { s.net with port := upd s.net.port p fun x => { x with rxFrames := x.rxFrames + 1 } } }

/-- An Ethernet port has discarded a frame under 12 R284, R285 or 17 R396. -/
def State.droppedFrame (s : State) (p : Fin 4) : State :=
  { s with net := { s.net with port := upd s.net.port p fun x => { x with rxDrop := x.rxDrop + 1 } } }

/-- A report sets out towards the fault collector (19 R428). -/
def State.report (s : State) (r : Report) : State :=
  { s with flt := { s.flt with inFlight := s.flt.inFlight ++ [r] } }

/-- The next free value of kind `k`. -/
def State.freeVal (s : State) (k : Nat) : Nat := Config.freeNat k s.freeCount

/-- A free value has been drawn. -/
def State.drawn (s : State) : State := { s with freeCount := s.freeCount + 1 }

/-- Kinds of free values. -/
def freeRounding : Nat := 0
/-- A count read after it passed 2^32 where the spec states no saturation. -/
def freeOverflow : Nat := 1
/-- An interval the spec does not state. -/
def freeInterval : Nat := 2

/-- `n / d` rounded in a direction the spec does not state: down, or up when the free bit says so and the
quotient is not whole. -/
def State.freeDiv (s : State) (n : Int) (d : Nat) : Int :=
  let q := n.fdiv d
  if n.fmod d = 0 then q else q + (s.freeVal freeRounding % 2 : Nat)

/-- A 32-bit count as a register reads it; past 2^32 where the spec states no saturation the value is free. -/
def State.countWord (s : State) (n : Nat) : Word :=
  if n < 2 ^ 32 then w32 n else w32 (Config.freeNat freeOverflow (s.freeCount + n))

/-! ### Time readings (12 R287, R301) -/

/-- An instant in units of 2^-16 ns. -/
def Stamp.units (t : Stamp) : Nat := (t.seconds * 1000000000 + t.ns) * 65536 + t.frac

/-- The instant of a number of units of 2^-16 ns; SECONDS has 48 bits. -/
def Stamp.ofUnits (u : Int) : Stamp :=
  let n := (u % (2 ^ 48 * 1000000000 * 65536 : Nat)).toNat
  { seconds := n / 65536 / 1000000000, ns := n / 65536 % 1000000000, frac := n % 65536 }

/-- Whole nanoseconds of an instant. -/
def Stamp.totalNs (t : Stamp) : Nat := t.seconds * 1000000000 + t.ns

/-- TS32 of an instant (12 R301). -/
def Stamp.ts32 (t : Stamp) : Ts32 := BitVec.ofNat 32 t.totalNs

/-- The signed difference by which two TS32 values are compared (12 R301). -/
def tsDiff (a b : Ts32) : Int := (a - b).toInt

/-- Is key `a` reached at `b`?  A stamp is reached once the present is not before it (12 R301, R305). -/
def tsReached (key now : Ts32) : Bool := decide (0 ≤ tsDiff now key)

/-- REFCLK_SYS is present (20 Table 20.4 bit 0). -/
def State.sysRef (s : State) : Bool := s.power.clockOk[0]

/-- The clock of a presence bit runs (20 Table 20.4).  While a clock is lost, the units on it stand still: a reader on it
takes nothing out of a crossing, and what others have written stays there whole (01 R17). -/
def State.clockRuns (s : State) (k : Fin 26) : Bool := s.power.clockOk[k]

/-- Firmware runs: no pause or restart of the management core, and the management PLL (20 R442; 01 R17). -/
def State.firmwareRuns (s : State) : Bool := !s.mgmt.mgtDown && s.clockRuns 13

/-- The oscillators of the time bases run (12 R288). -/
def State.oscRuns (s : State) : Bool := s.sysRef && (s.power.state != .deepSleep)

/-- Time base `b` counts (12 Table 12.3). -/
def State.tbCounts (s : State) (b : Fin 4) : Bool := s.oscRuns && (s.time.tb[b].state != .off)

/-- The time of time base `b`. -/
def State.tbTime (s : State) (b : Fin 4) : Stamp := s.time.tb[b].time

/-- TS32 of time base `b`. -/
def State.tbTs (s : State) (b : Fin 4) : Ts32 := (s.time.tb[b].time).ts32

/-- TS32 of TB0. -/
def State.ts0 (s : State) : Ts32 := s.tbTs 0

/-- Sample period of the position sampler in ns (10 Table 10.1, R238). -/
def State.samplePeriod (s : State) : Nat := if s.oscRuns then 4 else 40

/-- `n` ns rounded up to whole sample periods. -/
def State.roundUpSamples (s : State) (n : Nat) : Nat := ceilDiv n s.samplePeriod * s.samplePeriod

/-- The count of position channel `c` (10 R240). -/
def State.posCount (s : State) (c : Fin 8) : Pos64 := s.pos.qe[c].count

/-! ### Interrupts and balls (16 R373, R390) -/

/-- Which vectors the start-up step lets through (20 Table 20.1). -/
def State.vectorAllowed (s : State) (v : Nat) : Bool :=
  decide (v < 63) && (decide (9 ≤ s.mgmt.step) || (decide (4 ≤ s.mgmt.step) && v == 5))

/-- The condition of an MSI-X vector occurs (16 R373). -/
def State.fireVector (s : State) (v : Fin 64) : State :=
  if !s.host.msixEnable || !s.vectorAllowed v then s
  else if s.host.msix[v].masked || s.host.functionMask then
    { s with host := { s.host with msix := upd s.host.msix v fun m => { m with pba := true } } }
  else s.emit (.msix v (s.host.msix[v]).addr (s.host.msix[v]).data)

/-- The same by number; a number without a vector does nothing. -/
def State.fireVectorN (s : State) (v : Nat) : State :=
  match idx? 64 v with
  | some f => s.fireVector f
  | none => s

/-- A ball takes a level. -/
def State.setBall (s : State) (b : Ball) (level : Bool) : State := s.emit (.ball b level)

/-- The level of `OBS[k]`. -/
def State.setObs (s : State) (k : Fin 8) (level : Bool) : State :=
  if s.evt.obsHigh[k] = level then s
  else ({ s with evt := { s.evt with obsHigh := upd s.evt.obsHigh k fun _ => level } }).setBall (.obs k.val) level

/-- A pulse on signal `sig` of Table 20.11: every ball that selects it goes high, and it stays so for 16 ns (20 R463). -/
def State.obsPulse (s : State) (sig : Nat) : State :=
  if s.power.state = .deepSleep then s
  else forEach (List.finRange 8) (fun k t =>
    if t.mgmt.obsSel[k] = sig then
      ({ t with evt := { t.evt with obsUntil := upd t.evt.obsUntil k fun _ => t.now + 16 } }).setObs k true
    else t) s

/-- WAKE_N is driven while PERST_N is asserted with HOST_INDEPENDENT = 1 (16 R390). -/
def State.driveWakeN (s : State) : State :=
  if s.host.perst && s.host.perstIndependent && !s.host.wakeN then
    ({ s with host := { s.host with wakeN := true } }).setBall .wakeN false
  else s

/-! ### Log (20 R446, R447) -/

/-- Stage a log entry; an entry's DATA holds 12 bytes, continued in further entries. -/
def State.log (s : State) (typ session : Nat) (data : List Nat) : State :=
  let mk := fun (i : Nat) (cont : Bool) (d : List Nat) =>
    ({ index := i % 2 ^ 32, time := s.tbTime 0, timeValid := s.time.tb[0].valid && s.tbCounts 0, cont := cont,
       session := session, typ := typ, data := d } : LogEntry)
  let first := mk s.mgmt.logNext false (data.take 12)
  let rest := if data.length ≤ 12 then [] else if data.length ≤ 24 then [mk (s.mgmt.logNext + 1) true (data.drop 12)]
    else [mk (s.mgmt.logNext + 1) true ((data.drop 12).take 12), mk (s.mgmt.logNext + 2) true (data.drop 24)]
  { s with mgmt := { s.mgmt with logStaged := s.mgmt.logStaged ++ first :: rest,
                                 logNext := (s.mgmt.logNext + 1 + rest.length) % 2 ^ 32 } }

/-! ### Sessions and claims (17 R400) -/

/-- The session that holds a resource, if any. -/
def State.holder (s : State) (res : Nat) : Option Nat := (s.mbx.claims.find? fun c => c.1 == res).map (·.2)

/-- Resource identifiers (17 Table 17.3). -/
def resPort (p : Nat) : Nat := 0x0100 + p
/-- Pipe. -/
def resPipe (p : Nat) : Nat := 0x0200 + p
/-- Valve link. -/
def resLink (l : Nat) : Nat := 0x0300 + l
/-- Event channel. -/
def resChan (n : Nat) : Nat := 0x0400 + n
/-- Time base. -/
def resTb (b : Nat) : Nat := 0x0500 + b
/-- Cluster. -/
def resCluster (c : Nat) : Nat := 0x0600 + c
/-- D2H host channel. -/
def resD2h (c : Nat) : Nat := 0x0700 + c
/-- H2D host channel. -/
def resH2d (c : Nat) : Nat := 0x0800 + c
/-- A device-wide setting in a notice (17 Table 17.6). -/
def resDevice : Nat := 0xFFFF

/-- Does the session own the resource, an unheld one counting as owned (17 R400)? -/
def State.owns (s : State) (session res : Nat) : Bool :=
  match s.holder res with
  | none => true
  | some h => h == session

/-- Is the resource held by a PCIe session or by nobody (12 R306)? -/
def State.pcieMayWrite (s : State) (res : Nat) : Bool :=
  match s.holder res with
  | none => true
  | some h => decide (1 ≤ h ∧ h ≤ 4)

end Sys2Proof.Machine
end

