-- ==== Sys2Proof/Machine/Events.lean ====
section
/-! DEFINITION. The event fabric: producers, channels, consumers, pins and their rows (18). -/

namespace Sys2Proof.Machine

/-! ### Producer and consumer numbers (18 Tables 18.1, 18.2) -/

/-- Producer is alive in DEEP SLEEP (18 Table 18.1). -/
def producerDeep (p : Nat) : Bool := decide (p ≤ 48) || decide (120 ≤ p ∧ p ≤ 122)

/-- Producer acts in a power state (18 R424). -/
def producerAlive (ps : PowerState) (p : Nat) : Bool :=
  match ps with
  | .active | .hold => decide (p ≤ 122)
  | .standby => producerDeep p || decide (48 ≤ p ∧ p ≤ 60)
  | .deepSleep => producerDeep p

/-- Consumer is alive in DEEP SLEEP (18 Table 18.2). -/
def consumerDeep (j : Nat) : Bool := j == 55 || decide (68 ≤ j ∧ j ≤ 95)

/-- Consumer acts in a power state (18 R424). -/
def consumerAlive (ps : PowerState) (j : Nat) : Bool :=
  match ps with
  | .active | .hold => decide (j ≤ 95)
  | .standby => consumerDeep j || decide (48 ≤ j ∧ j ≤ 55)
  | .deepSleep => consumerDeep j

/-- Capture window of a consumer in ns, whole (18 Table 18.2). -/
def captureWindow (j : Nat) : Nat :=
  if j < 48 then 1 else if j < 56 then 4 else if j < 64 then 1 else if j < 68 then 4 else if j = 68 then 40
  else if j < 72 then 2 else 4

/-- Change consumer `j`. -/
def State.setCons (s : State) (j : Fin 96) (f : EvtCons → EvtCons) : State :=
  { s with evt := { s.evt with cons := upd s.evt.cons j f } }

/-- Change channel `n`. -/
def State.setChan (s : State) (n : Fin 64) (f : EvtChan → EvtChan) : State :=
  { s with evt := { s.evt with chan := upd s.evt.chan n f } }

/-- Change GPIO pin `i`. -/
def State.setGpio (s : State) (i : Fin 32) (f : Gpio → Gpio) : State :=
  { s with evt := { s.evt with gpio := upd s.evt.gpio i f } }

/-- Does an event at `now` join the activation that opened a window at `start` (18 R419)? -/
def joinsWindow (start : Option Nat) (now j : Nat) : Bool :=
  match start with
  | none => false
  | some t => decide (now < t + captureWindow j)

/-- The driven level of a pin becomes `level`; a pin that already has it shows no change (18 R426). -/
def gpioDrive (k : Fin 24) (level : Bool) (s : State) : State :=
  let i : Fin 32 := ⟨k.val, by omega⟩
  let g := s.evt.gpio[i]
  let s := s.setGpio i fun g => { g with outLevel := level }
  if g.drive && g.outLevel != level then s.setBall (.gpio k.val) level else s

/-- A GPIO_OUT activation on a driven pin: PULSE drives the active level, TOGGLE changes the level; the consumer is busy until
the end of the pulse or of the sample (18 R426, Table 18.2). -/
def gpioActivate (k : Fin 24) (s : State) : State :=
  let g := s.evt.gpio[(⟨k.val, by omega⟩ : Fin 32)]
  if !g.drive then s
  else gpioDrive k (if g.toggle then !g.outLevel else !g.activeLow)
    (s.setCons ⟨72 + k.val, by omega⟩ fun c => { c with busy := true })

/-- The action that an activation of consumer `j` starts at once (18 Table 18.2).  Task inputs, captures and WAKE
keep the slot full until their own row; RELAY is handled where producers are. -/
def consumerAction (j : Fin 96) (s : State) : State :=
  if j.val < 48 then s.setCons j fun c => { c with pending := true, busy := true, captureTs := s.ts0 }
  else if j.val < 56 ∨ j.val = 68 then s.setCons j fun c => { c with pending := true }
  else if h : j.val < 64 then
    let s := s.fireVector ⟨51 + (j.val - 56), by omega⟩
    s.driveWakeN
  else if h : j.val < 68 then
    let k : Fin 4 := ⟨j.val - 64, by omega⟩
    let s := s.setCons j fun c => { c with busy := true }
    ({ s with evt := { s.evt with strobeOff := upd s.evt.strobeOff k fun _ => true } }).setBall (.strobeOut k.val) false
  else if h : 72 ≤ j.val then gpioActivate ⟨j.val - 72, by omega⟩ s
  else s

/-- An event arrives at consumer `j` (18 R419): it is discarded when the consumer is not powered, joins the running
activation in its capture window, starts an activation, fills the slot of a busy consumer, or is lost with OVR. -/
def consumerEvent (relay : Nat → State → State) (j : Fin 96) (s : State) : State :=
  let c := s.evt.cons[j]
  if !consumerAlive s.power.state j.val then s
  else if joinsWindow c.winStart s.now j.val then
    s.setCons j fun c => { c with coalesce := satInc 8 c.coalesce }
  else if c.busy then
    if c.pending then s.setCons j fun c => { c with ovr := true }
    else s.setCons j fun c => { c with pending := true, captureTs := s.ts0 }
  else if c.pending then s.setCons j fun c => { c with ovr := true }
  else
    let s := s.setCons j fun c => { c with winStart := some s.now }
    if 69 ≤ j.val ∧ j.val ≤ 71 then relay (120 + (j.val - 69)) s else consumerAction j s

/-- The count of consecutive firings and LOOP_ACTIVE (18 R423). -/
def loopWatch (now : Nat) (c : EvtChan) : EvtChan × Bool :=
  let close := match c.lastAt with
    | none => false
    | some t => decide (now ≤ t + 2 * c.lockoutNs)
  let n := if close then c.streak + 1 else 1
  if c.onCycle && decide (1024 ≤ n) then ({ c with streak := 0, loopActive := true }, !c.loopActive)
  else ({ c with streak := n }, false)

/-- The lockout that began with the last firing has run its whole sample periods (18 R418). -/
def lockoutOver (c : EvtChan) (s : State) : Bool :=
  match c.lastAt with
  | none => true
  | some t => decide (t + s.roundUpSamples c.lockoutNs ≤ s.now)

/-- A source event reaches channel `n` (18 R417, R418): it fires in the sample in which the lockout ends. -/
def channelEvent (relay : Nat → State → State) (n : Fin 64) (s : State) : State :=
  let c := s.evt.chan[n]
  if !c.enabled then s
  else if c.locked && !lockoutOver c s then
    if c.lastAt = some s.now then s
    else s.setChan n fun c => { c with held := c.held + 1 }
  else
    let (c', loop) := loopWatch s.now c
    let ts := if s.power.state = .deepSleep then c.lastTs else s.ts0
    let s := s.setChan n fun _ =>
      { c' with firings := c'.firings + 1, lastTs := ts, locked := true, lastAt := some s.now }
    let s := if loop then s.report { group := 27, cls := .drizzle, inst := n.val } else s
    let s := s.obsPulse (1 + n.val)
    forEach (List.finRange 96) (fun j t => if c.consumers.testBit j.val then consumerEvent relay j t else t) s

/-- Producer `p` fires: every enabled channel that has it among its sources takes the event (18 R415 to R417).
RELAY hops are followed as far as there are relays; the loop check of R422 forbids longer immediate chains. -/
def produceN : Nat → Nat → State → State
  | 0, _, s => s
  | fuel + 1, p, s =>
    if !producerAlive s.power.state p then s
    else forEach (List.finRange 64)
      (fun n t => if t.evt.chan[n].sources.contains p then channelEvent (produceN fuel) n t else t) s

/-- Producer `p` fires. -/
def produce (p : Nat) (s : State) : State := produceN 65 p s

/-- A consumer's busy time ends; a filled slot starts one more activation (18 R419). -/
def consumerEnd (j : Fin 96) (s : State) : State :=
  let c := s.evt.cons[j]
  let s := s.setCons j fun c => { c with busy := false }
  if c.pending && decide (56 ≤ j.val) && j.val != 68 then
    let s := s.setCons j fun c => { c with pending := false, winStart := some s.now }
    if 69 ≤ j.val ∧ j.val ≤ 71 then produce (120 + (j.val - 69)) s else consumerAction j s
  else s

/-! ### Rows -/

/-- The filtered level of `GPIO[i]` becomes `level`; an edge that EDGE selects fires the producer (18 R425). -/
def gpioAccept (i : Fin 32) (level : Bool) (s : State) : State :=
  let g := s.evt.gpio[i]
  let s := s.setGpio i fun g => { g with filtered := level }
  let hit := match g.edge with | .rise => level | .fall => !level | .both => true
  if hit then produce i.val s else s

/-- A new level is accepted in the FILTER-th consecutive sample that sees it, and with FILTER 0 in the first (18 R425 under
10 R245). -/
def gpioSettle (i : Fin 32) (s : State) : State :=
  let g := s.evt.gpio[i]
  if g.level != g.filtered && decide (g.filter ≤ g.heldFor + 1) then gpioAccept i g.level s else s

/-- A sample sees `GPIO[i]` at `level`; a pin that the device drives is seen at its driven level (18 R425). -/
def gpioSee (i : Fin 32) (level : Bool) (s : State) : State :=
  let g := s.evt.gpio[i]
  let seen := if g.drive then g.outLevel else level
  gpioSettle i (if g.level = seen then s else s.setGpio i fun g => { g with level := seen, heldFor := 0 })

/-- GPIO_EDGE: a sample sees a transition of `GPIO[i]` to `level` (18 R425). -/
def execGpioEdge (i : Fin 32) (level : Bool) (s : State) : Host.Outcome State Fault Refusal := .next (gpioSee i level s)

/-- The time of a consumer's activation is over at `width` ns after its start, in whole sample periods in DEEP SLEEP (18 R426). -/
def widthOver (j : Fin 96) (width : Nat) (s : State) : Bool :=
  match s.evt.cons[j].winStart with
  | none => true
  | some t =>
    decide (t + (if s.power.state = .deepSleep then s.roundUpSamples width else width) ≤ s.now)

/-- The pulse of GPIO_OUTk has lasted for WIDTH_NS: the pin returns to its inactive level (18 R426). -/
def gpioPulseEnd (k : Fin 24) (s : State) : State :=
  let g := s.evt.gpio[(⟨k.val, by omega⟩ : Fin 32)]
  let j : Fin 96 := ⟨72 + k.val, by omega⟩
  if s.evt.cons[j].busy && !g.toggle && widthOver j g.width s then consumerEnd j (gpioDrive k g.activeLow s) else s

/-- The inhibit of `STROBE_OUT[k]` has lasted for INHIBIT_NS: the output leaves its off level (18 R415). -/
def strobeEnd (k : Fin 4) (s : State) : State :=
  let j : Fin 96 := ⟨64 + k.val, by omega⟩
  if s.evt.cons[j].busy && widthOver j s.evt.inhibitNs[k] s then
    consumerEnd j (({ s with evt := { s.evt with strobeOff := upd s.evt.strobeOff k fun _ => false } }).setBall
      (.strobeOut k.val) true)
  else s

/-- The end of a sample of `GPIO[i]`: a toggling sample ends the consumer's busy time (18 Table 18.2, R425). -/
def gpioSample (i : Fin 32) (s : State) : State :=
  let g := s.evt.gpio[i]
  let s := gpioSee i g.level s
  let s := s.setGpio i fun g => { g with heldFor := min 255 (g.heldFor + 1) }
  if h : i.val < 24 then
    if g.toggle && s.evt.cons[(⟨72 + i.val, by omega⟩ : Fin 96)].busy then consumerEnd ⟨72 + i.val, by omega⟩ s else s
  else s

/-- CONSUMER_BUSY_END: the action of a busy consumer ends where its time is over (18 R419). A task input ends with its task and
WAKE with the wake sequence. -/
def execConsumerBusyEnd (j : Fin 96) (s : State) : Host.Outcome State Fault Refusal :=
  if h : 64 ≤ j.val ∧ j.val < 68 then .next (strobeEnd ⟨j.val - 64, by omega⟩ s)
  else if h : 72 ≤ j.val then .next (gpioPulseEnd ⟨j.val - 72, by omega⟩ s)
  else .next s

/-- EVT_LOCKOUT_END: the lockout ends once its time has passed (18 R418). -/
def execEvtLockoutEnd (n : Fin 64) (s : State) : Host.Outcome State Fault Refusal :=
  .next (if lockoutOver s.evt.chan[n] s then s.setChan n fun c => { c with locked := false } else s)

/-- May PCIe session `ses` write the block of channel `n` (18 R420, R427)? -/
def chanWritable (s : State) (n : Fin 64) (ses : Nat) : Bool :=
  let c := s.evt.chan[n]
  !c.sec && (match s.holder (resChan n.val) with | none => true | some h => h == ses)

/-- EVT_SW_FIRE: session `ses` + 1 writes SW_FIRE of channel `n` (18 R427). -/
def execEvtSwFire (n : Fin 64) (ses : Fin 4) (s : State) : Host.Outcome State Fault Refusal :=
  if chanWritable s n (ses.val + 1) then .next (channelEvent (produceN 64) n s)
  else .next (s.setChan n fun c => { c with foreignWrite := true })

/-- GPIO_PULSE_END: a pulse of GPIO_OUTk ends after WIDTH_NS (18 R426, R419). -/
def execGpioPulseEnd (k : Fin 24) (s : State) : Host.Outcome State Fault Refusal := .next (gpioPulseEnd k s)

/-- STROBE_INHIBIT_END: an inhibit ends after INHIBIT_NS (18 R415). -/
def execStrobeInhibitEnd (k : Fin 4) (s : State) : Host.Outcome State Fault Refusal := .next (strobeEnd k s)

/-! ### Registers (18 Tables 18.3 to 18.5) -/

/-- +0x0 of a channel block as host software reads it (18 R420: a SEC channel shows OWNER, ENABLED and SEC). -/
def chanStatusWord (s : State) (n : Fin 64) : Word :=
  let c := s.evt.chan[n]
  let own := (s.holder (resChan n.val)).getD 0xFF
  if c.sec then w32 (own + flagAt c.enabled 8 + flagAt true 9)
  else w32 (own + flagAt c.enabled 8 + flagAt c.loopActive 10 + flagAt c.onCycle 11 + flagAt c.foreignWrite 13)

/-- Is consumer `j` named by an enabled SEC channel (18 R420)? -/
def secLock (s : State) (j : Fin 96) : Bool :=
  (List.finRange 64).any fun n => s.evt.chan[n].enabled && s.evt.chan[n].sec && s.evt.chan[n].consumers.testBit j.val

/-- Consumer word (18 Table 18.4). -/
def consWord (s : State) (j : Fin 96) : Word :=
  let c := s.evt.cons[j]
  w32 (flagAt c.pending 0 + flagAt c.busy 1 + flagAt c.ovr 2 + flagAt (secLock s j) 3 + c.coalesce * 256)

/-- Output parameter word of GPIO_OUT (18 Table 18.5). -/
def gpioOutWord (g : Gpio) : Word :=
  w32 (g.width + flagAt g.activeLow 16 + flagAt g.toggle 17 + flagAt g.drive 18)

/-- Input parameter word of a GPIO pin (18 Table 18.5). -/
def gpioInWord (g : Gpio) : Word :=
  w32 ((match g.edge with | .rise => 0 | .fall => 1 | .both => 2) + g.filter * 4 + flagAt g.level 10)

/-- A word of the event block (18 R427). -/
def evtRead (off : Nat) (s : State) : Word :=
  if h : off / 16 < 64 then
    let n : Fin 64 := ⟨off / 16, h⟩
    let c := s.evt.chan[n]
    match off % 16 / 4 with
    | 0 => chanStatusWord s n
    | 1 => if c.sec then 0 else s.countWord c.firings
    | 2 => if c.sec then 0 else s.countWord c.held
    | _ => if c.sec then 0 else c.lastTs
  else if h : 0x400 ≤ off ∧ (off - 0x400) / 4 < 96 then consWord s ⟨(off - 0x400) / 4, h.2⟩
  else if h : 0x600 ≤ off ∧ 72 ≤ (off - 0x600) / 4 ∧ (off - 0x600) / 4 < 96 then
    gpioOutWord s.evt.gpio[(⟨(off - 0x600) / 4 - 72, by omega⟩ : Fin 32)]
  else if h : 0x600 ≤ off ∧ 64 ≤ (off - 0x600) / 4 ∧ (off - 0x600) / 4 < 68 then
    w32 s.evt.inhibitNs[(⟨(off - 0x600) / 4 - 64, by omega⟩ : Fin 4)]
  else if h : 0x800 ≤ off ∧ (off - 0x800) / 4 < 32 then gpioInWord s.evt.gpio[(⟨(off - 0x800) / 4, h.2⟩ : Fin 32)]
  else 0

/-- A write to the output parameters of a pin: outside a pulse a PULSE pin idles at its inactive level, and a pulse goes on at
the active level (18 R426). -/
def gpioOutWrite (k : Fin 24) (v : Word) (s : State) : State :=
  let i : Fin 32 := ⟨k.val, by omega⟩
  let g := s.evt.gpio[i]
  let pulse := s.evt.cons[(⟨72 + k.val, by omega⟩ : Fin 96)].busy && !g.toggle
  let level := if bit v 17 then g.outLevel else bit v 16 != pulse
  let s := s.setGpio i fun g =>
    { g with width := max 8 (bits v 15 0), activeLow := bit v 16, toggle := bit v 17, drive := bit v 18, outLevel := level }
  if bit v 18 then if g.drive && g.outLevel == level then s else s.setBall (.gpio k.val) level
  else if g.drive then s.emit (.released (.gpio k.val)) else s

/-- A write of PCIe session `ses` to a word of the event block (18 R427, R420). -/
def evtWrite (off : Nat) (v : Word) (ses : Nat) (s : State) : State :=
  if h : off / 16 < 64 then
    let n : Fin 64 := ⟨off / 16, h⟩
    if !chanWritable s n ses then s.setChan n fun c => { c with foreignWrite := true }
    else match off % 16 / 4 with
    | 0 =>
      let s := s.setChan n fun c =>
        { c with loopActive := w1c c.loopActive (bit v 10), foreignWrite := w1c c.foreignWrite (bit v 13) }
      if bit v 12 then channelEvent (produceN 64) n s else s
    | 1 => s.setChan n fun c => { c with firings := countWrite c.firings v }
    | 2 => s.setChan n fun c => { c with held := countWrite c.held v }
    | _ => s
  else if h : 0x400 ≤ off ∧ (off - 0x400) / 4 < 96 then
    let j : Fin 96 := ⟨(off - 0x400) / 4, h.2⟩
    s.setCons j fun c => { c with ovr := w1c c.ovr (bit v 2), coalesce := if bits v 15 8 = 0 then 0 else c.coalesce }
  else if h : 0x600 ≤ off ∧ 72 ≤ (off - 0x600) / 4 ∧ (off - 0x600) / 4 < 96 then
    let i : Fin 24 := ⟨(off - 0x600) / 4 - 72, by omega⟩
    if secLock s ⟨(off - 0x600) / 4, h.2.2⟩ then s
    else gpioOutWrite i v s
  else if h : 0x600 ≤ off ∧ 64 ≤ (off - 0x600) / 4 ∧ (off - 0x600) / 4 < 68 then
    let k : Fin 4 := ⟨(off - 0x600) / 4 - 64, by omega⟩
    if secLock s ⟨(off - 0x600) / 4, by omega⟩ then s
    else { s with evt := { s.evt with inhibitNs := upd s.evt.inhibitNs k fun _ => clampNat 100 1000000 (bits v 19 0) } }
  else if h : 0x800 ≤ off ∧ (off - 0x800) / 4 < 32 then
    s.setGpio ⟨(off - 0x800) / 4, h.2⟩ fun g =>
      { g with edge := match bits v 1 0 with | 0 => .rise | 1 => .fall | _ => .both, filter := bits v 9 2 }
  else s

end Sys2Proof.Machine
end

