-- ==== Sys2Proof/Machine/Time.lean ====
section
/-! DEFINITION. Time bases, capture, compare and pulse per second (12), and the passing of one tick. -/

namespace Sys2Proof.Machine

/-- Change time base `b`. -/
def State.setTb (s : State) (b : Fin 4) (f : TimeBase → TimeBase) : State :=
  { s with time := { s.time with tb := upd s.time.tb b f } }

/-- Change capture unit `k`. -/
def State.setCap (s : State) (k : Fin 8) (f : CapUnit → CapUnit) : State :=
  { s with time := { s.time with cap := upd s.time.cap k f } }

/-- Change compare unit `k`. -/
def State.setCmp (s : State) (k : Fin 8) (f : CmpUnit → CmpUnit) : State :=
  { s with time := { s.time with cmp := upd s.time.cmp k f } }

/-- Change PPS output `k`. -/
def State.setPpsOut (s : State) (k : Fin 2) (f : PpsOut → PpsOut) : State :=
  { s with time := { s.time with pps := { s.time.pps with out := upd s.time.pps.out k f } } }

/-! ### The passing of a tick (12 R288) -/

/-- 2^40, the unit of FREQ_ADJ. -/
def dcoUnit : Nat := 2 ^ 40

/-- Limit of FREQ_ADJ: 1,000 ppm (12 R288). -/
def freqLimit : Int := 1099511627

/-- One nominal tick of 4 ns on a time base's oscillator: the phase gains 1 + FREQ_ADJ ticks, and each whole tick adds
exactly 4 ns to the time when the base counts (12 R288). -/
def tbTick (counts : Bool) (t : TimeBase) : TimeBase :=
  let ph := ((t.phase : Int) + dcoUnit + t.freqAdj).toNat
  { t with phase := ph % dcoUnit,
           time := if counts then Stamp.ofUnits ((t.time.units + ph / dcoUnit * 4 * 65536 : Nat) : Int) else t.time }

/-! ### States, steps and settings of a time base -/

/-- A time base takes a STATE; a change fires vector 61 (16 Table 16.4). -/
def tbSetState (b : Fin 4) (st : TbState) (s : State) : State :=
  if s.time.tb[b].state = st then s else (s.setTb b fun t => { t with state := st }).fireVector 61

/-- A time base enters OFF: VALID clears (12 R289). -/
def tbOff (b : Fin 4) (s : State) : State :=
  tbSetState b .off (s.setTb b fun t => { t with valid := false, setPending := none, stepPending := none })

/-- The latest second whose rising instant, second plus offset, the base has reached. -/
def ppsDue (t : Stamp) (offset : Nat) : Option Nat :=
  if offset ≤ t.ns then some t.seconds else if t.seconds = 0 then none else some (t.seconds - 1)

/-- After the time of base `b` has jumped, the seconds that its PPS outputs are done with: a jump back within the second before
an edge already produced does not repeat that edge, and one further back lets the seconds come anew (12 R303). -/
def ppsJump (b : Fin 4) (s : State) : State :=
  forEach (List.finRange 2) (fun k t => t.setPpsOut k fun o =>
    let d := ppsDue (s.tbTime b) o.offset
    match o.lastSecond with
    | some l => if o.tb = b ∧ (d.map (· + 1)).getD 0 < l then { o with lastSecond := d } else o
    | none => o) s

/-- A time base leaves OFF: it counts from zero, VALID 0 (12 R289). -/
def tbLeaveOff (b : Fin 4) (st : TbState) (s : State) : State :=
  ppsJump b (tbSetState b st (s.setTb b fun t =>
    { t with time := {}, valid := false, goodRun := 0, badRun := 0, setPending := none, stepPending := none }))

/-- The time base enters HOLDOVER: FREQ_ADJ at HOLD_FREQ, the integrator kept, a Drizzle report (12 R294). -/
def tbHoldover (b : Fin 4) (s : State) : State :=
  let s := s.setTb b fun t => { t with freqAdj := t.holdFreq, holdoverCount := t.holdoverCount + 1 }
  (tbSetState b .holdover s).report { group := 18, cls := .drizzle, inst := b.val, cause := 0 }

/-- What every SET and every step does besides moving the time (12 R290). -/
def tbStepped (b : Fin 4) (isStep : Bool) (theta : Int) (s : State) : State :=
  let s := s.setTb b fun t => { t with steps := t.steps + 1, stepped := true, valid := true }
  let s := (s.report { group := 18, cls := .drizzle, inst := b.val, cause := 1 }).log 6 0xFF
    ([b.val, (if isStep then 1 else 0)] ++ (bytesOfInt 8 theta).map BitVec.toNat)
  produce (57 + b.val) s

/-- SET of a time base: the value is loaded at the next tick (12 R290). -/
def tbSet (b : Fin 4) (v : Stamp) (s : State) : State := s.setTb b fun t => { t with setPending := some v }

/-- A servo step: −theta is added to the time at the next tick (12 R290). -/
def tbStep (b : Fin 4) (theta : Int) (s : State) : State := s.setTb b fun t => { t with stepPending := some theta }

/-- Whole ticks that a time base's oscillator makes in the next 4 ns of the model's clock. -/
def tbTicks (t : TimeBase) : Nat := ((t.phase : Int) + dcoUnit + t.freqAdj).toNat / dcoUnit

/-- The tick of a counting base at which a SET or a step takes place, `n` ticks having passed; of the two in one tick the SET
applies (12 R290). -/
def tbJump (b : Fin 4) (n : Nat) (s : State) : State :=
  let t := s.time.tb[b]
  if n = 0 then s
  else match t.setPending, t.stepPending with
    | some v, _ => ppsJump b (tbStepped b false 0 (s.setTb b fun t =>
        { t with time := Stamp.ofUnits ((v.units + (n - 1) * 4 * 65536 : Nat) : Int), setPending := none, stepPending := none }))
    | none, some theta => ppsJump b (tbStepped b true theta (s.setTb b fun t =>
        { t with time := Stamp.ofUnits ((t.time.units : Int) - theta), stepPending := none }))
    | none, none => s

/-- What one step on an empty queue is: 4 ns pass. -/
def passTick (s : State) : State :=
  let s' := { s with now := s.now + 4 }
  if s.oscRuns then
    forEach (List.finRange 4) (fun b t => if s.tbCounts b then tbJump b (tbTicks s.time.tb[b]) t else t)
      { s' with time := { s.time with tb := s.time.tb.map fun t => tbTick (t.state != .off) t } }
  else if s.power.state = .deepSleep then { s' with time := { s.time with aonNs := s.time.aonNs + 4 } }
  else s'

/-- May the servo step (12 R293)? -/
def stepPermitted (t : TimeBase) : Bool :=
  match t.stepMode with
  | .never => false
  | .first => !t.valid
  | .always => true

/-- Mean of the FREQ_ADJ values of the last samples; the rounding is not stated. -/
def holdFreqOf (s : State) (h : List Int) : Int := if h.isEmpty then 0 else s.freeDiv h.sum h.length

/-- FREQ_ADJ steered by a sample: the PI law of 12 R293, in 2^-32 ns per T, with T in units of 2^-16 ns. -/
def servoSteer (b : Fin 4) (theta : Int) (interval : Nat) (s : State) : State :=
  let t := s.time.tb[b]
  let integ := if t.clamped then t.integ else t.integ + theta
  let u := t.kp * theta + t.ki * integ
  let raw := s.freeDiv (-(u * dcoUnit)) (interval * 2 ^ 16)
  let f := clampInt (-freqLimit) freqLimit raw
  (s.setTb b fun t => { t with integ := integ, freqAdj := f, clamped := f == freqLimit || f == -freqLimit }).drawn

/-- Lock judgement of a sample (12 R293, R294). -/
def servoLock (b : Fin 4) (theta : Int) (s : State) : State :=
  let t := s.time.tb[b]
  let good := decide (theta.natAbs ≤ t.lockNs * 65536)
  let bad := decide (4 * t.lockNs * 65536 < theta.natAbs)
  let g := if good then satInc 8 t.goodRun else 0
  let d := if bad then satInc 8 t.badRun else 0
  let s := s.setTb b fun t => { t with goodRun := g, badRun := d }
  match t.state with
  | .acquiring => if t.lockCount ≤ g then tbSetState b .locked s else s
  | .locked => if 4 ≤ d then tbSetState b .acquiring s else s
  | .holdover => tbSetState b (if good then .locked else .acquiring) s
  | _ => s

/-- A sample reaches the servo (12 R293). -/
def servoSample (b : Fin 4) (theta : Int) (interval : Nat) (s : State) : State :=
  let t := s.time.tb[b]
  let off := clampInt (-(2 ^ 31)) (2 ^ 31 - 1) theta
  let s := s.setTb b fun t => { t with offset := off, sample := none }
  let s := if t.stepThr * 65536 < theta.natAbs ∧ stepPermitted t then tbStep b theta s
    else servoSteer b theta interval s
  let h := (s.time.tb[b].freqAdj :: t.history).take 16
  let s := (s.setTb b fun t => { t with history := h, holdFreq := holdFreqOf s h }).drawn
  servoLock b theta s

/-! ### Capture units (12 R304) -/

/-- Capture unit `k` takes the time of its base; two events in one tick make one capture. -/
def capture (k : Fin 8) (s : State) : State :=
  let c := s.time.cap[k]
  if c.lastAt = some s.now then s
  else
    let deep := s.power.state = .deepSleep
    let st := if deep then ({ ns := s.time.aonNs / 40 } : Stamp) else s.tbTime c.tb
    let s := s.setCap k fun c =>
      { c with time := st, timeValid := !deep && s.tbCounts c.tb, valid := true, seq := modInc 16 c.seq,
               overrun := c.overrun || !c.seen, seen := false, lastAt := some s.now }
    s.fireVectorN (42 + k.val)

/-- The event that fills the slot of CAPk is captured (12 R304, 18 R419). -/
def execCaptureEvent (k : Fin 8) (s : State) : Host.Outcome State Fault Refusal :=
  let j : Fin 96 := ⟨48 + k.val, by omega⟩
  if s.evt.cons[j].pending then
    let s := s.setCons j fun c => { c with pending := false }
    .next (if s.time.cap[k].enable then capture k s else s)
  else .next s

/-- Status word of a capture unit (12 Table 12.8). -/
def capWord0 (c : CapUnit) : Word :=
  w32 (c.tb.val + flagAt c.enable 2 + flagAt c.valid 4 + flagAt c.overrun 5 + flagAt c.foreignWrite 6
    + flagAt c.timeValid 7 + c.seq * 65536)

/-- The words of a time as Table 12.7 lays them out at +0x04 to +0x0C. -/
def stampWords (t : Stamp) : List Word :=
  [w32 t.ns, w32 t.seconds, w32 (t.seconds / 2 ^ 32 % 2 ^ 16 + t.frac * 2 ^ 16)]

/-- The block of a capture unit. -/
def capWords (c : CapUnit) : List Word := capWord0 c :: stampWords c.time ++ [c.time.ts32]

/-- A write of a PCIe session to word `w` of a capture unit; only word 0 has fields that a write changes (12 R304, R306). -/
def capWrite (k : Fin 8) (w : Nat) (v : Word) (s : State) : State :=
  let c := s.time.cap[k]
  if 4 < w then s
  else if !s.pcieMayWrite (resTb c.tb.val) then s.setCap k fun c => { c with foreignWrite := true }
  else if w ≠ 0 then s
  else
    let s := s.setCap k fun c =>
      { c with tb := ⟨bits v 1 0 % 4, by omega⟩, enable := bit v 2, overrun := w1c c.overrun (bit v 5),
               foreignWrite := w1c c.foreignWrite (bit v 6) }
    if bit v 3 then capture k s else s

/-- CAP_SW_TRIG: a write of word `v` to +0x00 of capture unit `k` (12 R304). -/
def execCapSwTrig (k : Fin 8) (v : Word) (_ses : Fin 4) (s : State) : Host.Outcome State Fault Refusal :=
  .next (capWrite k 0 v s)

/-! ### Compare units (12 R305) -/

/-- A compare unit whose key is reached fires (12 R305). -/
def cmpFire (k : Fin 8) (s : State) : State :=
  let c := s.time.cmp[k]
  let now := s.tbTs c.tb
  let key1 := c.key + BitVec.ofNat 32 c.period
  let passed := if tsReached key1 now then (tsDiff now key1).toNat / c.period + 1 else 0
  let s := s.setCmp k fun c =>
    { c with fireCount := modInc 16 c.fireCount, fired := true, lastFire := now, lateArm := c.lateArm || c.armedLate,
             armedLate := false, arm := c.periodic,
             key := if c.periodic then key1 + BitVec.ofNat 32 (passed * c.period) else c.key,
             skipped := if c.periodic then c.skipped + passed else c.skipped }
  produce (49 + k.val) (s.fireVectorN (34 + k.val))

/-- CMP_FIRE: the armed unit's base has reached its key, at the earliest at the tick after the write of ARM (12 R305). -/
def execCmpFire (k : Fin 8) (s : State) : Host.Outcome State Fault Refusal :=
  let c := s.time.cmp[k]
  if c.arm && c.armedAt != some s.now && s.tbCounts c.tb && tsReached c.key (s.tbTs c.tb) then .next (cmpFire k s) else .next s

/-- Status word of a compare unit (12 Table 12.9). -/
def cmpWord0 (c : CmpUnit) : Word :=
  w32 (c.tb.val + flagAt c.arm 2 + flagAt c.periodic 3 + flagAt c.fired 4 + flagAt c.lateArm 5
    + flagAt c.foreignWrite 6 + flagAt c.staleKey 7 + c.fireCount * 65536)

/-- The block of a compare unit. -/
def cmpWord (s : State) (c : CmpUnit) (w : Nat) : Word :=
  match w with
  | 0 => cmpWord0 c
  | 1 => c.key
  | 2 => w32 c.period
  | 3 => c.lastFire
  | 4 => s.countWord c.skipped
  | _ => 0

/-- A write of a PCIe session to a word of a compare unit: while ARM = 1 a write that would change a locked field is
dropped there and sets STALE_KEY (00 Table 0.4, 12 R305, R306). -/
def cmpWrite (k : Fin 8) (w : Nat) (v : Word) (s : State) : State :=
  let c := s.time.cmp[k]
  if 4 < w then s
  else if !s.pcieMayWrite (resTb c.tb.val) then s.setCmp k fun c => { c with foreignWrite := true }
  else match w with
  | 0 =>
    let tb : Fin 4 := ⟨bits v 1 0 % 4, by omega⟩
    let lost := c.arm && (tb != c.tb || bit v 3 != c.periodic)
    let base := if c.arm then c.tb else tb
    s.setCmp k fun c =>
      { c with tb := base, periodic := if c.arm then c.periodic else bit v 3, arm := bit v 2,
               armedAt := if c.arm then c.armedAt else some s.now,
               armedLate := if c.arm then c.armedLate && bit v 2
                            else bit v 2 && s.tbCounts base && tsReached c.key (s.tbTs base),
               fired := w1c c.fired (bit v 4), lateArm := w1c c.lateArm (bit v 5),
               foreignWrite := w1c c.foreignWrite (bit v 6), staleKey := w1c c.staleKey (bit v 7) || lost }
  | 1 => s.setCmp k fun c => if c.arm then { c with staleKey := true } else { c with key := v }
  | 2 => s.setCmp k fun c =>
      if c.arm then { c with staleKey := true } else { c with period := max 1000 v.toNat }
  | 4 => s.setCmp k fun c => { c with skipped := countWrite c.skipped v }
  | _ => s

/-- CMP_ARM_WRITE: a write of word `v` to +0x00 of compare unit `k`. -/
def execCmpArmWrite (k : Fin 8) (v : Word) (_ses : Fin 4) (s : State) : Host.Outcome State Fault Refusal :=
  .next (cmpWrite k 0 v s)

/-! ### Pulse per second (12 R302, R303) -/

/-- The sample an accepted PPS edge forms for a base with SOURCE PPS_IN (12 R302). -/
def ppsTheta (t : Stamp) : Int :=
  let n : Int := t.ns * 65536 + t.frac
  if n < 500000000 * 65536 then n else n - 1000000000 * 65536

/-- An instant of the model's clock in units of 2^-16 ns: the present tick and a position in it. -/
def State.instant (s : State) (frac : Nat) : Nat := s.now * 65536 + frac

/-- Interval from the previous edge to one at `at_`, in units of 2^-16 ns; at the first edge the spec gives none. -/
def ppsInterval (at_ : Nat) (s : State) : Nat :=
  match s.time.pps.lastAt with
  | some t => at_ - t
  | none => s.freeVal freeInterval + 1

/-- PPS_IN_EDGE: a rising edge, `frac` units of 2^-16 ns into the present tick. -/
def execPpsInEdge (frac : Fin 262144) (s : State) : Host.Outcome State Fault Refusal :=
  if s.power.state = .deepSleep then .next (produce 48 s)
  else
    let at_ := s.instant frac.val
    let early := match s.time.pps.lastAt with | none => false | some t => decide (at_ < t + 500000000 * 65536)
    if early then
      .next (produce 48 { s with time := { s.time with pps := { s.time.pps with glitch := s.time.pps.glitch + 1 } } })
    else
      let cap := fun (b : Fin 4) => Stamp.ofUnits ((s.tbTime b).units + frac.val - s.time.tb[b].ppsInDelay)
      let interval := ppsInterval at_ s
      let s1 := forEach (List.finRange 4) (fun b t =>
        if s.tbCounts b then
          let t := { t with time := { t.time with pps := { t.time.pps with
            capture := upd t.time.pps.capture b fun _ => cap b } } }
          if s.time.tb[b].source = .ppsIn then
            t.setTb b fun x => { x with sample := some (ppsTheta (cap b), interval) }
          else t
        else t) s
      let s2 := { s1 with time := { s1.time with pps := { s1.time.pps with
        seq := modInc 16 s1.time.pps.seq, lastAt := some at_ } } }
      .next (produce 48 ((s2.drawn).fireVector 50))

/-- Is a rising instant reached that the output is not done with? -/
def ppsNew (o : PpsOut) (t : Stamp) : Bool :=
  match ppsDue t o.offset, o.lastSecond with
  | some d, some l => decide (l < d)
  | some _, none => true
  | none, _ => false

/-- PPS_OUT_RISE: the base has reached a rising instant that has not been produced (12 R303). -/
def execPpsOutRise (k : Fin 2) (s : State) : Host.Outcome State Fault Refusal :=
  let o := s.time.pps.out[k]
  if o.enable && s.tbCounts o.tb && s.time.tb[o.tb].valid && ppsNew o (s.tbTime o.tb) then
    .next ((s.setPpsOut k fun o => { o with level := true, lastSecond := ppsDue (s.tbTime o.tb) o.offset }).setBall (.ppsOut k.val) true)
  else .next s

/-- PPS_OUT_FALL: the width has run out (12 R303). -/
def execPpsOutFall (k : Fin 2) (s : State) : Host.Outcome State Fault Refusal :=
  if s.time.pps.out[k].level then
    .next ((s.setPpsOut k fun o => { o with level := false }).setBall (.ppsOut k.val) false)
  else .next s

/-- A PPS output stays low without its enable or a valid base (12 R303). -/
def ppsSettle (s : State) : State :=
  forEach (List.finRange 2) (fun k t =>
    let o := t.time.pps.out[k]
    if o.level && !(o.enable && t.time.tb[o.tb].valid && t.tbCounts o.tb) then
      (t.setPpsOut k fun o => { o with level := false }).setBall (.ppsOut k.val) false
    else t) s

/-! ### Rows and registers -/

/-- HOLDOVER_TIMEOUT: HOLDOVER_MS without a sample (12 R294). -/
def execHoldoverTimeout (b : Fin 4) (s : State) : Host.Outcome State Fault Refusal :=
  let t := s.time.tb[b]
  if t.source != .none && s.tbCounts b && (t.state = .acquiring || t.state = .locked) then .next (tbHoldover b s)
  else .next s

/-- The code of STATE (12 Table 12.7). -/
def TbState.code : TbState → Nat
  | .off => 0 | .free => 1 | .acquiring => 2 | .locked => 3 | .holdover => 4

/-- The code of SOURCE (12 Table 12.7). -/
def TbSource.code : TbSource → Nat
  | .none => 0 | .ptp => 1 | .ppsIn => 2

/-- The block of a time base (12 Table 12.7). -/
def tbWords (s : State) (b : Fin 4) : List Word :=
  let t := s.time.tb[b]
  [w32 (t.state.code + flagAt t.valid 3 + flagAt t.stepped 4 + t.source.code * 32
      + (if t.source = .ptp then t.domain else 0) * 256)]
    ++ stampWords t.time ++ [t.time.ts32, wInt t.freqAdj, wInt t.offset, s.countWord t.steps, s.countWord t.holdoverCount]

/-- The PPS block (12 Table 12.10). -/
def ppsWords (s : State) : List Word :=
  let p := s.time.pps
  let present := match p.lastAt with | none => false | some t => decide (s.instant 0 ≤ t + 1500000000 * 65536)
  let on := fun (k : Fin 2) => p.out[k].enable && s.time.tb[p.out[k].tb].valid
  w32 (p.seq + flagAt present 16 + flagAt (on 0) 17 + flagAt (on 1) 18)
    :: ((List.finRange 4).flatMap fun b => stampWords p.capture[b] ++ [0]) ++ [s.countWord p.glitch]

/-- Take the snapshot of a block (12 R306). -/
def takeSnap (blk : SnapBlock) (s : State) : State :=
  match blk with
  | .timeBase b => s.setTb b fun t => { t with snap := tbWords s b }
  | .capture k => s.setCap k fun c => { c with snap := capWords c, seen := true }
  | .pps => { s with time := { s.time with pps := { s.time.pps with snap := ppsWords s } } }

/-- TIME_SNAPSHOT_READ: a read of the snapshot word of a block returns it and takes the snapshot (12 R306). -/
def execTimeSnapshotRead (blk : SnapBlock) (s : State) : Host.Outcome State Fault Refusal :=
  let w := match blk with
    | .timeBase b => (tbWords s b)[1]?.getD 0
    | .capture k => capWord0 s.time.cap[k]
    | .pps => (ppsWords s)[0]?.getD 0
  .next { takeSnap blk s with readData := w }

/-- A word of the time block; the words behind a snapshot come from the last one (12 R306). -/
def timeRead (off : Nat) (s : State) : Word × State :=
  let w := off % 0x20 / 4
  if h : off / 0x100 < 4 then
    let b : Fin 4 := ⟨off / 0x100, h⟩
    let i := off % 0x100 / 4
    if i = 1 then ((tbWords s b)[1]?.getD 0, takeSnap (.timeBase b) s)
    else (s.time.tb[b].snap[i]?.getD 0, s)
  else if h : 0x400 ≤ off ∧ (off - 0x400) / 0x20 < 8 then
    let k : Fin 8 := ⟨(off - 0x400) / 0x20, h.2⟩
    if w = 0 then (capWord0 s.time.cap[k], takeSnap (.capture k) s) else (s.time.cap[k].snap[w]?.getD 0, s)
  else if h : 0x600 ≤ off ∧ (off - 0x600) / 0x20 < 8 then
    (cmpWord s s.time.cmp[(⟨(off - 0x600) / 0x20, h.2⟩ : Fin 8)] w, s)
  else if off = 0x800 then ((ppsWords s)[0]?.getD 0, takeSnap .pps s)
  else if 0x804 ≤ off ∧ off < 0x848 then (s.time.pps.snap[(off - 0x800) / 4]?.getD 0, s)
  else (0, s)

/-- A write of a PCIe session to a word of the time block (12 R306). -/
def timeWrite (off : Nat) (v : Word) (s : State) : State :=
  if h : off / 0x100 < 4 then
    let b : Fin 4 := ⟨off / 0x100, h⟩
    match off % 0x100 / 4 with
    | 0 => s.setTb b fun t => { t with stepped := w1c t.stepped (bit v 4) }
    | 7 => s.setTb b fun t => { t with steps := countWrite t.steps v }
    | 8 => s.setTb b fun t => { t with holdoverCount := countWrite t.holdoverCount v }
    | _ => s
  else if h : 0x400 ≤ off ∧ (off - 0x400) / 0x20 < 8 then
    capWrite ⟨(off - 0x400) / 0x20, h.2⟩ (off % 0x20 / 4) v s
  else if h : 0x600 ≤ off ∧ (off - 0x600) / 0x20 < 8 then cmpWrite ⟨(off - 0x600) / 0x20, h.2⟩ (off % 0x20 / 4) v s
  else if off = 0x844 then
    { s with time := { s.time with pps := { s.time.pps with glitch := countWrite s.time.pps.glitch v } } }
  else s

end Sys2Proof.Machine
end

