-- ==== Sys2Proof/Machine/Downlink.lean ====
section
/-! DEFINITION. The device-to-camera direction of the camera lanes: control messages as fragments, triggers, and the
blocks that leave (02 R35, R42, R43, R45, R50). -/

namespace Sys2Proof.Machine

/-- Change camera port `p`. -/
def State.setPort (s : State) (p : Fin 12) (f : Port → Port) : State :=
  { s with cam := { s.cam with port := upd s.cam.port p f } }

/-- Change lane `l`. -/
def State.setLane (s : State) (l : Fin 24) (f : Lane → Lane) : State :=
  { s with cam := { s.cam with lane := upd s.cam.lane l f } }

/-- Lane `k` of port `p` (02 R32). -/
def laneIx (p : Fin 12) (k : Nat) : Fin 24 := ⟨2 * p.val + k % 2, by omega⟩

/-- Is the port a CoaXPress port? -/
def isCxp (s : State) (p : Fin 12) : Bool := match (s.cam.port[p]).config with
  | some c => c.cxp
  | none => false

/-- The even port of a port's pair. -/
def evenPort (p : Fin 12) : Fin 12 := ⟨p.val / 2 * 2, by omega⟩

/-- Has the even port of the pair a four-connection CoaXPress camera (01 R12; 02 Table 2.6)? -/
def pairTaken (s : State) (p : Fin 12) : Bool := match (s.cam.port[evenPort p]).config with
  | some c => c.lanes == 4
  | none => false

/-- The odd port beside a four-connection camera, which stays idle (01 R12). -/
def pairIdle (s : State) (p : Fin 12) : Bool := pairTaken s p && p.val % 2 == 1

/-- The lanes that a port uses: a four-connection CoaXPress port uses its neighbour's too, which then has none (01 R12;
02 Table 2.6). -/
def portLanes (s : State) (p : Fin 12) : List (Fin 24) :=
  match (s.cam.port[p]).config with
  | none => []
  | some c =>
    if pairIdle s p then []
    else (List.finRange 24).filter fun l => decide (2 * p.val ≤ l.val ∧ l.val < 2 * p.val + c.lanes)

/-- The port that a lane serves. -/
def laneOwner (s : State) (l : Fin 24) : Fin 12 :=
  let q : Fin 12 := ⟨l.val / 2, by omega⟩
  if pairTaken s q then evenPort q else q

/-! ### Control messages as CTRL blocks (02 R43) -/

/-- The bytes of a control message: type, sequence, length, body and the CRC-16 over them (02 R43). -/
def ctrlBytes (typ seq : Nat) (body : List Nat) : List Byte :=
  let m := bytesOf 1 typ ++ bytesOf 1 seq ++ bytesOf 2 body.length ++ body.map (BitVec.ofNat 8)
  m ++ bytesOf 2 (crc16 m).toNat

/-- The payload of a control block: its type in byte 0 and seven further bytes (02 R38). -/
def ctrlPayload (typ : Nat) (rest : List Byte) : BitVec 64 := BitVec.ofNat 64 (leAt (bytesOf 1 typ ++ rest) 0 8)

/-- CTRL fragment `i` of `n` of a message: index, first and last flags, six bytes, the last one padded (02 R43). -/
def ctrlFragment (m : List Byte) (n i : Nat) : BitVec 64 :=
  ctrlPayload 0x66 (bytesOf 1 (i % 16 + flagAt (i == 0) 4 + flagAt (i + 1 == n) 5) ++ fit 6 (m.drop (6 * i)))

/-- The CTRL block payloads of a message, in order (02 R43). -/
def ctrlBlocks (typ seq : Nat) (body : List Nat) : List (BitVec 64) :=
  let m := ctrlBytes typ seq body
  let n := ceilDiv m.length 6
  (List.range n).map (ctrlFragment m n)

/-- A control message waits for the downlink of a lane. -/
def queueCtrl (l : Fin 24) (typ seq : Nat) (body : List Nat) (s : State) : State :=
  s.setLane l fun c => { c with txCtrl := c.txCtrl ++ ctrlBlocks typ seq body }

/-- A control message sets out on lane `k` of a port; every message but ACK awaits its ACK.  The 8-bit sequence counts
per port, whichever lane carries the message, from 0 (DESIGN CHOICE: the spec does not say per port or per lane). -/
def sendCtrl (p : Fin 12) (k typ : Nat) (body : List Nat) (s : State) : State :=
  let n := (s.cam.port[p]).nextSeq
  (queueCtrl (laneIx p k) typ n body s).setPort p fun c =>
    { c with nextSeq := modInc 8 n, outstanding := c.outstanding ++ [{ lane := k, msg := { typ := typ, seq := n, body := body } }] }

/-- Little-endian bytes of a message field. -/
def msgBytes (n v : Nat) : List Nat := (bytesOf n v).map BitVec.toNat

/-! ### Triggers (02 R45, Table 2.6) -/

/-- Codes of EDGE of a generator and of a TRIGGER block (02 Table 2.2). -/
def TrigEdge.code : TrigEdge → Nat
  | .pulse => 0 | .rise => 1 | .fall => 2

/-- The stream field of a TRIGGER block, which the spec does not tie to a generator. -/
def freeTrigStream : Nat := 94

/-- The delay field of a CoaXPress trigger packet, whose place on the upconnection the spec does not give. -/
def freeTrigDelay : Nat := 95

/-- The payload of a TRIGGER block (02 Table 2.2). -/
def trigPayload (stream : Nat) (edge : TrigEdge) (offset seq : Nat) : BitVec 64 :=
  ctrlPayload 0x78 (bytesOf 1 (stream % 4 + edge.code * 4) ++ bytesOf 1 offset ++ bytesOf 2 seq ++ zeros 3)

/-- A trigger waits for the next block boundary of a lane's downlink; its offset is the trigger's instant in bit times
after the last boundary (02 R45). -/
def queueTrig (stream : Nat) (edge : TrigEdge) (seq : Nat) (l : Fin 24) (s : State) : State :=
  s.setLane l fun c => { c with txTrig := c.txTrig ++ [trigPayload stream edge c.txBits seq] }

/-- A trigger leaves towards the camera of a port that is not DISABLED: TRIGGER blocks on all its lanes, or a trigger
packet (02 R42, R45, Table 2.6). -/
def cameraTrigger (p : Fin 12) (edge : TrigEdge) (seq : Nat) (s : State) : State :=
  match (s.cam.port[p]).config, (s.cam.port[p]).unit with
  | none, _ => s
  | _, .disabled => s
  | some c, _ =>
    if pairIdle s p then s
    else if c.cxp then (s.emit (.cxpTrigger p.val edge seq (s.freeVal freeTrigDelay))).drawn
    else (forEach (portLanes s p) (queueTrig (s.freeVal freeTrigStream) edge seq) s).drawn

/-! ### Blocks on the downlink (02 R35, R42, R45, R50) -/

/-- The scrambled payload and the register after it: x^58 + x^39 + 1, bit 0 first (02 R35). -/
def scramble (reg : BitVec 58) (payload : BitVec 64) : BitVec 64 × BitVec 58 :=
  let r := (List.range 64).foldl (fun (a : List Bool × BitVec 58) i =>
    let b := payload.getLsbD i ^^ a.2.getLsbD 38 ^^ a.2.getLsbD 57
    (b :: a.1, (a.2 <<< 1) ||| (BitVec.ofBool b).zeroExtend 58)) ([], reg)
  (BitVec.ofNat 64 (r.1.foldl (fun n b => 2 * n + b.toNat) 0), r.2)

/-- A block of sync header and payload (02 R35). -/
def blockOf (header : Nat) (payload : BitVec 64) : BitVec 66 :=
  (payload.zeroExtend 66 <<< 2) ||| BitVec.ofNat 66 (header % 4)

/-- The payload of an IDLE (02 Table 2.2). -/
def idlePayload : BitVec 64 := 0x1E

/-- The payload due at a block boundary: a TRIGGER, an IDLE after 2,047 other blocks, a CTRL fragment, or an IDLE (02 R42,
R45, R50). -/
def txNext (c : Lane) : BitVec 64 × Lane :=
  match c.txTrig with
  | t :: r => (t, { c with txTrig := r, txSinceIdle := c.txSinceIdle + 1 })
  | [] =>
    if 2047 ≤ c.txSinceIdle then (idlePayload, { c with txSinceIdle := 0 })
    else match c.txCtrl with
      | b :: r => (b, { c with txCtrl := r, txSinceIdle := c.txSinceIdle + 1 })
      | [] => (idlePayload, { c with txSinceIdle := 0 })

/-- A control block leaves on the downlink of a lane (02 R35, R42). -/
def sendBlock (l : Fin 24) (s : State) : State :=
  let n := txNext s.cam.lane[l]
  let u := scramble n.2.txScr n.1
  (s.setLane l fun _ => { n.2 with txScr := u.2 }).emit (.block l.val (blockOf 2 u.1))

/-- 4 ns pass on the downlink of a lane: five bit times of 0.8 ns, and a block boundary every 66 (02 R42, R45). -/
def downlinkTick (l : Fin 24) (s : State) : State :=
  let c := s.cam.lane[l]
  if c.state = .down ∨ isCxp s (laneOwner s l) then s
  else if c.txBits + 5 < 66 then s.setLane l fun c => { c with txBits := c.txBits + 5 }
  else sendBlock l (s.setLane l fun c => { c with txBits := c.txBits + 5 - 66 })

end Sys2Proof.Machine
end

