-- ==== Sys2Proof/Machine/Position.lean ====
section
/-! DEFINITION. Quadrature channels, probes and line-trigger generators (10). -/

namespace Sys2Proof.Machine

/-- Change channel `c`. -/
def State.setQe (s : State) (c : Fin 8) (f : QeChan → QeChan) : State :=
  { s with pos := { s.pos with qe := upd s.pos.qe c f } }

/-- Change probe `p`. -/
def State.setProbe (s : State) (p : Fin 8) (f : Probe → Probe) : State :=
  { s with pos := { s.pos with probe := upd s.pos.probe p f } }

/-- Change generator `g`. -/
def State.setTrig (s : State) (g : Fin 12) (f : TrigGen → TrigGen) : State :=
  { s with pos := { s.pos with trig := upd s.pos.trig g f } }

/-! ### Decoding (10 R240, R241) -/

/-- Place of an input pair in the forward sequence of 10 R240. -/
def quadPhase : Bool × Bool → Nat
  | (false, false) => 0 | (true, false) => 1 | (true, true) => 2 | (false, true) => 3

/-- Does the one-line transition from `t` to `i` lower the count? -/
def quadDown (invert : Bool) (t i : Bool × Bool) : Bool :=
  let up := (quadPhase t + 1) % 4 == quadPhase i
  if invert then up else !up

/-- Speed of `m` edges in `dt` ns in signed 32.16 counts per second, rounded half up in magnitude (10 R247). -/
def speedOf (m dt : Nat) (down : Bool) : Int :=
  let v : Int := ((2 * m * 1000000000 * 65536 + dt) / (2 * dt) : Nat)
  if dt = 0 then 0 else if down then -v else v

/-- The STILL case of the speed table (10 Table 10.2). -/
def qeStill (q : QeChan) : QeChan :=
  { q with coarse := 0, still := true, starting := false, reversed := false, fineValid := false, history := none,
           window := none, fine := 0 }

/-- The fine window at an edge of the running direction (10 R248). -/
def fineEdge (now : Nat) (down : Bool) (q : QeChan) : QeChan :=
  match q.window with
  | none => { q with window := some { start := now } }
  | some w =>
    let t := now - w.start
    if q.fineWin * 1000000 ≤ t then
      { q with fine := speedOf (w.edges + 1) t down, fineValid := true, fineT := min t (2 ^ 32 - 1),
               window := some { start := now } }
    else { q with window := some { w with edges := w.edges + 1 } }

/-- The speed state after an accepted edge at TB0 time `now` (10 Table 10.2). -/
def speedEdge (now : Nat) (down : Bool) (q : QeChan) : QeChan :=
  if q.still then
    { q with still := false, starting := true, coarse := 0, window := some { start := now } }
  else if q.starting then
    if q.history = some down then
      fineEdge now down { q with starting := false, coarse := speedOf 1 (now - q.lastEdgeNs) down }
    else { q with starting := false, reversed := true, coarse := 0, window := some { start := now } }
  else if q.history = some (!down) then
    { q with coarse := 0, reversed := true, fineValid := false, reversals := q.reversals + 1, fine := 0,
             window := some { start := now } }
  else fineEdge now down { q with reversed := false, coarse := speedOf 1 (now - q.lastEdgeNs) down }

/-- No speed is computed while TB0 does not count: the channel stays in the STILL case (10 R238). -/
def qeStamp (s : State) (down : Bool) (q : QeChan) : QeChan :=
  if s.tbCounts 0 then
    let now := (s.tbTime 0).totalNs
    { speedEdge now down q with lastEdgeNs := now, lastEdgeTs := s.ts0, timeValid := true, history := some down,
                                dirDown := down }
  else { qeStill q with timeValid := false, dirDown := down }

/-- The channel counts the transition to `i` (10 R241, last case). -/
def qeAccept (s : State) (i : Bool × Bool) (q : QeChan) : QeChan :=
  let down := quadDown q.invert q.tracked i
  let q := { q with count := if down then q.count - 1 else q.count + 1, lastAccept := some s.now }
  { qeStamp s down q with tracked := i }

/-- Is a transition inside the spacing of a class W channel (10 R241)? -/
def qeInSpacing (s : State) (q : QeChan) : Bool :=
  !q.classA && (match q.lastAccept with
    | none => false
    | some t => decide (s.now < t + s.roundUpSamples q.minSpacing))

/-- The judgement of a sample `i` of an enabled channel (10 R241); the report when there is one. -/
def qeJudge (s : State) (c : Fin 8) (i : Bool × Bool) (q : QeChan) : QeChan × Option Report :=
  if i = q.tracked then (q, none)
  else if i.1 ≠ q.tracked.1 ∧ i.2 ≠ q.tracked.2 then
    ({ q with illegal := true, illegalCount := q.illegalCount + 1, tracked := i },
      some { group := 16, cls := .drizzle, inst := c.val, cause := 0 })
  else if qeInSpacing s q then
    if i ≠ q.sample then
      ({ q with spacingFaults := q.spacingFaults + 1, spacing := true },
        some { group := 16, cls := .drizzle, inst := c.val, cause := 1 })
    else ({ q with spacing := true }, none)
  else (qeAccept s i q, none)

/-! ### Triggers (10 R252 to R256) -/

/-- A trigger of a generator leaves towards the camera of a port (02 R45, Table 2.6; 10 Table 10.3). -/
def trigLink (p : Fin 12) (g : TrigGen) (s : State) : State := cameraTrigger p g.edge (g.seq % 65536) s

/-- A trigger is delivered to the ports of its generator's mask (10 R251, Table 10.3). -/
def trigDeliver (g : TrigGen) (s : State) : State :=
  forEach (List.finRange 12) (fun p t =>
    if g.portMask.testBit p.val then
      let t := { t with pos := { t.pos with trigOut := upd t.pos.trigOut p fun _ => true } }
      trigLink p g (t.setBall (.trigOut p.val) (!g.outLow))
    else t) s

/-- Count `x` in 48.16 units of the threshold. -/
def posUnits (c : Pos64) : Int := c.toInt * 65536

/-- The smallest ORIGIN + k PITCH strictly above the count (10 R252). -/
def trigThreshold (origin count : Pos64) (pitch : Nat) : Int :=
  posUnits origin + ((posUnits count - posUnits origin).fdiv pitch + 1) * pitch

/-- Initialise a generator as at enable (10 R252, R254). -/
def trigInit (s : State) (g : TrigGen) : TrigGen :=
  if g.timeMode then
    let now := s.tbTs ⟨g.source.val % 4, by omega⟩
    let behind := tsDiff now g.start
    let k := if behind < 0 then 0 else behind.toNat / g.period + 1
    { g with nextKey := g.start + BitVec.ofNat 32 (k * g.period), held := false }
  else
    let c := s.posCount g.source
    { g with tNext := trigThreshold g.origin c g.pitch, maxPos := c.toInt, held := false }

/-- Triggers are issued only in ACTIVE and HOLD (10 R255). -/
def trigRuns (s : State) : Bool := s.power.state = .active || s.power.state = .hold

/-- Is a due trigger closer than MIN_PERIOD_NS to the last one (10 R255)? -/
def trigTooSoon (s : State) (g : TrigGen) : Bool :=
  match g.lastAt with
  | none => false
  | some t => decide (s.now < t + g.minPeriod)

/-- A due trigger of generator `i` is issued or skipped (10 R255); `after` moves its threshold or key on. -/
def trigIssue (i : Fin 12) (after : TrigGen → TrigGen) (s : State) : State × Bool :=
  let g := s.pos.trig[i]
  if trigTooSoon s g then (s.setTrig i fun g => after { g with skipped := g.skipped + 1 }, false)
  else
    let s := s.setTrig i fun g =>
      after { g with seq := g.seq + 1, lastTs := s.ts0, lastAt := some s.now }
    (produce (93 + i.val) (trigDeliver s.pos.trig[i] (s.obsPulse (0x41 + i.val))), true)

/-- The sample of a POSITION generator: at most one threshold passes in it (10 R252, R253). -/
def trigSample (i : Fin 12) (s : State) : State × Bool :=
  let g := s.pos.trig[i]
  let c := (s.posCount g.source).toInt
  let due := decide (g.tNext ≤ c * 65536) && g.dueAt != some s.now
  let (s, issued) := if due then trigIssue i (fun g => { g with tNext := g.tNext + g.pitch, dueAt := some s.now }) s
    else (s, false)
  let s := s.setTrig i fun g =>
    if g.maxPos < c then { g with maxPos := c, held := false }
    else if c < g.maxPos ∧ !g.held then { g with held := true, holds := g.holds + 1 }
    else g
  (s, issued)

/-- Every running POSITION generator on channel `c` takes the sample; the generators that issued are returned. -/
def trigOnChannel (c : Fin 8) (s : State) : State × List (Fin 12) :=
  (List.finRange 12).foldl (fun (p : State × List (Fin 12)) i =>
    let g := p.1.pos.trig[i]
    if g.enable && !g.timeMode && g.source = c && trigRuns p.1 then
      let (s, issued) := trigSample i p.1
      (s, if issued then p.2 ++ [i] else p.2)
    else p) (s, [])

/-- A sample (a, b) of channel `c` is judged (10 R241), and the generators it paces take it (10 R252). -/
def qeSample (c : Fin 8) (i : Bool × Bool) (s : State) : State × List (Fin 12) :=
  let q := s.pos.qe[c]
  if q.enable then
    let (q', rep) := qeJudge s c i q
    let moved := q'.count != q.count
    let s := s.setQe c fun _ => { q' with sample := i, slow := !s.oscRuns }
    let s := match rep with | some r => s.report r | none => s
    if moved then trigOnChannel c s else (s, [])
  else (s.setQe c fun q => { q with tracked := i, sample := i, slow := !s.oscRuns }, [])

/-- The held transition of a channel at the first sample after the spacing (10 R241): a hold that has ended, or that a change
to class A has ended, is judged again with the input of this sample. -/
def qeSpacingEnd (c : Fin 8) (s : State) : State × List (Fin 12) :=
  let q := s.pos.qe[c]
  if q.enable && q.sample != q.tracked && !qeInSpacing s q then qeSample c q.sample s else (s, [])

/-- Has STILL_T of TB0 time passed since the last accepted edge?  The sample of the limit itself belongs to an edge that falls
in it (10 R249, R250). -/
def stillDue (s : State) (q : QeChan) : Bool :=
  decide ((q.stillT * 1000000 : Int) < ((s.tbTime 0).totalNs : Int) - q.lastEdgeNs)

/-- QE_STILL_TIMEOUT: no accepted edge for STILL_T (10 R249). -/
def execQeStillTimeout (c : Fin 8) (s : State) : Host.Outcome State Fault Refusal :=
  .next (if stillDue s s.pos.qe[c] then s.setQe c qeStill else s)

/-- Every channel shows the sample clock in SLOW (10 R238). -/
def qeSlow (s : State) : State := { s with pos := { s.pos with qe := s.pos.qe.map fun q => { q with slow := !s.oscRuns } } }

/-- Every position channel enters the STILL case (10 R250). -/
def allStill (s : State) : State := qeSlow (forEach (List.finRange 8) (fun c t => t.setQe c qeStill) s)

/-- TB0 stops: every channel is in the STILL case and LAST_EDGE_TS32 carries TIME_VALID = 0 (10 R238, R250). -/
def posTimeStops (s : State) : State :=
  forEach (List.finRange 8) (fun c t => t.setQe c fun q => { q with timeValid := false }) (allStill s)

/-- QE_INDEX: the sampled level of Z; a rise that qualifies is an index event (10 R244). -/
def execQeIndex (c : Fin 8) (z : Bool) (s : State) : Host.Outcome State Fault Refusal :=
  let q := s.pos.qe[c]
  let s1 := s.setQe c fun q => { q with levelZ := z }
  if q.enable && z && !q.levelZ && (!q.qualAB11 || (q.sample.1 && q.sample.2)) then
    .next (produce (32 + c.val) (s1.setQe c fun q => { q with indexLatch := q.count, indexCount := q.indexCount + 1 }))
  else .next s1

/-! ### Probes (10 R245, R246) -/

/-- The filtered level of `PRB[p]` becomes `level`; a selected edge latches (10 R245, R246). -/
def probeAccept (p : Fin 8) (level : Bool) (s : State) : State :=
  let q := s.pos.probe[p]
  let s := s.setProbe p fun q => { q with level := level }
  let hit := match q.edge with | .rise => level | .fall => !level | .both => true
  if q.enable && hit then
    produce (40 + p.val) (s.setProbe p fun q =>
      { q with counts := s.pos.qe.map (·.count), latchTs := if s.tbCounts 0 then s.ts0 else q.latchTs,
               timeValid := s.tbCounts 0, edgeLevel := level, seq := modInc 16 q.seq,
               overrun := q.overrun || !q.seen, seen := false })
  else s

/-- A new level of a probe is accepted in the FILTER-th consecutive sample that sees it, and with FILTER 0 in the first (10
R245).  The samples that have ended and this one count. -/
def probeSettle (p : Fin 8) (s : State) : State :=
  let q := s.pos.probe[p]
  if q.raw != q.level && decide (q.filter ≤ q.held + 1) then probeAccept p q.raw s else s

/-- PROBE_LATCH: a sample sees `PRB[p]` at `level`; an edge that has been held long enough latches (10 R245). -/
def execProbeLatch (p : Fin 8) (level : Bool) (s : State) : Host.Outcome State Fault Refusal :=
  .next (probeSettle p (if s.pos.probe[p].raw = level then s else s.setProbe p fun q => { q with raw := level, held := 0 }))

/-- A sample of a probe ends (10 R245). -/
def probeSample (p : Fin 8) (s : State) : State :=
  (probeSettle p s).setProbe p fun q => { q with held := min 255 (q.held + 1) }

/-- The block of a probe (10 Table 10.7). -/
def probeWords (q : Probe) : List Word :=
  w32 (q.seq + flagAt q.overrun 16 + flagAt q.timeValid 17 + flagAt q.edgeLevel 18) :: q.latchTs ::
    q.counts.toList.flatMap fun c => [lo64 c.toNat, hi64 c.toNat]

/-- Take the snapshot of a probe block (10 R259). -/
def probeSnap (p : Fin 8) (s : State) : State := s.setProbe p fun q => { q with snap := probeWords q, seen := true }

/-- PROBE_SNAPSHOT_READ (10 R259). -/
def execProbeSnapshotRead (p : Fin 8) (s : State) : Host.Outcome State Fault Refusal :=
  .next { probeSnap p s with readData := (probeWords s.pos.probe[p])[0]?.getD 0 }

/-- TRIG_OUT_PULSE_END: the pulse on `TRIG_OUT[p]` ends (10 R256). -/
def execTrigOutPulseEnd (p : Fin 12) (s : State) : Host.Outcome State Fault Refusal :=
  if s.pos.trigOut[p] then
    let low := (List.finRange 12).any fun i =>
      s.pos.trig[i].enable && s.pos.trig[i].portMask.testBit p.val && s.pos.trig[i].outLow
    .next (({ s with pos := { s.pos with trigOut := upd s.pos.trigOut p fun _ => false } }).setBall
      (.trigOut p.val) low)
  else .next s

/-! ### Registers (10 R258) -/

/-- `QE_STATUS` (10 Table 10.6). -/
def qeStatus (q : QeChan) : Word :=
  w32 (flagAt q.still 0 + flagAt q.starting 1 + flagAt q.reversed 2 + flagAt q.fineValid 3 + flagAt q.dirDown 4
    + flagAt q.illegal 5 + flagAt q.spacing 6 + flagAt q.sample.1 7 + flagAt q.sample.2 8 + flagAt q.levelZ 9
    + flagAt q.classA 10 + flagAt q.lvds 11 + flagAt q.enable 12 + flagAt q.slow 13 + flagAt q.timeValid 14)

/-- A speed as its two words show it, sign-extended to 64 bits. -/
def speedWords (v : Int) : List Word := let n := (BitVec.ofInt 64 v).toNat; [lo64 n, hi64 n]

/-- The block of a channel, 15 words (10 Table 10.5). -/
def qeWords (s : State) (c : Fin 8) : List Word :=
  let q := s.pos.qe[c]
  [lo64 q.count.toNat, hi64 q.count.toNat, qeStatus q, q.lastEdgeTs] ++ speedWords q.coarse ++ speedWords q.fine
    ++ [lo64 q.indexLatch.toNat, hi64 q.indexLatch.toNat, w32 q.fineT, s.countWord q.indexCount,
        s.countWord q.illegalCount, s.countWord q.spacingFaults, s.countWord q.reversals]

/-- The block of a generator (10 Table 10.8). -/
def trigWords (s : State) (g : TrigGen) : List Word :=
  let np := (BitVec.ofInt 64 ((g.tNext + 65535).fdiv 65536)).toNat
  let mp := (BitVec.ofInt 64 g.maxPos).toNat
  [w32 (flagAt g.enable 0 + flagAt g.timeMode 1 + flagAt g.held 2 + flagAt (!trigRuns s) 3 + g.source.val * 16
      + g.portMask * 256), w32 g.seq, lo64 np, hi64 np, lo64 mp, hi64 mp, s.countWord g.skipped, s.countWord g.holds,
    g.lastTs]

/-- A word of the position block; probe words behind +0x00 come from the snapshot (10 R258, R259). -/
def posRead (off : Nat) (s : State) : Word × State :=
  if h : off / 0x100 < 8 then ((qeWords s ⟨off / 0x100, h⟩)[off % 0x100 / 4]?.getD 0, s)
  else if h : (off - 0x800) / 0x80 < 8 then
    let p : Fin 8 := ⟨(off - 0x800) / 0x80, h⟩
    if off % 0x80 = 0 then ((probeWords s.pos.probe[p])[0]?.getD 0, probeSnap p s)
    else (s.pos.probe[p].snap[off % 0x80 / 4]?.getD 0, s)
  else if h : (off - 0xC00) / 0x40 < 12 then
    ((trigWords s s.pos.trig[(⟨(off - 0xC00) / 0x40, h⟩ : Fin 12)])[off % 0x40 / 4]?.getD 0, s)
  else (0, s)

/-- A write of a PCIe session to a word of the position block (10 R258). -/
def posWrite (off : Nat) (v : Word) (s : State) : State :=
  if h : off / 0x100 < 8 then
    s.setQe ⟨off / 0x100, h⟩ fun q => match off % 0x100 / 4 with
      | 2 => { q with illegal := w1c q.illegal (bit v 5), spacing := w1c q.spacing (bit v 6) }
      | 11 => { q with indexCount := countWrite q.indexCount v }
      | 12 => { q with illegalCount := countWrite q.illegalCount v }
      | 13 => { q with spacingFaults := countWrite q.spacingFaults v }
      | 14 => { q with reversals := countWrite q.reversals v }
      | _ => q
  else if h : (off - 0x800) / 0x80 < 8 then
    if off % 0x80 = 0 then
      s.setProbe ⟨(off - 0x800) / 0x80, h⟩ fun q => { q with overrun := w1c q.overrun (bit v 16) }
    else s
  else if h : (off - 0xC00) / 0x40 < 12 then
    s.setTrig ⟨(off - 0xC00) / 0x40, h⟩ fun g => match off % 0x40 / 4 with
      | 6 => { g with skipped := countWrite g.skipped v }
      | 7 => { g with holds := countWrite g.holds v }
      | _ => g
  else s

end Sys2Proof.Machine
end

