-- ==== Sys2Proof/Machine/Pixel.lean ====
section
/-! DEFINITION. The arithmetic of the correction pipe and of the delivered sample formats (04). -/

namespace Sys2Proof.Machine

/-! ### Fields of the shadow set (03 Table 3.6) -/

/-- LINE_PIXELS. -/
def ShadowSet.linePixels (h : ShadowSet) : Nat := bits h.format 14 0
/-- BOLT_LINES as a number of lines. -/
def ShadowSet.boltLines (h : ShadowSet) : Nat := bits h.format 31 16 + 1
/-- FILL. -/
def ShadowSet.fillValue (h : ShadowSet) : Nat := bits h.fill 15 0
/-- DARK_EN. -/
def ShadowSet.darkEn (h : ShadowSet) : Bool := bit h.stages 0
/-- DEFECT_EN. -/
def ShadowSet.defectEn (h : ShadowSet) : Bool := bit h.stages 1
/-- FLAT_EN. -/
def ShadowSet.flatEn (h : ShadowSet) : Bool := bit h.stages 2
/-- MATRIX_EN. -/
def ShadowSet.matrixEn (h : ShadowSet) : Bool := bit h.stages 3
/-- LUT_EN. -/
def ShadowSet.lutEn (h : ShadowSet) : Bool := bit h.stages 4
/-- MORPH_EN. -/
def ShadowSet.morphEn (h : ShadowSet) : Bool := bit h.stages 5
/-- DEFECT_RULE. -/
def ShadowSet.defectRule (h : ShadowSet) : Nat := bits h.stages 9 8
/-- MORPH_OP. -/
def ShadowSet.morphOp (h : ShadowSet) : Nat := bits h.stages 11 10
/-- MORPH_SIZE. -/
def ShadowSet.morphSize (h : ShadowSet) : Nat := bits h.stages 14 12
/-- CORR_BANK. -/
def ShadowSet.corrBank (h : ShadowSet) : Nat := bits h.banks 0 0
/-- LUT_BANK. -/
def ShadowSet.lutBank (h : ShadowSet) : Nat := bits h.banks 1 1
/-- BIN_BANK. -/
def ShadowSet.binBank (h : ShadowSet) : Nat := bits h.banks 2 2
/-- CHk_BITS. -/
def ShadowSet.splitBits (h : ShadowSet) (k : Nat) : Nat := bits h.lutSplit (5 * k + 4) (5 * k)
/-- SAT_HIGH. -/
def ShadowSet.satHigh (h : ShadowSet) : Nat := bits h.sat 15 0
/-- SAT_LOW. -/
def ShadowSet.satLow (h : ShadowSet) : Nat := bits h.sat 31 16
/-- CH_MASK of the statistics. -/
def ShadowSet.statMask (h : ShadowSet) : Nat := bits h.stats 7 0
/-- COEF(n), signed 4.12. -/
def ShadowSet.coef (h : ShadowSet) (n : Nat) : Int :=
  signed 16 (bits (h.matrix.toList[n / 2]?.getD 0) (16 * (n % 2) + 15) (16 * (n % 2)))
/-- OFS(i), signed. -/
def ShadowSet.ofs (h : ShadowSet) (i : Nat) : Int :=
  signed 16 (bits (h.mofs.toList[i / 2]?.getD 0) (16 * (i % 2) + 15) (16 * (i % 2)))

/-! ### Tables (04 Table 4.3, R103) -/

/-- Entry stride of the correction tables by channel setting. -/
def tableStride (channels : Nat) : Nat := if channels ≤ 4 then 4 else 8

/-- Address of the DARK entry (x, c) of pipe `p`, bank `b`. -/
def darkAddr (p b channels x c : Nat) : Nat :=
  0x100A000000 + p * 0x80000 + b * 0x40000 + 2 * (x * tableStride channels + c)

/-- Address of the FLAT entry. -/
def flatAddr (p b channels x c : Nat) : Nat := darkAddr p b channels x c + 0x20000

/-- Address of the byte of a class index in replica `r`. -/
def lutAddr (p b r index : Nat) : Nat := 0x1009000000 + p * 0x40000 + b * 0x20000 + r * 0x8000 + index / 2

/-- The word of an address has an uncorrectable error. -/
def State.bad (s : State) (a : Nat) : Bool := s.eccBad.contains (a / 8)

/-- The word of an address has a correctable error. -/
def State.soft (s : State) (a : Nat) : Bool := s.eccSoft.contains (a / 8)

/-- The 16-bit entry at an address. -/
def State.mem16 (s : State) (a : Nat) : Nat := (memRead s.mem a).toNat + 256 * (memRead s.mem (a + 1)).toNat

/-- The dark entry of a pixel-slot: none for the defect marker; 0 on an uncorrectable error (R103). -/
def darkEntry (s : State) (p b channels x c : Nat) : Option Int :=
  let a := darkAddr p b channels x c
  if s.bad a then some 0 else if s.mem16 a = 0x8000 then none else some (signed 16 (s.mem16 a))

/-- The gain of a pixel-slot; 1.0 on an uncorrectable error (R103). -/
def flatEntry (s : State) (p b channels x c : Nat) : Nat :=
  let a := flatAddr p b channels x c
  if s.bad a then 0x4000 else s.mem16 a

/-- The class at an index; 0 on an uncorrectable error (R103). -/
def lutEntry (s : State) (p b x index : Nat) : Nat :=
  let a := lutAddr p b (x % 4) index
  if s.bad a then 0 else (memRead s.mem a).toNat / (if index % 2 = 0 then 1 else 16) % 16

/-! ### Stages (04 R89 to R96) -/

/-- Working value of a sample of depth `d`, in its 16 bits (R89).  A FILL beyond the depth, which PIPE_CONFIG can leave in
effect, keeps the 16 low bits (DESIGN CHOICE). -/
def workingValue (d smp : Nat) : Nat := smp * 2 ^ (16 - d) % 65536

/-- Dark subtraction of a slot that has an offset (R92). -/
def darkSub (w : Nat) (d : Int) : Nat := (clampInt 0 65535 ((w : Int) - d)).toNat

/-- A pixel-slot on its way: working value, dark entry, and v1 before replacement. -/
structure DarkSlot where
  w : Nat
  entry : Option Int
  v : Nat
  deriving DecidableEq, Repr

/-- Stage 1 of a pixel-slot (R92). -/
def darkStage (en : Bool) (w : Nat) (d : Option Int) : DarkSlot :=
  { w := w, entry := d, v := match d with | some e => if en then darkSub w e else w | none => w }

/-- v1 of the nearest non-defective pixel of slot `c` towards `dir`, at most 4 pixels away (R93). -/
def defectSearch (line : List (List DarkSlot)) (x c : Nat) (right : Bool) : Option Nat :=
  let cand := fun (k : Nat) =>
    if right then (line)[x + k]? else if k ≤ x then (line)[x - k]? else none
  ([1, 2, 3, 4].filterMap fun k => match (cand k).bind (·[c]?) with
    | some t => if t.entry.isSome then some t.v else none
    | none => none).head?

/-- The replacement of a defective pixel-slot (04 Table 4.2); none when neither side is found. -/
def defectValue (rule : Nat) (left right : Option Nat) : Option Nat :=
  match left, right with
  | some l, some r => some (if rule = 0 then l else if rule = 1 then r else (l + r + 1) / 2)
  | some l, none => some l
  | none, some r => some r
  | none, none => none

/-- Stage 2 of a pixel-slot: its v1 and whether it was replaced, or left unresolved (R93). -/
def defectStage (h : ShadowSet) (line : List (List DarkSlot)) (x c : Nat) (t : DarkSlot) : Nat × Bool × Bool :=
  if t.entry.isNone && h.defectEn then
    match defectValue h.defectRule (defectSearch line x c false) (defectSearch line x c true) with
    | some v => (v, true, false)
    | none => (t.w, false, true)
  else (t.v, false, false)

/-- Flat gain before the clamp (R94). -/
def flatRaw (v g : Nat) : Nat := (v * g + 8192) / 2 ^ 14

/-- Stage 3 (R94). -/
def flatStage (en : Bool) (v g : Nat) : Nat := if en then min 65535 (flatRaw v g) else v

/-- Matrix output `i` before the clamp (R95). -/
def matrixRaw (h : ShadowSet) (v : List Nat) (i : Nat) : Int :=
  ((List.range 4).foldl (fun (t : Int) j => t + h.coef (4 * i + j) * (v[j]?.getD 0 : Nat)) 0 + 2048).fdiv 4096 + h.ofs i

/-- Stage 4: slots 0 to 3 through the matrix, slots 4 to 7 unchanged (R91, R95). -/
def matrixStage (h : ShadowSet) (v : List Nat) : List Nat :=
  (if h.matrixEn then (List.range 4).map fun i => (clampInt 0 65535 (matrixRaw h v i)).toNat
   else (List.range 4).map fun i => v[i]?.getD 0) ++ v.drop 4

/-- The class index of matrix outputs 0 to 3 (R96). -/
def lutIndex (h : ShadowSet) (m : List Nat) : Nat :=
  (List.range 4).foldl (fun acc k =>
    let b := h.splitBits k
    acc * 2 ^ b + (if b = 0 then 0 else (m[k]?.getD 0) / 2 ^ (16 - b))) 0

/-! ### Morphology (04 R98 to R100) -/

/-- Maximal runs of foreground or of background, in order. -/
def classRuns (l : List Nat) : List (List Nat) := l.splitBy fun a b => (a == 0) == (b == 0)

/-- Is a run foreground? -/
def isForeground (g : List Nat) : Bool := match g with | [] => false | a :: _ => a != 0

/-- Open: foreground runs shorter than `n` that touch no line end turn to class 0 (R98). -/
def morphOpen (n : Nat) (l : List Nat) : List Nat :=
  let gs := classRuns l
  (gs.mapIdx fun i g =>
    if isForeground g && decide (g.length < n) && i != 0 && i + 1 != gs.length then List.replicate g.length 0
    else g).flatten

/-- Close: background runs shorter than `n` between foreground are filled with the nearer class (R99). -/
def morphClose (n : Nat) (l : List Nat) : List Nat :=
  let gs := classRuns l
  (gs.mapIdx fun i g =>
    if !isForeground g && decide (g.length < n) && i != 0 && i + 1 != gs.length then
      let left := ((gs[i - 1]?).bind (·.getLast?)).getD 0
      let right := ((gs[i + 1]?).bind (·.head?)).getD 0
      (List.range g.length).map fun j => if j + 1 ≤ g.length - j then left else right
    else g).flatten

/-- Stage 6 (R98 to R100). -/
def morphStage (h : ShadowSet) (l : List Nat) : List Nat :=
  if !h.morphEn then l
  else match h.morphOp with
    | 0 => l
    | 1 => morphOpen h.morphSize l
    | 2 => morphClose h.morphSize l
    | _ => morphClose h.morphSize (morphOpen h.morphSize l)

/-! ### A line through the pipe -/

/-- A table read error for the report of R103: kind 0 DARK, 1 FLAT, 2 LUT; bank; word address. -/
structure TableErr where
  kind : Nat
  bank : Nat
  word : Nat
  deriving DecidableEq, Repr

/-- What a line yields. -/
structure PixOut where
  /-- v1 of each pixel-slot (R92, R93) -/
  v1 : List (List Nat)
  /-- dark slots, for the residual and the defect markers (05 R111) -/
  dark : List (List DarkSlot)
  /-- class from the LUT, before morphology -/
  lut : List Nat
  values : List (List Nat)
  classes : List Nat
  darkClamp : Nat
  replaced : Nat
  unresolved : Nat
  flatSat : Nat
  low : Nat
  high : Nat
  /-- corrected read errors -/
  softs : List TableErr
  /-- uncorrectable read errors -/
  errs : List TableErr
  deriving DecidableEq, Repr

/-- Number of pixel-slots for which a test holds. -/
def countSlots {α : Type} (l : List (List α)) (f : Nat → Nat → α → Bool) : Nat :=
  (l.mapIdx fun x px => (px.mapIdx fun c a => f x c a).count true).sum

/-- The addresses read for one line, with their kind and bank (R103). -/
def tableReads (h : ShadowSet) (p channels n : Nat) (indices : List Nat) : List (Nat × Nat × Nat) :=
  let slots := (List.range n).flatMap fun x => (List.range channels).map fun c => (x, c)
  (if h.darkEn || h.defectEn then
    slots.map fun t => (0, h.corrBank, darkAddr p h.corrBank channels t.1 t.2) else [])
  ++ (if h.flatEn then slots.map fun t => (1, h.corrBank, flatAddr p h.corrBank channels t.1 t.2) else [])
  ++ (if h.lutEn then indices.mapIdx fun x i => (2, h.lutBank, lutAddr p h.lutBank (x % 4) i) else [])

/-- The error record of a table read. -/
def tableErr (r : Nat × Nat × Nat) : TableErr := { kind := r.1, bank := r.2.1, word := r.2.2 / 8 }

/-- A line of raw samples through the six stages (R89 to R100). -/
def correctLine (s : State) (h : ShadowSet) (p channels depth : Nat) (line : List (List Nat)) : PixOut :=
  let b := h.corrBank
  let dark := line.mapIdx fun x px => px.mapIdx fun c smp =>
    darkStage h.darkEn (workingValue depth smp) (darkEntry s p b channels x c)
  let st2 := dark.mapIdx fun x px => px.mapIdx fun c t => defectStage h dark x c t
  let v1 := st2.map fun px => px.map (·.1)
  let v2 := v1.mapIdx fun x px => px.mapIdx fun c v => flatStage h.flatEn v (flatEntry s p b channels x c)
  let values := v2.map fun px => matrixStage h px
  let indices := values.map fun m => lutIndex h m
  let lut := indices.mapIdx fun x i => if h.lutEn then lutEntry s p h.lutBank x i else 0
  let reads := tableReads h p channels line.length indices
  { v1 := v1, dark := dark, lut := lut, values := values, classes := morphStage h lut
    darkClamp := countSlots dark fun _ _ t =>
      h.darkEn && (match t.entry with | some e => decide ((t.w : Int) - e < 0) | none => false)
    replaced := countSlots st2 fun _ _ t => t.2.1
    unresolved := countSlots st2 fun _ _ t => t.2.2
    flatSat := countSlots v1 fun x c v => h.flatEn && decide (65535 < flatRaw v (flatEntry s p b channels x c))
    low := if h.matrixEn then countSlots (v2.map fun px => (List.range 4).map fun i => matrixRaw h px i)
      fun _ _ m => decide (m < 0) else 0
    high := if h.matrixEn then countSlots (v2.map fun px => (List.range 4).map fun i => matrixRaw h px i)
      fun _ _ m => decide (65535 < m) else 0
    softs := (reads.filter fun r => s.soft r.2.2 && !s.bad r.2.2).map tableErr
    errs := (reads.filter fun r => s.bad r.2.2).map tableErr }

/-- The counters after a line (04 Table 4.4, R104). -/
def CorrCounters.add (k : CorrCounters) (o : PixOut) (bolt : Nat) : CorrCounters :=
  { darkClamp := satAdd 32 k.darkClamp o.darkClamp, defectReplaced := satAdd 32 k.defectReplaced o.replaced
    defectUnresolved := satAdd 32 k.defectUnresolved o.unresolved, flatSat := satAdd 32 k.flatSat o.flatSat
    matrixLow := satAdd 32 k.matrixLow o.low, matrixHigh := satAdd 32 k.matrixHigh o.high
    eccCorr := satAdd 32 k.eccCorr o.softs.length, eccUncorr := satAdd 32 k.eccUncorr o.errs.length
    firstBolt := if k.firstBolt = 2 ^ 64 - 1 then bolt else k.firstBolt }

/-! ### Delivered formats (04 R105 to R109) -/

/-- Depth reduction (R105). -/
def reduceTo (m b : Nat) : Nat := if b < 16 then min (2 ^ b - 1) ((m + 2 ^ (15 - b)) / 2 ^ (16 - b)) else m

/-- Samples of `b` bits as one number, the first in the lowest bits (R106). -/
def packNat (b : Nat) : List Nat → Nat
  | [] => 0
  | a :: t => a % 2 ^ b + 2 ^ b * packNat b t

/-- Packed bytes of a row, padded with zero bits to a byte (R106). -/
def packSamples (b : Nat) (l : List Nat) : List Byte := bytesOf ((l.length * b + 7) / 8) (packNat b l)

/-- Packed bytes padded to a multiple of `k` bytes. -/
def padTo (k : Nat) (bs : List Byte) : List Byte := bs ++ zeros (ceilDiv bs.length k * k - bs.length)

/-- Groups of `n` adjacent elements, the last one shorter when they do not fill it. -/
def groupsOf {α : Type} (n : Nat) (l : List α) : List (List α) :=
  (List.range (ceilDiv l.length n)).map fun k => (l.drop (k * n)).take n

/-- Across-web box average of a group (R107). -/
def boxMean (g : List Nat) : Nat := if g.isEmpty then 0 else (g.sum + g.length / 2) / g.length

/-- One entry of the SRGB curve, the root compared exactly in twelfth powers (R107). -/
def srgbCurve (i : Nat) : Nat :=
  if i * 10000000 ≤ 31308 * 1023 then (2 * 1292 * 255 * i + 102300) / (2 * 102300)
  else ((List.range 255).filter fun o =>
    decide ((1000 * (o + 1) + 13525) ^ 12 * 1023 ^ 5 ≤ i ^ 5 * 269025 ^ 12)).length

/-- Gain and curve of one display value (R107). -/
def displayValue (c : PreviewCfg) (m : Nat) : Nat :=
  let l := min 65535 ((m * c.k + 2048) / 4096)
  if c.linear then l / 256 else srgbCurve (l / 64)

/-- One weighted chroma or luma value (R108). -/
def yccTerm (r g b : Nat) (kr kg kb add : Int) : Nat :=
  (clampInt 0 255 ((kr * r + kg * g + kb * b + 8192).fdiv 16384 + add)).toNat

/-- Y, Cb and Cr of curve outputs (04 Table 4.6). -/
def yccOf (px : List Nat) : Nat × Nat × Nat :=
  let r := px[0]?.getD 0
  let g := px[1]?.getD 0
  let b := px[2]?.getD 0
  (yccTerm r g b 4899 9617 1868 0, yccTerm r g b (-2765) (-5427) 8192 128, yccTerm r g b 8192 (-6860) (-1332) 128)

/-- 4:2:2 bytes of a row: Y0, Cb, Y1, Cr; an odd width repeats its last pixel (R108). -/
def ycc422 (row : List (List Nat)) : List Nat :=
  (groupsOf 2 (row.map yccOf)).flatMap fun g =>
    let a := g[0]?.getD (0, 0, 0)
    let b := g[1]?.getD a
    [a.1, (a.2.1 + b.2.1 + 1) / 2, b.1, (a.2.2 + b.2.2 + 1) / 2]

/-- The display pixels of a row of binned values (R107). -/
def displayRow (c : PreviewCfg) (row : List (List Nat)) : List (List Nat) :=
  let src := if c.mono then let a := c.src[0]?.getD 0; [a, a, a] else c.src
  (groupsOf c.xscale row).map fun g => src.map fun k => displayValue c (boxMean (g.map fun px => px[k]?.getD 0))

/-- The bytes of a display row. -/
def displayBytes (c : PreviewCfg) (row : List (List Nat)) : List Byte :=
  let d := displayRow c row
  ((if c.format = 3 then ycc422 d else d.flatten).map fun v => BitVec.ofNat 8 v)

end Sys2Proof.Machine
end

