-- ==== Sys2Proof/Machine/JpegLs.lean ====
section
/-! DEFINITION. The coder: one JPEG-LS frame of ISO/IEC 14495-1 (04 R109; 14 R338, Table 14.5).  PRESUMED: the spec names
the standard and gives the features used; the coding procedure below is the standard's. -/

namespace Sys2Proof.Machine

/-! ### Parameters -/

/-- What fixes the coding of a scan: precision P, NEAR, components and interleave. -/
structure LsMode where
  depth : Nat
  near : Nat
  /-- components of a pixel of the scan -/
  comps : Nat
  deriving DecidableEq, Repr

/-- Largest sample value. -/
def LsMode.maxVal (m : LsMode) : Nat := 2 ^ m.depth - 1

/-- Quantiser step 2 NEAR + 1. -/
def LsMode.quantum (m : LsMode) : Nat := 2 * m.near + 1

/-- RANGE of the reduced prediction errors. -/
def LsMode.range (m : LsMode) : Nat := (m.maxVal + 2 * m.near) / m.quantum + 1

/-- Smallest number of bits that holds the numbers below `n`. -/
def bitsFor (n : Nat) : Nat := ((List.range 33).find? fun k => decide (n ≤ 2 ^ k)).getD 33

/-- LIMIT of the Golomb codes. -/
def LsMode.limit (m : LsMode) : Nat := 2 * (max 2 m.depth + max 8 (max 2 m.depth))

/-- A threshold of the standard, replaced by `lo` outside `lo` to MAXVAL. -/
def lsClamp (hi lo v : Nat) : Nat := if v < lo ∨ hi < v then lo else v

/-- The default thresholds T1, T2, T3 for MAXVAL of 128 and more. -/
def LsMode.thresholds (m : LsMode) : Nat × Nat × Nat :=
  let f := (min m.maxVal 4095 + 128) / 256
  let t1 := lsClamp m.maxVal (m.near + 1) (f * 1 + 2 + 3 * m.near)
  let t2 := lsClamp m.maxVal t1 (f * 4 + 3 + 5 * m.near)
  (t1, t2, lsClamp m.maxVal t2 (f * 17 + 4 + 7 * m.near))

/-- RESET: the count at which the statistics of a context are halved. -/
def lsReset : Nat := 64

/-- J[0..31]: orders of the run lengths. -/
def lsRunOrder (i : Nat) : Nat :=
  ([0, 0, 0, 0, 1, 1, 1, 1, 2, 2, 2, 2, 3, 3, 3, 3, 4, 4, 5, 5, 6, 6, 7, 7, 8, 9, 10, 11, 12, 13, 14, 15][i]?).getD 15

/-! ### State of a scan -/

/-- A regular context: A, B, C, N. -/
structure LsCtx where
  a : Nat
  b : Int := 0
  c : Int := 0
  n : Nat := 1
  deriving DecidableEq, Repr

/-- A run interruption context: A, N, Nn. -/
structure LsRunCtx where
  a : Nat
  n : Nat := 1
  nn : Nat := 0
  deriving DecidableEq, Repr

/-- The coder within a restart interval: contexts, RUNindex, and the bits so far, newest first. -/
structure LsState where
  ctx : Vector LsCtx 365
  runs : Vector LsRunCtx 2
  runIndex : Nat := 0
  bits : List Bool := []
  deriving DecidableEq, Repr

/-- The coder at the start of a scan or restart interval. -/
def LsMode.start (m : LsMode) : LsState :=
  let a := max 2 ((m.range + 32) / 64)
  { ctx := Vector.replicate 365 { a := a }, runs := Vector.replicate 2 { a := a } }

/-- The `n` low bits of a value, most significant first. -/
def LsState.put (s : LsState) (n v : Nat) : LsState :=
  { s with bits := (List.range n).foldl (fun l i => v.testBit (n - 1 - i) :: l) s.bits }

/-- A limited-length Golomb code of order `k`. -/
def LsMode.golomb (m : LsMode) (k limit v : Nat) (s : LsState) : LsState :=
  let q := bitsFor m.range
  if v / 2 ^ k < limit - q - 1 then ((s.put (v / 2 ^ k) 0).put 1 1).put k v
  else ((s.put (limit - q - 1) 0).put 1 1).put q (v - 1)

/-- The order of a Golomb code: the smallest `k` with N 2^k at least `a`. -/
def golombOrder (n a : Nat) : Nat := ((List.range 40).find? fun k => decide (a ≤ n * 2 ^ k)).getD 40

/-! ### Prediction errors -/

/-- A prediction error quantised by 2 NEAR + 1. -/
def LsMode.quantise (m : LsMode) (e : Int) : Int :=
  if 0 < e then (e + m.near).tdiv m.quantum else -((m.near - e).tdiv m.quantum)

/-- The sample as the decoder will rebuild it. -/
def LsMode.rebuild (m : LsMode) (x : Nat) (px sign e : Int) : Nat :=
  if m.near = 0 then x else (clampInt 0 m.maxVal (px + sign * e * m.quantum)).toNat

/-- A prediction error modulo RANGE, in the half-open range about 0. -/
def LsMode.reduce (m : LsMode) (e : Int) : Int :=
  let e := if e < 0 then e + m.range else e
  if ((m.range + 1) / 2 : Nat) ≤ e then e - m.range else e

/-- The median edge predictor. -/
def lsPredict (ra rb rc : Nat) : Int :=
  if max ra rb ≤ rc then (min ra rb : Nat)
  else if rc ≤ min ra rb then (max ra rb : Nat)
  else (ra : Int) + rb - rc

/-- The region, −4 to 4, of a local gradient. -/
def LsMode.region (m : LsMode) (d : Int) : Int :=
  let t := m.thresholds
  let mag : Int := if d.natAbs ≤ m.near then 0 else if d.natAbs < t.1 then 1 else if d.natAbs < t.2.1 then 2
    else if d.natAbs < t.2.2 then 3 else 4
  if d < 0 then -mag else mag

/-- Neighbours of a sample: left, above, above left, above right. -/
structure LsNear where
  ra : Nat
  rb : Nat
  rc : Nat
  rd : Nat
  deriving DecidableEq, Repr

/-- Are all gradients within NEAR? -/
def LsMode.flat (m : LsMode) (t : LsNear) : Bool :=
  decide (((t.rd : Int) - t.rb).natAbs ≤ m.near) && decide (((t.rb : Int) - t.rc).natAbs ≤ m.near)
    && decide (((t.rc : Int) - t.ra).natAbs ≤ m.near)

/-- Context number 0 to 364 and sign of a sample's gradients. -/
def LsMode.context (m : LsMode) (t : LsNear) : Nat × Int :=
  let q := 81 * m.region ((t.rd : Int) - t.rb) + 9 * m.region ((t.rb : Int) - t.rc) + m.region ((t.rc : Int) - t.ra)
  (q.natAbs, if q < 0 then -1 else 1)

/-- Half of B, rounded toward minus infinity, at a RESET. -/
def LsCtx.halve (c : LsCtx) : LsCtx :=
  if c.n = lsReset then { c with a := c.a / 2, b := c.b.fdiv 2, n := c.n / 2 } else c

/-- The bias of a context is brought back within one step (C within −128 to 127). -/
def LsCtx.bias (c : LsCtx) : LsCtx :=
  let n : Int := c.n
  if c.b ≤ -n then
    { c with b := if c.b + n ≤ -n then -n + 1 else c.b + n, c := if -128 < c.c then c.c - 1 else c.c }
  else if 0 < c.b then
    { c with b := if 0 < c.b - n then 0 else c.b - n, c := if c.c < 127 then c.c + 1 else c.c }
  else c

/-- A context after an error `e` of the quantised scale. -/
def LsMode.update (m : LsMode) (e : Int) (c : LsCtx) : LsCtx :=
  let c := LsCtx.halve { c with a := c.a + e.natAbs, b := c.b + e * m.quantum }
  LsCtx.bias { c with n := c.n + 1 }

/-- A mapped error of regular mode. -/
def LsMode.mapped (m : LsMode) (k : Nat) (c : LsCtx) (e : Int) : Nat :=
  let flip := m.near == 0 && k == 0 && decide (2 * c.b ≤ -(c.n : Int))
  (if flip then (if 0 ≤ e then 2 * e + 1 else -2 * (e + 1)) else if 0 ≤ e then 2 * e else -2 * e - 1).toNat

/-- Regular mode: a sample is coded; the answer is the sample as rebuilt. -/
def LsMode.regular (m : LsMode) (t : LsNear) (x : Nat) (s : LsState) : LsState × Nat :=
  let q := m.context t
  let i := idxMod 364 q.1
  let c := s.ctx[i]
  let px := clampInt 0 m.maxVal (lsPredict t.ra t.rb t.rc + q.2 * c.c)
  let e := m.quantise (q.2 * ((x : Int) - px))
  let rx := m.rebuild x px q.2 e
  let e := m.reduce e
  let k := golombOrder c.n c.a
  let s := m.golomb k m.limit (m.mapped k c e) s
  ({ s with ctx := upd s.ctx i (m.update e) }, rx)

/-! ### Runs -/

/-- The ones of a run of `n` samples, and what remains below the present order; at most `fuel` ones. -/
def lsRunOnes : Nat → Nat → LsState → LsState × Nat
  | 0, n, s => (s, n)
  | fuel + 1, n, s =>
    let len := 2 ^ lsRunOrder s.runIndex
    if len ≤ n then lsRunOnes fuel (n - len) { s.put 1 1 with runIndex := min 31 (s.runIndex + 1) } else (s, n)

/-- A run that ends with its line. -/
def lsRunLine (n : Nat) (s : LsState) : LsState :=
  let r := lsRunOnes (n + 1) n s
  if 0 < r.2 then r.1.put 1 1 else r.1

/-- The length of a run that a sample breaks off. -/
def lsRunBroken (n : Nat) (s : LsState) : LsState :=
  let r := lsRunOnes (n + 1) n s
  (r.1.put 1 0).put (lsRunOrder r.1.runIndex) r.2

/-- Is the mapped error of an interruption sample one less? -/
def LsRunCtx.map (c : LsRunCtx) (k : Nat) (e : Int) : Bool :=
  (k == 0 && decide (0 < e) && decide (2 * c.nn < c.n)) || (decide (e < 0) && decide (c.n ≤ 2 * c.nn))
    || (decide (e < 0) && k != 0)

/-- An interruption context after a sample. -/
def LsRunCtx.update (c : LsRunCtx) (e : Int) (coded ri : Nat) : LsRunCtx :=
  let c := { c with nn := if e < 0 then c.nn + 1 else c.nn, a := c.a + (coded + 1 - ri) / 2 }
  let c := if c.n = lsReset then { c with a := c.a / 2, n := c.n / 2, nn := c.nn / 2 } else c
  { c with n := c.n + 1 }

/-- A run interruption sample; with several components its type is always 0. -/
def LsMode.interrupt (m : LsMode) (t : LsNear) (x : Nat) (s : LsState) : LsState × Nat :=
  let ri := if m.comps = 1 ∧ ((t.ra : Int) - t.rb).natAbs ≤ m.near then 1 else 0
  let px : Int := if ri = 1 then t.ra else t.rb
  let sign : Int := if ri = 0 ∧ t.rb < t.ra then -1 else 1
  let e := m.quantise (sign * ((x : Int) - px))
  let rx := m.rebuild x px sign e
  let e := m.reduce e
  let i := idxMod 1 ri
  let c := s.runs[i]
  let k := golombOrder c.n (if ri = 1 then c.a + c.n / 2 else c.a)
  let v := 2 * e.natAbs - ri - (if c.map k e then 1 else 0)
  let s := m.golomb k (m.limit - lsRunOrder s.runIndex - 1) v s
  ({ s with runs := upd s.runs i fun c => c.update e v ri }, rx)

/-! ### Lines, intervals and frames -/

/-- A line in progress: coder, run length when a run is open, rebuilt pixels newest first, left and above-left pixels. -/
structure LsLine where
  st : LsState
  run : Option Nat := none
  done : List (List Nat) := []
  left : List Nat
  corner : List Nat

/-- Code each component of a pixel in turn. -/
def lsEach (f : LsNear → Nat → LsState → LsState × Nat) : List (LsNear × Nat) → LsState → LsState × List Nat
  | [], s => (s, [])
  | t :: l, s =>
    let r := f t.1 t.2 s
    let u := lsEach f l r.1
    (u.1, r.2 :: u.2)

/-- One pixel of a line: its samples, and the pixels above and above right. -/
def LsMode.pixel (m : LsMode) (l : LsLine) (c : List Nat × List Nat × List Nat) : LsLine :=
  let at_ := fun (v : List Nat) (i : Nat) => v[i]?.getD 0
  let ts := (List.range m.comps).map fun i =>
    (({ ra := at_ l.left i, rb := at_ c.2.1 i, rc := at_ l.corner i, rd := at_ c.2.2 i } : LsNear), at_ c.1 i)
  let fin := fun (s : LsState) (run : Option Nat) (px : List Nat) =>
    ({ st := s, run := run, done := px :: l.done, left := px, corner := c.2.1 } : LsLine)
  if l.run.isSome || ts.all (fun t => m.flat t.1) then
    let n := l.run.getD 0
    if ts.all fun t => decide (((t.2 : Int) - t.1.ra).natAbs ≤ m.near) then fin l.st (some (n + 1)) (ts.map fun t => t.1.ra)
    else
      let r := lsEach m.interrupt ts (lsRunBroken n l.st)
      fin { r.1 with runIndex := r.1.runIndex - 1 } none r.2
  else
    let r := lsEach m.regular ts l.st
    fin r.1 none r.2

/-- A line: `above` is the rebuilt line before it and `corner` its above-left pixel at the left edge. -/
def LsMode.line (m : LsMode) (above : List (List Nat)) (corner : List Nat) (px : List (List Nat)) (s : LsState) :
    LsState × List (List Nat) :=
  let right := above.drop 1 ++ (above.getLast?).toList
  let first := (above.head?).getD []
  let l := ((px.zip (above.zip right)).foldl m.pixel { st := s, left := first, corner := corner } : LsLine)
  ((match l.run with | some n => lsRunLine n l.st | none => l.st), l.done.reverse)

/-- The lines of a restart interval, from a line of zeros above; the corner of a line is the first pixel two lines up. -/
def LsMode.interval (m : LsMode) (width : Nat) (lines : List (List (List Nat))) : LsState :=
  let zero := List.replicate m.comps 0
  (lines.foldl (fun (t : LsState × List (List Nat) × List Nat) px =>
    let r := m.line t.2.1 t.2.2 px t.1
    (r.1, r.2, (t.2.1.head?).getD zero)) (m.start, List.replicate width zero, zero)).1

/-- Bits, most significant first, as a number. -/
def bitsNat (l : List Bool) : Nat := l.foldl (fun a b => 2 * a + if b then 1 else 0) 0

/-- Coded bits as bytes: after a byte FF the next one starts with a stuffed 0 bit; the end is filled with zero bits. -/
def lsBytes : Nat → Bool → List Bool → List Byte
  | 0, _, _ => []
  | fuel + 1, ff, l =>
    if l.isEmpty then (if ff then [0] else [])
    else
      let n := if ff then 7 else 8
      let v := bitsNat ((l.take n) ++ List.replicate (n - l.length) false)
      BitVec.ofNat 8 v :: lsBytes fuel (v == 255) (l.drop n)

/-- A 16-bit number, high byte first. -/
def be16 (n : Nat) : List Byte := [BitVec.ofNat 8 (n / 256), BitVec.ofNat 8 n]

/-- The coded segments of a scan: one for each restart interval, RST0 to RST7 in turn between them. -/
def LsMode.scan (m : LsMode) (width restart : Nat) (lines : List (List (List Nat))) : List Byte :=
  let parts := if restart = 0 then [lines] else groupsOf restart lines
  (parts.mapIdx fun i part =>
    let bits := (m.interval width part).bits.reverse
    (if i = 0 then [] else [0xFF, BitVec.ofNat 8 (0xD0 + (i - 1) % 8)]) ++ lsBytes (bits.length + 1) false bits).flatten

/-- SOS: the components of the scan, NEAR and ILV. -/
def sosSegment (comps : List Nat) (near ilv : Nat) : List Byte :=
  [0xFF, 0xDA] ++ be16 (6 + 2 * comps.length) ++ bytesOf 1 comps.length
    ++ comps.flatMap (fun c => bytesOf 1 (c + 1) ++ [0]) ++ bytesOf 1 near ++ bytesOf 1 ilv ++ [0]

/-- SOF55: precision, lines, width and components, each sampled 1 to 1. -/
def sofSegment (depth height width comps : Nat) : List Byte :=
  [0xFF, 0xF7] ++ be16 (8 + 3 * comps) ++ bytesOf 1 depth ++ be16 height ++ be16 width ++ bytesOf 1 comps
    ++ (List.range comps).flatMap fun c => bytesOf 1 (c + 1) ++ [0x11, 0]

/-- A frame of `rows`, each pixel a list of `comps` samples (14 Table 14.5): SOI, SOF55, DRI when RESTART_LINES is not 0,
SOS and data for each scan, EOI.  ILV 2 makes one scan of all components, ILV 0 one of each. -/
def jpegFrame (depth near ilv restart width comps : Nat) (rows : List (List (List Nat))) : List Byte :=
  let dri := if restart = 0 then [] else [0xFF, 0xDD] ++ be16 4 ++ be16 restart
  let scan := fun (cs : List Nat) (ilv : Nat) =>
    sosSegment cs near ilv ++ ({ depth := depth, near := near, comps := cs.length } : LsMode).scan width restart
      (rows.map fun r => r.map fun px => cs.map fun c => px[c]?.getD 0)
  [0xFF, 0xD8] ++ sofSegment depth rows.length width comps ++ dri
    ++ (if ilv = 2 then scan (List.range comps) 2 else (List.range comps).flatMap fun c => scan [c] 0)
    ++ [0xFF, 0xD9]

end Sys2Proof.Machine
end

