-- ==== Sys2Proof/Machine/Output.lean ====
section
/-! DEFINITION. The output rings: items, messages, room, staging, UDP shaping and interrupt moderation (14 R340 to
R345). -/

namespace Sys2Proof.Machine

/-- Change output ring `r`. -/
def State.setRing (s : State) (r : Fin 16) (f : OutRing → OutRing) : State :=
  { s with outp := { s.outp with ring := upd s.outp.ring r f } }

/-- An item sets out towards the rings (14 R341). -/
def State.item (s : State) (i : OutItem) : State :=
  { s with outp := { s.outp with items := s.outp.items ++ [i] } }

/-- What a kind does when its ring is full: DROP for CROP, CODED, MV_STRIP and PREVIEW, else HOLD (14 Table 14.8). -/
def dropKind (k : Nat) : Bool := decide (6 ≤ k ∧ k ≤ 9)

/-- Kinds that are bound to a pipe (14 Table 14.6 SOURCE_MASK). -/
def carries (c : RingCfg) (r : Fin 16) (i : OutItem) : Bool :=
  c.kinds.testBit (i.kind - 1)
    && (match i.source with | none => true | some p => c.sources.testBit p.val)
    && (match i.ring with | none => true | some q => q == r)

/-- Staging bytes that HOLD messages take in all rings (14 R343). -/
def heldBytes (g : OutRing) : Nat := (g.held.map fun m => m.bytes.length).sum

/-- The 512 KiB part of the output staging for HOLD messages. -/
def heldLimit : Nat := 524288

/-- Message units of 64 bytes (14 R342). -/
def msgUnits (m : OutMsg) : Nat := ceilDiv m.bytes.length 64

/-- Units of PAD before a message that does not fit before the end of the ring (14 R342). -/
def padUnits (g : OutRing) (units : Nat) : Nat :=
  let n := g.cfg.size / 64
  let o := g.producer % n
  if o + units ≤ n then 0 else n - o

/-- Units that host software has not freed yet. -/
def usedUnits (s : State) (r : Fin 16) : Nat :=
  (s.outp.ring[r].producer + 2 ^ 32 - s.host.outCons[r] % 2 ^ 32) % 2 ^ 32

/-- Has a HOST ring room for `units` more units (14 R342)? -/
def hostRoom (s : State) (r : Fin 16) (units : Nat) : Bool :=
  decide ((usedUnits s r + units) * 64 ≤ (s.outp.ring[r]).cfg.size)

/-- The fragments of a message (14 R345). -/
def fragments (c : RingCfg) (m : OutMsg) : List (OutMsg × Nat × List Byte) :=
  let n := c.dgramMax - 24
  (groupsOf n m.bytes).mapIdx fun i b => (m, i * n, b)

/-- Bytes of the datagrams of fragments. -/
def fragBytes (l : List (OutMsg × Nat × List Byte)) : Nat := (l.map fun f => f.2.2.length + 24).sum

/-- Tokens of a shaper now, in 1/1,000 byte: RATE_MBPS per ns, at most the 64 KiB burst (14 R343). -/
def shaperTokens (s : State) (g : OutRing) : Nat := min 65536000 (g.tokens + g.cfg.rate * (s.now - g.tokensAt))

/-- Has a UDP ring room: the shaper's bytes cover the datagrams that wait and those of the message, or, of a message above the
burst, a full burst of them (14 R343; DESIGN CHOICE for such a message, which no shaper of 64 KiB could take whole)? -/
def udpRoom (s : State) (r : Fin 16) (m : OutMsg) : Bool :=
  let g := s.outp.ring[r]
  decide ((fragBytes g.frags + min 65536 (fragBytes (fragments g.cfg m))) * 1000 ≤ shaperTokens s g)

/-- Has a ring room for a message now (14 R342, R343)?  In a HOST ring none until the PAD before it is written. -/
def ringRoom (s : State) (r : Fin 16) (m : OutMsg) : Bool :=
  let g := s.outp.ring[r]
  if g.cfg.udp then udpRoom s r m else padUnits g (msgUnits m) == 0 && hostRoom s r (msgUnits m)

/-- The D2H channel that carries a kind; a PAD goes with the message behind it (14 Table 14.8). -/
def kindChannel (k : Nat) : Nat := if k ≤ 2 then 1 else if k ≤ 5 then 0 else k - 4

/-- The moderation timer or count sends the ring's MSI-X message (14 Table 14.6, 16 Table 16.4). -/
def ringIrq (r : Fin 16) (s : State) : State :=
  (s.setRing r fun g => { g with irqCount := 0 }).fireVectorN (6 + r.val)

/-- Bytes sent count in the ring's 100 ms window (14 Table 14.11). -/
def ringRate (r : Fin 16) (n : Nat) (s : State) : State :=
  let w := (s.tbTime 0).totalNs / 100000000
  s.setRing r fun g =>
    let b := if g.window = w then g.windowBytes + n else n
    { g with window := w, windowBytes := b, ratePeak := max g.ratePeak b }

/-- Header of a message (14 Table 14.7). -/
def msgHeader (s : State) (kind : Nat) (gap : Bool) (source : Option (Fin 12)) (len seq : Nat) : List Byte :=
  bytesOf 1 kind ++ bytesOf 1 (if gap then 1 else 0)
    ++ bytesOf 2 (match source with | some p => p.val | none => 0xFFFF)
    ++ bytesOf 4 len ++ bytesOf 4 seq ++ bytesOf 4 s.ts0.toNat

/-- `units` units go into a HOST ring on channel `c`: their bytes, then the fenced producer index, then the interrupt (14 R342,
01 R27). -/
def writeUnits (r : Fin 16) (c units : Nat) (bs : List Byte) (s : State) : State :=
  let g := s.outp.ring[r]
  let p := (g.producer + units) % 2 ^ 32
  let s := s.emit (.hostWrite (some c) (g.cfg.base + g.producer * 64 % g.cfg.size) bs true)
  let s := (s.setRing r fun g => { g with producer := p, irqCount := g.irqCount + 1 }).emit
    (.hostWrite (some c) g.cfg.prodAddr (bytesOf 4 p) false)
  let s := ringRate r bs.length s
  if g.cfg.intCount ≤ g.irqCount + 1 ∨ g.cfg.intUs = 0 then ringIrq r s else s

/-- A message that does not fit before the end of a HOST ring: a PAD message fills the rest as soon as that is free (14 R342). -/
def sendPad (r : Fin 16) (m : OutMsg) (s : State) : State :=
  let g := s.outp.ring[r]
  let n := padUnits g (msgUnits m)
  if g.cfg.udp ∨ n = 0 ∨ !hostRoom s r n then s
  else
    writeUnits r (kindChannel m.kind) n (msgHeader s 0x0A false none (n * 64 - 16) g.msgSeq)
      (s.setRing r fun g => { g with msgSeq := modInc 32 g.msgSeq })

/-- A message that has room leaves for its destination. -/
def sendMsg (r : Fin 16) (m : OutMsg) (s : State) : State :=
  if s.outp.ring[r].cfg.udp then s.setRing r fun g => { g with frags := g.frags ++ fragments g.cfg m }
  else writeUnits r (kindChannel m.kind) (msgUnits m) m.bytes s

/-- A message is dropped: DROPPED counts it and the next message carries GAP (14 R343). -/
def dropMsg (r : Fin 16) (s : State) : State :=
  s.setRing r fun g => { g with dropped := satInc 32 g.dropped, gap := true }

/-- A message that its ring can take is judged against the ring's room; a HOLD kind goes behind those that wait, in the order in
which they were formed (14 R343, 01 R31). -/
def judgeRoom (r : Fin 16) (m : OutMsg) (s : State) : State :=
  let waits := !(s.outp.ring[r]).held.isEmpty && !dropKind m.kind
  if !waits && ringRoom s r m then sendMsg r m s
  else if dropKind m.kind then dropMsg r s
  else if (s.outp.ring.toList.map heldBytes).sum + m.bytes.length ≤ heldLimit then
    s.setRing r fun g =>
      let g := { g with held := g.held ++ [m] }
      { g with heldPeak := max g.heldPeak (heldBytes g) }
  else (dropMsg r s).report { group := 22, cls := .squall, inst := r.val, cause := 0 }

/-- A message is judged: one above a HOST ring's size never fits, another gets the PAD that it needs first (14 R342, R343). -/
def judgeMsg (r : Fin 16) (m : OutMsg) (s : State) : State :=
  let g := s.outp.ring[r]
  if !g.cfg.udp && decide (g.cfg.size / 64 < msgUnits m) then
    dropMsg r (s.setRing r fun g => { g with oversize := satInc 32 g.oversize })
  else judgeRoom r m (if g.held.isEmpty || dropKind m.kind then sendPad r m s else s)

/-- A message of a ring is formed: it takes the next MSG_SEQ, dropped or not, and a pending GAP (14 R341, R343). -/
def formMsg (r : Fin 16) (kind : Nat) (source : Option (Fin 12)) (payload : List Byte) (s : State) : State :=
  let g := s.outp.ring[r]
  let m : OutMsg := { kind := kind, source := source, seq := g.msgSeq,
                      bytes := msgHeader s kind g.gap source payload.length g.msgSeq ++ payload }
  judgeMsg r m (s.setRing r fun g => { g with msgSeq := modInc 32 g.msgSeq, gap := false })

/-- Messages held for a ring leave in order while there is room (14 R343). -/
def releaseHeld (r : Fin 16) : Nat → State → State
  | 0, s => s
  | n + 1, s =>
    match s.outp.ring[r].held with
    | [] => s
    | m :: t =>
      let s := sendPad r m s
      if ringRoom s r m then releaseHeld r n (sendMsg r m (s.setRing r fun g => { g with held := t })) else s

/-- Everything held that now has room leaves. -/
def release (r : Fin 16) (s : State) : State := releaseHeld r s.outp.ring[r].held.length s

/-- The open batch of a kind is sent as one message (14 R341). -/
def flushBatch (r : Fin 16) (kind : Nat) (s : State) : State :=
  match s.outp.ring[r].batches.find? (fun b => b.1 == kind) with
  | none => s
  | some b => formMsg r kind none b.2.flatten
      (s.setRing r fun g => { g with batches := g.batches.filter fun b => b.1 != kind })

/-- A RECORD or RESULT item joins its batch (14 R341). -/
def batchItem (r : Fin 16) (kind : Nat) (payload : List Byte) (s : State) : State :=
  let g := s.outp.ring[r]
  let l := (((g.batches.find? fun b => b.1 == kind).map (·.2)).getD []) ++ [payload]
  let s := s.setRing r fun g => { g with batches := (kind, l) :: g.batches.filter fun b => b.1 != kind }
  if g.cfg.batch ≤ l.length then flushBatch r kind s else s

/-- An item enters a ring that carries it. -/
def ringItem (r : Fin 16) (i : OutItem) (s : State) : State :=
  let g := s.outp.ring[r]
  if g.state = .enabled ∧ carries g.cfg r i then
    if i.kind = 1 ∨ i.kind = 2 then batchItem r i.kind i.payload s else formMsg r i.kind i.source i.payload s
  else s

/-- OUTPUT_MESSAGE_ENQUEUE: the oldest waiting item is put into a message for each ring that carries its kind (14
R341). -/
def execOutputMessageEnqueue (s : State) : Host.Outcome State Fault Refusal :=
  match s.outp.items with
  | [] => .next s
  | i :: t =>
    .next (forEach (List.finRange 16) (fun r u => ringItem r i u) { s with outp := { s.outp with items := t } })

/-- OUTPUT_FLUSH_TIMEOUT: FLUSH_US after its first item the batch of a kind is sent (14 R341). -/
def execOutputFlushTimeout (r : Fin 16) (kind : Fin 2) (s : State) : Host.Outcome State Fault Refusal :=
  .next (flushBatch r (kind.val + 1) s)

/-- OUTPUT_IRQ_TIMEOUT: INT_US after the first message that has not been signalled (14 Table 14.6). -/
def execOutputIrqTimeout (r : Fin 16) (s : State) : Host.Outcome State Fault Refusal :=
  .next (if s.outp.ring[r].irqCount = 0 then s else ringIrq r s)

/-- Datagram of a fragment (14 Table 14.9). -/
def datagram (r : Fin 16) (f : OutMsg × Nat × List Byte) (dgram device : Nat) : List Byte :=
  let total := f.1.bytes.length
  bytesOf 2 0x564F ++ bytesOf 1 1 ++ bytesOf 1 f.1.kind ++ bytesOf 2 device ++ bytesOf 1 r.val
    ++ bytesOf 1 ((if f.2.1 = 0 then 1 else 0) + (if f.2.1 + f.2.2.length = total then 2 else 0))
    ++ bytesOf 4 f.1.seq ++ bytesOf 4 dgram ++ bytesOf 4 f.2.1 ++ bytesOf 4 total ++ f.2.2

/-- UDP_DATAGRAM_SEND: held messages that the shaper has room for by now follow, and the next fragment leaves when it has the
bytes for its datagram (14 R343, R345). -/
def execUdpDatagramSend (r : Fin 16) (s : State) : Host.Outcome State Fault Refusal :=
  let s := if (s.outp.ring[r]).cfg.udp then release r s else s
  let g := s.outp.ring[r]
  match g.frags with
  | [] => .next s
  | f :: t =>
    let n := f.2.2.length + 24
    if n * 1000 ≤ shaperTokens s g then
      let d := datagram r f g.dgramSeq s.station.plantDevice
      let s := s.setRing r fun g =>
        { g with frags := t, dgramSeq := modInc 32 g.dgramSeq, tokens := shaperTokens s g - n * 1000, tokensAt := s.now }
      .next (ringRate r n (s.sendUdp g.cfg.port 4 g.cfg.srcUdp g.cfg.destIp g.cfg.destUdp g.cfg.dscp d))
    else .next s

/-- Everything staged for a ring has been delivered (14 R340). -/
def ringEmpty (g : OutRing) : Bool := g.batches.isEmpty && g.held.isEmpty && g.frags.isEmpty

/-- A ring is enabled or disabled (14 R340, 17 Table 17.4). -/
def ringEnable (r : Fin 16) (on : Bool) (s : State) : State :=
  match s.outp.ring[r].state, on with
  | .disabled, true => s.setRing r fun g => { g with state := .enabling }
  | .draining, true => s.setRing r fun g => { g with enablePending := true }
  | .draining, false => s.setRing r fun g => { g with enablePending := false }
  | .enabled, false => s.setRing r fun g => { g with state := .draining }
  | .enabling, false => s.setRing r fun g => { g with state := .disabled }
  | _, _ => s

/-- ENABLING ends: it lasts to the end of the tick (DESIGN CHOICE: the spec gives it no time). -/
def ringEnabled (r : Fin 16) (s : State) : State :=
  if (s.outp.ring[r]).state = .enabling then s.setRing r fun g => { g with state := .enabled } else s

/-- OUTPUT_RING_DRAIN_END (14 R340, 17 Table 17.4). -/
def execOutputRingDrainEnd (r : Fin 16) (s : State) : Host.Outcome State Fault Refusal :=
  let g := s.outp.ring[r]
  if g.state = .draining ∧ ringEmpty g then
    .next (s.setRing r fun g =>
      { g with state := if g.enablePending then .enabling else .disabled, enablePending := false })
  else .next s

/-- OUT_CONS_WRITE: a consumer-index write frees room or is rejected (16 R387, 14 R342). -/
def outConsWrite (r : Fin 16) (v : Word) (s : State) : State :=
  let g := s.outp.ring[r]
  if g.cfg.size / 64 < (g.producer + 2 ^ 32 - v.toNat) % 2 ^ 32 then
    { s with host := { s.host with consReject := satInc 32 s.host.consReject } }
  else release r { s with host := { s.host with outCons := upd s.host.outCons r fun _ => v.toNat } }

/-- OUT_CONS_WRITE. -/
def execOutConsWrite (r : Fin 16) (v : Word) (s : State) : Host.Outcome State Fault Refusal :=
  .next (outConsWrite r v s)

/-- HOST rings at a host reset: DISABLED at once, staged messages discarded and counted (16 Table 16.11); a ring that session 0
configured keeps running (14 R340). -/
def hostRingsOff (s : State) : State :=
  forEach (List.finRange 16) (fun r t =>
    if t.outp.ring[r].cfg.udp || t.outp.ring[r].state == .disabled || t.outp.ring[r].owner == some 0 then t
    else t.setRing r fun g =>
      { g with state := .disabled, enablePending := false, held := [], batches := [],
               dropped := satAdd 32 g.dropped (g.held.length + g.batches.length) }) s

/-- A word of a ring block; RATE_MBPS reads 0 until a rate is declared (14 Table 14.11). -/
def ringWord (s : State) (g : OutRing) (w : Nat) : Word :=
  match w with
  | 0 => w32 ((match g.state with | .disabled => 0 | .enabling => 1 | .enabled => 2 | .draining => 3)
      + flagAt g.enablePending 2 + flagAt g.cfg.udp 3 + g.cfg.port.val * 16 + g.cfg.kinds * 65536)
  | 1 => w32 g.msgSeq
  | 2 => w32 g.producer
  | 3 => w32 g.dropped
  | 4 => w32 g.heldPeak
  | 5 => wInt (s.freeDiv g.ratePeak 100000)
  | 6 => if g.owner.isNone then 0 else w32 g.cfg.rate
  | 7 => w32 g.oversize
  | _ => 0

/-- A word of the `OUT_` window (14 R346). -/
def outRead (off : Nat) (s : State) : Word :=
  if h : off / 0x40 < 16 then ringWord s s.outp.ring[(⟨off / 0x40, h⟩ : Fin 16)] (off % 0x40 / 4) else 0

/-- A write to the `OUT_` window (14 R346). -/
def outWrite (off : Nat) (v : Word) (s : State) : State :=
  if h : off / 0x40 < 16 then
    s.setRing ⟨off / 0x40, h⟩ fun g => match off % 0x40 / 4 with
      | 3 => { g with dropped := countWrite g.dropped v }
      | 4 => { g with heldPeak := countWrite g.heldPeak v }
      | 5 => { g with ratePeak := countWrite g.ratePeak v }
      | 7 => { g with oversize := countWrite g.oversize v }
      | _ => g
  else s

end Sys2Proof.Machine
end

