-- ==== Sys2Proof/Machine/Eject.lean ====
section
/-! DEFINITION. Valve mapping, the slot table, the position list, the valve links and test pulses (11). -/

namespace Sys2Proof.Machine

/-- Change valve link `l`. -/
def State.setLink (s : State) (l : Fin 4) (f : EjLink → EjLink) : State :=
  { s with ej := { s.ej with link := upd s.ej.link l f } }

/-- Change valve row `r`. -/
def State.setRow (s : State) (r : Fin 4) (f : EjRow → EjRow) : State :=
  { s with ej := { s.ej with row := upd s.ej.row r f } }

/-! ### Valve mapping (11 R261 to R265) -/

/-- Index of the last map entry whose first column is at most `c`. -/
def mapIndex (m : RowMap) (c : Nat) : Nat := (m.firstCols.filter fun f => decide (f ≤ c)).length - 1

/-- FIRST_VALVE, LAST_VALVE and NO_VALVES of a column range (11 R262). -/
def mapRange (m : RowMap) (lo hi : Nat) : Nat × Nat × Bool :=
  let first := m.firstCols.head?.getD 0
  let n := m.firstCols.length
  if hi < first then (m.vbase, m.vbase, true)
  else if m.endCol < lo then (m.vbase + n - 1, m.vbase + n - 1, true)
  else (m.vbase + mapIndex m lo, m.vbase + mapIndex m (min hi m.endCol), false)

/-- What the valve mapping needs of an object. -/
structure EjObject where
  cls : Nat
  colMin : Nat
  colMax : Nat
  tsClose : Ts32
  tsFirst : Ts32
  firstPos : Pos64
  posLength : Nat
  deriving DecidableEq, Repr

/-- Slot count of a TIME row (11 R264). -/
def ejSlots (e : EjBlock) (r : EjRow) (o : EjObject) : Nat :=
  let span : Int := (o.tsClose - o.tsFirst).toNat
  let dur : Int := (span * r.stretch + 32768).fdiv 65536 + r.extend
  if dur ≤ 0 then e.minOn
  else clampNat e.minOn e.maxOn ((2 * dur.toNat + e.slotNs) / (2 * e.slotNs))

/-- The command of an object (11 R260 to R265). -/
def ejCommand (s : State) (o : EjObject) : ValveCmd :=
  let e := s.ej
  let r := (e.rowOfClass[o.cls]?.getD 0)
  let row := e.row[(⟨r % 4, by omega⟩ : Fin 4)]
  let lo := o.colMin - e.margin
  let hi := min (s.stitch.webWidth - 1) (o.colMax + e.margin)
  let rng := (row.map[row.act]).map fun m => mapRange m lo hi
  let v := rng.getD (0, 0, true)
  if row.posMode then
    { fireKey := (o.firstPos + BitVec.ofNat 64 row.dist - BitVec.ofNat 64 row.leadCounts).toNat
      duration := (clampInt 1 2147483647 ((o.posLength : Int) + row.extendCounts)).toNat
      first := v.1, last := v.2.1, row := r % 4, posMode := true, noValves := v.2.2, noMap := rng.isNone }
  else
    { fireKey := (o.tsClose + BitVec.ofNat 32 row.flight - BitVec.ofNat 32 row.lead).toNat
      duration := ejSlots e row o
      first := v.1, last := v.2.1, row := r % 4, posMode := false, noValves := v.2.2, noMap := rng.isNone }

/-- The sixteen bytes of a command (11 Table 11.1). -/
def cmdBytes (c : ValveCmd) : List Byte :=
  bytesOf 8 c.fireKey ++ bytesOf 4 c.duration
    ++ bytesOf 4 (c.first + c.last * 2 ^ 11 + c.row * 2 ^ 22 + flagAt c.posMode 24 + flagAt c.noValves 25)

/-- The mapping stage forms a command; NO_VALVES is counted (11 R262). -/
def mapCommand (o : EjObject) (s : State) : ValveCmd × State :=
  let c := ejCommand s o
  (c, if c.noValves then { s with ej := { s.ej with noValves := s.ej.noValves + 1 } } else s)

/-- A union row starts: requested swaps of row maps take effect (11 R263). -/
def rowMapSwaps (s : State) : State :=
  forEach (List.finRange 4) (fun r t =>
    if t.ej.row[r].swapPending then t.setRow r fun x => { x with act := 1 - x.act, swapPending := false } else t) s

/-! ### The slot grid (11 R266, R267) -/

/-- The slot grid runs (11 R266). -/
def gridRuns (s : State) : Bool := s.tbCounts 0 && s.power.state == .active

/-- The TB0 full time in ns. -/
def fullNs (s : State) : Int := (s.tbTime 0).totalNs

/-- The last slot start at or before `t`. -/
def gridFloor (e : EjBlock) (t : Int) : Int := e.phaseNs + (t - e.phaseNs).fdiv e.slotNs * e.slotNs

/-- The slot being built: the first whose freeze point is still ahead (11 R266, R268). -/
def buildSlot (s : State) : Int := gridFloor s.ej (fullNs s + 1000) + s.ej.slotNs

/-- The slot start nearest to a full time, the earlier one on a tie (11 R267). -/
def nearestSlot (e : EjBlock) (t : Int) : Int :=
  let g := gridFloor e t
  if 2 * (t - g) ≤ e.slotNs then g else g + e.slotNs

/-- Nanoseconds from now to a fire key (11 R267, 12 R301). -/
def keyAhead (s : State) (key : Nat) : Int := tsDiff (BitVec.ofNat 32 key) s.ts0

/-- Outcomes of Table 11.2. -/
inductive EjOutcome where
  | lateMissed | horizonDropped | overflow | latePartial | accepted
  deriving DecidableEq, Repr

/-- The outcome of a time-mode command with the first and last slot it covers (11 R267, Table 11.2). -/
def judgeTime (s : State) (c : ValveCmd) : EjOutcome × Int × Int :=
  let f := nearestSlot s.ej (fullNs s + keyAhead s c.fireKey)
  let last := f + ((c.duration : Int) - 1) * s.ej.slotNs
  let b := buildSlot s
  if !gridRuns s || decide (last < b) then (.lateMissed, f, last)
  else if decide (4094 * (s.ej.slotNs : Int) < last - b) || decide (2000000000 < keyAhead s c.fireKey) then
    (.horizonDropped, f, last)
  else if 65536 ≤ s.ej.pendTime.length then (.overflow, f, last)
  else if f < b then (.latePartial, b, last)
  else (.accepted, f, last)

/-- Count an outcome and report it (11 R267, R268). -/
def countOutcome (o : EjOutcome) (s : State) : State :=
  match o with
  | .lateMissed =>
    ({ s with ej := { s.ej with lateMissed := s.ej.lateMissed + 1 } }).report { group := 13, cls := .squall, cause := 1 }
  | .horizonDropped => { s with ej := { s.ej with horizonDropped := s.ej.horizonDropped + 1 } }
  | .overflow =>
    ({ s with ej := { s.ej with cmdOverflow := s.ej.cmdOverflow + 1 } }).report { group := 13, cls := .squall, cause := 1 }
  | .latePartial =>
    ({ s with ej := { s.ej with latePartial := s.ej.latePartial + 1 } }).report { group := 13, cls := .drizzle, cause := 0 }
  | .accepted => { s with ej := { s.ej with accepted := s.ej.accepted + 1 } }

/-- MARGIN_MIN takes the margin of a firing command (11 R268). -/
def takeMargin (c : ValveCmd) (s : State) : State :=
  let f := nearestSlot s.ej (fullNs s + keyAhead s c.fireKey)
  let m := clampInt (-(2 ^ 31)) (2 ^ 31 - 1) (f - 1000 - fullNs s)
  { s with ej := { s.ej with marginMin := min s.ej.marginMin m } }

/-- A time-mode command is judged and, when it stays, enters the slot table. -/
def enterTime (c : EjCmd) (count : Bool) (s : State) : State :=
  let j := judgeTime s c.cmd
  let s' := if gridRuns s then takeMargin c.cmd s else s
  match j.1 with
  | .accepted | .latePartial =>
    let s' := if count then countOutcome j.1 s' else s'
    { s' with ej := { s'.ej with pendTime := s'.ej.pendTime ++ [{ c with from_ := j.2.1, until_ := j.2.2 }] } }
  | _ => countOutcome j.1 s'

/-- The position count of the stitch group (11 R265, R269). -/
def groupCount (s : State) : Pos64 := s.posCount s.pipe[s.stitch.refPipe].posCh

/-- Distance of the count past a fire position (11 R269). -/
def posPast (s : State) (c : ValveCmd) : Int := (groupCount s - BitVec.ofNat 64 c.fireKey).toInt

/-- A position-mode command enters the list (11 R269); CMD_ACCEPTED counts time-mode commands (Table 11.2). -/
def enterPos (c : EjCmd) (s : State) : State :=
  if (c.cmd.duration : Int) ≤ posPast s c.cmd then countOutcome .lateMissed s
  else if 4096 ≤ s.ej.pendPos.length then countOutcome .overflow s
  else { s with ej := { s.ej with pendPos := s.ej.pendPos ++ [{ c with entered := s.now }] } }

/-- The links a command's valves lie on (11 R262). -/
def linksOf (first last : Nat) : List (Fin 4) :=
  (List.finRange 4).filter fun l => decide (first / 512 ≤ l.val) && decide (l.val ≤ last / 512)

/-- Enabled marker zones that meet a valve range (11 R270). -/
def zonesOf (e : EjBlock) (first last : Nat) : List Nat :=
  (List.range 8).filter fun z => match e.zone[z]? with
    | some m => m.enable && decide (m.first ≤ last) && decide (first ≤ m.last)
    | none => false

/-- The ACTION of a verdict code 1 ACCEPT, 2 REJECT, 3 MARK (11 R261). -/
def actionOf (e : EjBlock) (verdict : Nat) : EjAction := if verdict = 0 then .none else e.action[verdict - 1]?.getD .none

/-- Does an ACTION fire valves? -/
def firesValves : EjAction → Bool
  | .valves | .both => true
  | _ => false

/-- Does an ACTION fire markers? -/
def firesMarkers : EjAction → Bool
  | .markers | .both => true
  | _ => false

/-- What is left of a command after Gale, ACTION and arming: the command to judge and whether its acceptance is
counted (11 R261, R262, R276, R277). -/
def ejAccept (e : EjEntry) (s : State) : State × Option (EjCmd × Bool) :=
  let a := actionOf s.ej e.verdict
  if s.ej.galeSafe then ({ s with ej := { s.ej with disarmDropped := s.ej.disarmDropped + 1 } }, none)
  else if a = .none then ({ s with ej := { s.ej with cmdNone := s.ej.cmdNone + 1 } }, none)
  else
    let links := linksOf e.cmd.first e.cmd.last
    let wants := firesValves a && !e.cmd.noValves
    let run := links.any fun l => s.ej.link[l].arm == 1
    let test := links.any fun l => s.ej.link[l].arm == 2
    let marks := firesMarkers a && !e.cmd.noMap
    let c : EjCmd := { cmd := e.cmd, valves := wants && run, markers := marks,
                       zones := if marks then zonesOf s.ej e.cmd.first e.cmd.last else [] }
    if wants && !run then
      let s := if test then { s with ej := { s.ej with testDropped := s.ej.testDropped + 1 } }
        else { s with ej := { s.ej with disarmDropped := s.ej.disarmDropped + 1 } }
      (s, if marks then some (c, false) else none)
    else (s, some (c, true))

/-- A command with its final verdict enters the scheduler (11 R260, R267, R269). -/
def ejEnter (e : EjEntry) (s : State) : State :=
  match ejAccept e s with
  | (s, none) => s
  | (s, some (c, count)) => if c.cmd.posMode then enterPos c s else enterTime c count s

/-- A command sets out towards the scheduler (08 R185, 01 R16). -/
def ejSend (cmd : ValveCmd) (verdict : Nat) (fromGust : Bool) (s : State) : State :=
  { s with ej := { s.ej with entries := s.ej.entries ++ [{ cmd := cmd, verdict := verdict, fromGust := fromGust }] } }

/-- EJ_COMMAND_ENTRY: the oldest command on its way enters; `n` gives the EJCLK cycles of a Gust crossing, 3 to 5
(08 R185, 11 R267).  While EJCLK is lost the crossing shows it nothing and keeps what it holds (01 R17). -/
def execEjCommandEntry (n : Fin 3) (s : State) : Host.Outcome State Fault Refusal :=
  match s.ej.entries, s.clockRuns 11 with
  | [], _ | _, false => .next s
  | e :: t, true =>
    let s := { s with ej := { s.ej with entries := t } }
    let s := if e.fromGust then
        { s with ej := { s.ej with cross := s.ej.cross.mapIdx fun i x => if i = n.val then satInc 32 x else x } }
      else s
    .next (ejEnter e s)

/-- Pending time-mode commands are judged again against a new grid (11 R267, R268). -/
def rejudge (s : State) : State :=
  if !gridRuns s then s
  else
    let old := s.ej.pendTime
    forEach old (fun c t =>
      let j := judgeTime t c.cmd
      match j.1 with
      | .accepted | .latePartial =>
        { t with ej := { t.ej with pendTime := t.ej.pendTime ++ [{ c with from_ := j.2.1, until_ := j.2.2 }] } }
      | .horizonDropped => { t with ej := { t.ej with horizonDropped := t.ej.horizonDropped + 1 } }
      | _ => countOutcome .lateMissed t) { s with ej := { s.ej with pendTime := [] } }

/-! ### Frames (11 R266 to R279) -/

/-- Is a position-mode command on at the present count (11 R269)? -/
def posOn (s : State) (c : EjCmd) : Bool := decide (0 ≤ posPast s c.cmd ∧ posPast s c.cmd < c.cmd.duration)

/-- The commands that are on in a slot. -/
def commandsOn (s : State) (slot : Int) : List EjCmd :=
  (s.ej.pendTime.filter fun c => decide (c.from_ ≤ slot ∧ slot ≤ c.until_)) ++ s.ej.pendPos.filter (posOn s)

/-- The bitmap bytes of link `l`: the OR of the valves of the commands that fire on it (11 R267, Table 11.4). -/
def linkBitmap (arm : Nat) (l : Fin 4) (on : List EjCmd) : List Byte :=
  let cs := on.filter fun c => c.valves && (c.test || arm == 1)
  (List.range 64).map fun i =>
    BitVec.ofNat 8 ((List.range 8).foldl (fun a j =>
      let g := 512 * l.val + 8 * i + j
      a + (if cs.any fun c => decide (c.cmd.first ≤ g ∧ g ≤ c.cmd.last) then 2 ^ j else 0)) 0)

/-- The frame of a link for a slot (11 R271, R273, R275 to R279). -/
def linkFrame (s : State) (l : Fin 4) (slot : Int) (on : List EjCmd) : ValveFrame :=
  let k := s.ej.link[l]
  let live := k.state == .enabled && k.arm != 0 && !k.faulted && !s.ej.galeSafe
  { safe := !live
    flags := (if live then 1 else 0) + (if live ∧ k.arm = 2 then 2 else 0) + (if s.ej.galeSafe then 4 else 0) + 8 * l.val
    seq := k.nextSeq
    slotTs := BitVec.ofInt 32 slot
    bitmap := if live then linkBitmap k.arm l on else k.safe }

/-- The link sends frames (11 R271, R275). -/
def linkSends (k : EjLink) : Bool :=
  k.state == .enabling || k.state == .enabled || (k.state == .draining && decide (0 < k.drainLeft))

/-- At a freeze point the arm code and the safe pattern that wait take effect (11 R276, R277, R279). -/
def linkSettle (s : State) : State :=
  forEach (List.finRange 4) (fun l t => t.setLink l fun k =>
    { k with arm := k.armNext, safe := k.safeNext.getD k.safe, safeNext := none }) s

/-- Position-mode commands past their window leave the list (11 R269). -/
def leavePos (s : State) : State :=
  { s with ej := { s.ej with pendPos := s.ej.pendPos.filter fun c => decide (posPast s c.cmd < c.cmd.duration) } }

/-- The commands that are on are marked as having fired their markers (11 R270). -/
def markOn (slot : Int) (s : State) : State :=
  let pos := fun (c : EjCmd) => if posOn s c then { c with marked := true } else c
  let tim := fun (c : EjCmd) => if c.from_ ≤ slot ∧ slot ≤ c.until_ then { c with marked := true } else c
  { s with ej := { s.ej with pendPos := s.ej.pendPos.map pos
                             pendTime := (s.ej.pendTime.map tim).filter fun c => decide (slot < c.until_) } }

/-- A test sequence ends when every repetition has entered and left the table (11 R280). -/
def testSettle (s : State) : State :=
  match s.ej.test with
  | some t => if t.left = 0 ∧ !(s.ej.pendTime.any (·.test)) then { s with ej := { s.ej with test := none } } else s
  | none => s

/-- The freeze point of slot `slot` (11 R266, R269, R270). -/
def freezeSlot (slot : Int) (s : State) : State :=
  let s := leavePos (linkSettle s)
  let on := commandsOn s slot
  let marks := on.flatMap fun c => if c.markers && !c.marked then c.zones else []
  let s1 := forEach (List.finRange 4) (fun l t =>
    t.setLink l fun k => { k with frame := if linkSends k && k.galeFrame != some slot then some (linkFrame s l slot on) else none }) s
  testSettle (markOn slot { s1 with ej := { s1.ej with frozen := some slot, slotDue := true, markDue := marks } })

/-- What vector 59 watches (16 Table 16.4): LINK_UP, ARM, FAULTED and GALE_SAFE. -/
def valveView (s : State) : Bool × List (Bool × Nat × Bool) :=
  (s.ej.galeSafe, (List.finRange 4).map fun l => (s.ej.link[l].up, s.ej.link[l].arm, s.ej.link[l].faulted))

/-- Vector 59 fires when a valve link's view changed since `old` (16 Table 16.4). -/
def valveIrq (old s : State) : State := if valveView old = valveView s then s else s.fireVector 59

/-- SLOT_FREEZE: the slot whose freeze point TB0 has reached, unless it is frozen already (11 R266); the scheduler runs on
EJCLK (01 R17). -/
def execSlotFreeze (s : State) : Host.Outcome State Fault Refusal :=
  let slot := buildSlot s - s.ej.slotNs
  if gridRuns s ∧ s.clockRuns 11 ∧ s.ej.frozen ≠ some slot ∧ fullNs s < slot then .next (valveIrq s (freezeSlot slot s)) else .next s

/-- Characters 1 to 72 of a frame: TYPE, FLAGS, SEQ, SLOT_TS32 and BITMAP (11 Table 11.3). -/
def frameBody (f : ValveFrame) : List Byte :=
  bytesOf 1 (if f.safe then 0x5B else 0x5A) ++ bytesOf 1 f.flags ++ bytesOf 2 f.seq ++ bytesOf 4 f.slotTs.toNat ++ fit 64 f.bitmap

/-- The 76 characters of a frame (11 Table 11.3). -/
def frameChars (f : ValveFrame) : List VChar :=
  .sof :: (frameBody f ++ bytesOf 2 (crc16 (frameBody f)).toNat).map .data ++ [.eof]

/-- Duration of a frame in ns: 76 characters of 8 ns (11 R271). -/
def frameNs : Nat := 608

/-- A frame leaves, its EOF at model time `eof`: SEQ advances and the acknowledgement is awaited (11 R271, R272).  In a drain
the SAFE frames are counted (11 R275). -/
def frameSent (l : Fin 4) (f : ValveFrame) (eof : Nat) (s : State) : State :=
  let s := s.setLink l fun k =>
    { k with frame := none, txSeq := f.seq, nextSeq := modInc 16 f.seq, awaiting := k.awaiting ++ [(f.seq, eof)],
             safeFrames := if f.safe then k.safeFrames + 1 else k.safeFrames,
             drainLeft := if k.state = .draining ∧ f.safe then k.drainLeft - 1 else k.drainLeft }
  s.emit (.valve l.val (frameChars f))

/-- SLOT_START: the frames of the frozen slot have left, markers fire and the slot producer fires (11 R266, R270,
18 Table 18.1). -/
def execSlotStart (s : State) : Host.Outcome State Fault Refusal :=
  match s.ej.frozen with
  | none => .next s
  | some slot =>
    if s.ej.slotDue ∧ gridRuns s ∧ s.clockRuns 11 ∧ slot ≤ fullNs s then
      let marks := s.ej.markDue
      let s := { s with ej := { s.ej with slotDue := false, markDue := [], marksFired := s.ej.marksFired + marks.length } }
      let s := forEach (List.finRange 4) (fun l t =>
        match t.ej.link[l].frame with | some f => frameSent l f t.now t | none => t) s
      .next (produce 119 (forEach marks (fun z t => produce (85 + z) t) (s.obsPulse 0x59)))
    else .next s

/-- POS_CMD_WAIT_EXPIRY: position-mode commands held longer than POS_MAX_WAIT_MS are dropped (11 R269). -/
def execPosCmdWaitExpiry (s : State) : Host.Outcome State Fault Refusal :=
  let late := fun (c : EjCmd) => decide (c.entered + s.ej.posMaxWait * 1000000 < s.now)
  let n := (s.ej.pendPos.filter late).length
  .next (if s.clockRuns 11 then
    { s with ej := { s.ej with pendPos := s.ej.pendPos.filter fun c => !late c
                               horizonDropped := s.ej.horizonDropped + n } }
    else s)

/-! ### Acknowledgements (11 R272, R273) -/

/-- A valve board's acknowledgement as received. -/
structure ValveAck where
  typ : Nat
  crcOk : Bool
  seq : Nat
  status : Nat
  deriving DecidableEq, Repr

/-- The acknowledgement that eight characters form: K27.7, TYPE, SEQ, STATUS, the CRC-16 over characters 1 to 4, K29.7
(11 R272). -/
def ackOf : List VChar → Option ValveAck
  | [.sof, .data t, .data s0, .data s1, .data st, .data c0, .data c1, .eof] =>
    some { typ := t.toNat, crcOk := (crc16 [t, s0, s1, st]).toNat == leAt [c0, c1] 0 2, seq := leAt [s0, s1] 0 2, status := st.toNat }
  | _ => none

/-- The frame that an acknowledgement answers: the one whose SEQ it echoes, else the oldest that awaits one and has ended (11
R272; DESIGN CHOICE for an echo that matches none). -/
def ackFrame (now : Nat) (a : ValveAck) (l : List (Nat × Nat)) : Option (Nat × Nat) :=
  let ended := l.filter fun x => decide (x.2 ≤ now)
  (ended.find? fun x => a.crcOk && x.1 == a.seq).orElse fun _ => ended.head?

/-- A missed acknowledgement (11 R273). -/
def linkMiss (l : Fin 4) (seq : Nat) (s : State) : State :=
  let k := s.ej.link[l]
  let s := s.setLink l fun k =>
    { k with ackMiss := k.ackMiss + 1, goodRun := 0, missRun := k.missRun + 1, awaiting := k.awaiting.filter fun x => x.1 != seq }
  if k.state = .enabled ∧ !k.faulted then
    if s.ej.missLimit ≤ k.missRun + 1 then
      (s.setLink l fun k => { k with faulted := true, armNext := 0, faults := k.faults + 1 }).report
        { group := 14, cls := .squall, inst := l.val, cause := 1, valueB := seq }
    else s.report { group := 14, cls := .drizzle, inst := l.val, cause := 0, valueB := seq }
  else s

/-- A good acknowledgement of the frame with SEQ `seq` (11 R272, R273, R275). -/
def linkGood (l : Fin 4) (seq status rtt : Nat) (s : State) : State :=
  s.setLink l fun k =>
    let n := if k.goodRun < 64 then k.goodRun + 1 else 64
    let k := { k with lastStatus := status, rttMax := max k.rttMax (min 65535 rtt), goodRun := n, missRun := 0,
                      awaiting := k.awaiting.filter fun x => x.1 != seq }
    if n < 64 then k
    else if k.state = .enabling then { k with state := .enabled, up := true }
    else { k with faulted := false }

/-- Is an acknowledgement good (11 R272)? -/
def ackGood (timeout : Nat) (a : ValveAck) (seq rtt : Nat) : Bool :=
  a.typ == 0xA5 && a.crcOk && a.seq == seq && decide (rtt ≤ timeout)

/-- VALVE_ACK_RX: the characters of an acknowledgement have arrived: K27.7 and TYPE, SEQ, STATUS, CRC-16 and K29.7 (11 R272,
R273).  What is no acknowledgement, or arrives
when no ended frame awaits one, changes nothing. -/
def execValveAckRx (l : Fin 4) (head seq status tail : List VChar) (s : State) : Host.Outcome State Fault Refusal :=
  let cs := head ++ seq ++ status ++ tail
  match ackOf cs, (ackOf cs).bind fun a => ackFrame s.now a s.ej.link[l].awaiting with
  | some a, some (sq, t0) =>
    if ackGood s.ej.ackTimeout a sq (s.now - t0) then
      .next (valveIrq s (linkGood l sq a.status (s.now - t0) s))
    else
      let t := if !a.crcOk then s.setLink l fun k => { k with ackCrcErr := k.ackCrcErr + 1 }
        else if a.typ = 0xA6 then s.setLink l fun k => { k with ackNak := k.ackNak + 1 } else s
      .next (valveIrq s (linkMiss l sq t))
  | _, _ => .next s

/-- VALVE_ACK_TIMEOUT: more than ACK_TIMEOUT_NS have passed since a frame's EOF without its good acknowledgement (11 R272,
R273). -/
def execValveAckTimeout (l : Fin 4) (s : State) : Host.Outcome State Fault Refusal :=
  match s.ej.link[l].awaiting with
  | [] => .next s
  | (sq, t0) :: _ => .next (if t0 + s.ej.ackTimeout < s.now then valveIrq s (linkMiss l sq s) else s)

/-! ### Link states (11 R275, R277) -/

/-- A link starts towards ENABLED: SEQ starts at 0 (11 R271, R275). -/
def linkStart (l : Fin 4) (s : State) : State :=
  s.setLink l fun k => { k with state := .enabling, enablePending := false, up := false, nextSeq := 0, goodRun := 0,
                                missRun := 0, faulted := false, awaiting := [], frame := none }

/-- LINK_ENABLE of a link is written (11 R275, 17 Table 17.4). -/
def linkEnable (l : Fin 4) (on : Bool) (s : State) : State :=
  match s.ej.link[l].state, on with
  | .disabled, true => linkStart l s
  | .draining, true => s.setLink l fun k => { k with enablePending := true }
  | .draining, false => s.setLink l fun k => { k with enablePending := false }
  | .enabling, false => s.setLink l fun k => { k with state := .disabled, armNext := 0, awaiting := [], frame := none }
  | .enabled, false =>
    s.setLink l fun k => { k with state := .draining, armNext := 0, drainLeft := 16, up := false, faulted := false }
  | _, _ => s

/-- LINK_DRAIN_END: sixteen SAFE frames are out (11 R275). -/
def execLinkDrainEnd (l : Fin 4) (s : State) : Host.Outcome State Fault Refusal :=
  let k := s.ej.link[l]
  if k.state = .draining ∧ k.drainLeft = 0 then
    if k.enablePending then .next (valveIrq s (linkStart l s))
    else .next (s.setLink l fun k => { k with state := .disabled, awaiting := [], frame := none })
  else .next s

/-- A link is disarmed from the next freeze point (11 R277). -/
def disarm (l : Fin 4) (s : State) : State := s.setLink l fun k => { k with armNext := 0 }

/-- Every link is disarmed (11 R277). -/
def disarmAll (s : State) : State := forEach (List.finRange 4) disarm s

/-- The characters of a frame of `slot` that have left when a Gale ends it with K30.7; none when it has not started (11
R278). -/
def cutFrame (s : State) (slot : Int) (f : ValveFrame) : List VChar :=
  let n := ((fullNs s - slot + frameNs).toNat) / 8
  if n = 0 then [] else (frameChars f).take (min n 75) ++ [.abort]

/-- The frame in flight of a link ends with K30.7 and is dropped (11 R278). -/
def frameAborted (l : Fin 4) (slot : Int) (s : State) : State :=
  match s.ej.link[l].frame with
  | none => s
  | some f =>
    let t := s.setLink l fun k => { k with frame := none }
    if cutFrame s slot f = [] then t else t.emit (.valve l.val (cutFrame s slot f))

/-- A Gale reaches the scheduler (11 R278): the frame in flight is cut, the frame of the first slot whose start follows is sent
at once as a SAFE frame with GALE, and every link is disarmed.  A frame that an earlier Gale sent for that slot stands. -/
def ejGale (s : State) : State :=
  let slot := gridFloor s.ej (fullNs s) + s.ej.slotNs
  let s := { s with ej := { s.ej with galeSafe := true } }
  forEach (List.finRange 4) (fun l t =>
    let k := t.ej.link[l]
    let t := (frameAborted l slot t).setLink l fun k => { k with arm := 0, armNext := 0 }
    if linkSends k && gridRuns s && k.galeFrame != some slot then
      (frameSent l (linkFrame t l slot []) (t.now + frameNs) t).setLink l fun k => { k with galeFrame := some slot }
    else t) s

/-! ### Test pulses (11 R280) -/

/-- One pulse of the running sequence enters the slot table, unless GALE_SAFE is set or none of its links is armed any more
(11 R277). -/
def testPulse (s : State) : State :=
  match s.ej.test with
  | none => s
  | some t =>
    if t.left = 0 then s
    else
      let cmd : ValveCmd := { fireKey := (BitVec.ofInt 32 t.next).toNat, duration := t.slots, first := t.first, last := t.last }
      let last := nearestSlot s.ej t.next + ((t.slots : Int) - 1) * s.ej.slotNs
      let dropped := s.ej.galeSafe || !(linksOf t.first t.last).any fun l => (s.ej.link[l]).arm != 0
      let s := { s with ej := { s.ej with
        test := some { t with left := t.left - 1, next := t.next + t.gap * s.ej.slotNs, until_ := last }
        testPulses := if dropped then s.ej.testPulses else s.ej.testPulses + 1
        disarmDropped := if dropped then s.ej.disarmDropped + 1 else s.ej.disarmDropped } }
      if dropped then s else enterTime { cmd := cmd, valves := true, markers := false, test := true } true s

/-- TEST_PULSE_DUE (11 R280). -/
def execTestPulseDue (s : State) : Host.Outcome State Fault Refusal :=
  .next (if s.clockRuns 11 then testSettle (testPulse s) else s)

/-! ### Registers (11 R282) -/

/-- LINK_STATE code. -/
def UnitState.code : UnitState → Nat
  | .disabled => 0 | .enabling => 1 | .enabled => 2 | .draining => 3

/-- Words of a link block (11 Table 11.7). -/
def linkWords (s : State) (k : EjLink) : List Word :=
  [w32 (k.state.code + flagAt k.enablePending 2 + flagAt k.up 3 + k.arm * 16 + flagAt k.faulted 6 + k.lastStatus * 256
      + k.txSeq * 65536), s.countWord k.ackMiss, s.countWord k.ackNak, s.countWord k.ackCrcErr, s.countWord k.safeFrames,
    s.countWord k.faults, w32 k.rttMax]

/-- Status word +0x000 (11 Table 11.6). -/
def ejStatus (s : State) : Word :=
  w32 (flagAt (gridRuns s) 0 + flagAt s.ej.galeSafe 1 + flagAt s.ej.test.isSome 2
    + flagAt (s.ej.row.toList.any (·.swapPending)) 3
    + ((List.finRange 4).map fun r => 2 ^ (4 + r.val) * (s.ej.row[r].act).val).sum)

/-- A word of the ejector status block (11 Tables 11.6 to 11.8, 08 Table 8.9). -/
def ejRead (off : Nat) (s : State) : Word :=
  let e := s.ej
  if h : 0x020 ≤ off ∧ (off - 0x020) / 0x20 < 4 then
    (linkWords s e.link[(⟨(off - 0x020) / 0x20, h.2⟩ : Fin 4)])[(off - 0x020) % 0x20 / 4]?.getD 0
  else match off with
  | 0x000 => ejStatus s
  | 0x004 => if gridRuns s then BitVec.ofInt 32 (buildSlot s) else 0
  | 0x008 => wInt e.marginMin
  | 0x00C => w32 e.pendTime.length
  | 0x010 => w32 e.pendPos.length
  | 0x0A0 => s.countWord e.accepted
  | 0x0A4 => s.countWord e.cmdNone
  | 0x0A8 => s.countWord e.latePartial
  | 0x0AC => s.countWord e.lateMissed
  | 0x0B0 => s.countWord e.horizonDropped
  | 0x0B4 => s.countWord e.cmdOverflow
  | 0x0B8 => s.countWord e.disarmDropped
  | 0x0BC => s.countWord e.testDropped
  | 0x0C0 => s.countWord e.noValves
  | 0x0C4 => s.countWord e.marksFired
  | 0x0C8 => s.countWord e.testPulses
  | 0x0F0 => w32 (e.cross[0]?.getD 0)
  | 0x0F4 => w32 (e.cross[1]?.getD 0)
  | 0x0F8 => w32 (e.cross[2]?.getD 0)
  | _ => 0

/-- A write of a PCIe session to the ejector status block (11 R282). -/
def ejWrite (off : Nat) (v : Word) (s : State) : State :=
  let set := fun (f : EjBlock → EjBlock) => { s with ej := f s.ej }
  if h : 0x020 ≤ off ∧ (off - 0x020) / 0x20 < 4 then
    s.setLink ⟨(off - 0x020) / 0x20, h.2⟩ fun k => match (off - 0x020) % 0x20 / 4 with
      | 1 => { k with ackMiss := countWrite k.ackMiss v }
      | 2 => { k with ackNak := countWrite k.ackNak v }
      | 3 => { k with ackCrcErr := countWrite k.ackCrcErr v }
      | 4 => { k with safeFrames := countWrite k.safeFrames v }
      | 5 => { k with faults := countWrite k.faults v }
      | 6 => { k with rttMax := if bits v 15 0 = 0 then 0 else k.rttMax }
      | _ => k
  else match off with
  | 0x008 => set fun e => { e with marginMin := if v = 0 then 0x7FFFFFFF else e.marginMin }
  | 0x0A0 => set fun e => { e with accepted := countWrite e.accepted v }
  | 0x0A4 => set fun e => { e with cmdNone := countWrite e.cmdNone v }
  | 0x0A8 => set fun e => { e with latePartial := countWrite e.latePartial v }
  | 0x0AC => set fun e => { e with lateMissed := countWrite e.lateMissed v }
  | 0x0B0 => set fun e => { e with horizonDropped := countWrite e.horizonDropped v }
  | 0x0B4 => set fun e => { e with cmdOverflow := countWrite e.cmdOverflow v }
  | 0x0B8 => set fun e => { e with disarmDropped := countWrite e.disarmDropped v }
  | 0x0BC => set fun e => { e with testDropped := countWrite e.testDropped v }
  | 0x0C0 => set fun e => { e with noValves := countWrite e.noValves v }
  | 0x0C4 => set fun e => { e with marksFired := countWrite e.marksFired v }
  | 0x0C8 => set fun e => { e with testPulses := countWrite e.testPulses v }
  | 0x0F0 | 0x0F4 | 0x0F8 =>
    set fun e => { e with cross := e.cross.mapIdx fun i x => if 4 * i = off - 0x0F0 then countWrite x v else x }
  | _ => s

/-! ### Time-base steps seen by the scheduler (11 R268, 12 R291, R293) -/

/-- A tick passes; after a SET or a step of TB0 the pending commands are judged again (11 R268, 12 R291). -/
def tickPasses (s : State) : State :=
  let t := passTick s
  if t.time.tb[0].steps = s.time.tb[0].steps then t else rejudge t

/-- SERVO_SAMPLE: the sample that waits at a base with a source reaches its servo (12 R293). -/
def execServoSample (b : Fin 4) (s : State) : Host.Outcome State Fault Refusal :=
  match s.time.tb[b].sample with
  | none => .next s
  | some (theta, t) =>
    if s.tbCounts b && s.time.tb[b].source != .none && decide (0 < t) then
      .next (servoSample b theta t s)
    else .next (s.setTb b fun t => { t with sample := none })

end Sys2Proof.Machine
end

