-- ==== Sys2Proof/Machine/Dram.lean ====
section
/-! DEFINITION. The external DRAM controller: training, requests, write queue, urgency, self-refresh, refresh, scrub
and error capture (15). -/

namespace Sys2Proof.Machine

/-- Change channel `c`. -/
def State.setDch (s : State) (c : Fin 8) (f : DramChan → DramChan) : State :=
  { s with dram := { s.dram with chan := upd s.dram.chan c f } }

/-- Change port `k`. -/
def State.setDport (s : State) (k : Fin 5) (f : DramPort → DramPort) : State :=
  { s with dram := { s.dram with port := upd s.dram.port k f } }

/-- The channel of an addressable DRAM address: A[10:8] XOR A[18:16] (15 R349). -/
def dramChannel (a : Nat) : Fin 8 :=
  ⟨((a / 2 ^ 8 % 8) ^^^ (a / 2 ^ 16 % 8)) % 8, Nat.mod_lt _ (by decide)⟩

/-- The end of the addressable DRAM (01 R21). -/
def dramEnd (s : State) : Nat := s.dram.addrMib * 2 ^ 20

/-- Agents reach DRAM (15 R350, R361). -/
def dramUp (s : State) : Bool :=
  s.dram.state == .ready && (s.power.state == .active || s.power.state == .hold)

/-- An address lies in addressable DRAM that agents reach; any other DRAM access falls under 01 R22. -/
def dramHas (s : State) (a len : Nat) : Bool := dramUp s && decide (a + len ≤ dramEnd s)

/-- A reserved-address access: a Drizzle report with the address and the agent (01 R22). -/
def reservedAccess (a : Nat) (agent : Agent) (s : State) : State :=
  s.report { group := 29, cls := .drizzle, inst := agent.code, cause := 0, valueA := a }

/-- The address within its channel: the channel bits A[10:8] taken out (15 R349). -/
def inChannel (a : Nat) : Nat := a / 2 ^ 11 * 2 ^ 8 + a % 2 ^ 8

/-- Kinds of free values: which bits of the address within the channel are the rank, the bank and the row (15 R349). -/
def freeRank : Nat := 96
/-- Bank. -/
def freeBank : Nat := 97
/-- Row. -/
def freeRow : Nat := 98

/-- The rank that an address lies in; one fitted rank is rank 0. -/
def dramRank (s : State) (a : Nat) : Nat := if s.dram.ranks2 then Config.freeNat freeRank (inChannel a) % 2 else 0

/-- The bank of its rank. -/
def dramBank (a : Nat) : Nat := Config.freeNat freeBank (inChannel a) % 16

/-- The row of its bank. -/
def dramRow (a : Nat) : Nat := Config.freeNat freeRow (inChannel a) % 2 ^ 18

/-- The number rank x 16 + bank of an address. -/
def bankIx (s : State) (a : Nat) : Fin 32 :=
  ⟨dramRank s a * 16 + dramBank a, by
    have h1 : dramRank s a < 2 := by
      unfold dramRank
      split
      · exact Nat.mod_lt _ (by decide)
      · decide
    have h2 : dramBank a < 16 := Nat.mod_lt _ (by decide)
    omega⟩

/-- Is the row of an address open (15 R353)? -/
def rowIsOpen (s : State) (c : Fin 8) (a : Nat) : Bool := (s.dram.chan[c]).openRow[bankIx s a] == some (dramRow a)

/-- A DRAM access leaves its row open, closing another one of the same bank (15 R353). -/
def openDramRow (c : Fin 8) (a : Nat) (s : State) : State :=
  s.setDch c fun x => { x with openRow := x.openRow.set (bankIx s a) (some (dramRow a)) }

/-- All banks are precharged (15 R353, R360). -/
def DramChan.closed (x : DramChan) : DramChan := { x with openRow := Vector.replicate 32 none }

/-- The error words of `len` bytes from an address. -/
def errWords (l : List Nat) (a len : Nat) : List Nat := l.filter fun w => decide (0 < len ∧ a / 8 ≤ w ∧ w * 8 < a + len)

/-- An uncorrectable DRAM error at a word is counted, captured when none is held, and reported (15 R364). -/
def dramBadWord (port w : Nat) (s : State) : State :=
  let c := dramChannel (w * 8)
  let s := s.setDch c fun x => { x with eccUncorr := x.eccUncorr + 1 }
  let s := s.report { group := 23, cls := .squall, inst := c.val, cause := 1, valueA := w * 8 }
  if s.dram.capture.valid then s
  else
    let a := w * 8 / 64 * 64
    { s with dram := { s.dram with capture :=
      { valid := true, channel := c.val, rank := dramRank s a, bank := dramBank a, row := dramRow a, port := port,
        link := !s.dram.inlineEcc, addr := a, ts := s.ts0 } } }

/-- A corrected error at a word (15 R364). -/
def dramSoftWord (w : Nat) (s : State) : State :=
  let c := dramChannel (w * 8)
  let s := s.setDch c fun x =>
    if s.dram.inlineEcc then { x with eccCorr := x.eccCorr + 1 } else { x with linkCorr := x.linkCorr + 1 }
  s.report { group := 23, cls := .drizzle, inst := c.val, cause := 0, valueA := w * 8 }

/-- Errors are detected by inline ECC, else by the memory's link ECC at 8,533 MT/s and above (15 R364). -/
def errDetected (s : State) : Bool := s.dram.inlineEcc || decide (2 ≤ s.dram.speed)

/-- The error side of a read of `len` bytes of DRAM by a port; true when the data is found uncorrectable (15 R364). -/
def dramRead (port a len : Nat) (s : State) : State × Bool :=
  if !errDetected s then (s, false)
  else
  let bad := errWords s.eccBad a len
  let s := forEach (errWords s.eccSoft a len) dramSoftWord s
  (forEach bad (dramBadWord port) s, !bad.isEmpty)

/-- A full write of `len` bytes replaces the stored codes of its words (15 R363). -/
def clearErr (a len : Nat) (s : State) : State :=
  { s with eccBad := s.eccBad.filter fun w => !decide (0 < len ∧ a / 8 ≤ w ∧ w * 8 < a + len)
           eccSoft := s.eccSoft.filter fun w => !decide (0 < len ∧ a / 8 ≤ w ∧ w * 8 < a + len) }

/-- An agent writes bytes to memory; the words it covers get fresh codes.  Accesses become visible to every agent in issue
order and at once, which is one of the orders that R24 allows between different addresses (DESIGN CHOICE). -/
def State.store (s : State) (a : Nat) (bs : List Byte) : State :=
  clearErr a bs.length { s with mem := memWriteN s.mem a bs }

/-! ### Requests (15 R354 to R357) -/

/-- All 64 bytes of a granule are in the mask. -/
def fullMask : Nat := 2 ^ 64 - 1

/-- Bytes of a write under its mask. -/
def maskedWrite (m : List Host.Cell) (a : Nat) (mask : Nat) (data : List Byte) : List Host.Cell :=
  (List.range 64).foldl (fun m i => if mask.testBit i then memWrite m (a + i) (data[i]?.getD 0) else m) m

/-- A write enters the write queue, merging into the entry of its granule; memory as every reader sees it takes the
bytes at once, since a read is always merged with the queue (15 R354). -/
def wqEnter (c : Fin 8) (w : DramWait) (s : State) : State :=
  let a := w.req.granule * 64
  let s := { s with mem := maskedWrite s.mem a w.req.mask w.req.data }
  let hit := s.dram.chan[c].wq.any fun x => x.req.granule == w.req.granule
  let merge := fun (x : DramWait) =>
    if x.req.granule = w.req.granule then { x with req := { x.req with mask := x.req.mask ||| w.req.mask } } else x
  let s := s.setDch c fun x => { x with wq := if hit then x.wq.map merge else x.wq ++ [w] }
  s.setDch c fun x => { x with draining := x.draining || decide (48 ≤ x.wq.length) }

/-- Does an older write to the granule wait for room in the write queue (15 R355; 01 R24)? -/
def writeWaits (ch : DramChan) (granule : Nat) : Bool := ch.queue.any fun w => w.req.write && w.req.granule == granule

/-- The oldest write that waits for room enters the write queue. -/
def wqRefill (c : Fin 8) (s : State) : State :=
  let ch := s.dram.chan[c]
  if 64 ≤ ch.wq.length then s
  else match ch.queue.find? fun w => w.req.write with
    | none => s
    | some w => wqEnter c w (s.setDch c fun x => { x with queue := x.queue.erase w })

/-- A request reaches a channel that is entering or in self-refresh (15 R360). -/
def srWake (c : Fin 8) (s : State) : State :=
  match s.dram.chan[c].state with
  | .srEntry => s.setDch c fun x => { x with state := .active, srAborts := x.srAborts + 1 }
  | .selfRefresh => s.setDch c fun x => { x with state := .srExit }
  | _ => s

/-- DRAM_REQUEST: a request enters its port queue (15 R354, R356); one whose granule an older write waits for keeps behind
that write (01 R24). -/
def execDramRequest (r : DramReq) (s : State) : Host.Outcome State Fault Refusal :=
  let a := r.granule * 64
  if !dramHas s a 64 then
    .next { reservedAccess a r.agent s with readBytes := if r.write then s.readBytes else zeros 64 }
  else
    let c := dramChannel a
    let s := srWake c s
    let w : DramWait := { req := r, entered := s.now }
    let ch := s.dram.chan[c]
    if r.write then
      if writeWaits ch r.granule then .next (s.setDch c fun x => { x with queue := x.queue ++ [w] })
      else if ch.wq.length < 64 ∨ (ch.wq.any fun x => x.req.granule == r.granule) then .next (wqEnter c w s)
      else .next (s.setDch c fun x => { x with queue := x.queue ++ [w] })
    else if writeWaits ch r.granule then .next (s.setDch c fun x => { x with queue := x.queue ++ [w] })
    else if ch.wq.any fun x => x.req.granule == r.granule && x.req.mask == fullMask then
      .next { (s.setDch c fun x => { x with forwarded := x.forwarded + 1 }) with readBytes := memReadN s.mem a 64 }
    else .next (s.setDch c fun x => { x with queue := x.queue ++ [w] })

/-- Age of a request now. -/
def dramAge (s : State) (w : DramWait) : Nat := s.now - w.entered

/-- Urgency of a port at a channel, by the age of its oldest waiting request (15 R357). -/
def urgency (s : State) (c : Fin 8) (k : Fin 5) : Nat :=
  let ch := s.dram.chan[c]
  let age := (((ch.queue ++ ch.wq).filter fun w => w.req.port == k).map (dramAge s)).foldl max 0
  let t := s.dram.port[k].target
  if 90 * t ≤ 100 * age then 3 else if 75 * t ≤ 100 * age then 2 else if 50 * t ≤ 100 * age then 1 else 0

/-- The reads that a channel may issue: a read to a granule with an entry in the write queue stands for that entry's write,
which goes first, and a read behind a waiting write of its granule waits with it (15 R354; 01 R24). -/
def readable (ch : DramChan) : List DramWait :=
  (ch.queue.filter fun w => !w.req.write).filterMap fun w =>
    if (ch.queue.takeWhile (· != w)).any fun x => x.req.write && x.req.granule == w.req.granule then none
    else match ch.wq.find? fun x => x.req.granule == w.req.granule with
      | some x => some x
      | none => some w

/-- The requests a channel may serve now: reads before writes, except while the queue drains or the write's port is at
urgency 2 or 3 (15 R355). -/
def servable (s : State) (c : Fin 8) : List DramWait :=
  let ch := s.dram.chan[c]
  let reads := readable ch
  let urgent := ch.wq.filter fun w => decide (2 ≤ urgency s c w.req.port)
  let pick := if ch.draining then ch.wq ++ reads.filter (fun w => decide (2 ≤ urgency s c w.req.port)) else reads ++ urgent
  if pick.isEmpty then ch.wq ++ reads else pick

/-- Those of highest urgency (15 R357). -/
def mostUrgent (s : State) (c : Fin 8) : List DramWait :=
  let l := servable s c
  let u := (l.map fun w => urgency s c w.req.port).foldl max 0
  l.filter fun w => urgency s c w.req.port == u

/-- The oldest of a list. -/
def oldest (l : List DramWait) : Option DramWait :=
  l.foldl (fun b w => match b with
    | none => some w
    | some x => if w.entered < x.entered then some w else some x) none

/-- A request is complete: its port's LAT_MAX and OVER_TARGET (15 R357). -/
def dramDone (w : DramWait) (s : State) : State :=
  let age := dramAge s w
  s.setDport w.req.port fun k =>
    { k with latMax := max k.latMax (min age (2 ^ 32 - 1)), late := if k.target < age then k.late + 1 else k.late }

/-- A write command is issued: with inline ECC a partial one reads its granule, and an uncorrectable granule stays so
until a full write (15 R363). -/
def dramIssueWrite (c : Fin 8) (w : DramWait) (s : State) : State :=
  let a := w.req.granule * 64
  let s := if w.req.mask = fullMask then clearErr a 64 s
    else if s.dram.inlineEcc then (dramRead 6 a 64 s).1 else s
  let s := (openDramRow c a s).setDch c fun x => { x with wq := x.wq.erase w }
  let s := s.setDch c fun x => { x with draining := x.draining && decide (16 < x.wq.length) }
  dramDone w (wqRefill c s)

/-- A read returns its data; uncorrectable data is all ones (15 R354, R364). -/
def dramIssueRead (c : Fin 8) (w : DramWait) (s : State) : State :=
  let a := w.req.granule * 64
  let s := (openDramRow c a s).setDch c fun x => { x with queue := x.queue.erase w }
  let r := dramRead w.req.port.val a 64 s
  dramDone w { r.1 with readBytes := if r.2 then List.replicate 64 255 else memReadN r.1.mem a 64 }

/-- The request that a channel serves next: of highest urgency, below urgency 3 one to an open row first, then the oldest
(15 R357). -/
def nextRequest (s : State) (c : Fin 8) : Option DramWait :=
  let l := mostUrgent s c
  let top := match l.head? with | some w => urgency s c w.req.port | none => 0
  let open_ := l.filter fun w => rowIsOpen s c (w.req.granule * 64)
  oldest (if top == 3 || open_.isEmpty then l else open_)

/-- DRAM_REQUEST_COMPLETE: channel `c` serves its next request, which is a write command or a read (15 R353, R354, R357); the
other kind does not complete now. -/
def execDramRequestComplete (c : Fin 8) (write : Bool) (s : State) : Host.Outcome State Fault Refusal :=
  match nextRequest s c with
  | none => .next s
  | some w =>
    if w.req.write != write then .next s else
    let s := s.setDch c fun x => { x with state := if x.state = .srExit then .active else x.state }
    .next (if w.req.write then dramIssueWrite c w s else dramIssueRead c w s)

/-! ### Refresh, tracking, self-refresh, scrub (15 R351, R352, R359 to R365) -/

/-- `n` refresh commands of a bank are issued: its row closes, and a rate read from the memory applies (15 R352, R353). -/
def DramChan.refresh (b : Fin 32) (n left : Nat) (x : DramChan) : DramChan :=
  { x with postponed := x.postponed.set b left, refreshes := upd x.refreshes b (· + n), openRow := x.openRow.set b none
           refRate := x.rateNext.getD x.refRate, rateNext := none }

/-- DRAM_REFRESH_DUE: a refresh of bank `b` (rank x 16 + bank) falls due.  While a port is at urgency 2 or 3 it is postponed,
beyond four postponed ones only the oldest is issued; otherwise it is issued with all that were postponed (15 R352). -/
def execDramRefreshDue (c : Fin 8) (b : Fin 32) (s : State) : Host.Outcome State Fault Refusal :=
  let ch := s.dram.chan[c]
  let busy := (List.finRange 5).any fun k => decide (2 ≤ urgency s c k)
  if 16 ≤ b.val ∧ !s.dram.ranks2 then .next s
  else if busy && decide (ch.postponed[b] < 4) then
    .next (s.setDch c fun x => { x with postponed := upd x.postponed b (· + 1) })
  else if busy then .next (s.setDch c (DramChan.refresh b 1 4))
  else .next (s.setDch c (DramChan.refresh b (ch.postponed[b] + 1) 0))

/-- DRAM_MR_POLL: the refresh-rate register of a channel reads `rate`, or above the operating limit (15 R352). -/
def execDramMrPoll (c : Fin 8) (rate : Fin 3) (tooHot : Bool) (s : State) : Host.Outcome State Fault Refusal :=
  let s := s.setDch c fun x => { x with rateNext := some (if tooHot then 2 else rate.val) }
  .next (if tooHot then s.report { group := 24, cls := .drizzle, inst := c.val, cause := 0 } else s)

/-- DRAM_DQS_TRACK: the channel reads its DQS oscillator and corrects its write timing (15 R351). -/
def execDramDqsTrack (c : Fin 8) (s : State) : Host.Outcome State Fault Refusal :=
  .next (s.setDch c fun x => { x with trackedAt := some s.now })

/-- DRAM_IDLE_SR_ENTRY: an idle channel starts its entry, and an entry that no request has aborted issues its SRE
(15 R359, R360). -/
def execDramIdleSrEntry (c : Fin 8) (s : State) : Host.Outcome State Fault Refusal :=
  let ch := s.dram.chan[c]
  if s.dram.idleSr = 0 ∨ !ch.queue.isEmpty ∨ !ch.wq.isEmpty then .next s
  else match ch.state with
    | .active => .next (s.setDch c fun x => { x.closed with state := .srEntry })
    | .srEntry => .next (s.setDch c fun x => { x with state := .selfRefresh, srEntries := x.srEntries + 1 })
    | _ => .next s

/-- DRAM_SCRUB_DUE: with inline ECC a scrub pass reads all addressable DRAM and writes back what it corrects
(15 R365). -/
def execDramScrubDue (s : State) : Host.Outcome State Fault Refusal :=
  if s.dram.inlineEcc && s.dram.scrubH != 0 && dramUp s then
    let r := dramRead 5 0 (dramEnd s) s
    .next { r.1 with eccSoft := r.1.eccSoft.filter fun w => decide (dramEnd s ≤ w * 8) }
  else .next s

/-- The controller and every channel that has not failed take a state. -/
def dramSet (st : DramState) (ch : DramChState) (s : State) : State :=
  { s with dram := { s.dram with state := st, chan := s.dram.chan.map fun x =>
      if x.state = .failed then x else { x with state := ch } } }

/-- The queues of a channel drain: the waiting writes take effect in order, and every request completes (15 R359). -/
def dramDrain (c : Fin 8) (s : State) : State :=
  let wait := (s.dram.chan[c]).queue
  let s := forEach (wait.filter (·.req.write)) (wqEnter c) (s.setDch c fun x => { x with queue := [] })
  let s := forEach (s.dram.chan[c]).wq (dramIssueWrite c) s
  forEach (wait.filter fun w => !w.req.write) dramDone s

/-- Entry to STANDBY: every channel drains its queues and enters self-refresh (15 R359, R361). -/
def dramSleep (s : State) : State :=
  if s.dram.state = .ready then
    let s := forEach (List.finRange 8) dramDrain s
    { s with dram := { s.dram with state := .selfRefresh, chan := s.dram.chan.map fun x =>
        { x.closed with state := .selfRefresh, wq := [], queue := [], draining := false, srEntries := x.srEntries + 1 } } }
  else s

/-- Return from STANDBY: every channel exits and tracks once (15 R361). -/
def dramWakeUp (s : State) : State :=
  if s.dram.state = .selfRefresh then
    { s with dram := { s.dram with state := .ready, chan := s.dram.chan.map fun x =>
        { x with state := .active, trackedAt := some s.now } } }
  else s

/-- Gigabits of a DENSITY code (15 Table 15.5). -/
def densityGb (d : Nat) : Nat := match d with | 0 => 8 | 1 => 12 | 2 => 16 | 3 => 24 | _ => 32

/-- Installed DRAM in MiB: eight channels, 128 MiB per Gb and rank (15 Table 15.1). -/
def installedMib (density : Nat) (ranks2 : Bool) : Nat := densityGb density * 128 * 8 * (if ranks2 then 2 else 1)

/-- The DENSITY code of a density in Gb, for one of Table 15.1. -/
def densityCode (gb : Nat) : Option Nat := match gb with
  | 8 => some 0 | 12 => some 1 | 16 => some 2 | 24 => some 3 | 32 => some 4 | _ => none

/-- Rank 0 of D0, which every other rank must equal (15 R348). -/
def firstRank (t : DramTraining) : Option RankId := t.chan[(0 : Fin 8)].ranks.head?

/-- Does a channel fail identification: a rank that differs from rank 0 of D0 or has a density outside Table 15.1, or another
rank count than D0's (15 R347, R348)? -/
def identFails (t : DramTraining) (c : Fin 8) : Bool :=
  let r := t.chan[c].ranks
  r.length != t.chan[(0 : Fin 8)].ranks.length || decide (r.length = 0 ∨ 2 < r.length)
    || r.any fun x => some x != firstRank t || (densityCode x.density).isNone

/-- The step that fails in an attempt: identification is step 1 (15 R348, R350). -/
def failedStep (t : DramTraining) (c : Fin 8) (attempt : Option (Fin 8)) : Nat :=
  if identFails t c then 1 else match attempt with
    | some k => k.val
    | none => 0

/-- A channel is trained: a failed step sends it once back to step 1, and a failed retry ends it as FAILED (15 R350). -/
def trainChan (t : DramTraining) (c : Fin 8) (x : DramChan) : DramChan :=
  let one := failedStep t c t.chan[c].first
  let two := failedStep t c t.chan[c].retry
  let x := { x with ranks := t.chan[c].ranks, retried := one != 0 }
  if one = 0 ∨ two = 0 then { x with state := .active } else { x with state := .failed, trainFail := two }

/-- The channels whose training has failed. -/
def failedChans (s : State) : List (Fin 8) := (List.finRange 8).filter fun c => (s.dram.chan[c]).state == .failed

/-- DRAM_TRAINING_DONE: training ends; every channel is ACTIVE and the wipe follows, or the controller has FAILED
(15 R348, R350, 01 R21, 20 R462). -/
def execDramTrainingDone (t : DramTraining) (s : State) : Host.Outcome State Fault Refusal :=
  if s.dram.state ≠ .training then .next s
  else
    let s := forEach (List.finRange 8) (fun c x => x.setDch c (trainChan t c)) s
    let density := ((firstRank t).bind fun r => densityCode r.density).getD 0
    let ranks2 := t.chan[(0 : Fin 8)].ranks.length == 2
    if (failedChans s).isEmpty then
      let n := installedMib density ranks2
      let s := dramSet .wiping .active { s with mgmt := { s.mgmt with step := 7 } }
      .next { s with dram := { s.dram with ranks2 := ranks2, density := density, speed := t.speed.val
                                           addrMib := if s.dram.inlineEcc then n / 32 * 31 else n } }
    else
      let s := { s with mgmt := { s.mgmt with step := 8 }, dram := { s.dram with state := .failed } }
      .next (forEach (failedChans s) (fun c x => x.report
        { group := 24, cls := .squall, inst := c.val, cause := 1, level := true }) s)

/-! ### Registers (15 R366) -/

/-- Code of STATE. -/
def DramState.code : DramState → Nat
  | .off => 0 | .training => 1 | .wiping => 2 | .ready => 3 | .selfRefresh => 4 | .failed => 5

/-- Code of CH_STATE. -/
def DramChState.code : DramChState → Nat
  | .off => 0 | .training => 1 | .active => 2 | .srEntry => 3 | .selfRefresh => 4 | .srExit => 5 | .failed => 6

/-- The block of a channel. -/
def dchWords (s : State) (c : DramChan) : List Word :=
  [w32 (c.state.code + c.trainFail * 8 + c.refRate * 64 + c.wq.length * 256), s.countWord c.eccCorr,
    s.countWord c.eccUncorr, s.countWord c.linkCorr, s.countWord c.forwarded, s.countWord c.srEntries,
    s.countWord c.srAborts]

/-- The capture block (15 Table 15.6). -/
def captureWords (k : DramCapture) : List Word :=
  [w32 (flagAt k.valid 0 + k.channel * 2 + k.rank * 16 + k.bank * 32 + k.port * 512 + flagAt k.link 12), lo64 k.addr,
    hi64 k.addr, w32 k.row, k.ts]

/-- A word of the `DRAM_` window. -/
def dramReadReg (off : Nat) (s : State) : Word :=
  let d := s.dram
  if h : 0x100 ≤ off ∧ (off - 0x100) / 0x40 < 8 then
    (dchWords s d.chan[(⟨(off - 0x100) / 0x40, h.2⟩ : Fin 8)])[(off - 0x100) % 0x40 / 4]?.getD 0
  else if h : 0x800 ≤ off ∧ (off - 0x800) / 0x10 < 5 then
    let k := d.port[(⟨(off - 0x800) / 0x10, h.2⟩ : Fin 5)]
    ([w32 k.target, w32 k.latMax, s.countWord k.late])[off % 0x10 / 4]?.getD 0
  else if 0xA00 ≤ off then (captureWords d.capture)[(off - 0xA00) / 4]?.getD 0
  else match off with
  | 0 => w32 (d.state.code + flagAt d.inlineEcc 3 + flagAt d.ranks2 4 + d.speed * 32 + d.density * 128)
  | 4 => w32 d.addrMib
  | 8 => w32 d.idleSr
  | _ => 0

/-- A write to a word of the `DRAM_` window. -/
def dramWriteReg (off : Nat) (v : Word) (s : State) : State :=
  if h : 0x100 ≤ off ∧ (off - 0x100) / 0x40 < 8 then
    s.setDch ⟨(off - 0x100) / 0x40, h.2⟩ fun c => match (off - 0x100) % 0x40 / 4 with
      | 1 => { c with eccCorr := countWrite c.eccCorr v }
      | 2 => { c with eccUncorr := countWrite c.eccUncorr v }
      | 3 => { c with linkCorr := countWrite c.linkCorr v }
      | 4 => { c with forwarded := countWrite c.forwarded v }
      | 5 => { c with srEntries := countWrite c.srEntries v }
      | 6 => { c with srAborts := countWrite c.srAborts v }
      | _ => c
  else if h : 0x800 ≤ off ∧ (off - 0x800) / 0x10 < 5 then
    s.setDport ⟨(off - 0x800) / 0x10, h.2⟩ fun k => match off % 0x10 / 4 with
      | 1 => { k with latMax := countWrite k.latMax v }
      | 2 => { k with late := countWrite k.late v }
      | _ => k
  else if off = 0xA00 then
    { s with dram := { s.dram with capture := { s.dram.capture with valid := w1c s.dram.capture.valid (bit v 0) } } }
  else s

end Sys2Proof.Machine
end

