-- ==== Sys2Proof/Machine/Fathom.lean ====
section
/-! DEFINITION. Object records, the Fathom rings and the crops (07 Table 7.4; 14 R325 to R336). -/

namespace Sys2Proof.Machine

/-! ### Records (07 Tables 7.4, 7.5) -/

/-- The SUMMARY word (07 Table 7.5). -/
def summaryWord (o : ObjRecord) : Nat :=
  o.colMin / 65536 % 4 + o.colMax / 65536 % 4 * 4 + o.verdict * 16 + flagAt o.late 8 + flagAt o.redispatched 9
    + flagAt o.seamCam 10 + flagAt o.seamDev 11 + flagAt o.cropExpired 12 + flagAt o.incomplete 13 + flagAt o.shortBolt 14
    + flagAt o.coarse 15 + ((List.range 4).map fun k => (o.classes[k]?.getD 0) * 2 ^ (16 + 4 * k)).sum

/-- The 64 bytes of a record (07 Table 7.4). -/
def recordBytes (o : ObjRecord) : List Byte :=
  bytesOf 8 o.id.toNat ++ bytesOf 8 o.firstPos.toNat ++ bytesOf 4 o.posLength ++ bytesOf 4 o.tsClose.toNat
    ++ bytesOf 2 o.colMin ++ bytesOf 2 o.colMax ++ bytesOf 4 (summaryWord o)
    ++ (List.range 4).flatMap (fun k => bytesOf 4 (o.areas[k]?.getD 0))
    ++ (List.range 4).flatMap (fun k => bytesOf 2 (o.means[k]?.getD 0))
    ++ bytesOf 4 o.result ++ bytesOf 3 o.bolt ++ bytesOf 1 o.tag

/-- A record enters the output items (14 Table 14.8). -/
def recordItem (o : ObjRecord) (s : State) : State := s.item { kind := 1, source := none, payload := recordBytes o }

/-- A result entry (14 Table 14.8); RESULT_SEQ advances. -/
def resultItem (o : ObjRecord) (verdict : Nat) (late : Bool) (engine : Nat) (data : List Byte) (s : State) : State :=
  let n := s.outp.resultSeq
  let s := { s with outp := { s.outp with resultSeq := modInc 32 n } }
  s.item { kind := 2, source := none
           payload := bytesOf 8 o.id.toNat ++ bytesOf 4 n ++ bytesOf 1 verdict ++ bytesOf 1 (if late then 1 else 0)
             ++ bytesOf 1 engine ++ bytesOf 1 data.length ++ fit 32 data }

/-! ### The ring of a pipe (14 R325 to R330) -/

/-- Change the Fathom ring of pipe `p`. -/
def State.setFathom (s : State) (p : Fin 12) (f : FathomPipe → FathomPipe) : State :=
  { s with outp := { s.outp with fathom := upd s.outp.fathom p f } }

/-- The stored slots that hold a channel (14 R326). -/
def storedSlots (f : FathomPipe) (channels : Nat) : List Nat := maskList channels f.chMask

/-- Stride P of a stored line (14 R326). -/
def fathomStride (linePixels slots depth : Nat) : Nat := 64 * ceilDiv (linePixels * slots * depth) 512

/-- Bytes of the index part (14 R326). -/
def indexBytes (lines : Nat) : Nat := ceilDiv (32 * lines) 65536 * 65536

/-- Address of the index entry of a line. -/
def entryAddr (f : FathomPipe) (n : Nat) : Nat := f.base + 32 * (n % f.lines)

/-- Address of the payload of a line. -/
def payloadAddr (f : FathomPipe) (n : Nat) : Nat := f.base + indexBytes f.lines + f.stride * (n % f.lines)

/-- Depth code of a stored depth. -/
def depthCode (d : Nat) : Nat := if d = 8 then 0 else if d = 10 then 1 else if d = 12 then 2 else 3

/-- LINE_FLAGS (03 Table 3.1). -/
def lineFlags (t : LineTag) : Nat :=
  flagAt t.short 0 + flagAt t.long 1 + flagAt t.crc 2 + flagAt t.drop 3 + flagAt t.first 4 + flagAt t.last 5

/-- Bytes 0 to 27 of an index entry (14 Table 14.2). -/
def entryHead (t : LineTag) (bolt : Nat) : List Byte :=
  bytesOf 8 t.number ++ bytesOf 8 t.pos.toNat ++ bytesOf 4 t.ts.toNat ++ bytesOf 2 t.index ++ bytesOf 2 (lineFlags t)
    ++ bytesOf 4 bolt

/-- STORE (14 Table 14.2). -/
def storeWord (f : FathomPipe) (stored skipped : Bool) : List Byte :=
  bytesOf 4 (flagAt stored 0 + flagAt skipped 1 + depthCode f.depth * 4 + f.chMask * 256)

/-- The Fathom writer writes to DRAM; addresses outside it are reserved (01 R22). -/
def fathomWrite (a : Nat) (bs : List Byte) (s : State) : State :=
  if dramHas s a bs.length then s.store a bs else reservedAccess a .outputs s

/-- The stored line of a ring whose entry or payload holds a word. -/
def ringLine (s : State) (f : FathomPipe) (w : Nat) : Option Nat :=
  let a := 8 * w
  let data := f.base + indexBytes f.lines
  let i := if a < f.base then f.lines else if a < f.base + 32 * f.lines then (a - f.base) / 32
    else if data ≤ a then (a - data) / f.stride else f.lines
  if f.enable && decide (0 < f.stride) && decide (i < f.lines)
      && (le32 (memReadN s.mem (f.base + 32 * i) 32) 28).testBit 0 then some i else none

/-- ECC_BAD_LINES counts the stored lines that uncorrectable words belong to, each once for one read (14 R331). -/
def fathomBadLines (ws : List Nat) (s : State) : State :=
  forEach (List.finRange 12) (fun p t =>
    t.setFathom p fun f => { f with eccBad := f.eccBad + (ws.filterMap (ringLine s f)).eraseDups.length }) s

/-- Bytes in staging. -/
def stagedBytes (f : FathomPipe) : Nat := (f.staging.map fun x => x.2.2.length).sum

/-- The payload of a line (14 R326). -/
def fathomPayload (f : FathomPipe) (channels : Nat) (values : List (List Nat)) : List Byte :=
  fit f.stride (packSamples f.depth (values.flatMap fun px =>
    (storedSlots f channels).map fun c => reduceTo (px[c]?.getD 0) f.depth))

/-- A line passes the tap: its entry is written with STORED = 0 and its payload staged, or it is skipped (14 R327,
R330). -/
def fathomLine (p : Fin 12) (t : LineTag) (bolt : Nat) (values : List (List Nat)) (s : State) : State :=
  let f := s.outp.fathom[p]
  if !f.enable then s
  else
    let head := entryHead t bolt
    if 262144 < stagedBytes f + f.stride then
      let s := fathomWrite (entryAddr f t.number) (head ++ storeWord f false true) s
      (s.setFathom p fun f => { f with skipped := f.skipped + 1 }).report
        { group := 21, cls := .squall, inst := p.val, cause := 0, valueC := t.number }
    else
      let s := fathomWrite (entryAddr f t.number) (head ++ storeWord f false false) s
      s.setFathom p fun f =>
        { f with staging := f.staging ++ [(t.number, head, fathomPayload f s.pipe[p].channels values)] }

/-- Lines of the 1 ms windows of TB0 (14 R330). -/
def fathomRate (ms : Nat) (f : FathomPipe) : FathomPipe :=
  let n := if f.windowMs = ms then f.windowLines + 1 else 1
  { f with windowMs := ms, windowLines := n, ratePeak := max f.ratePeak (n * 1000),
           rateOver := if n = ceilDiv f.maxLineHz 1000 + 1 then f.rateOver + 1 else f.rateOver }

/-- FATHOM_LINE_STORED: the payload of the oldest staged line is written, then its entry with STORED = 1 (14 R327). -/
def execFathomLineStored (p : Fin 12) (s : State) : Host.Outcome State Fault Refusal :=
  let f := s.outp.fathom[p]
  match f.staging with
  | [] => .next s
  | (n, head, payload) :: t =>
    let s := fathomWrite (payloadAddr f n) payload s
    let s := fathomWrite (entryAddr f n) (head ++ storeWord f true false) s
    .next (s.setFathom p fun f => fathomRate ((s.tbTime 0).totalNs / 1000000)
      { f with staging := t })

/-! ### Crops (14 R332 to R336) -/

/-- U(x') in 1/64 column (07 R152). -/
def stitchU (c : StitchCam) (x : Nat) : Int :=
  ((c.a0 : Int) * 2 ^ 48 + (c.a1 : Int) * x * 2 ^ 32 + c.b2 * x * x * 2 ^ 14 + c.b3 * x * x * x + 2 ^ 47).fdiv (2 ^ 48)

/-- The camera pixels x' of a crop range (14 R334). -/
def cropPixels (c : StitchCam) (lo hi : Nat) : List Nat :=
  (List.range c.linePixels).filter fun x =>
    decide (64 * (lo : Int) - 32 ≤ stitchU c x ∧ stitchU c x < 64 * (hi : Int) + 32)

/-- The piece of a member pipe whose columns meet the crop's (14 R333, R334). -/
def cropPiece (s : State) (o : ObjRecord) (lo hi : Nat) (p : Fin 12) : Option CropPiece :=
  let c := s.stitch.cam[p]
  let xs := cropPixels c lo hi
  if !s.stitch.members.testBit p.val ∨ hi < c.cLo ∨ c.cHi < lo then none
  else
    let a := xs.head?.getD 0
    let n := xs.length
    let x0 := if c.flip then c.linePixels - (a + n) else a
    let rowLo := o.firstRow - c.delay - s.outp.marginRows
    let count := o.lastRow + s.outp.marginRows + 1 - c.delay - rowLo
    some { pipe := p, x0 := x0, width := min n s.outp.cropMaxCols, rowLo := rowLo
           count := min count s.outp.cropMaxRows
           truncated := decide (s.outp.cropMaxCols < n) || decide (s.outp.cropMaxRows < count)
           flip := c.flip }

/-- The column range of a crop (14 R334). -/
def cropRange (s : State) (o : ObjRecord) : Nat × Nat :=
  (o.colMin - s.outp.marginCols, min (s.stitch.webWidth - 1) (o.colMax + s.outp.marginCols))

/-- A final record with a crop request enters the crop unit, or carries CROP_EXPIRED when it is full (14 R336); any
other final record enters its rings at once. -/
def finalRecord (o : ObjRecord) (s : State) : State :=
  if !o.crop then recordItem o s
  else if 1024 ≤ s.outp.jobs.length then
    let s := { s with outp := { s.outp with cropDropped := s.outp.cropDropped + 1, cropsExpired := s.outp.cropsExpired + 1 } }
    recordItem { o with cropExpired := true } s
  else
    let r := cropRange s o
    let ps := (List.finRange 12).filterMap (cropPiece s o r.1 r.2)
    let jobs := s.outp.jobs ++ [{ record := o, pieces := ps, colLo := r.1, colHi := r.2 }]
    { s with outp := { s.outp with jobs := jobs, jobsPeak := max s.outp.jobsPeak jobs.length } }

/-- The LINE_NUMBER of a pipe in an input row (14 R333). -/
def rowLine (s : State) (p : Fin 12) (row : Nat) : Option Nat :=
  match s.stitch.rowMap.find? fun r => r.1 == row with
  | none => none
  | some r => (r.2[p.val]?).getD none

/-- The index entry of a line as a reader finds it: LINE_NUMBER, STORED, SKIPPED. -/
def readEntry (s : State) (f : FathomPipe) (n : Nat) : Nat × Bool × Bool :=
  let e := memReadN s.mem (entryAddr f n) 32
  (le64 e 0, (le32 e 28).testBit 0, (le32 e 28).testBit 1)

/-- The entry of a line has been written, with STORED or SKIPPED, or by a later line (14 R335). -/
def entryWritten (s : State) (p : Fin 12) (n : Nat) : Bool :=
  let f := s.outp.fathom[p]
  let e := readEntry s f n
  f.enable && ((e.1 == n && (e.2.1 || e.2.2)) || decide (n < e.1))

/-- Has the entry of a piece's last row been written? -/
def pieceReady (s : State) (c : CropPiece) : Bool :=
  if c.count = 0 then true
  else match rowLine s c.pipe (c.rowLo + c.count - 1) with
  | some n => entryWritten s c.pipe n
  | none => false

/-- Cutting of a job starts: every row is resolved, and those without a written entry are MISSING (14 R333, R335). -/
def startCut (id : BitVec 64) (s : State) : State :=
  let start := fun (j : CropJob) =>
    if j.record.id = id ∧ !j.started then
      { j with started := true, pieces := j.pieces.map fun c =>
          { c with rows := (List.range c.count).map fun i =>
              (rowLine s c.pipe (c.rowLo + i)).bind fun n => if entryWritten s c.pipe n then some n else none } }
    else j
  { s with outp := { s.outp with jobs := s.outp.jobs.map start } }

/-- Crops are cut in ACTIVE and HOLD (14 R331). -/
def cropsCut (s : State) : Bool := s.power.state == .active || s.power.state == .hold

/-- CROP_CUT_START: the last rows of every piece of the object's crop are written (14 R335). -/
def execCropCutStart (id : BitVec 64) (s : State) : Host.Outcome State Fault Refusal :=
  let ready := s.outp.jobs.any fun j => j.record.id == id && j.pieces.all (pieceReady s)
  .next (if ready && cropsCut s then startCut id s else s)

/-- CROP_WAIT_EXPIRY: CROP_WAIT_US after the verdict became final (14 R335). -/
def execCropWaitExpiry (id : BitVec 64) (s : State) : Host.Outcome State Fault Refusal :=
  .next (if cropsCut s then startCut id s else s)

/-- A line read for a crop: flags [0] EXPIRED, [1] NOT_STORED, [2] ECC_BAD, [3] MISSING, its 24 header bytes and its
samples (14 R335, Table 14.3). -/
structure CropLine where
  flags : Nat
  head : List Byte
  pixels : List Nat
  deriving DecidableEq, Repr

/-- Samples `first` to `first + n - 1` of a stored payload. -/
def unpackSamples (b : Nat) (bs : List Byte) (first n : Nat) : List Nat :=
  let v := leAt bs 0 bs.length
  (List.range n).map fun i => v / 2 ^ (b * (first + i)) % 2 ^ b

/-- Is a range of DRAM read with an uncorrectable error (15 R364)? -/
def readsBad (s : State) (a len : Nat) : Bool := errDetected s && !(errWords s.eccBad a len).isEmpty

/-- How a crop finds line `n`: 4 the entry or the payload of the stored line is uncorrectable, 1 the entry holds a later line, 2
the line is not stored, 0 it is read (14 R331, R335). -/
def lineFound (s : State) (f : FathomPipe) (n : Nat) : Nat :=
  let e := readEntry s f n
  if readsBad s (entryAddr f n) 32 then 4
  else if n < e.1 then 1
  else if e.1 != n || !e.2.1 then 2
  else if readsBad s (payloadAddr f n) f.stride then 4 else 0

/-- Read one row of a piece (14 R335); POS64, TS32 and LINE_FLAGS are 0 where the entry is not that of the line. -/
def cropLine (s : State) (c : CropPiece) (row : Option Nat) : CropLine :=
  let f := s.outp.fathom[c.pipe]
  let slots := (storedSlots f s.pipe[c.pipe].channels).length
  let zero := List.replicate (c.width * slots) 0
  match row with
  | none => { flags := 8, head := zeros 22 ++ bytesOf 2 8, pixels := zero }
  | some n =>
    let e := memReadN s.mem (entryAddr f n) 32
    let fl := lineFound s f n
    let px := if fl = 0 then
        unpackSamples f.depth (memReadN s.mem (payloadAddr f n) f.stride) (c.x0 * slots) (c.width * slots)
      else zero
    let tag := if readsBad s (entryAddr f n) 32 || le64 e 0 != n then zeros 14 else slice e 8 8 ++ slice e 16 4 ++ slice e 22 2
    { flags := fl, head := bytesOf 8 n ++ tag ++ bytesOf 2 fl, pixels := px }

/-- The frame of the coder (14 R338).  ILV 2 is for 2 to 4 components; with another number of components each one has its own
scan (DESIGN CHOICE). -/
def codedFrame (c : CoderCfg) (depth width comps : Nat) (rows : List (List (List Nat))) : List Byte :=
  jpegFrame depth c.near (if c.ilv = 2 ∧ 2 ≤ comps ∧ comps ≤ 4 then 2 else 0) c.restart width comps rows

/-- The bytes of a piece (14 Table 14.3); with `coded` one frame stands for the pixels, at the stored depth and with the coder
settings of the pipe (14 R338). -/
def pieceBytes (s : State) (j : CropJob) (i : Nat) (c : CropPiece) (lines : List CropLine) (coded : Bool) : List Byte :=
  let f := s.outp.fathom[c.pipe]
  let slots := (storedSlots f s.pipe[c.pipe].channels).length
  let lost := (lines.filter fun l => l.flags % 8 != 0).length
  let anyExp := lines.any fun l => l.flags % 2 == 1
  let empty := !lines.isEmpty && lost == lines.length
  let frame := codedFrame (s.outp.strip[c.pipe]).coder f.depth c.width slots (lines.map fun l => groupsOf slots l.pixels)
  let rowPx := fun (l : CropLine) => padTo 8 (packSamples f.depth l.pixels)
  let rowBytes := 24 + (if coded then 0 else ceilDiv (ceilDiv (c.width * slots * f.depth) 8) 8 * 8)
  bytesOf 8 j.record.id.toNat ++ bytesOf 1 c.pipe.val ++ bytesOf 1 (i + (j.pieces.length - 1) * 16)
    ++ bytesOf 1 f.depth ++ bytesOf 1 f.chMask
    ++ bytesOf 2 (flagAt c.truncated 0 + flagAt c.flip 1 + flagAt j.record.seamDev 2 + flagAt anyExp 3 + flagAt empty 4
      + flagAt coded 5)
    ++ bytesOf 2 j.record.verdict ++ bytesOf 4 c.x0 ++ bytesOf 4 c.width ++ bytesOf 4 lines.length ++ bytesOf 4 lost
    ++ bytesOf 4 rowBytes ++ bytesOf 4 j.record.tsClose.toNat ++ bytesOf 4 j.colLo ++ bytesOf 4 j.colHi ++ zeros 16
    ++ (if coded then lines.flatMap (fun l => l.head) ++ frame else lines.flatMap fun l => l.head ++ rowPx l)

/-- The coder takes work of `samples` at 3.2 GS/s unless more than 1 ms of work waits (14 R339); the answer says
whether it is coded. -/
def coderTake (samples : Nat) (s : State) : State × Bool :=
  let nowPs := s.now * 1000
  if nowPs + 1000000000 < s.outp.coderBusyUntil then
    ({ s with outp := { s.outp with coderDropped := s.outp.coderDropped + 1 } }, false)
  else
    let t := max nowPs s.outp.coderBusyUntil + samples * 3125 / 10
    ({ s with outp := { s.outp with coderBusyUntil := t } }, true)

/-- One piece of a job is read and its messages are queued (14 R335, R336); the answer says whether a line of it gives
CROP_EXPIRED. -/
def cutPiece (j : CropJob) (i : Nat) (c : CropPiece) (s : State) : State × Bool :=
  let f := s.outp.fathom[c.pipe]
  let lines := c.rows.map (cropLine s c)
  let lost := (lines.filter fun l => l.flags % 8 != 0).length
  let bads := (lines.filter fun l => l.flags == 4).length
  let empty := !lines.isEmpty && lost == lines.length
  let raw := pieceBytes s j i c lines false
  let coded := pieceBytes s j i c lines true
  let stored := (c.rows.filterMap id).filter fun n => (readEntry s f n).1 == n && (readEntry s f n).2.1
  let s := forEach (c.rows.filterMap id) (fun n t => (dramRead 1 (entryAddr f n) 32 t).1) s
  let s := forEach stored (fun n t => (dramRead 1 (payloadAddr f n) f.stride t).1) s
  let s := s.setFathom c.pipe fun f => { f with eccBad := f.eccBad + bads }
  let s := if s.outp.cropCode = 1 then s else s.item { kind := 6, source := some c.pipe, payload := raw }
  let s := if s.outp.cropCode = 0 then s
    else
      let r := coderTake (lines.map fun l => l.pixels.length).sum s
      if r.2 then r.1.item { kind := 7, source := some c.pipe, payload := coded } else r.1
  ({ s with outp := { s.outp with cropsCut := s.outp.cropsCut + 1
                                  cropsEmpty := if empty then s.outp.cropsEmpty + 1 else s.outp.cropsEmpty } },
    decide (0 < lost))

/-- CROP_READ_DONE: the pieces of a started crop have been read; they are queued before the record (14 R336).  In STANDBY no
crop is cut (14 R331). -/
def execCropReadDone (id : BitVec 64) (s : State) : Host.Outcome State Fault Refusal :=
  match s.outp.jobs.find? fun j => j.record.id == id && j.started && cropsCut s with
  | none => .next s
  | some j =>
    let r := (j.pieces.mapIdx fun i c => (i, c)).foldl (fun (t : State × Bool) ic =>
      let u := cutPiece j ic.1 ic.2 t.1
      (u.1, t.2 || u.2)) (s, false)
    let s := { r.1 with outp := { r.1.outp with
      jobs := r.1.outp.jobs.erase j
      cropsExpired := if r.2 then r.1.outp.cropsExpired + 1 else r.1.outp.cropsExpired } }
    .next (recordItem { j.record with cropExpired := j.record.cropExpired || r.2 } s)

/-! ### Registers (14 Table 14.10) -/

/-- WRITE_LINE: the next line to be stored is the oldest in staging, else the next to come (14 Table 14.10). -/
def writeLine (s : State) (p : Fin 12) : Nat :=
  let f := s.outp.fathom[p]
  if f.enable then (f.staging.head?.map (·.1)).getD (s.pipe[p]).lineNumber else 0

/-- The block of a pipe. -/
def fathWords (s : State) (p : Fin 12) : List Word :=
  let f := s.outp.fathom[p]
  let known := f.stride != 0
  let next := writeLine s p
  [w32 (flagAt f.enable 0 + (if known then depthCode f.depth * 2 + f.chMask * 256 else 0)), lo64 next,
    hi64 next, w32 f.stride, s.countWord f.skipped, s.countWord f.rateOver, s.countWord f.eccBad, w32 f.ratePeak]

/-- A word of the `FATH_` window. -/
def fathRead (off : Nat) (s : State) : Word :=
  let o := s.outp
  if h : off / 0x100 < 12 then (fathWords s ⟨off / 0x100, h⟩)[off % 0x100 / 4]?.getD 0
  else match off with
  | 0xC00 => s.countWord o.cropsCut
  | 0xC04 => s.countWord o.cropsExpired
  | 0xC08 => s.countWord o.cropsEmpty
  | 0xC0C => s.countWord o.cropDropped
  | 0xC10 => w32 (o.jobs.length + o.jobsPeak * 65536)
  | 0xC14 => wInt (s.freeDiv o.budget 1000000)
  | 0xC18 => s.countWord o.coderDropped
  | _ => 0

/-- A write to a word of the `FATH_` window. -/
def fathWrite (off : Nat) (v : Word) (s : State) : State :=
  let set := fun (f : OutBlock → OutBlock) => { s with outp := f s.outp }
  if h : off / 0x100 < 12 then
    s.setFathom ⟨off / 0x100, h⟩ fun f => match off % 0x100 / 4 with
      | 4 => { f with skipped := countWrite f.skipped v }
      | 5 => { f with rateOver := countWrite f.rateOver v }
      | 6 => { f with eccBad := countWrite f.eccBad v }
      | 7 => { f with ratePeak := countWrite f.ratePeak v }
      | _ => f
  else match off with
  | 0xC00 => set fun o => { o with cropsCut := countWrite o.cropsCut v }
  | 0xC04 => set fun o => { o with cropsExpired := countWrite o.cropsExpired v }
  | 0xC08 => set fun o => { o with cropsEmpty := countWrite o.cropsEmpty v }
  | 0xC0C => set fun o => { o with cropDropped := countWrite o.cropDropped v }
  | 0xC18 => set fun o => { o with coderDropped := countWrite o.coderDropped v }
  | _ => s

end Sys2Proof.Machine
end

