-- ==== Sys2Proof/Machine/EllMsg.lean ====
section
/-! DEFINITION. Ell messages: header, bodies and sending (13 R311, Tables 13.2 to 13.5). -/

namespace Sys2Proof.Machine

/-- Change side `d`: 0 left, 1 right. -/
def State.setSide (s : State) (d : Fin 2) (f : EllSide → EllSide) : State :=
  { s with station := { s.station with side := upd s.station.side d f } }

/-- Change Ethernet port `p`. -/
def State.setEth (s : State) (p : Fin 4) (f : EthPort → EthPort) : State :=
  { s with net := { s.net with port := upd s.net.port p f } }

/-- The Ethernet port of a side: E2 left, E3 right (12 R286). -/
def sidePort (d : Fin 2) : Fin 4 := ⟨2 + d.val, by omega⟩

/-- The side named by "left". -/
def sideOf (left : Bool) : Fin 2 := if left then 0 else 1

/-- An Ell message leaves on a side (13 R311, Table 13.2). -/
def ellSend (d : Fin 2) (typ : Nat) (body : List Byte) (s : State) : State :=
  let k := s.station
  let e := k.side[d]
  let bs := bytesOf 2 0x4C45 ++ bytesOf 1 1 ++ bytesOf 1 typ ++ bytesOf 2 k.plantDevice ++ bytesOf 1 k.stationId
    ++ bytesOf 1 k.index ++ bytesOf 4 e.seqTx ++ bytesOf 4 s.ts0.toNat ++ zeros 8 ++ body
  let s := s.setSide d fun x => { x with seqTx := modInc 32 x.seqTx }
  s.sendUdp (sidePort d) 1 k.udpPort e.ip k.udpPort 0 bs

/-- A ROWS body (13 Table 13.3). -/
def rowsBody (r : EllRow) : List Byte :=
  bytesOfInt 8 r.pos ++ bytesOf 1 r.cls ++ bytesOf 1 (flagAt r.empty 0 + flagAt r.coarse 1) ++ bytesOf 2 r.part
    ++ bytesOf 4 r.firstCol ++ bytesOfInt 8 r.firstPos ++ zeros 8

/-- A PART body (13 Table 13.4). -/
def partBytes (b : PartBody) : List Byte :=
  bytesOf 2 b.ownerPart ++ bytesOfInt 8 b.firstPos ++ bytesOfInt 8 b.lastPos ++ bytesOf 4 b.firstCol
    ++ bytesOf 4 b.colMin ++ bytesOf 4 b.colMax ++ bytesOf 4 b.firstTs.toNat ++ bytesOf 4 b.closeTs.toNat
    ++ bytesOf 4 b.area ++ bytesOf 8 b.sumCol ++ bytesOf 8 b.sumRow ++ bytesOf 4 b.perimeter ++ bytesOf 4 b.runs
    ++ (List.range 4).flatMap (fun k => bytesOf 8 (b.sums[k]?.getD 0))
    ++ (List.range 4).flatMap (fun k => bytesOf 2 (b.mins[k]?.getD 0))
    ++ (List.range 4).flatMap (fun k => bytesOf 2 (b.maxs[k]?.getD 0))
    ++ (List.range 15).flatMap (fun k => bytesOf 4 (b.classArea[k]?.getD 0))
    ++ bytesOf 2 (flagAt b.incomplete 0 + flagAt b.seamCam 1 + flagAt b.shortBolt 2 + flagAt b.coarse 3)

/-- A PART body as received. -/
def partOf (bs : List Byte) : PartBody :=
  { ownerPart := le16 bs 0, firstPos := signed 64 (le64 bs 2), lastPos := signed 64 (le64 bs 10)
    firstCol := le32 bs 18, colMin := le32 bs 22, colMax := le32 bs 26
    firstTs := BitVec.ofNat 32 (le32 bs 30), closeTs := BitVec.ofNat 32 (le32 bs 34), area := le32 bs 38
    sumCol := le64 bs 42, sumRow := le64 bs 50, perimeter := le32 bs 58, runs := le32 bs 62
    sums := (List.range 4).map fun k => le64 bs (66 + 8 * k)
    mins := (List.range 4).map fun k => le16 bs (98 + 2 * k)
    maxs := (List.range 4).map fun k => le16 bs (106 + 2 * k)
    classArea := (List.range 15).map fun k => le32 bs (114 + 4 * k)
    incomplete := (le16 bs 174).testBit 0, seamCam := (le16 bs 174).testBit 1
    shortBolt := (le16 bs 174).testBit 2, coarse := (le16 bs 174).testBit 3 }

/-- A VERDICT body for a part of object `o` (13 Table 13.5). -/
def verdictBody (s : State) (o : ObjRecord) (part : Nat) : List Byte :=
  bytesOf 8 o.id.toNat ++ bytesOf 2 part ++ bytesOf 1 o.verdict ++ bytesOf 1 (o.classes[0]?.getD 0)
    ++ bytesOf 4 o.tsClose.toNat ++ bytesOf 4 o.tsFirst.toNat
    ++ bytesOfInt 8 (o.firstPos.toInt + s.station.posOffset) ++ bytesOf 4 o.posLength

/-- The owner returns its final verdict to every device that forwarded a part (13 R319). -/
def sendVerdicts (o : ObjRecord) (s : State) : State :=
  forEach o.parts (fun p t => ellSend (sideOf p.1) 4 (verdictBody t o p.2) t) s

/-- A verdict is final: its command sets out towards the scheduler, its VERDICT messages leave, and the record goes to
its crop or to the rings (08 R192, 09 R218, 13 R319, 14 R336). -/
def settle (o : ObjRecord) (cmd : ValveCmd) (fromGust : Bool) (s : State) : State :=
  finalRecord o (sendVerdicts o (ejSend cmd o.verdict fromGust s))

end Sys2Proof.Machine
end

