-- ==== Sys2Proof/Machine/Referral.lean ====
section
/-! DEFINITION. The dispatcher: the waiting objects, assignment, tasks, deadlines, fallbacks and engine failure
(09 R213 to R236). -/

namespace Sys2Proof.Machine

/-- Change engine `e`. -/
def State.setEng (s : State) (e : Fin 192) (f : Engine → Engine) : State :=
  { s with eng := { s.eng with eng := upd s.eng.eng e f } }

/-- Change cluster `c`. -/
def State.setCluster (s : State) (c : Fin 12) (f : Cluster → Cluster) : State :=
  { s with eng := { s.eng with cluster := upd s.eng.cluster c f } }

/-- The cluster of an engine (01 Table 1.4). -/
def clusterOf (e : Fin 192) : Fin 12 := ⟨e.val / 16, by omega⟩

/-- The engine at a position of a cluster. -/
def engineAt (c : Fin 12) (k : Fin 16) : Fin 192 := ⟨16 * c.val + k.val, by omega⟩

/-- The engines of a cluster, ascending. -/
def enginesOf (c : Fin 12) : List (Fin 192) := (List.finRange 16).map (engineAt c)

/-- Address of local memory (01 Table 1.7). -/
def localAddr (e : Fin 192) (a : Nat) : Nat := 0x1004000000 + e.val * 0x40000 + a

/-- Address of shared memory of a cluster (01 Table 1.7). -/
def sharedAddr (c : Fin 12) (a : Nat) : Nat := 0x1008000000 + c.val * 0x100000 + a

/-- The consumer of task input `t` of cluster `c` (18 Table 18.2). -/
def tinConsumer (c : Fin 12) (t : Fin 4) : Fin 96 := ⟨4 * c.val + t.val, by omega⟩

/-! ### Program images (09 R213) -/

/-- An entry of an image (09 Table 9.7). -/
structure ImageEntry where
  offset : Nat
  budget : Nat
  kind : Nat
  deriving DecidableEq, Repr

/-- CODE_SIZE, DATA_SIZE, BSS_SIZE, ENTRY_COUNT of an image. -/
def imageCode (img : List Byte) : Nat := le32 img 16
/-- DATA_SIZE. -/
def imageData (img : List Byte) : Nat := le32 img 20
/-- BSS_SIZE. -/
def imageBss (img : List Byte) : Nat := le32 img 24
/-- ENTRY_COUNT. -/
def imageEntries (img : List Byte) : Nat := le16 img 32

/-- Entry `i` of an image. -/
def imageEntry (img : List Byte) (i : Nat) : Option ImageEntry :=
  if i < imageEntries img then
    some { offset := le32 img (64 + 16 * i), budget := le32 img (68 + 16 * i), kind := byteAt img (72 + 16 * i) }
  else none

/-- The entry of the cluster's image. -/
def clusterEntry (s : State) (c : Fin 12) (i : Nat) : Option ImageEntry := (s.eng.cluster[c].image).bind (imageEntry · i)

/-- One engine receives its cluster's image: code, data and cleared BSS (09 R215). -/
def installInto (img : List Byte) (e : Fin 192) (s : State) : State :=
  let h := 64 + 16 * imageEntries img
  let s := s.store (localAddr e 0) (slice img h (imageCode img))
  let s := s.store (localAddr e 0x10000) (slice img (h + imageCode img) (imageData img))
  let lo := localAddr e (0x10000 + imageData img)
  clearErr lo (imageBss img) { s with mem := memWipe s.mem lo (lo + imageBss img) }

/-! ### Which engines may take a task (09 R220, R224) -/

/-- RESERVED_TIN: an activation of a bound task input waits for this engine (09 R220, Table 9.12). -/
def reservedTin (s : State) (e : Fin 192) : Bool :=
  let c := clusterOf e
  let k := s.eng.cluster[c]
  (List.finRange 4).any fun t =>
    (s.evt.cons[tinConsumer c t]).pending && k.tinEntry[t] != 0xFF && (k.tinHome[t]).val == e.val % 16

/-- Idle, unreserved engines of an ENABLED cluster whose CLASS_MASK holds the class (09 R224). -/
def eligibleIn (s : State) (cls : Fin 16) (c : Fin 12) : List (Fin 192) :=
  let k := s.eng.cluster[c]
  if k.state = .enabled && k.classMask.testBit cls.val then
    (enginesOf c).filter fun e => (s.eng.eng[e]).state == .idle && !reservedTin s e
  else []

/-- The engine the dispatcher chooses for a class: the cluster with most engines, then the lowest number (09 R224). -/
def chooseEngine (s : State) (cls : Fin 16) : Option (Fin 192) :=
  let best := (List.finRange 12).foldl (fun (b : List (Fin 192)) c =>
    let l := eligibleIn s cls c
    if b.length < l.length then l else b) []
  best.head?

/-- An ENABLED cluster is eligible for a class (09 R224). -/
def classServed (s : State) (cls : Fin 16) : Bool :=
  (List.finRange 12).any fun c => (s.eng.cluster[c]).state == .enabled && (s.eng.cluster[c]).classMask.testBit cls.val

/-- The waiting objects (09 R223). -/
def waitingObjs (s : State) : List RefObj := s.eng.refer ++ s.eng.again

/-- Per-device sequence of an object. -/
def seqOf (o : RefObj) : Nat := o.record.id.toNat % 2 ^ 52

/-- Earliest time key first, then the lower sequence (09 R224). -/
def before (a b : RefObj) : Bool :=
  let d := tsDiff a.timeKey b.timeKey
  decide (d < 0) || (d == 0 && decide (seqOf a < seqOf b))

/-- The first object of a list under an order, among those with an engine. -/
def firstAssignable (s : State) (l : List RefObj) : Option (RefObj × Fin 192) :=
  l.foldl (fun (b : Option (RefObj × Fin 192)) o =>
    match chooseEngine s o.cls with
    | none => b
    | some e => match b with
      | none => some (o, e)
      | some (x, _) => if before o x then some (o, e) else b) none

/-- WAITING and its peak. -/
def peakWaiting (s : State) : State :=
  { s with eng := { s.eng with waitingPeak := max s.eng.waitingPeak (waitingObjs s).length } }

/-- DISPATCH: the waiting object with the earliest key that has an engine is assigned (09 R224); engines are clocked
in ACTIVE only (21 Table 21.10), and a lost main fabric clock stops the dispatcher (01 R17). -/
def execDispatch (s : State) : Host.Outcome State Fault Refusal :=
  if s.power.state ≠ .active || !s.clockRuns 12 then .next s
  else match firstAssignable s (waitingObjs s) with
  | none => .next s
  | some (o, e) =>
    let s := { s with eng := { s.eng with refer := s.eng.refer.erase o, again := s.eng.again.erase o
                                          dispatched := s.eng.dispatched + 1 } }
    .next (s.setEng e fun x => { x with state := .object, task := .object o false })

/-! ### Starting a task (09 R216, R217, R220) -/

/-- The registers at the start of a task (09 R202, Table 9.8). -/
def startRegs (e : Fin 192) (entry : ImageEntry) (a1 a2 : Word) (x : Engine) : Engine :=
  { x with sreg := ((((Vector.replicate 32 0).set 1 a1).set 2 a2).set 29 0x3FF00#32).set 31
             (w32 (e.val / 16 * 16 + e.val % 16))
           vreg := Vector.replicate 16 0, acc := Vector.replicate 4 0, pred := Vector.replicate 8 0
           pc := w32 entry.offset, budget := entry.budget }

/-- The object block (09 Table 9.9). -/
def objectBlock (o : RefObj) : List Byte :=
  recordBytes { o.record with verdict := 4 } ++ fit 128 o.features ++ cmdBytes o.cmd ++ bytesOf 4 o.timeKey.toNat
    ++ bytesOf 8 ((o.posKey.map BitVec.toNat).getD 0) ++ bytesOf 1 o.cls.val
    ++ bytesOf 1 (flagAt o.redispatched 0 + flagAt o.crop 1 + flagAt o.pol.posMode 2) ++ zeros 34

/-- OBJECT_TASK_START: the object block is written and the first instruction issues (09 R216, R217, R225). -/
def execObjectTaskStart (e : Fin 192) (s : State) : Host.Outcome State Fault Refusal :=
  match (s.eng.eng[e]).task, s.power.state with
  | .object o false, .active =>
    let i := o.pol.entry
    match clusterEntry s (clusterOf e) i with
    | none => .next s
    | some ent =>
      let s := s.store (localAddr e 0x3FF00) (objectBlock o)
      .next (s.setEng e fun x => { startRegs e ent 0x3FF00#32 (w32 i) x with task := .object o true })
  | _, _ => .next s

/-- The engine that an activation of task input `t` starts on now (09 R220). -/
def tinEngine (s : State) (c : Fin 12) (t : Fin 4) : Option (Fin 192) :=
  let home := engineAt c (s.eng.cluster[c]).tinHome[t]
  match (s.eng.eng[home]).state with
  | .idle => some home
  | .fenced | .off => ((enginesOf c).filter fun e => (s.eng.eng[e]).state == .idle && !reservedTin s e).head?
  | _ => none

/-- EVENT_TASK_START: a pending activation of task input `j` starts its event task (09 R220, R221); engines are clocked in ACTIVE
only (21 Table 21.10). -/
def execEventTaskStart (j : Fin 48) (s : State) : Host.Outcome State Fault Refusal :=
  let c : Fin 12 := ⟨j.val / 4, by omega⟩
  let t : Fin 4 := ⟨j.val % 4, by omega⟩
  let k := s.eng.cluster[c]
  let con := s.evt.cons[tinConsumer c t]
  if s.power.state != .active || !con.pending || k.state != .enabled || k.tinEntry[t] == 0xFF then .next s
  else match tinEngine s c t, clusterEntry s c k.tinEntry[t] with
    | some e, some ent =>
      let s := s.setCons (tinConsumer c t) fun x => { x with pending := false }
      .next (s.setEng e fun x =>
        { startRegs e ent (w32 t.val) con.captureTs x with state := .event, task := .event t.val })
    | _, _ => .next s

/-! ### Ending a task -/

/-- The busy time of a task input ends with its task; a slot filled meanwhile keeps it busy (09 R221). -/
def tinEnd (c : Fin 12) (t : Nat) (s : State) : State :=
  match idx? 4 t with
  | some t => s.setCons (tinConsumer c t) fun x => { x with busy := x.pending }
  | none => s

/-- The transfers that the ended task left belong to no task any more (09 R234). -/
def Engine.orphaned (x : Engine) : Engine := { x with dma := x.dma.map fun q => q.map fun t => { t with stale := true } }

/-- An engine's task has ended and it becomes IDLE. -/
def taskEnd (e : Fin 192) (s : State) : State :=
  let s := match (s.eng.eng[e]).task with
    | .event t => tinEnd (clusterOf e) t s
    | _ => s
  s.setEng e fun x => { x.orphaned with state := .idle, task := .none }

/-- Queued transfers are discarded; those already on the fabric, the head of each queue, complete (09 R219, R231). -/
def dropQueued (e : Fin 192) (s : State) : State :=
  s.setEng e fun x => { x with dma := x.dma.map fun q => q.take 1 }

/-- The fallback verdict of an object: the class's FALLBACK, flagged LATE (09 R219, R226). -/
def fallback (o : RefObj) (s : State) : State :=
  settle { o.record with verdict := o.pol.fallback, late := true, result := 0, crop := o.crop } o.cmd false s

/-- The fallback after a fault or a failure (09 Table 9.14 FALLBACK_FAULT). -/
def faultFallback (o : RefObj) (s : State) : State :=
  if o.decided then s
  else fallback o { s with eng := { s.eng with fallbackFault := s.eng.fallbackFault + 1 } }

/-- A program fault of engine `e` (09 R219); it is the one report of its row of 19 Table 19.1, so CAUSE is 0. -/
def progFault (e : Fin 192) (s : State) : State :=
  let x := s.eng.eng[e]
  let s := (dropQueued e s).report { group := 10, cls := .squall, inst := e.val, cause := 0, valueA := x.pc.toNat }
  let s := taskEnd e { s with eng := { s.eng with progFaults := s.eng.progFaults + 1 } }
  match x.task with
  | .object o _ => faultFallback o s
  | _ => s

/-- Slack of an object in ns (09 R228, R232). -/
def slack (s : State) (o : RefObj) : Int := tsDiff o.timeKey s.ts0

/-- The object of a failed engine is re-dispatched when it may be, else it takes its fallback (09 R232). -/
def redispatch (o : RefObj) (s : State) : State :=
  if o.decided then s
  else if !o.redispatched && decide ((1000 * o.pol.marginUs : Int) ≤ slack s o)
      && decide (s.eng.again.length < 192) then
    let o' := { o with redispatched := true, record := { o.record with redispatched := true } }
    peakWaiting { s with eng := { s.eng with again := s.eng.again ++ [o'], redispatched := s.eng.redispatched + 1 } }
  else faultFallback o s

/-- The FAIL_CAUSE code (09 Table 9.12). -/
def FailCause.code : FailCause → Nat
  | .none => 0 | .localEcc => 1 | .watchdog => 2 | .clock => 3 | .selftest => 4

/-- The engine is FENCED: its clock stops and FENCED_MAP shows it (09 R231, 16 Table 16.4 vector 60). -/
def fenceEngine (e : Fin 192) (cause : FailCause) (s : State) : State :=
  let s := (dropQueued e s).setEng e fun x =>
    { x.orphaned with state := .fenced, clock := 0, failCause := cause, fenceCount := satInc 8 x.fenceCount, task := .none }
  s.fireVector 60

/-- An engine fails (09 R231, R232). -/
def engineFail (e : Fin 192) (cause : FailCause) (s : State) : State :=
  let x := s.eng.eng[e]
  let v := match x.task with | .object o _ => seqOf o | .event t => t | .none => 0
  let s := match x.task with | .event t => tinEnd (clusterOf e) t s | _ => s
  let s := (fenceEngine e cause s).report { group := 9, cls := .squall, inst := e.val, cause := cause.code, valueB := v }
  let s := { s with eng := { s.eng with failures := s.eng.failures + 1 } }
  match x.task with
  | .object o _ => redispatch o s
  | _ => s

/-- The record of an uncorrectable error that shared memory or DRAM returned: the cluster and the address (09 R234). -/
def memoryReport (e : Fin 192) (a : Nat) (s : State) : State :=
  s.report { group := 11, cls := .squall, inst := (clusterOf e).val, cause := 1, valueA := a }

/-- An uncorrectable error from shared memory or DRAM ends the task without fencing the engine (09 R234). -/
def memoryEnd (e : Fin 192) (a : Nat) (s : State) : State :=
  let x := s.eng.eng[e]
  let s := taskEnd e (memoryReport e a (dropQueued e s))
  match x.task with
  | .object o _ => redispatch o s
  | _ => s

/-- BUDGET_EXPIRY: the budget counter of a running task has run out (09 R231). -/
def execBudgetExpiry (e : Fin 192) (s : State) : Host.Outcome State Fault Refusal :=
  let x := s.eng.eng[e]
  let runs := match x.task with | .object _ st => st | .event _ => true | .none => false
  .next (if runs && x.budget == 0 then engineFail e .watchdog s else s)

/-- CLOCK_ADAPT_FAULT: the clock generator of engine `e` cannot hold 800 MHz or loses lock (09 R201, R231). -/
def execClockAdaptFault (e : Fin 192) (s : State) : Host.Outcome State Fault Refusal :=
  match (s.eng.eng[e]).state with
  | .off | .fenced | .loading | .testing => .next s
  | _ => .next (engineFail e .clock s)

/-- ENGINE_CLOCK_STEP: the generator moves by a 10 MHz step, between 800 MHz and CLOCK_MAX (09 R201); in TESTING it is a
step of the clock sweep (09 R235). -/
def execEngineClockStep (e : Fin 192) (up : Bool) (s : State) : Host.Outcome State Fault Refusal :=
  let x := s.eng.eng[e]
  let top := (s.eng.cluster[clusterOf e]).clockMax / 10
  match x.state with
  | .idle | .object | .event | .testing =>
    .next (s.setEng e fun x => { x with clock := clampNat 80 (max 80 top) (if up then x.clock + 1 else x.clock - 1) })
  | _ => .next s

/-! ### Verdicts and deadlines (09 R218, R226 to R228) -/

/-- What a VERDICT instruction gives. -/
structure EngVerdict where
  verdict : Nat
  inl : Bool
  crop : Nat
  data : List Byte
  deriving DecidableEq, Repr

/-- SLACK_MIN takes the least signed time from verdict to time key; its reset value is no measurement (09 R228, R236). -/
def noteSlack (sl : Word) (s : State) : State :=
  if !s.eng.slackSeen || sl.slt s.eng.slackMin then { s with eng := { s.eng with slackMin := sl, slackSeen := true } } else s

/-- An engine verdict reaches the dispatcher (09 R218, R227, R228). -/
def applyVerdict (e : Fin 192) (o : RefObj) (v : EngVerdict) (s : State) : State :=
  if o.decided then
    resultItem o.record v.verdict true e.val v.data
      { s with eng := { s.eng with lateResults := s.eng.lateResults + 1 } }
  else
    let s := noteSlack (BitVec.ofInt 32 (slack s o)) { s with eng := { s.eng with verdicts := s.eng.verdicts + 1 } }
    let crop := if v.crop = 1 then true else if v.crop = 2 then false else o.crop
    let rec' := { o.record with verdict := v.verdict, crop := crop }
    if v.data.isEmpty then settle { rec' with result := 0 } o.cmd false s
    else if v.inl then settle { rec' with result := 2 ^ 31 + leAt v.data 0 v.data.length % 2 ^ 31 } o.cmd false s
    else
      let n := s.outp.resultSeq
      let rec' := { rec' with result := n % (2 ^ 31 - 1) + 1 }
      settle rec' o.cmd false (resultItem rec' v.verdict false e.val v.data s)

/-- Has an object reached its deadline (09 R223, R226)? -/
def deadlineReached (s : State) (o : RefObj) : Bool :=
  tsReached o.timeKey s.ts0 || (match o.posKey with
    | some k => decide (0 ≤ (s.posCount s.pipe[s.stitch.refPipe].posCh - k).toInt)
    | none => false)

/-- The engine that runs an object. -/
def runnerOf (s : State) (id : BitVec 64) : Option (Fin 192 × RefObj) :=
  ((List.finRange 192).filterMap fun e => match (s.eng.eng[e]).task with
    | .object o _ => if o.record.id = id ∧ !o.decided then some (e, o) else none
    | _ => none).head?

/-- DEADLINE_REACHED: the object takes its class's FALLBACK (09 R226). -/
def execDeadlineReached (id : BitVec 64) (s : State) : Host.Outcome State Fault Refusal :=
  let dl := fun (s : State) => { s with eng := { s.eng with fallbackDeadline := s.eng.fallbackDeadline + 1 } }
  match (waitingObjs s).find? fun o => o.record.id == id with
  | some o =>
    if !deadlineReached s o then .next s
    else
      let n := if classServed s o.cls then s.eng.noEligible else s.eng.noEligible + 1
      let s := { s with eng := { s.eng with refer := s.eng.refer.erase o, again := s.eng.again.erase o, noEligible := n } }
      .next (fallback o (dl s))
  | none => match runnerOf s id with
    | none => .next s
    | some (e, o) =>
      if !deadlineReached s o then .next s
      else
        let s := if o.pol.abort then taskEnd e (dropQueued e s)
          else s.setEng e fun x => match x.task with
            | .object q st => { x with task := .object { q with decided := true } st }
            | _ => x
        .next (fallback o (dl s))

/-- Every object that waits or runs takes its fallback, flagged LATE: the Gale sequence (19 R430). -/
def galeFallbacks (s : State) : State :=
  let l := waitingObjs s
  let s := forEach l fallback { s with eng := { s.eng with refer := [], again := [] } }
  forEach (List.finRange 192) (fun e t => match (t.eng.eng[e]).task with
    | .object o st =>
      if o.decided then t
      else fallback o (t.setEng e fun x => { x with task := .object { o with decided := true } st })
    | _ => t) s

/-- A REFER object enters the refer queue; a full queue gives it its fallback at once (08 R193). -/
def referObject (o : RefObj) (s : State) : State :=
  if 4096 ≤ s.eng.refer.length then
    let s := { s with gust := { s.gust with referOverflow := satInc 32 s.gust.referOverflow } }
    settle { o.record with verdict := o.pol.fallback, late := true, crop := o.crop } o.cmd true s
  else peakWaiting { s with eng := { s.eng with refer := s.eng.refer ++ [o] } }

/-! ### Images, clusters and self-test (09 R215, R230, R235) -/

/-- IMAGE_INSTALL_DONE: an accepted image is in every engine of cluster `c` that is not FENCED (09 R215). -/
def execImageInstallDone (c : Fin 12) (s : State) : Host.Outcome State Fault Refusal :=
  match (s.eng.cluster[c]).installing with
  | none => .next s
  | some img =>
    let s := s.setCluster c fun k => { k with image := some img, installing := none }
    .next (forEach (enginesOf c) (fun e t =>
      if (t.eng.eng[e]).state = .loading then
        (installInto img e t).setEng e fun x => { x with state := .off }
      else t) s)

/-- CLUSTER_ENABLE_DONE: ENABLING reaches ENABLED and the OFF engines become IDLE (09 R230). -/
def execClusterEnableDone (c : Fin 12) (s : State) : Host.Outcome State Fault Refusal :=
  let k := s.eng.cluster[c]
  if k.state = .enabling then
    let s := s.setCluster c fun k => { k with state := .enabled, enablePending := false }
    .next (forEach (enginesOf c) (fun e t => t.setEng e fun x =>
      if x.state = .off then { x with state := .idle, clock := max 80 (k.clockMax / 10) } else x) s)
  else .next s

/-- Does a cluster still run a task? -/
def clusterBusy (s : State) (c : Fin 12) : Bool :=
  (enginesOf c).any fun e => (s.eng.eng[e]).state == .object || (s.eng.eng[e]).state == .event

/-- The drain of a cluster ends when no task runs in it (09 R230). -/
def clusterDrainEnd (c : Fin 12) (s : State) : State :=
  if (s.eng.cluster[c]).state = .draining && !clusterBusy s c then
    let s := forEach (enginesOf c) (fun e t => t.setEng e fun x =>
      if x.state = .idle then { x with state := .off, clock := 0 } else x) s
    s.setCluster c fun k =>
      { k with state := if k.enablePending then .enabling else .disabled, enablePending := false }
  else s

/-- CLUSTER_DRAIN_END: the last task of a draining cluster has ended (09 R230). -/
def execClusterDrainEnd (c : Fin 12) (s : State) : Host.Outcome State Fault Refusal := .next (clusterDrainEnd c s)

/-! ### Registers (09 R236) -/

/-- STATE code of an engine (09 Table 9.12). -/
def EngState.code : EngState → Nat
  | .off => 0 | .idle => 1 | .object => 2 | .event => 3 | .fenced => 4 | .testing => 5 | .loading => 6

/-- CLOCK as a read finds it: engines are clock-gated outside ACTIVE, and 0 stands for a stopped clock (Table 9.12; 21
Table 21.10). -/
def clockField (s : State) (x : Engine) : Nat := if s.power.state = .active then x.clock else 0

/-- `ENG_STATE_n` (09 Table 9.12). -/
def engWord (s : State) (e : Fin 192) : Word :=
  let x := s.eng.eng[e]
  w32 (x.state.code + flagAt (reservedTin s e) 3 + clockField s x * 256 + x.failCause.code * 65536 + x.fenceCount * 2 ^ 24)

/-- A map word: the engines 32w to 32w + 31 for which a test holds (09 Table 9.13). -/
def engMap (s : State) (w : Nat) (f : Engine → Bool) : Word :=
  w32 (((List.range 32).filterMap fun i => (idx? 192 (32 * w + i)).map fun e => flagAt (f s.eng.eng[e]) i).sum)

/-- The words of a cluster (09 Table 9.13). -/
def clusterWords (s : State) (c : Fin 12) : List Word :=
  let k := s.eng.cluster[c]
  let bitsOf := fun (f : EvtCons → Bool) => ((List.finRange 4).map fun t => flagAt (f (s.evt.cons[tinConsumer c t])) t.val).sum
  [w32 (k.state.code + flagAt k.enablePending 2 + flagAt k.image.isSome 3 + k.classMask * 65536),
    w32 ((k.image.map fun i => le32 i 8).getD 0), w32 (bitsOf (·.ovr) + bitsOf (·.pending) * 16),
    w32 (((List.finRange 4).map fun t => (s.evt.cons[tinConsumer c t]).coalesce * 256 ^ t.val).sum)]

/-- A word of the engine block (09 R236). -/
def engRead (off : Nat) (s : State) : Word :=
  let g := s.eng
  if h : off / 4 < 192 then engWord s ⟨off / 4, h⟩
  else if 0x300 ≤ off ∧ off < 0x318 then engMap s ((off - 0x300) / 4) (·.state == .fenced)
  else if 0x320 ≤ off ∧ off < 0x338 then engMap s ((off - 0x320) / 4) (·.state == .idle)
  else if h : 0x400 ≤ off ∧ (off - 0x400) / 16 < 12 then
    (clusterWords s ⟨(off - 0x400) / 16, h.2⟩)[off % 16 / 4]?.getD 0
  else match off with
  | 0x600 => s.countWord g.dispatched
  | 0x604 => s.countWord g.verdicts
  | 0x608 => s.countWord g.redispatched
  | 0x60C => s.countWord g.fallbackDeadline
  | 0x610 => s.countWord g.fallbackFault
  | 0x614 => s.countWord g.lateResults
  | 0x618 => s.countWord g.noEligible
  | 0x61C => s.countWord g.progFaults
  | 0x620 => s.countWord g.failures
  | 0x624 => w32 ((waitingObjs s).length + g.waitingPeak * 65536)
  | 0x628 => g.slackMin
  | _ => 0

/-- A write to a word of the engine block (09 R236). -/
def engWrite (off : Nat) (v : Word) (s : State) : State :=
  let set := fun (f : EngBlock → EngBlock) => { s with eng := f s.eng }
  if h : 0x400 ≤ off ∧ (off - 0x400) / 16 < 12 then
    let c : Fin 12 := ⟨(off - 0x400) / 16, h.2⟩
    forEach (List.finRange 4) (fun t u => match off % 16 / 4 with
      | 2 => u.setCons (tinConsumer c t) fun x => { x with ovr := w1c x.ovr (bit v t.val) }
      | 3 => u.setCons (tinConsumer c t) fun x => { x with coalesce := if v = 0 then 0 else x.coalesce }
      | _ => u) s
  else match off with
  | 0x600 => set fun g => { g with dispatched := countWrite g.dispatched v }
  | 0x604 => set fun g => { g with verdicts := countWrite g.verdicts v }
  | 0x608 => set fun g => { g with redispatched := countWrite g.redispatched v }
  | 0x60C => set fun g => { g with fallbackDeadline := countWrite g.fallbackDeadline v }
  | 0x610 => set fun g => { g with fallbackFault := countWrite g.fallbackFault v }
  | 0x614 => set fun g => { g with lateResults := countWrite g.lateResults v }
  | 0x618 => set fun g => { g with noEligible := countWrite g.noEligible v }
  | 0x61C => set fun g => { g with progFaults := countWrite g.progFaults v }
  | 0x620 => set fun g => { g with failures := countWrite g.failures v }
  | 0x628 => set fun g => if v = 0 then { g with slackMin := 0xFFFFFFFF#32, slackSeen := false } else g
  | _ => s

end Sys2Proof.Machine
end

