-- ==== Sys2Proof/Machine/EngineIsa.lean ====
section
/-! DEFINITION. The instructions of the Ndedor engines (09 R200 to R212, Tables 9.2 to 9.5).  Each row runs when the
engine's program counter stands on that instruction. -/

namespace Sys2Proof.Machine

/-! ### Fields and legality (09 R205 to R207) -/

/-- Bits `hi` to `lo` of an instruction word. -/
def fld (w : Word) (hi lo : Nat) : Nat := bits w hi lo

/-- The format and OP of an instruction word (09 Table 9.2). -/
def opOf (w : Word) : Nat × Nat :=
  match fld w 31 29 with
  | 0 => (0, fld w 28 24)
  | 1 => (1, fld w 28 23)
  | 2 => (2, fld w 28 25)
  | f => (f, fld w 28 26)

/-- Vector fields that a vector instruction requires zero or even (09 R205, R207). -/
def vectorLegal (w : Word) (op : Nat) : Bool :=
  let vd := fld w 21 18
  let vs1 := fld w 17 14
  let vs2 := fld w 13 10
  let sat := fld w 6 6
  if op = 8 ∨ op = 9 ∨ op = 10 then vs2 == 0
  else if 12 ≤ op ∧ op ≤ 14 then decide (vd < 8)
  else if op = 16 then vs1 == 0 && vs2 == 0 && sat == 0
  else if op = 17 then vs1 % 2 == 0 && vs2 % 2 == 0
  else if op = 19 then decide (vd < 4) && vs1 == 0 && vs2 == 0
  else if op = 20 then decide (vs1 < 4) && vs2 == 0
  else if op = 21 then vd == 0 && vs2 == 0 && sat == 0
  else decide (op ≤ 21)

/-- Is a word a legal instruction (09 R206, R207)? -/
def legal (w : Word) : Bool :=
  let (f, op) := opOf w
  match f with
  | 0 => decide (op ≤ 19) && (op == 12 || fld w 13 13 == 1 || fld w 12 5 == 0)
  | 1 => decide (op ≤ 21) && vectorLegal w op
  | 2 => decide (op ≤ 11) && (op < 8 || op > 10 || fld w 24 24 == 0)
  | 3 => if op = 0 then fld w 25 21 == 0 else if op = 6 then fld w 7 0 == 0 else true
  | 4 => decide (op ≤ 3) && fld w 18 0 == 0
  | 5 => decide (op ≤ 4) && fld w 20 0 == 0
  | _ => false

/-! ### Registers (09 Table 9.1) -/

/-- Scalar register `i`; s0 reads zero. -/
def sreg (x : Engine) (i : Nat) : Word := if i = 0 then 0 else x.sreg.toList[i]?.getD 0

/-- Write scalar register `i`; a write to s0 is ignored. -/
def setSreg (i : Nat) (v : Word) (x : Engine) : Engine :=
  if i = 0 then x else match idx? 32 i with | some k => { x with sreg := x.sreg.set k v } | none => x

/-- Predicate `i`; p0 reads all ones. -/
def predOf (x : Engine) (i : Nat) : Word := if i = 0 then 0xFFFFFFFF#32 else x.pred.toList[i]?.getD 0

/-- Vector register `i`. -/
def vreg (x : Engine) (i : Nat) : BitVec 256 := x.vreg.toList[i]?.getD 0

/-- Write vector register `i`. -/
def setVreg (i : Nat) (v : BitVec 256) (x : Engine) : Engine :=
  match idx? 16 i with | some k => { x with vreg := x.vreg.set k v } | none => x

/-! ### Issue -/

/-- A task runs on the engine and its first instruction has issued. -/
def taskRuns (x : Engine) : Bool :=
  match x.task with | .object _ st => st | .event _ => true | .none => false

/-- The word of internal memory at an address. -/
def mem32 (s : State) (a : Nat) : Word := w32 (leAt (memReadN s.mem a 4) 0 4)

/-- The instruction at the program counter. -/
def fetchWord (s : State) (e : Fin 192) : Word := mem32 s (localAddr e (s.eng.eng[e]).pc.toNat)

/-- May engine `e` issue an instruction now?  Engines are clocked in ACTIVE only (21 Table 21.10), and a task whose
budget has run out has failed (09 R231). -/
def mayIssue (s : State) (e : Fin 192) : Bool :=
  let x := s.eng.eng[e]
  s.power.state == .active && taskRuns x && decide (0 < x.budget)

/-- Cycles of one instruction: one to issue, and the stall until its operands are produced.  The greatest latency of Table
9.3 is 48, so the stall is at most 47 cycles; within that it is free (09 R200). -/
def instrCycles (s : State) : Nat := 1 + s.freeVal freeInterval % 48

/-- The budget counter counts the cycles of an instruction down to 0 (09 R231). -/
def spend (e : Fin 192) (s : State) : State :=
  (s.setEng e fun x => { x with budget := x.budget - instrCycles s }).drawn

/-- Does an instruction of format and OP `f`, `op` retire before the budget expires?  One whose cycles outlast the counter does
not; in the very cycle of the expiry a VERDICT is discarded (09 R231, R233), and END is treated alike (DESIGN CHOICE). -/
def retires (x : Engine) (f op cycles : Nat) : Bool :=
  decide (cycles < x.budget) || (cycles == x.budget && !(f == 3 && decide (6 ≤ op)))

/-- Corrected errors in the words that a read of `n` bytes of local memory touches are counted and reported (09 R209). -/
def localSoft (e : Fin 192) (a n : Nat) (s : State) : State :=
  forEach (errWords s.eccSoft (localAddr e a) n) (fun w t =>
    (t.setEng e fun x => { x with eccCorr := x.eccCorr + 1 }).report
      { group := 11, cls := .drizzle, inst := e.val, cause := 0, valueA := 8 * w }) s

/-- The program counter moves to `pc`; outside the code region that is a program fault (09 R208, R219). -/
def goto (e : Fin 192) (pc : Word) (s : State) : State :=
  let s := s.setEng e fun x => { x with pc := pc }
  if pc.toNat < 0x10000 ∧ pc.toNat % 4 = 0 then s else progFault e s

/-- The next instruction follows. -/
def next (e : Fin 192) (s : State) : State := goto e ((s.eng.eng[e]).pc + 4) s

/-- Run one instruction of format and OP `f`, `op`: fetch with its ECC, then the body if it retires within the budget (09
R208, R209, R231). -/
def issue (e : Fin 192) (f op : Nat) (body : Word → State → State) (s : State) : Host.Outcome State Fault Refusal :=
  if !mayIssue s e then .next s
  else
    let a := (s.eng.eng[e]).pc.toNat
    let w := fetchWord s e
    if s.bad (localAddr e a) then .next (engineFail e .localEcc s)
    else if legal w && opOf w == (f, op) then
      let s := localSoft e a 4 s
      .next (if retires s.eng.eng[e] f op (instrCycles s) then body w (spend e s) else spend e s)
    else .next s

/-- ILLEGAL_INSTRUCTION: the word at the program counter is not an instruction (09 R206, R207, R219). -/
def execIllegalInstruction (e : Fin 192) (s : State) : Host.Outcome State Fault Refusal :=
  let a := (s.eng.eng[e]).pc.toNat
  if mayIssue s e && !s.bad (localAddr e a) && !legal (fetchWord s e) then
    let s := localSoft e a 4 s
    .next (if retires s.eng.eng[e] 6 0 (instrCycles s) then progFault e (spend e s) else spend e s)
  else .next s

/-! ### Scalar instructions (09 R207, Table 9.3) -/

/-- The second operand: RS2, or IMM13 extended as the instruction says. -/
def operandB (x : Engine) (w : Word) (op : Nat) : Word :=
  if fld w 13 13 = 1 then
    if op = 2 ∨ op = 3 ∨ op = 4 then w32 (fld w 12 0)
    else if op = 5 ∨ op = 6 ∨ op = 7 then w32 (fld w 4 0)
    else BitVec.signExtend 32 (BitVec.ofNat 13 (fld w 12 0))
  else sreg x (fld w 4 0)

/-- A scalar instruction with result `f a b`. -/
def scalar (e : Fin 192) (op : Nat) (f : Word → Word → Word) (s : State) : Host.Outcome State Fault Refusal :=
  issue e 0 op (fun w s =>
    let x := s.eng.eng[e]
    next e (s.setEng e (setSreg (fld w 23 19) (f (sreg x (fld w 18 14)) (operandB x w op))))) s

/-- Shift count: bits [4:0]. -/
def shiftBy (b : Word) : Nat := b.toNat % 32

/-- Signed quotient rounded toward zero; division by zero gives all ones (09 R207, Table 9.3). -/
def divS (a b : Word) : Word := if b = 0 then 0xFFFFFFFF#32 else BitVec.ofInt 32 (a.toInt.tdiv b.toInt)

/-- Signed remainder with the dividend's sign; by zero the dividend. -/
def remS (a b : Word) : Word := if b = 0 then a else BitVec.ofInt 32 (a.toInt.tmod b.toInt)

/-- ADD (09 R207). -/
def execAdd (e : Fin 192) (s : State) : Host.Outcome State Fault Refusal :=
  scalar e 0 (fun a b => a + b) s

/-- SUB (09 R207). -/
def execSub (e : Fin 192) (s : State) : Host.Outcome State Fault Refusal :=
  scalar e 1 (fun a b => a - b) s

/-- AND (09 R207). -/
def execAndS (e : Fin 192) (s : State) : Host.Outcome State Fault Refusal :=
  scalar e 2 (fun a b => a &&& b) s

/-- OR (09 R207). -/
def execOrS (e : Fin 192) (s : State) : Host.Outcome State Fault Refusal :=
  scalar e 3 (fun a b => a ||| b) s

/-- XOR (09 R207). -/
def execXorS (e : Fin 192) (s : State) : Host.Outcome State Fault Refusal :=
  scalar e 4 (fun a b => a ^^^ b) s

/-- SHL (09 R207). -/
def execShl (e : Fin 192) (s : State) : Host.Outcome State Fault Refusal :=
  scalar e 5 (fun a b => a <<< shiftBy b) s

/-- SHR (09 R207). -/
def execShr (e : Fin 192) (s : State) : Host.Outcome State Fault Refusal :=
  scalar e 6 (fun a b => a >>> shiftBy b) s

/-- SRA (09 R207). -/
def execSra (e : Fin 192) (s : State) : Host.Outcome State Fault Refusal :=
  scalar e 7 (fun a b => a.sshiftRight (shiftBy b)) s

/-- SLT (09 R207). -/
def execSlt (e : Fin 192) (s : State) : Host.Outcome State Fault Refusal :=
  scalar e 8 (fun a b => if a.toInt < b.toInt then 1 else 0) s

/-- SLTU (09 R207). -/
def execSltu (e : Fin 192) (s : State) : Host.Outcome State Fault Refusal :=
  scalar e 9 (fun a b => if a.toNat < b.toNat then 1 else 0) s

/-- MIN (09 R207). -/
def execMinS (e : Fin 192) (s : State) : Host.Outcome State Fault Refusal :=
  scalar e 10 (fun a b => if a.toInt ≤ b.toInt then a else b) s

/-- MAX (09 R207). -/
def execMaxS (e : Fin 192) (s : State) : Host.Outcome State Fault Refusal :=
  scalar e 11 (fun a b => if a.toInt ≤ b.toInt then b else a) s

/-- MOVHI (09 R207): RD = IMM19 << 13. -/
def execMovhi (e : Fin 192) (s : State) : Host.Outcome State Fault Refusal :=
  issue e 0 12 (fun w s => next e (s.setEng e (setSreg (fld w 23 19) (w32 (fld w 18 0 * 2 ^ 13))))) s

/-- MUL (09 R207). -/
def execMul (e : Fin 192) (s : State) : Host.Outcome State Fault Refusal :=
  scalar e 13 (fun a b => a * b) s

/-- MULH (09 R207). -/
def execMulh (e : Fin 192) (s : State) : Host.Outcome State Fault Refusal :=
  scalar e 14 (fun a b => BitVec.ofInt 32 ((a.toInt * b.toInt).fdiv (2 ^ 32))) s

/-- MULHU (09 R207). -/
def execMulhu (e : Fin 192) (s : State) : Host.Outcome State Fault Refusal :=
  scalar e 15 (fun a b => BitVec.ofNat 32 (a.toNat * b.toNat / 2 ^ 32)) s

/-- DIV (09 R207). -/
def execDiv (e : Fin 192) (s : State) : Host.Outcome State Fault Refusal :=
  scalar e 16 (fun a b => divS a b) s

/-- DIVU (09 R207). -/
def execDivu (e : Fin 192) (s : State) : Host.Outcome State Fault Refusal :=
  scalar e 17 (fun a b => if b = 0 then 0xFFFFFFFF#32 else BitVec.ofNat 32 (a.toNat / b.toNat)) s

/-- REM (09 R207). -/
def execRem (e : Fin 192) (s : State) : Host.Outcome State Fault Refusal :=
  scalar e 18 (fun a b => remS a b) s

/-- REMU (09 R207). -/
def execRemu (e : Fin 192) (s : State) : Host.Outcome State Fault Refusal :=
  scalar e 19 (fun a b => if b = 0 then a else BitVec.ofNat 32 (a.toNat % b.toNat)) s

/-! ### Vector instructions (09 R203 to R207) -/

/-- Lane width in bits. -/
def laneBits (w : Word) : Nat := if fld w 22 22 = 1 then 8 else 16

/-- Number of lanes. -/
def laneCount (w : Word) : Nat := if fld w 22 22 = 1 then 32 else 16

/-- The lanes of a number, each `b` bits. -/
def lanes (b n v : Nat) : List Nat := (List.range n).map fun i => v / 2 ^ (b * i) % 2 ^ b

/-- A lane's value, signed or unsigned. -/
def laneVal (uns : Bool) (b x : Nat) : Int := if uns then (x : Int) else signed b x

/-- Wrap a result modulo the lane width, or clamp it to the lane range (09 R204). -/
def laneFit (sat uns : Bool) (b : Nat) (r : Int) : Nat :=
  let lo : Int := if uns then 0 else -(2 ^ (b - 1) : Nat)
  let hi : Int := if uns then (2 ^ b : Nat) - 1 else (2 ^ (b - 1) : Nat) - 1
  ((if sat then clampInt lo hi r else r) % (2 ^ b : Nat)).toNat

/-- Shift right with rounding half up (09 R204). -/
def roundShift (r : Int) (sh : Nat) : Int := if sh = 0 then r else (r + 2 ^ (sh - 1)).fdiv (2 ^ sh)

/-- Replace the lanes whose predicate bit is 1 (09 R203). -/
def mergeLanes (p : Word) (old new : List Nat) : List Nat :=
  (old.zip new).mapIdx fun i ab => if p.getLsbD i then ab.2 else ab.1

/-- The SAT flag. -/
def satOf (w : Word) : Bool := fld w 6 6 == 1
/-- The UNS flag. -/
def unsOf (w : Word) : Bool := fld w 5 5 == 1
/-- The predicate an instruction names. -/
def predFld (x : Engine) (w : Word) : Word := predOf x (fld w 9 7)
/-- The lanes of the vector register in VS1. -/
def lanes1 (x : Engine) (w : Word) : List Nat := lanes (laneBits w) (laneCount w) (vreg x (fld w 17 14)).toNat
/-- The lanes of the vector register in VS2. -/
def lanes2 (x : Engine) (w : Word) : List Nat := lanes (laneBits w) (laneCount w) (vreg x (fld w 13 10)).toNat

/-- Write lanes to VD under the predicate. -/
def putVd (w : Word) (p : Word) (new : List Nat) (x : Engine) : Engine :=
  let b := laneBits w
  let d := fld w 21 18
  setVreg d (BitVec.ofNat 256 (packNat b (mergeLanes p (lanes b (laneCount w) (vreg x d).toNat) new))) x

/-- A lane-by-lane instruction: `f` gives a lane's new bits from the instruction, and the bits of VS1 and VS2. -/
def lanewise (e : Fin 192) (op : Nat) (f : Word → Nat → Nat → Nat) (s : State) : Host.Outcome State Fault Refusal :=
  issue e 1 op (fun w s =>
    let x := s.eng.eng[e]
    let r := ((lanes1 x w).zip (lanes2 x w)).map fun ab => f w ab.1 ab.2
    next e (s.setEng e (putVd w (predFld x w) r))) s

/-- An arithmetic lane result: operands by UNS, then wrapped or clamped (09 R204). -/
def laneArith (g : Nat → Int → Int → Int) (w : Word) (a b : Nat) : Nat :=
  let n := laneBits w
  laneFit (satOf w) (unsOf w) n (g (fld w 4 0) (laneVal (unsOf w) n a) (laneVal (unsOf w) n b))

/-- VADD (09 R203, R204, R207). -/
def execVadd (e : Fin 192) (s : State) : Host.Outcome State Fault Refusal :=
  lanewise e 0 (laneArith fun _ a b => a + b) s

/-- VSUB (09 R203, R204, R207). -/
def execVsub (e : Fin 192) (s : State) : Host.Outcome State Fault Refusal :=
  lanewise e 1 (laneArith fun _ a b => a - b) s

/-- VMUL (09 R203, R204, R207). -/
def execVmul (e : Fin 192) (s : State) : Host.Outcome State Fault Refusal :=
  lanewise e 2 (laneArith fun sh a b => roundShift (a * b) sh) s

/-- VMIN (09 R203, R204, R207). -/
def execVmin (e : Fin 192) (s : State) : Host.Outcome State Fault Refusal :=
  lanewise e 3 (laneArith fun _ a b => min a b) s

/-- VMAX (09 R203, R204, R207). -/
def execVmax (e : Fin 192) (s : State) : Host.Outcome State Fault Refusal :=
  lanewise e 4 (laneArith fun _ a b => max a b) s

/-- VAND (09 R203, R204, R207). -/
def execVand (e : Fin 192) (s : State) : Host.Outcome State Fault Refusal :=
  lanewise e 5 (fun _ a b => a &&& b) s

/-- VOR (09 R203, R204, R207). -/
def execVor (e : Fin 192) (s : State) : Host.Outcome State Fault Refusal :=
  lanewise e 6 (fun _ a b => a ||| b) s

/-- VXOR (09 R203, R204, R207). -/
def execVxor (e : Fin 192) (s : State) : Host.Outcome State Fault Refusal :=
  lanewise e 7 (fun _ a b => a ^^^ b) s

/-- VSHL (09 R203, R204, R207). -/
def execVshl (e : Fin 192) (s : State) : Host.Outcome State Fault Refusal :=
  lanewise e 8 (laneArith fun sh a _ => a * 2 ^ sh) s

/-- VSHR (09 R203, R204, R207). -/
def execVshr (e : Fin 192) (s : State) : Host.Outcome State Fault Refusal :=
  lanewise e 9 (fun w a _ => laneFit (satOf w) (unsOf w) (laneBits w) (roundShift a (fld w 4 0))) s

/-- VSRA (09 R203, R204, R207). -/
def execVsra (e : Fin 192) (s : State) : Host.Outcome State Fault Refusal :=
  lanewise e 10 (fun w a _ => laneFit (satOf w) (unsOf w) (laneBits w) (roundShift (signed (laneBits w) a) (fld w 4 0))) s

/-- VABSD (09 R203, R204, R207). -/
def execVabsd (e : Fin 192) (s : State) : Host.Outcome State Fault Refusal :=
  lanewise e 11 (laneArith fun _ a b => ((a - b).natAbs : Int)) s

/-- A compare writes the predicate named by VD[2:0] in the lanes whose predicate bit is 1; p0 is never written
(09 R203, R207). -/
def compare (e : Fin 192) (op : Nat) (f : Nat → Nat → Nat → Bool) (s : State) : Host.Outcome State Fault Refusal :=
  issue e 1 op (fun w s =>
    let x := s.eng.eng[e]
    let p := predFld x w
    let d := fld w 21 18
    let r := ((lanes1 x w).zip (lanes2 x w)).map fun ab => f (laneBits w) ab.1 ab.2
    let old := predOf x d
    let new := w32 (((List.range 32).map fun i =>
      flagAt (if i < laneCount w && p.getLsbD i then r[i]?.getD false else old.getLsbD i) i).sum)
    next e (s.setEng e fun x => match idx? 8 d with
      | some k => if d = 0 then x else { x with pred := x.pred.set k new }
      | none => x)) s

/-- VCMPEQ (09 R207). -/
def execVcmpeq (e : Fin 192) (s : State) : Host.Outcome State Fault Refusal :=
  compare e 12 (fun _ a b => a == b) s

/-- VCMPLT (09 R207). -/
def execVcmplt (e : Fin 192) (s : State) : Host.Outcome State Fault Refusal :=
  compare e 13 (fun n a b => decide (signed n a < signed n b)) s

/-- VCMPLTU (09 R207). -/
def execVcmpltu (e : Fin 192) (s : State) : Host.Outcome State Fault Refusal :=
  compare e 14 (fun _ a b => decide (a < b)) s

/-- VSEL (09 R207): every lane of VD is written. -/
def execVsel (e : Fin 192) (s : State) : Host.Outcome State Fault Refusal :=
  issue e 1 15 (fun w s =>
    let x := s.eng.eng[e]
    let r := mergeLanes (predFld x w) (lanes2 x w) (lanes1 x w)
    next e (s.setEng e (setVreg (fld w 21 18) (BitVec.ofNat 256 (packNat (laneBits w) r))))) s

/-- VBCAST (09 R207). -/
def execVbcast (e : Fin 192) (s : State) : Host.Outcome State Fault Refusal :=
  issue e 1 16 (fun w s =>
    let x := s.eng.eng[e]
    let v := (sreg x (fld w 4 0)).toNat % 2 ^ laneBits w
    next e (s.setEng e (putVd w (predFld x w) (List.replicate (laneCount w) v)))) s

/-- Accumulator `i`. -/
def accOf (x : Engine) (i : Nat) : BitVec 1024 := x.acc.toList[i]?.getD 0

/-- Write the lanes of accumulator a(VD[1:0]) under the predicate; lanes are 64 or 32 bits and wrap (09 R205). -/
def putAcc (w : Word) (p : Word) (f : List Nat → List Nat) (x : Engine) : Engine :=
  let b := 4 * laneBits w
  match idx? 4 (fld w 21 18 % 4) with
  | some k =>
    let old := lanes b (laneCount w) (x.acc[k]).toNat
    { x with acc := x.acc.set k (BitVec.ofNat 1024 (packNat b (mergeLanes p old (f old)))) }
  | none => x

/-- Add integers to accumulator lanes, wrapped. -/
def addLanes (b : Nat) (d : List Int) (old : List Nat) : List Nat :=
  (old.zip d).map fun ab => (((ab.1 : Int) + ab.2) % (2 ^ b : Nat)).toNat

/-- VMACP (09 R205): two products per lane. -/
def execVmacp (e : Fin 192) (s : State) : Host.Outcome State Fault Refusal :=
  issue e 1 17 (fun w s =>
    let x := s.eng.eng[e]
    let n := laneBits w
    let reg := fun (i : Nat) => lanes n (laneCount w) (vreg x i).toNat
    let prod := fun (k : Nat) => ((reg (fld w 17 14 + k)).zip (reg (fld w 13 10 + k))).map fun ab =>
      laneVal (unsOf w) n ab.1 * signed n ab.2
    let d := ((prod 0).zip (prod 1)).map fun ab => ab.1 + ab.2
    next e (s.setEng e (putAcc w (predFld x w) (addLanes (4 * n) d)))) s

/-- VMACS (09 R205): one product with a broadcast scalar. -/
def execVmacs (e : Fin 192) (s : State) : Host.Outcome State Fault Refusal :=
  issue e 1 18 (fun w s =>
    let x := s.eng.eng[e]
    let n := laneBits w
    let c := signed n ((sreg x (fld w 13 10)).toNat % 2 ^ n)
    let d := (lanes1 x w).map fun a => laneVal (unsOf w) n a * c
    next e (s.setEng e (putAcc w (predFld x w) (addLanes (4 * n) d)))) s

/-- VACCCLR (09 R207). -/
def execVaccclr (e : Fin 192) (s : State) : Host.Outcome State Fault Refusal :=
  issue e 1 19 (fun w s =>
    let x := s.eng.eng[e]
    next e (s.setEng e (putAcc w (predFld x w) fun old => old.map fun _ => 0))) s

/-- VACCRD (09 R205). -/
def execVaccrd (e : Fin 192) (s : State) : Host.Outcome State Fault Refusal :=
  issue e 1 20 (fun w s =>
    let x := s.eng.eng[e]
    let n := laneBits w
    let a := lanes (4 * n) (laneCount w) (accOf x (fld w 17 14 % 4)).toNat
    let r := a.map fun v => laneFit (satOf w) (unsOf w) n (roundShift (laneVal (unsOf w) (4 * n) v) (fld w 4 0))
    next e (s.setEng e (putVd w (predFld x w) r))) s

/-- VSUM (09 R207): the sum of the predicated lanes of VS1 to a scalar register. -/
def execVsum (e : Fin 192) (s : State) : Host.Outcome State Fault Refusal :=
  issue e 1 21 (fun w s =>
    let x := s.eng.eng[e]
    let p := predFld x w
    let t := ((lanes1 x w).mapIdx fun i a => if p.getLsbD i then laneVal (unsOf w) (laneBits w) a else 0).sum
    next e (s.setEng e (setSreg (fld w 4 0) (BitVec.ofInt 32 t)))) s

/-! ### Memory instructions (09 R208, R209, Table 9.4) -/

/-- Where an engine address lies. -/
inductive EngPlace where
  | code (a : Nat) | data (a : Nat) | shared (a : Nat) | none
  deriving DecidableEq, Repr

/-- The engine address space (09 Table 9.4). -/
def placeOf (a : Nat) : EngPlace :=
  if a < 0x10000 then .code a else if a < 0x40000 then .data a
  else if 0x100000 ≤ a ∧ a < 0x200000 then .shared (a - 0x100000) else .none

/-- Effective address of a memory instruction. -/
def effAddr (x : Engine) (w : Word) : Word :=
  sreg x (fld w 19 15) + BitVec.signExtend 32 (BitVec.ofNat 15 (fld w 14 0))

/-- Register field of a memory instruction; vector operations use [23:20]. -/
def memReg (w : Word) : Nat := fld w 24 20

/-- A load of `n` bytes: misaligned or outside the address space it is a program fault, on an uncorrectable word an
engine failure or the end of the task; otherwise `k` takes the bytes (09 R208, R209, R219, R234). -/
def load (e : Fin 192) (a : Word) (n : Nat) (k : List Byte → State → State) (s : State) : State :=
  if a.toNat % n ≠ 0 then progFault e s
  else match placeOf a.toNat with
  | .none => progFault e s
  | .shared i =>
    let m := sharedAddr (clusterOf e) i
    if !(errWords s.eccBad m n).isEmpty then memoryEnd e m s else k (memReadN s.mem m n) s
  | .code i | .data i =>
    if (errWords s.eccBad (localAddr e i) n).isEmpty then k (memReadN s.mem (localAddr e i) n) (localSoft e i n s)
    else engineFail e .localEcc s

/-- A store: misaligned, outside the address space or into the code region it is a program fault (09 R208, R219). -/
def storeTo (e : Fin 192) (a : Word) (bs : List Byte) (s : State) : State :=
  if a.toNat % bs.length ≠ 0 then progFault e s
  else match placeOf a.toNat with
  | .data i => next e (s.store (localAddr e i) bs)
  | .shared i => next e (s.store (sharedAddr (clusterOf e) i) bs)
  | _ => progFault e s

/-- A scalar load of `n` bytes, extended by `f`. -/
def loadInstr (e : Fin 192) (op n : Nat) (f : Nat → Word) (s : State) : Host.Outcome State Fault Refusal :=
  issue e 2 op (fun w s =>
    load e (effAddr (s.eng.eng[e]) w) n
      (fun bs s => next e (s.setEng e (setSreg (memReg w) (f (leAt bs 0 n))))) s) s

/-- A scalar store of `n` bytes. -/
def storeInstr (e : Fin 192) (op n : Nat) (s : State) : Host.Outcome State Fault Refusal :=
  issue e 2 op (fun w s =>
    let x := s.eng.eng[e]
    storeTo e (effAddr x w) (bytesOf n (sreg x (memReg w)).toNat) s) s

/-- LdW (09 R208). -/
def execLdW (e : Fin 192) (s : State) : Host.Outcome State Fault Refusal :=
  loadInstr e 0 4 (w32) s

/-- LdH (09 R208). -/
def execLdH (e : Fin 192) (s : State) : Host.Outcome State Fault Refusal :=
  loadInstr e 1 2 (fun v => BitVec.ofInt 32 (signed 16 v)) s

/-- LdHu (09 R208). -/
def execLdHu (e : Fin 192) (s : State) : Host.Outcome State Fault Refusal :=
  loadInstr e 2 2 (w32) s

/-- LdB (09 R208). -/
def execLdB (e : Fin 192) (s : State) : Host.Outcome State Fault Refusal :=
  loadInstr e 3 1 (fun v => BitVec.ofInt 32 (signed 8 v)) s

/-- LdBu (09 R208). -/
def execLdBu (e : Fin 192) (s : State) : Host.Outcome State Fault Refusal :=
  loadInstr e 4 1 (w32) s

/-- StW (09 R208). -/
def execStW (e : Fin 192) (s : State) : Host.Outcome State Fault Refusal :=
  storeInstr e 5 4 s

/-- StH (09 R208). -/
def execStH (e : Fin 192) (s : State) : Host.Outcome State Fault Refusal :=
  storeInstr e 6 2 s

/-- StB (09 R208). -/
def execStB (e : Fin 192) (s : State) : Host.Outcome State Fault Refusal :=
  storeInstr e 7 1 s

/-- VLD (09 R208). -/
def execVld (e : Fin 192) (s : State) : Host.Outcome State Fault Refusal :=
  issue e 2 8 (fun w s =>
    load e (effAddr (s.eng.eng[e]) w) 32
      (fun bs s => next e (s.setEng e (setVreg (memReg w) (BitVec.ofNat 256 (leAt bs 0 32))))) s) s

/-- VST (09 R208). -/
def execVst (e : Fin 192) (s : State) : Host.Outcome State Fault Refusal :=
  issue e 2 9 (fun w s =>
    let x := s.eng.eng[e]
    storeTo e (effAddr x w) (bytesOf 32 (vreg x (memReg w)).toNat) s) s

/-- VLD.B (09 R207): one byte to all 32 lanes. -/
def execVldB (e : Fin 192) (s : State) : Host.Outcome State Fault Refusal :=
  issue e 2 10 (fun w s =>
    load e (effAddr (s.eng.eng[e]) w) 1
      (fun bs s => next e (s.setEng e
        (setVreg (memReg w) (BitVec.ofNat 256 (packNat 8 (List.replicate 32 (leAt bs 0 1))))))) s) s

/-- ATOM.ADD (09 R207, Table 9.4): a 32-bit add in shared memory; RD gives the addend and takes the old value. -/
def execAtomAdd (e : Fin 192) (s : State) : Host.Outcome State Fault Refusal :=
  issue e 2 11 (fun w s =>
    let x := s.eng.eng[e]
    let a := effAddr x w
    match placeOf a.toNat with
    | .shared i =>
      load e a 4 (fun bs s =>
        let s := s.store (sharedAddr (clusterOf e) i) (bytesOf 4 (w32 (leAt bs 0 4) + sreg x (memReg w)).toNat)
        next e (s.setEng e (setSreg (memReg w) (w32 (leAt bs 0 4))))) s
    | _ => progFault e s) s

/-! ### Control instructions (09 R207, R218, R219) -/

/-- The target of a branch: PC + 4 OFS. -/
def branchTarget (x : Engine) (w : Word) : Word :=
  x.pc + BitVec.ofInt 32 (4 * signed 21 (fld w 20 0))

/-- A conditional branch on RS. -/
def branchIf (e : Fin 192) (op : Nat) (f : Word → Bool) (s : State) : Host.Outcome State Fault Refusal :=
  issue e 3 op (fun w s =>
    let x := s.eng.eng[e]
    if f (sreg x (fld w 25 21)) then goto e (branchTarget x w) s else next e s) s

/-- B (09 R207). -/
def execBranch (e : Fin 192) (s : State) : Host.Outcome State Fault Refusal :=
  branchIf e 0 (fun _ => true) s

/-- BZ (09 R207). -/
def execBz (e : Fin 192) (s : State) : Host.Outcome State Fault Refusal :=
  branchIf e 1 (fun v => v == 0) s

/-- BNZ (09 R207). -/
def execBnz (e : Fin 192) (s : State) : Host.Outcome State Fault Refusal :=
  branchIf e 2 (fun v => v != 0) s

/-- BLTZ (09 R207). -/
def execBltz (e : Fin 192) (s : State) : Host.Outcome State Fault Refusal :=
  branchIf e 3 (fun v => decide (v.toInt < 0)) s

/-- CALL (09 R207): PC + 4 to s30. -/
def execCall (e : Fin 192) (s : State) : Host.Outcome State Fault Refusal :=
  issue e 3 4 (fun w s =>
    let x := s.eng.eng[e]
    goto e (branchTarget x w) (s.setEng e (setSreg 30 (x.pc + 4)))) s

/-- RET (09 R207, R216): to the address in RS; to 0 it is a program fault. -/
def execRet (e : Fin 192) (s : State) : Host.Outcome State Fault Refusal :=
  issue e 3 5 (fun w s =>
    let v := sreg (s.eng.eng[e]) (fld w 25 21)
    if v = 0 then progFault e s else goto e v s) s

/-- The parameters of a VERDICT are within R219 (09 R218, R219). -/
def verdictOk (w : Word) (a : Nat) : Bool :=
  let v := fld w 20 17
  let n := fld w 16 11
  decide (1 ≤ v ∧ v ≤ 3) && fld w 9 8 != 3 && decide (n ≤ 32) && (fld w 10 10 == 0 || decide (1 ≤ n ∧ n ≤ 4))
    && (n == 0 || decide (0x10000 ≤ a ∧ a + n ≤ 0x40000))

/-- VERDICT (09 R218, R219): it ends an object task and the dispatcher applies it. -/
def execVerdict (e : Fin 192) (s : State) : Host.Outcome State Fault Refusal :=
  issue e 3 6 (fun w s =>
    let x := s.eng.eng[e]
    let a := (sreg x (fld w 25 21)).toNat
    match x.task with
    | .object o _ =>
      if !verdictOk w a then progFault e s
      else if !(errWords s.eccBad (localAddr e a) (fld w 16 11)).isEmpty then engineFail e .localEcc s
      else applyVerdict e o { verdict := fld w 20 17, inl := fld w 10 10 == 1, crop := fld w 9 8
                              data := memReadN s.mem (localAddr e a) (fld w 16 11) }
        (taskEnd e (localSoft e a (fld w 16 11) s))
    | _ => progFault e s) s

/-- END (09 R219, R220): it ends an event task. -/
def execEndTask (e : Fin 192) (s : State) : Host.Outcome State Fault Refusal :=
  issue e 3 7 (fun _ s => match (s.eng.eng[e]).task with
    | .event _ => taskEnd e s
    | _ => progFault e s) s

/-! ### Engine DMA (09 R210 to R212, Table 9.5) -/

/-- The transfer of a descriptor (09 Table 9.5). -/
def dmaOf (put : Bool) (d : List Byte) : EngDma :=
  { put := put, ext := le64 d 0, loc := le32 d 8, len := le16 d 12 + 1, rows := le16 d 14 + 1
    extStride := signed 32 (le32 d 16), locStride := signed 32 (le32 d 20) }

/-- First and last byte address that rows of a stride touch. -/
def rowSpan (base : Nat) (stride : Int) (rows len : Nat) : Int × Int :=
  let z := (base : Int) + ((rows : Int) - 1) * stride
  (min (base : Int) z, max (base : Int) z + len - 1)

/-- The range rules of a transfer (09 R210, R211). -/
def dmaLegal (s : State) (e : Fin 192) (d : List Byte) (t : EngDma) : Bool :=
  let c := clusterOf e
  let k := s.eng.cluster[c]
  let l := rowSpan t.loc t.locStride t.rows t.len
  let x := rowSpan t.ext t.extStride t.rows t.len
  let within := fun (lo size : Nat) => decide ((lo : Int) ≤ x.1 ∧ x.2 < (lo : Int) + size)
  decide (t.ext < 2 ^ 40) && decide (t.loc < 2 ^ 18) && zeroAt d 24 8 && decide (0x10000 ≤ l.1 ∧ l.2 < 0x40000)
    && (if t.put then within k.spillBase k.spillSize || within (sharedAddr c 0) 0x100000
        else within 0 (dramEnd s) || within (sharedAddr c 0) 0x100000 || within (localAddr e 0x10000) 0x30000)

/-- GET or PUT: the descriptor is read at issue; a full queue stalls the instruction (09 R210 to R212, Table 9.3). -/
def dmaIssue (e : Fin 192) (op : Nat) (put : Bool) (s : State) : Host.Outcome State Fault Refusal :=
  issue e 4 op (fun w s =>
    let x := s.eng.eng[e]
    let a := (sreg x (fld w 25 21)).toNat
    match idx? 4 (fld w 20 19) with
    | none => s
    | some q =>
      if 8 ≤ (x.dma[q]).length then s
      else if 0x40000 < a + 32 then progFault e s
      else if !(errWords s.eccBad (localAddr e a) 32).isEmpty then engineFail e .localEcc s
      else
        let d := memReadN s.mem (localAddr e a) 32
        let s := localSoft e a 32 s
        if dmaLegal s e d (dmaOf put d) then
          next e (s.setEng e fun x => { x with dma := upd x.dma q fun l => l ++ [dmaOf put d] })
        else progFault e s) s

/-- GET (09 R210, R211). -/
def execGetDma (e : Fin 192) (s : State) : Host.Outcome State Fault Refusal :=
  dmaIssue e 0 false s

/-- PUT (09 R210, R211). -/
def execPutDma (e : Fin 192) (s : State) : Host.Outcome State Fault Refusal :=
  dmaIssue e 1 true s

/-- WAIT (09 R212): it retires when queue Q is empty. -/
def execWaitDma (e : Fin 192) (s : State) : Host.Outcome State Fault Refusal :=
  issue e 4 2 (fun w s =>
    match idx? 4 (fld w 20 19) with
    | some q => if ((s.eng.eng[e]).dma[q]).isEmpty then next e s else s
    | none => s) s

/-- POLL (09 Table 9.3): reads the state of a DMA queue to SD; the spec gives no coding of that state, so the value is
free. -/
def execPoll (e : Fin 192) (s : State) : Host.Outcome State Fault Refusal :=
  issue e 4 3 (fun w s =>
    next e ((s.setEng e (setSreg (fld w 25 21) (w32 (s.freeVal 7)))).drawn)) s

/-- The address of row `r`. -/
def rowAt (base : Nat) (stride : Int) (r : Nat) : Nat := ((base : Int) + r * stride).toNat

/-- Is the source of row `r` the engine's own local memory: of a PUT, or of a GET that names it (09 R211)? -/
def dmaFromLocal (e : Fin 192) (t : EngDma) : Bool := t.put || (localAddr e 0 ≤ t.ext && t.ext < localAddr e 0x40000)

/-- The address that row `r` of a transfer reads. -/
def dmaSource (e : Fin 192) (t : EngDma) (r : Nat) : Nat :=
  if t.put then localAddr e (rowAt t.loc t.locStride r) else rowAt t.ext t.extStride r

/-- One row of a transfer moves; corrected errors of the source are counted where it lies (09 R209, 15 R364). -/
def dmaRow (e : Fin 192) (t : EngDma) (r : Nat) (s : State) : State :=
  let a := dmaSource e t r
  let bs := memReadN s.mem a t.len
  let s := if dmaFromLocal e t then localSoft e (a - localAddr e 0) t.len s
    else if a < dramEnd s then (dramRead 2 a t.len s).1 else s
  s.store (if t.put then rowAt t.ext t.extStride r else localAddr e (rowAt t.loc t.locStride r)) bs

/-- The words that a transfer finds uncorrectable in its source; DRAM shows only the errors that its ECC detects (15 R364). -/
def dmaBadWords (s : State) (e : Fin 192) (t : EngDma) : List Nat :=
  (List.range t.rows).flatMap fun r =>
    let a := dmaSource e t r
    if a < dramEnd s && !errDetected s then [] else errWords s.eccBad a t.len

/-- The errors of the DRAM rows of a transfer that ends on one: they are counted and reported there, and each stored Fathom
line read adds to ECC_BAD_LINES (14 R331). -/
def dmaDramErrors (e : Fin 192) (t : EngDma) (ws : List Nat) (s : State) : State :=
  fathomBadLines ws (forEach (List.range t.rows) (fun r u =>
    let a := dmaSource e t r
    if a < dramEnd u then (dramRead 2 a t.len u).1 else u) s)

/-- ENGINE_DMA_COMPLETE: the oldest transfer of queue `q` completes and is visible (09 R212); an uncorrectable return
ends the task that issued it, if that still runs, and an uncorrectable local read fails the engine, unless it has failed
already (09 R209, R234).  DRAM is reached over the main fabric (01 R17). -/
def execEngineDmaComplete (e : Fin 192) (q : Fin 4) (s : State) : Host.Outcome State Fault Refusal :=
  match (s.eng.eng[e]).dma[q], s.clockRuns 12 with
  | t :: rest, true =>
    let s := s.setEng e fun x => { x with dma := upd x.dma q fun _ => rest }
    match dmaBadWords s e t with
    | [] => .next (forEach (List.range t.rows) (dmaRow e t) s)
    | w :: ws =>
      if dmaFromLocal e t then
        .next (if (s.eng.eng[e]).state = .fenced || (s.eng.eng[e]).state = .testing then s else engineFail e .localEcc s)
      else
        let s := dmaDramErrors e t (w :: ws) s
        .next (if t.stale || !taskRuns s.eng.eng[e] then memoryReport e (8 * w) s else memoryEnd e (8 * w) s)
  | _, _ => .next s

/-! ### Sync instructions (09 R207, 01 R25) -/

/-- FENCE (01 R25): it retires when every transfer the engine issued has completed. -/
def execFence (e : Fin 192) (s : State) : Host.Outcome State Fault Refusal :=
  issue e 5 0 (fun _ s => if (s.eng.eng[e]).dma.toList.all (·.isEmpty) then next e s else s) s

/-- TIME (09 Table 9.3): TB0 TS32 to RD. -/
def execTimeRead (e : Fin 192) (s : State) : Host.Outcome State Fault Refusal :=
  issue e 5 1 (fun w s => next e (s.setEng e (setSreg (fld w 25 21) s.ts0))) s

/-- BUDGET (09 Table 9.3): the budget counter to RD. -/
def execBudgetRead (e : Fin 192) (s : State) : Host.Outcome State Fault Refusal :=
  issue e 5 2 (fun w s => next e (s.setEng e fun x => setSreg (fld w 25 21) (w32 x.budget) x)) s

/-- SIGNAL (09 Table 9.3): the cluster's producer ENG_SIGNAL fires (18 Table 18.1). -/
def execSignal (e : Fin 192) (s : State) : Host.Outcome State Fault Refusal :=
  issue e 5 3 (fun _ s => next e (produce (61 + (clusterOf e).val) s)) s

/-- NOP (09 Table 9.3). -/
def execNop (e : Fin 192) (s : State) : Host.Outcome State Fault Refusal :=
  issue e 5 4 (fun _ s => next e s) s

end Sys2Proof.Machine
end

