-- ==== Sys2Proof/Machine/Gust.lean ====
section
/-! DEFINITION. The Gust path: features, rules, verdicts and hand-off of a closed object (07 R170 to R174, 08). -/

namespace Sys2Proof.Machine

/-! ### Features and record (07 R172 to R174, 13 Table 13.4) -/

/-- A delivered 32-bit feature saturates (07 R172). -/
def sat32 (n : Nat) : Nat := min n (2 ^ 32 - 1)

/-- Does an object lie in more than one segment (07 R165)? -/
def manySegments (o : SegObj) : Bool := decide (1 < (maskList 12 o.segments).length)

/-- The own part of a closed object as station-aligned values (13 Table 13.4, R317). -/
def ownBody (s : State) (c : ClosedObj) : PartBody :=
  let o := c.obj
  let area := o.classArea.sum
  let base := s.station.colBase
  { firstPos := o.firstTag.pos.toInt + s.station.posOffset, lastPos := o.lastTag.pos.toInt + s.station.posOffset
    firstCol := o.firstCol + base, colMin := o.colMin + base, colMax := o.colMax + base
    firstTs := o.firstTag.ts, closeTs := c.closeTs, area := area, sumCol := o.sumCol + area * base
    sumRow := o.sumRow - area * o.firstRow, perimeter := o.perimeter, runs := o.runCount
    sums := o.sums, mins := o.mins, maxs := o.maxs, classArea := o.classArea.drop 1
    incomplete := o.incomplete, seamCam := manySegments o, shortBolt := c.shortBolt
    coarse := o.firstTag.coarse || c.closeCoarse }

/-- The values an object is judged by: the merged ones of a joined object, else its own. -/
def finalBody (s : State) (c : ClosedObj) : PartBody := c.merged.getD (ownBody s c)

/-- A station column relative to COL_BASE, held within the stitched line (13 R316, Table 13.4). -/
def relColumn (s : State) (x : Nat) : Nat := min (s.stitch.webWidth - 1) (x - s.station.colBase)

/-- The classes 1 to 15 that have an area, largest area first and the lower class at a tie (07 R174). -/
def classOrder (areas : List Nat) : List (Nat × Nat) :=
  let l := (areas.zipIdx.map fun a => (a.2 + 1, a.1)).filter fun a => 0 < a.2
  sortBy (fun a b => decide (b.2 < a.2) || (a.2 == b.2 && decide (a.1 ≤ b.1))) l

/-- Quotient rounded half up by an area (07 Table 7.3). -/
def areaMean (n area : Nat) : Nat := (n + area / 2) / area

/-- The first and last union row of an object, with those of merged parts (13 R315). -/
def ClosedObj.rows (c : ClosedObj) : Nat × Nat := c.span.getD (c.obj.firstRow, c.obj.lastRow)

/-- The features of selectors 0x00 to 0x28 in order (07 Table 7.3, 08 Table 8.5). -/
def features (s : State) (c : ClosedObj) : List Nat :=
  let b := finalBody s c
  let rows := c.rows.2 + 1 - c.rows.1
  let width := b.colMax + 1 - b.colMin
  let centroid := ((b.sumCol : Int) - b.area * s.station.colBase) * 256
  let four := fun (l : List Nat) => (List.range 4).map fun k => l[k]?.getD 0
  let flags := flagAt b.seamCam 0 + flagAt c.seamDev 1 + flagAt b.incomplete 2 + flagAt b.shortBolt 3 + flagAt b.coarse 4
  [sat32 b.area, sat32 rows, relColumn s b.colMin, relColumn s b.colMax, sat32 width,
      (clampInt 0 ((s.stitch.webWidth - 1) * 256 : Nat) ((centroid + (b.area / 2 : Nat)).fdiv b.area)).toNat,
      sat32 (areaMean (b.sumRow * 256) b.area), sat32 b.perimeter, sat32 b.runs, c.obj.segments]
    ++ (four b.sums).map (fun n => areaMean n b.area) ++ four b.mins ++ four b.maxs
    ++ (List.range 15).map (fun k => sat32 (b.classArea[k]?.getD 0))
    ++ [sat32 (b.area * 65535 / (rows * width)), flags, ((classOrder b.classArea).head?.map (·.1)).getD 0,
        ((b.lastPos - b.firstPos) % 2 ^ 32).toNat]

/-- The feature block of 128 bytes: 16-bit means, minima and maxima, 32 bits for the others (07 Table 7.3). -/
def featureBlock (f : List Nat) : List Byte :=
  (f.take 10).flatMap (bytesOf 4) ++ ((f.drop 10).take 12).flatMap (bytesOf 2) ++ ((f.drop 22).take 16).flatMap (bytesOf 4)

/-- The record of a closed object as the finaliser emits it (07 Tables 7.4, 7.5). -/
def closedRecord (s : State) (c : ClosedObj) (id : BitVec 64) : ObjRecord :=
  let b := finalBody s c
  let top := classOrder b.classArea
  { id := id, firstPos := BitVec.ofInt 64 (b.firstPos - s.station.posOffset)
    posLength := ((b.lastPos - b.firstPos) % 2 ^ 32).toNat, tsClose := b.closeTs
    colMin := relColumn s b.colMin, colMax := relColumn s b.colMax
    seamCam := b.seamCam, seamDev := c.seamDev, incomplete := b.incomplete, shortBolt := b.shortBolt
    coarse := b.coarse
    classes := (List.range 4).map fun k => (top[k]?.map (·.1)).getD 0
    areas := (List.range 4).map fun k => sat32 ((top[k]?.map (·.2)).getD 0)
    means := (List.range 4).map fun k => areaMean (b.sums[k]?.getD 0) b.area
    bolt := c.obj.firstTag.bolt, tag := c.obj.firstTag.settings
    firstRow := c.obj.firstRow, lastRow := c.obj.lastRow, parts := c.mergedParts, tsFirst := b.firstTs }

/-! ### Rules (08 R186 to R189, R198) -/

/-- Feature of a selector. -/
def featureOf (f : List Nat) (sel : Nat) : Nat := f[sel]?.getD 0

/-- A rule matches (08 R188, Table 8.6). -/
def ruleMatches (f : List Nat) (r : GustRule) : Bool :=
  let x := featureOf f r.sel
  match r.cmp with
  | 1 => decide (x < r.threshA)
  | 2 => decide (x ≤ r.threshA)
  | 3 => decide (r.threshA < x)
  | 4 => decide (r.threshA ≤ x)
  | 5 => x == r.threshA
  | 6 => x != r.threshA
  | 7 => decide (r.threshA ≤ x ∧ x ≤ r.threshB)
  | 8 => decide (x < r.threshA ∨ r.threshB < x)
  | 9 => x &&& r.threshA != 0
  | 10 => x &&& r.threshA == r.threshA
  | 11 => decide (r.threshA * featureOf f r.sel2 ≤ x * 65536)
  | 12 => decide (x * 65536 < r.threshA * featureOf f r.sel2)
  | _ => false

/-- AND_NEXT. -/
def GustRule.andNext (r : GustRule) : Bool := r.flags.testBit 0

/-- The matching chains by their last rule, in rising rule number, from rule `i` on; `ok` tells whether the rules of
the chain so far match (08 R189). -/
def matchingChains (f : List Nat) : Nat → Bool → List GustRule → List (Nat × GustRule)
  | _, _, [] => []
  | i, ok, r :: t =>
    let m := ok && ruleMatches f r
    if r.andNext then matchingChains f (i + 1) m t
    else if m then (i, r) :: matchingChains f (i + 1) true t
    else matchingChains f (i + 1) true t

/-- The winning chain: highest PRIORITY, then the lowest rule number (08 R189). -/
def winningChain (l : List (Nat × GustRule)) : Option (Nat × GustRule) :=
  l.foldl (fun (b : Option (Nat × GustRule)) x => match b with
    | none => some x
    | some y => if y.2.priority < x.2.priority then some x else some y) none

/-- Word address / 8 of the first word of rule bank `b` in the `GUST_` window (08 R199). -/
def ruleWord (b : Fin 2) : Nat := (0x1010600000 + 0x1000 + b.val * 0x1000) / 8

/-- What the rules give an object: verdict, crop request and the deciding rule; an uncorrectable rule read gives REFER. -/
structure GustVerdict where
  verdict : Nat
  crop : Bool := false
  rule : Option (Fin 256) := none
  byDefault : Bool := false
  deriving DecidableEq, Repr

/-- Rule evaluation in the active bank (08 R189, R191). -/
def evaluateRules (b : GustBank) (f : List Nat) : GustVerdict :=
  match winningChain (matchingChains f 0 true b.rules) with
  | none => { verdict := b.default, byDefault := true }
  | some (i, r) => { verdict := r.verdict % 16, crop := r.flags.testBit 1, rule := idx? 256 i }

/-- Change the Gust path. -/
def State.setGust (s : State) (f : GustBlock → GustBlock) : State := { s with gust := f s.gust }

/-- One more in the count of a verdict (08 Table 8.8). -/
def countVerdict (v : Nat) (g : GustBlock) : GustBlock :=
  match v with
  | 1 => { g with accept := satInc 32 g.accept }
  | 2 => { g with reject := satInc 32 g.reject }
  | 3 => { g with mark := satInc 32 g.mark }
  | _ => { g with refer := satInc 32 g.refer }

/-- The counts that an evaluated object moves (08 Table 8.8). -/
def countRules (v : GustVerdict) (g : GustBlock) : GustBlock :=
  let g := countVerdict v.verdict g
  let g := if v.byDefault then { g with defaults := satInc 32 g.defaults } else g
  match v.rule with
  | none => g
  | some i => { g with hit := upd g.hit i (satInc 32) }

/-- The bank in use. -/
def GustBlock.activeBank (g : GustBlock) : GustBank := g.bank[g.act]

/-- Rule evaluation of an object with the errors of the bank's words (08 R198): corrected reads are counted and
reported; uncorrectable ones are each counted and reported, and give REFER. -/
def judgeObject (f : List Nat) (seq : Nat) (s : State) : GustVerdict × State :=
  let words := (List.range 512).map fun w => ruleWord s.gust.act + w
  let soft := words.filter s.eccSoft.contains
  let s := s.setGust fun g => { g with eccCorr := satAdd 32 g.eccCorr soft.length }
  let s := forEach soft (fun w t => t.report
    { group := 8, cls := .drizzle, inst := t.gust.act.val, cause := 0, valueA := w * 8, valueB := seq }) s
  let bad := words.filter s.eccBad.contains
  if bad.isEmpty then
    let v := evaluateRules s.gust.activeBank f
    (v, s.setGust (countRules v))
  else
    let s := s.setGust fun g => { countVerdict 4 g with eccUncorr := satAdd 32 g.eccUncorr bad.length }
    ({ verdict := 4 }, forEach bad (fun w t => t.report
      { group := 8, cls := .squall, inst := t.gust.act.val, cause := 1, valueA := w * 8, valueB := seq }) s)

/-! ### Identifiers (13 R309, R310) -/

/-- The next OBJECT_ID; within 2^35 of the stored reserve, firmware stores the sequence + 2^36 (13 R309, R310). -/
def takeId (s : State) : BitVec 64 × State :=
  let n := s.gust.sequence
  let m := modInc 52 n
  let s := s.setGust fun g => { g with sequence := m }
  let near := decide ((s.mgmt.reserveValue + 2 ^ 52 - m) % 2 ^ 52 ≤ 2 ^ 35)
  let s := if near then { s with mgmt := { s.mgmt with reserveValue := (m + 2 ^ 36) % 2 ^ 52 } } else s
  (BitVec.ofNat 64 (s.station.plantDevice * 2 ^ 52 + n), s)

/-! ### Finalisation (07 R170, R173; 08 R192 to R194) -/

/-- A closed object yields its record and its verdict, and goes to the scheduler or to the refer queue. -/
def finalise (c : ClosedObj) (s : State) : State :=
  let (id, s) := takeId s
  let f := features s c
  let r := closedRecord s c id
  let s := { s with seg := { s.seg with closed := satInc 32 s.seg.closed
                                        incompleteRecords := if r.incomplete then satInc 32 s.seg.incompleteRecords
                                          else s.seg.incompleteRecords
                                        finalWaitMax := max s.seg.finalWaitMax (sat32 ((s.now - c.closeNow) * 4 / 5)) } }
  let (v, s) := judgeObject f (id.toNat % 2 ^ 52) s
  let cls := r.classes[0]?.getD 0
  let (cmd, s) := mapCommand { cls := cls, colMin := r.colMin, colMax := r.colMax, tsClose := r.tsClose
                               tsFirst := r.tsFirst, firstPos := r.firstPos, posLength := r.posLength } s
  if v.verdict = 4 then
    referObject { record := { r with verdict := 4, crop := v.crop }, features := featureBlock f, cmd := cmd
                  timeKey := c.timeKey, posKey := c.posKey, cls := idxMod 15 cls, pol := c.pol, crop := v.crop } s
  else settle { r with verdict := v.verdict, crop := v.crop } cmd true s

/-- FINALISE: the finaliser accepts the oldest closed object (07 R170); it stands still without SSCLK (01 R17). -/
def execFinalise (s : State) : Host.Outcome State Fault Refusal :=
  match s.seg.waiting, s.clockRuns 10 with
  | [], _ | _, false => .next s
  | c :: t, true => .next (finalise c { s with seg := { s.seg with waiting := t } })

/-! ### Registers (08 R199) -/

/-- A word of a rule; its reserved bytes 14 and 15 read as zero (00 R4; 08 Table 8.4). -/
def ruleWordOf (r : GustRule) (w : Nat) : Word :=
  match w with
  | 0 => w32 r.threshA
  | 1 => w32 r.threshB
  | 2 => w32 (r.sel + r.cmp * 2 ^ 8 + r.verdict * 2 ^ 16 + r.flags * 2 ^ 24)
  | _ => w32 (r.priority + r.sel2 * 2 ^ 8)

/-- `GUST_STATUS` (08 Table 8.7). -/
def gustStatus (g : GustBlock) : Word :=
  w32 (g.act.val + flagAt g.bank[0].loaded 1 + flagAt g.bank[1].loaded 2 + flagAt g.swapPending 3 + flagAt g.loadOpen 4
    + g.activeBank.default * 256)

/-- A word of the `GUST_` window (08 Tables 8.7, 8.8). -/
def gustRead (off : Nat) (s : State) : Word :=
  let g := s.gust
  if h : 0x400 ≤ off ∧ (off - 0x400) / 4 < 256 then w32 g.hit[(⟨(off - 0x400) / 4, h.2⟩ : Fin 256)]
  else if h : 0x1000 ≤ off ∧ off < 0x3000 then
    ruleWordOf ((g.bank[(⟨(off - 0x1000) / 0x1000, by omega⟩ : Fin 2)].rules)[off % 0x1000 / 16]?.getD {}) (off % 16 / 4)
  else match off with
  | 0x000 => gustStatus g
  | 0x004 => w32 g.accept
  | 0x008 => w32 g.reject
  | 0x00C => w32 g.mark
  | 0x010 => w32 g.refer
  | 0x014 => w32 g.defaults
  | 0x018 => w32 g.referOverflow
  | 0x01C => w32 g.swaps
  | 0x020 => w32 g.eccCorr
  | 0x024 => w32 g.eccUncorr
  | 0x028 => w32 (min s.eng.refer.length 0xFFF + flagAt (decide (s.eng.refer.length = 4096)) 12)
  | 0x030 => w32 g.bank[0].default
  | 0x034 => w32 g.bank[1].default
  | _ => 0

/-- A write to a word of the `GUST_` window: 0 clears a count (08 R199). -/
def gustWrite (off : Nat) (v : Word) (s : State) : State :=
  if h : 0x400 ≤ off ∧ (off - 0x400) / 4 < 256 then
    s.setGust fun g => { g with hit := upd g.hit ⟨(off - 0x400) / 4, h.2⟩ fun n => countWrite n v }
  else match off with
  | 0x004 => s.setGust fun g => { g with accept := countWrite g.accept v }
  | 0x008 => s.setGust fun g => { g with reject := countWrite g.reject v }
  | 0x00C => s.setGust fun g => { g with mark := countWrite g.mark v }
  | 0x010 => s.setGust fun g => { g with refer := countWrite g.refer v }
  | 0x014 => s.setGust fun g => { g with defaults := countWrite g.defaults v }
  | 0x018 => s.setGust fun g => { g with referOverflow := countWrite g.referOverflow v }
  | 0x01C => s.setGust fun g => { g with swaps := countWrite g.swaps v }
  | 0x020 => s.setGust fun g => { g with eccCorr := countWrite g.eccCorr v }
  | 0x024 => s.setGust fun g => { g with eccUncorr := countWrite g.eccUncorr v }
  | _ => s

end Sys2Proof.Machine
end

