-- ==== Sys2Proof/Machine/Station.lean ====
section
/-! DEFINITION. The station exchange Ell: joins, ownership, forwarding and the side states (13). -/

namespace Sys2Proof.Machine

/-! ### Keys and parts (13 R313, R314, R316) -/

/-- The key of a part: the own union row that its first row is or is paired with, where there is one, its station-aligned
first position and the station column of its first pixel. -/
structure PartKey where
  row : Option Nat
  pos : Int
  col : Nat
  deriving DecidableEq, Repr

/-- Key order: the earlier first row, paired rows counting as the same row, then the lower column (13 R314, R316). Rows of
which one is paired with no own row compare by position. -/
def keyLower (a b : PartKey) : Bool :=
  match a.row, b.row with
  | some x, some y => decide (x < y) || (x == y && decide (a.col < b.col))
  | _, _ => decide (a.pos < b.pos) || (a.pos == b.pos && decide (a.col < b.col))

/-- The own union row paired with the neighbour's row at a station-aligned position. A position that no paired row has, as
that of a part beyond the neighbour, is taken as the paired row within ROW_TOL of it (DESIGN CHOICE). -/
def pairedRow (s : State) (d : Fin 2) (pos : Int) : Option Nat :=
  let rows := (s.station.side[d]).rows
  let at_ := fun (tol : Nat) => (rows.find? fun r => match r.paired with
    | some x => decide ((x.pos - pos).natAbs ≤ tol)
    | none => false).map (·.row)
  (at_ 0).orElse fun _ => at_ s.station.rowTol

/-- The own key of an object. -/
def ownKey (s : State) (o : SegObj) : PartKey :=
  { row := some o.firstRow, pos := o.firstTag.pos.toInt + s.station.posOffset, col := o.firstCol + s.station.colBase }

/-- The side key of a joined part (13 R316). -/
def sideKey (s : State) (d : Fin 2) (j : EllJoin) : PartKey :=
  { row := pairedRow s d j.keyPos.toInt, pos := j.keyPos.toInt, col := j.keyCol }

/-- The joins of an object on a side. -/
def joinsOf (o : SegObj) (d : Fin 2) : List EllJoin := if d = 0 then o.joinLeft else o.joinRight

/-- Replace the joins of an object on a side. -/
def setJoins (d : Fin 2) (j : List EllJoin) (o : SegObj) : SegObj :=
  if d = 0 then { o with joinLeft := j } else { o with joinRight := j }

/-- Does an object hold a pixel at the edge of an enabled side? -/
def touchesSide (s : State) (d : Fin 2) (o : SegObj) : Bool :=
  (s.station.side[d]).enable && (if d = 0 then o.edgeLeft else o.edgeRight)

/-- Side `d` is UP. -/
def sideUp (s : State) (d : Fin 2) : Bool := (s.station.side[d]).state == .up

/-- Object table entries in use: open objects, closed ones before their finalisation, parts, and forwarded parts until
they are settled (07 R166). -/
def entriesUsed (s : State) : List Nat :=
  s.seg.objs.map (·.entry) ++ s.seg.waiting.map (·.obj.entry) ++ s.station.parts.map (·.part.obj.entry)
    ++ s.station.forwarded.map (·.part)

/-- Change every object that is open, or closed and waits for the exchange. -/
def onParts (f : SegObj → SegObj) (s : State) : State :=
  { s with seg := { s.seg with objs := s.seg.objs.map f }
           station := { s.station with parts := s.station.parts.map fun q => { q with part := { q.part with obj := f q.part.obj } } } }

/-- Change the object of entry `e` that has rows from `k` or earlier to `k` or later, open or waiting. -/
def onObject (e k : Nat) (f : SegObj → SegObj) (s : State) : State :=
  onParts (fun o => if o.entry = e ∧ o.firstRow ≤ k ∧ k ≤ o.lastRow then f o else o) s

/-! ### Own parts that become one object (07 R164, 13 R313) -/

/-- Element-wise combination of two short lists. -/
def zipNat (f : Nat → Nat → Nat) (n : Nat) (a b : List Nat) : List Nat :=
  (List.range n).map fun k => f (a[k]?.getD 0) (b[k]?.getD 0)

/-- A join is added to others: with a part that is joined already and whose PART has not come it is one join, with the later
row's key. -/
def addJoin (l : List EllJoin) (y : EllJoin) : List EllJoin :=
  if l.any fun x => x.part == y.part && !x.got && !y.got then
    l.map fun x =>
      if x.part = y.part ∧ !x.got then
        let z := if x.row ≤ y.row then y else x
        { z with pairs := x.pairs + y.pairs, lo := min x.lo y.lo, hi := max x.hi y.hi }
      else x
  else l ++ [y]

/-- Two own objects merge: the sums of both, the earlier first row, the lower entry (07 R164). -/
def mergeObjs (a b : SegObj) : SegObj :=
  let first := if b.firstRow < a.firstRow ∨ (b.firstRow = a.firstRow ∧ b.firstCol < a.firstCol) then b else a
  { classArea := zipNat (· + ·) 16 a.classArea b.classArea, firstRow := first.firstRow, lastRow := max a.lastRow b.lastRow
    colMin := min a.colMin b.colMin, colMax := max a.colMax b.colMax, sumCol := a.sumCol + b.sumCol
    sumRow := a.sumRow + b.sumRow, perimeter := a.perimeter + b.perimeter, runCount := a.runCount + b.runCount
    segments := a.segments ||| b.segments, sums := zipNat (· + ·) 4 a.sums b.sums, mins := zipNat min 4 a.mins b.mins
    maxs := zipNat max 4 a.maxs b.maxs, firstTag := first.firstTag, lastTag := if a.lastRow < b.lastRow then b.lastTag else a.lastTag
    incomplete := a.incomplete || b.incomplete, seamUnit := a.seamUnit || b.seamUnit
    bolts := b.bolts.foldl (fun l x => if l.contains x then l else l ++ [x]) a.bolts, last := a.last ++ b.last, cur := a.cur ++ b.cur
    entry := min a.entry b.entry, firstCol := first.firstCol, edgeLeft := a.edgeLeft || b.edgeLeft
    edgeRight := a.edgeRight || b.edgeRight, ids := a.ids ++ [max a.entry b.entry] ++ b.ids
    joinLeft := b.joinLeft.foldl addJoin a.joinLeft, joinRight := b.joinRight.foldl addJoin a.joinRight
    got := a.got ++ b.got, alone := a.alone || b.alone }

/-- Two own parts that wait for the exchange become one. -/
def mergeParts (a b : StationPart) : StationPart :=
  let later := if a.part.closeRow < b.part.closeRow then b.part else a.part
  { part := { later with obj := mergeObjs a.part.obj b.part.obj, shortBolt := a.part.shortBolt || b.part.shortBolt
                         closeCoarse := a.part.closeCoarse || b.part.closeCoarse, seamDev := a.part.seamDev || b.part.seamDev }
    rowLeft := a.rowLeft && b.rowLeft, rowRight := a.rowRight && b.rowRight }

/-- Own rows of entry `b`, which has been freed into entry `a`, follow. -/
def renameEntry (a b : Nat) (s : State) : State :=
  let side := fun (e : EllSide) =>
    { e with rows := e.rows.map fun r => if r.entry = b then { r with entry := a } else r }
  { s with station := { s.station with side := (upd (upd s.station.side 0 side) 1 side) } }

/-- Is an object joined with part `part` of side `d`, whose PART has not come? -/
def joinedWith (d : Fin 2) (part : Nat) (o : SegObj) : Bool := (joinsOf o d).any fun j => j.part == part && !j.got

/-- Own parts joined with one neighbour part form one object (13 R313): they merge as under 07 R164, and the object stays open
while one of them is. -/
def unify (d : Fin 2) (part : Nat) (s : State) : State :=
  let live := s.seg.objs.filter (joinedWith d part)
  let closed := s.station.parts.filter fun q => joinedWith d part q.part.obj
  let gone := live.map (·.entry) ++ closed.map (·.part.obj.entry)
  let follow := fun (e : Nat) (t : State) => forEach (gone.filter (· != e)) (renameEntry e) t
  let objs := s.seg.objs.filter fun o => !joinedWith d part o
  let parts := s.station.parts.filter fun q => !joinedWith d part q.part.obj
  if gone.length < 2 then s
  else match live, closed with
  | o :: t, _ =>
    let m := (t ++ closed.map fun (q : StationPart) => ({ q.part.obj with last := [], cur := [] } : SegObj)).foldl mergeObjs o
    follow m.entry { s with seg := { s.seg with objs := objs ++ [m] }, station := { s.station with parts := parts } }
  | [], q :: t =>
    let m := t.foldl mergeParts q
    follow m.part.obj.entry { s with station := { s.station with parts := parts ++ [m] } }
  | [], [] => s

/-! ### Joins (13 R312, R313) -/

/-- The own edge pixel of a row and a row received for it or for an adjacent row are joined when both are foreground;
a received EMPTY row marks the part INCOMPLETE (13 R313). -/
def joinRows (d : Fin 2) (own : OwnRow) (r : EllRow) (same : Bool) (s : State) : State :=
  if own.cls = 0 then s
  else if r.empty then onObject own.entry own.row (fun o => { o with incomplete := true }) s
  else if r.cls = 0 then s
  else
    let j : EllJoin := { part := r.part, keyPos := BitVec.ofInt 64 r.firstPos, keyCol := r.firstCol
                         pairs := if same then 1 else 0, row := own.row, lo := r.pos, hi := r.pos }
    unify d r.part (onObject own.entry own.row (fun o => setJoins d (addJoin (joinsOf o d) j) o) s)

/-- A received row is paired with own row `k`: the joins with own rows k − 1, k and k + 1 (13 R313). -/
def joinPaired (d : Fin 2) (k : Nat) (r : EllRow) (s : State) : State :=
  forEach (if k = 0 then [0, 1] else [k - 1, k, k + 1]) (fun n t =>
    match (t.station.side[d]).rows.find? fun o => o.row == n with
    | some o => joinRows d o r (n == k) t
    | none => t) s

/-! ### Hand-over (13 R315, R316; 09 R223) -/

/-- The deadline keys of an object whose closure is detected now (09 R223). -/
def deadlineKeys (s : State) (y : Policy) (closePos : Pos64) : Ts32 × Option Pos64 :=
  if y.posMode then
    (s.ts0 + BitVec.ofNat 32 (1000 * y.maxWaitUs), some (closePos + BitVec.ofNat 64 y.deadlineCounts))
  else (s.ts0 + BitVec.ofNat 32 (1000 * y.deadlineUs), none)

/-- A closed object with its final values waits for the finaliser, or is discarded below MIN_AREA (07 R170). -/
def queueClosed (c : ClosedObj) (s : State) : State :=
  let b := finalBody s c
  let y := s.eng.policy[idxMod 15 (((classOrder b.classArea).head?.map (·.1)).getD 0)]
  let k := deadlineKeys s y c.closePos
  if b.area < s.seg.minArea then { s with seg := { s.seg with smallDropped := satInc 32 s.seg.smallDropped } }
  else { s with seg := { s.seg with waiting := s.seg.waiting ++ [{ c with timeKey := k.1, posKey := k.2, pol := y, closeNow := s.now }] } }

/-- The own union row of a received position: the recorded pair; where there is none the spec gives no paired-row offset, and
the row is a free value. -/
def rowOfPos (d : Fin 2) (pos : Int) (s : State) : Nat × State :=
  match pairedRow s d pos with
  | some r => (r, s)
  | none => (s.freeVal freeInterval, s.drawn)

/-- The merge rule of Table 13.4; the first rows are given as own union rows, and `pairs` joined same-row pixels
reduce the perimeter. -/
def mergeBodies (a b : PartBody) (rowA rowB pairs : Nat) : PartBody :=
  let base := min rowA rowB
  { firstPos := min a.firstPos b.firstPos, lastPos := max a.lastPos b.lastPos, firstCol := min a.firstCol b.firstCol
    colMin := min a.colMin b.colMin, colMax := max a.colMax b.colMax
    firstTs := if tsDiff b.firstTs a.firstTs < 0 then b.firstTs else a.firstTs
    closeTs := if 0 < tsDiff b.closeTs a.closeTs then b.closeTs else a.closeTs
    area := a.area + b.area, sumCol := a.sumCol + b.sumCol
    sumRow := a.sumRow + a.area * (rowA - base) + b.sumRow + b.area * (rowB - base)
    perimeter := a.perimeter + b.perimeter - 2 * pairs, runs := a.runs + b.runs
    sums := zipNat (· + ·) 4 a.sums b.sums, mins := zipNat min 4 a.mins b.mins, maxs := zipNat max 4 a.maxs b.maxs
    classArea := zipNat (· + ·) 15 a.classArea b.classArea
    incomplete := a.incomplete || b.incomplete, seamCam := a.seamCam || b.seamCam
    shortBolt := a.shortBolt || b.shortBolt, coarse := a.coarse || b.coarse }

/-- One received PART is merged into a closed part (13 Table 13.4). -/
def mergePartIn (c : ClosedObj) (x : PartIn) (s : State) : ClosedObj × State :=
  let d := sideOf x.left
  let rows := c.rows
  let (row, s) := rowOfPos d x.body.firstPos s
  let (last, s) := rowOfPos d x.body.lastPos s
  ({ c with merged := some (mergeBodies (finalBody s c) x.body rows.1 row x.pairs), seamDev := true
            mergedParts := c.mergedParts ++ [(x.left, x.part)], span := some (min rows.1 row, max rows.2 last) }, s)

/-- A part with every PART that was received for it merged. -/
def gather (c : ClosedObj) (s : State) : ClosedObj × State :=
  c.obj.got.foldl (fun p x => mergePartIn p.1 x p.2) (c, s)

/-- Mark the paired rows of a side as come. -/
def StationPart.setRow (q : StationPart) (d : Fin 2) : StationPart :=
  if d = 0 then { q with rowLeft := true } else { q with rowRight := true }

/-- The paired rows that a part awaits on a side have come, or are no longer awaited. -/
def StationPart.rowDone (q : StationPart) (d : Fin 2) : Bool := if d = 0 then q.rowLeft else q.rowRight

/-- Remove the waiting part of entry `e`. -/
def dropPart (e : Nat) (s : State) : State :=
  { s with station := { s.station with parts := s.station.parts.filter fun q => q.part.obj.entry != e } }

/-- A part alone: SEAM_DEV and INCOMPLETE under the own identifier (13 R321, R322). -/
def aloneMarks (c : ClosedObj) : ClosedObj :=
  { c with seamDev := true, obj := { c.obj with incomplete := true }
           merged := c.merged.map fun b => { b with incomplete := true } }

/-- A joined object is handed over to feature finalisation, the received parts merged and counted (13 R315). -/
def handOver (q : StationPart) (s : State) : State :=
  let t := s.now - q.part.closeNow
  let got := q.part.obj.got
  let s := forEach got (fun x u => u.setSide (sideOf x.left) fun k =>
    { k with merged := satInc 32 k.merged, mergeMax := max k.mergeMax (min t (2 ^ 32 - 1)) }) s
  let (c, s) := gather (if q.part.obj.alone then aloneMarks q.part else q.part) s
  queueClosed c (dropPart q.part.obj.entry s)

/-- A part that does not own the object is forwarded to a side, with the parts merged into it (13 R315, R316): OWNER_PART is
the PART_ID last received from there. -/
def forwardPart (d : Fin 2) (q : StationPart) (s : State) : State :=
  let o := q.part.obj
  let (c, s) := gather q.part s
  let b := finalBody s c
  let live := (joinsOf o d).filter fun j => !j.got
  let owner := (live.foldl (fun (m : Option EllJoin) j => match m with
    | some x => if x.row ≤ j.row then some j else m
    | none => some j) none).map (·.part)
  let s := ellSend d 3 (partBytes { b with ownerPart := owner.getD 0 }) (dropPart o.entry s)
  let s := s.setSide d fun k => { k with forwarded := satInc 32 k.forwarded }
  let f : Forwarded := { part := o.entry, ids := o.ids, left := d == 0, colMin := o.colMin, colMax := o.colMax, sentAt := s.now
                         cls := ((classOrder b.classArea).head?.map (·.1)).getD 0
                         tsClose := b.closeTs, tsFirst := b.firstTs, firstPos := b.firstPos
                         posLength := ((b.lastPos - b.firstPos) % 2 ^ 32).toNat, parts := c.mergedParts }
  { s with station := { s.station with forwarded := s.station.forwarded ++ [f] } }

/-- The joins of an object whose PART has not come, with their sides. -/
def openJoins (o : SegObj) : List (Fin 2 × EllJoin) :=
  (List.finRange 2).flatMap fun d => ((joinsOf o d).filter fun j => !j.got).map fun j => (d, j)

/-- The lower of two keys with their sides. -/
def lowerSide (m : Option (Fin 2 × PartKey)) (x : Fin 2 × PartKey) : Option (Fin 2 × PartKey) :=
  match m with
  | some y => if keyLower x.2 y.2 then some x else m
  | none => some x

/-- The side to which a joined part that does not own the object forwards: the one with the lowest key (13 R316). -/
def ownerSide (s : State) (o : SegObj) : Option (Fin 2) :=
  let keys := (openJoins o).map fun x => (x.1, sideKey s x.1 x.2)
  ((keys.filter fun x => keyLower x.2 (ownKey s o)).foldl lowerSide none).map (·.1)

/-- A waiting part whose rows have all come is merged and handed over, or forwarded, as soon as the PART messages it needs
are there (13 R315, R316). One that its own device finalises is not forwarded; it merges what the neighbours that it owns
forward (13 R321). -/
def settlePart (e : Nat) (s : State) : State :=
  match s.station.parts.find? (fun q => q.part.obj.entry == e) with
  | none => s
  | some q =>
    let o := q.part.obj
    let waits := openJoins o
    if !(List.finRange 2).all q.rowDone then s
    else if o.alone then
      if waits.any fun x => keyLower (ownKey s o) (sideKey s x.1 x.2) then s else handOver q s
    else match ownerSide s o with
    | none => if waits.isEmpty then handOver q s else s
    | some d => if waits.all fun x => x.1 == d then forwardPart d q s else s

/-- Settle every waiting part that can be. -/
def settleParts (s : State) : State := forEach (s.station.parts.map fun q => q.part.obj.entry) settlePart s

/-- Has the row that a part awaits on a side come: the one paired with the own row after its last row, or, when a pixel
of that one is joined to the part, the next (13 R315)? -/
def awaitedRow (s : State) (d : Fin 2) (o : SegObj) : Bool :=
  let rows := (s.station.side[d]).rows
  let paired := fun (k : Nat) => (rows.find? fun r => r.row == k).bind (·.paired)
  let lastEdge := rows.any fun r => r.row == o.lastRow && r.cls != 0 && r.entry == o.entry
  match paired (o.lastRow + 1) with
  | none => false
  | some r => if lastEdge && r.cls != 0 then (paired (o.lastRow + 2)).isSome else true

/-- After rows or pairings have come: mark the rows that waiting parts need, then settle. -/
def reviewParts (s : State) : State :=
  let mark := fun (d : Fin 2) (t : State) (q : StationPart) =>
    if q.rowDone d || awaitedRow t d q.part.obj then q.setRow d else q
  let s := forEach (List.finRange 2) (fun d t =>
    { t with station := { t.station with parts := t.station.parts.map (mark d t) } }) s
  settleParts s

/-- An object closes: one that touches an enabled side waits for the exchange on the sides that are UP; one that touched a
side not UP is finalised by this device (13 R315, R321; 07 R171). -/
def closePart (c : ClosedObj) (s : State) : State :=
  let sides := (List.finRange 2).filter fun d => touchesSide s d c.obj
  let alone := c.obj.alone || sides.any fun d => !sideUp s d
  let o := forEach (sides.filter fun d => !sideUp s d) (fun d o => setJoins d [] o) { c.obj with alone := alone }
  let waits := fun (d : Fin 2) => sides.contains d && sideUp s d
  if sides.isEmpty then queueClosed c s
  else
    let q : StationPart := { part := { c with obj := o }, rowLeft := !waits 0, rowRight := !waits 1 }
    settleParts { s with station := { s.station with parts := s.station.parts ++ [q] } }

/-- A side leaves UP: the parts that touch it are finalised by this device and no longer wait for it (13 R321). -/
def sideDown (d : Fin 2) (s : State) : State :=
  let touches := fun (o : SegObj) => if d = 0 then o.edgeLeft else o.edgeRight
  let s := onParts (fun o => if touches o then setJoins d [] { o with alone := true } else o) s
  settleParts { s with station := { s.station with
    parts := s.station.parts.map fun q => if touches q.part.obj then q.setRow d else q } }

/-! ### Messages (13 R311) -/

/-- A datagram arrives on a side: a bad one, or one of a TYPE that the exchange does not have, counts in RX_DROP of the port; a
good one of type `typ` counts, a gap in SEQ is counted, and its body is handed on (13 R311). -/
def ellAccept (d : Fin 2) (typ : Nat) (m : EllDatagram) (k : List Byte → State → State) (s : State) : State :=
  let e := s.station.side[d]
  let bad := !m.checksumOk || !e.enable || le16 m.bytes 0 != 0x4C45 || byteAt m.bytes 6 != s.station.stationId
    || m.from_ != e.ip || !([1, 2, 3, 4].contains (byteAt m.bytes 3))
  if !(s.net.port[sidePort d]).up ∨ (!bad ∧ byteAt m.bytes 3 ≠ typ) then s
  else
    let s := s.setEth (sidePort d) fun p => { p with rxFrames := p.rxFrames + 1 }
    if bad then s.setEth (sidePort d) fun p => { p with rxDrop := p.rxDrop + 1 }
    else
      let n := le32 m.bytes 8
      let gap := match e.seqRx with
        | none => false
        | some x => n != modInc 32 x
      k (m.bytes.drop 24) (s.setSide d fun e =>
        { e with rxMessages := satInc 32 e.rxMessages, seqRx := some n
                 seqGap := if gap then satInc 32 e.seqGap else e.seqGap })

/-- Do the values of a HELLO meet the wiring rules (13 R308, R321)? -/
def helloFits (s : State) (d : Fin 2) (m : EllDatagram) (body : List Byte) : Bool :=
  let k := s.station
  let index := byteAt m.bytes 7
  let base := le32 body 0
  let width := le32 body 4
  le16 m.bytes 4 % 4096 != k.plantDevice
    && (if d = 0 then index + 1 == k.index && base + width == k.colBase
        else index == k.index + 1 && base == k.colBase + s.stitch.webWidth)

/-- The state of a side after a HELLO (13 R321). -/
def helloState (fits : Bool) (st : SideState) : SideState :=
  if !fits then (if st = .off then .off else .mismatch)
  else match st with
  | .hello => .up
  | .lost | .mismatch => .hello
  | x => x

/-- ELL_HELLO_RX (13 R321). -/
def execEllHelloRx (d : Fin 2) (m : EllDatagram) (s : State) : Host.Outcome State Fault Refusal :=
  .next (ellAccept d 1 m (fun body s =>
    let old := (s.station.side[d]).state
    let new := helloState (helloFits s d m body) old
    let s := s.setSide d fun e => { e with state := new }
    if new = .mismatch ∧ old ≠ .mismatch then
      let s := s.report { group := 20, cls := .squall, inst := d.val, cause := 0 }
      if old = .up then sideDown d s else s
    else s) s)

/-- A ROWS body as received (13 Table 13.3). -/
def rowOf (bs : List Byte) : EllRow :=
  { pos := signed 64 (le64 bs 0), cls := byteAt bs 8, empty := (byteAt bs 9).testBit 0
    coarse := (byteAt bs 9).testBit 1, part := le16 bs 10, firstCol := le32 bs 12, firstPos := signed 64 (le64 bs 16) }

/-- The side key of every part joined to the sender's part follows the latest ROWS for it (13 R316). -/
def refreshKeys (d : Fin 2) (r : EllRow) (s : State) : State :=
  let f := fun (j : EllJoin) =>
    if j.part = r.part ∧ !j.got then { j with keyPos := BitVec.ofInt 64 r.firstPos, keyCol := r.firstCol } else j
  if r.cls = 0 then s else onParts (fun o => setJoins d ((joinsOf o d).map f) o) s

/-- ELL_ROWS_RX: the row pairs with the earliest unpaired own row within ROW_TOL, and pixels join (13 R312, R313); on a side
not UP its edge pixel counts as background (13 R321). -/
def execEllRowsRx (d : Fin 2) (m : EllDatagram) (s : State) : Host.Outcome State Fault Refusal :=
  .next (ellAccept d 2 m (fun body s =>
    let r := rowOf body
    let r := if sideUp s d then r else { r with cls := 0, empty := false }
    match (s.station.side[d]).rows.find? fun o =>
        o.paired.isNone && decide ((o.pos - r.pos).natAbs ≤ s.station.rowTol) with
    | none => s.setSide d fun e => { e with lateRows := satInc 32 e.lateRows }
    | some o =>
      let s := s.setSide d fun e =>
        { e with rows := e.rows.map fun x => if x.row = o.row then { x with paired := some r } else x }
      reviewParts (joinPaired d o.row r (refreshKeys d r s))) s)

/-- Does a PART fit a join: its PART has not come and the joined rows lie within its rows? A PART does not name itself, and
is known by its rows (DESIGN CHOICE). -/
def partFits (b : PartBody) (j : EllJoin) : Bool :=
  !j.got && decide (min b.firstPos b.lastPos ≤ j.lo ∧ j.hi ≤ max b.firstPos b.lastPos)

/-- Is a PART meant for an object: it names one of its entries and fits a join of it? -/
def partMeant (d : Fin 2) (b : PartBody) (o : SegObj) : Bool :=
  (o.entry :: o.ids).contains b.ownerPart && (joinsOf o d).any (partFits b)

/-- An object takes a PART: the joins that it fits have theirs, and the latest PART_ID among them names it. -/
def takePart (d : Fin 2) (b : PartBody) (o : SegObj) : SegObj :=
  let fit := (joinsOf o d).filter (partFits b)
  let last := fit.foldl (fun (m : Nat × Nat) j => if m.1 ≤ j.row then (j.row, j.part) else m) (0, 0)
  let o := setJoins d ((joinsOf o d).map fun j => if partFits b j then { j with got := true } else j) o
  { o with got := o.got ++ [{ left := d == 0, part := last.2, pairs := (fit.map (·.pairs)).sum, body := b }] }

/-- ELL_PART_RX: a forwarded part is kept for the own part it names, or counts in LATE_PART (13 R315, R322). -/
def execEllPartRx (d : Fin 2) (m : EllDatagram) (s : State) : Host.Outcome State Fault Refusal :=
  .next (ellAccept d 3 m (fun body s =>
    let b := partOf body
    if s.seg.objs.any (partMeant d b) || s.station.parts.any (fun q => partMeant d b q.part.obj) then
      settleParts (onParts (fun o => if partMeant d b o then takePart d b o else o) s)
    else s.setSide d fun e => { e with latePart := satInc 32 e.latePart }) s)

/-- A forwarded part takes its verdict: a command for its own columns enters the scheduler (13 R320). -/
def partCommand (f : Forwarded) (cls verdict : Nat) (tsClose tsFirst : Ts32) (firstPos : Int) (len : Nat)
    (s : State) : State :=
  let (cmd, s) := mapCommand { cls := cls, colMin := f.colMin, colMax := f.colMax, tsClose := tsClose, tsFirst := tsFirst
                               firstPos := BitVec.ofInt 64 (firstPos - s.station.posOffset), posLength := len } s
  ejSend cmd verdict false s

/-- ELL_VERDICT_RX: the verdict of a forwarded part; it is passed on to the parts merged into it (13 R319, R320). -/
def execEllVerdictRx (d : Fin 2) (m : EllDatagram) (s : State) : Host.Outcome State Fault Refusal :=
  .next (ellAccept d 4 m (fun b s =>
    let sent := fun (f : Forwarded) => f.left == (d == 0) && (f.part == le16 b 8 || f.ids.contains (le16 b 8))
    match s.station.forwarded.find? sent with
    | none => s
    | some f =>
      let s := { s with station := { s.station with forwarded := s.station.forwarded.erase f } }
      let s := forEach f.parts (fun p t =>
        ellSend (sideOf p.1) 4 (slice b 0 8 ++ bytesOf 2 p.2 ++ slice b 10 22) t) s
      partCommand f (byteAt b 11) (byteAt b 10) (BitVec.ofNat 32 (le32 b 12)) (BitVec.ofNat 32 (le32 b 16))
        (signed 64 (le64 b 20)) (le32 b 28) s) s)

/-! ### Timers (13 R311, R321, R322) -/

/-- ELL_HELLO_TIMER: a HELLO leaves on an enabled side, every 1 ms (13 R311, Table 13.2). -/
def execEllHelloTimer (d : Fin 2) (s : State) : Host.Outcome State Fault Refusal :=
  if (s.station.side[d]).enable then
    .next (ellSend d 1 (bytesOf 4 s.station.colBase ++ bytesOf 4 s.stitch.webWidth ++ bytesOf 4 s.station.rowTol
      ++ bytesOf 4 s.station.lossUs) s)
  else .next s

/-- ELL_LOSS_TIMEOUT: LOSS_US without a message moves UP to LOST (13 R321). A message of the same management cycle is still
used, so the change follows at the end of the tick (13 R322, `sideLost`). -/
def execEllLossTimeout (d : Fin 2) (s : State) : Host.Outcome State Fault Refusal :=
  .next (if sideUp s d then s.setSide d fun e => { e with lossDue := true } else s)

/-- A due change to LOST is made: LOSSES and the report, and the parts that touch the side are this device's (13 R321). -/
def sideLost (d : Fin 2) (s : State) : State :=
  let due := (s.station.side[d]).lossDue && sideUp s d
  let s := s.setSide d fun e => { e with lossDue := false }
  if due then
    let s := s.setSide d fun e => { e with state := .lost, losses := satInc 32 e.losses }
    sideDown d (s.report { group := 20, cls := .squall, inst := d.val, cause := 0 })
  else s

/-- ELL_MERGE_TIMEOUT: the row or part that part `e` awaits has not come within MERGE_TIMEOUT_US; the part is finalised
alone, with what has been merged into it (13 R322). -/
def execEllMergeTimeout (d : Fin 2) (e : Fin 16384) (s : State) : Host.Outcome State Fault Refusal :=
  match s.station.parts.find? (fun q => q.part.obj.entry == e.val) with
  | none => .next s
  | some q =>
    let waitsPart := (openJoins q.part.obj).any fun x => x.1 == d
    if !q.rowDone d ∨ waitsPart then
      let s := if q.rowDone d then s else s.setSide d fun x => { x with lateRows := satInc 32 x.lateRows }
      .next (handOver { q with part := { q.part with obj := { q.part.obj with alone := true } } } s)
    else .next s

/-- ELL_VERDICT_TIMEOUT: no VERDICT within VERDICT_WAIT_US; SEAM_FALLBACK applies (13 R322). -/
def execEllVerdictTimeout (d : Fin 2) (e : Fin 16384) (s : State) : Host.Outcome State Fault Refusal :=
  match s.station.forwarded.find? fun f => f.left == (d == 0) && f.part == e.val with
  | none => .next s
  | some f =>
    let s := { s with station := { s.station with forwarded := s.station.forwarded.erase f } }
    let s := s.setSide d fun x => { x with verdictMissed := satInc 32 x.verdictMissed }
    .next (partCommand f f.cls s.station.fallback f.tsClose f.tsFirst f.firstPos f.posLength s)

/-! ### Registers (13 R324) -/

/-- STATE code of a side (13 Table 13.7). -/
def SideState.code : SideState → Nat
  | .off => 0 | .hello => 1 | .up => 2 | .lost => 3 | .mismatch => 4

/-- The words of a side block (13 Table 13.7). -/
def sideWords (e : EllSide) : List Word :=
  [w32 e.state.code, w32 e.rxMessages, w32 e.seqGap, w32 e.lateRows, w32 e.latePart, w32 e.forwarded, w32 e.merged,
    w32 e.verdictMissed, w32 e.losses, w32 e.mergeMax]

/-- A word of the `ELL_` window. -/
def ellRead (off : Nat) (s : State) : Word :=
  if h : off / 0x40 < 2 then (sideWords s.station.side[(⟨off / 0x40, h⟩ : Fin 2)])[off % 0x40 / 4]?.getD 0 else 0

/-- A write to a word of the `ELL_` window: 0 clears a count (08 R199). -/
def ellWrite (off : Nat) (v : Word) (s : State) : State :=
  if h : off / 0x40 < 2 then
    s.setSide ⟨off / 0x40, h⟩ fun e => match off % 0x40 / 4 with
      | 1 => { e with rxMessages := countWrite e.rxMessages v }
      | 2 => { e with seqGap := countWrite e.seqGap v }
      | 3 => { e with lateRows := countWrite e.lateRows v }
      | 4 => { e with latePart := countWrite e.latePart v }
      | 5 => { e with forwarded := countWrite e.forwarded v }
      | 6 => { e with merged := countWrite e.merged v }
      | 7 => { e with verdictMissed := countWrite e.verdictMissed v }
      | 8 => { e with losses := countWrite e.losses v }
      | 9 => { e with mergeMax := countWrite e.mergeMax v }
      | _ => e
  else s

end Sys2Proof.Machine
end

