-- ==== Sys2Proof/Machine/Segment.lean ====
section
/-! DEFINITION. The segmenter: runs, components, features in progress and closure (07 R163 to R171). -/

namespace Sys2Proof.Machine

/-! ### The columns of a union row (07 R153, R156, R157, R168) -/

/-- A column of a segment: none is an empty column, else class and values of slots 0 to 3. -/
abbrev Cell := Option (Nat × List Nat)

/-- The line that a pipe gives to the union row: a dropped one is an empty line (07 R161, R168). -/
def RowSlot.line (x : RowSlot) : Option StLine := x.union.filter fun l => !l.tag.drop

/-- The columns of a member's segment in a union row. -/
structure SegRow where
  pipe : Fin 12
  lo : Nat
  cells : List Cell
  deriving DecidableEq, Repr

/-- The members by their first column. -/
def membersByColumn (k : StitchBlock) : List (Fin 12) :=
  sortBy (fun a b => decide ((k.cam[a]).cLo ≤ (k.cam[b]).cLo)) ((List.finRange 12).filter fun p => k.members.testBit p.val)

/-- The neighbour on the right, left of a member (07 R156). -/
def rightOf (k : StitchBlock) (p : Fin 12) : Option (Fin 12) :=
  (membersByColumn k).find? fun b => (k.cam[b]).cLo == (k.cam[p]).cHi + 1

/-- The neighbour on the left of a member (07 R156). -/
def leftOf (k : StitchBlock) (p : Fin 12) : Option (Fin 12) :=
  (membersByColumn k).find? fun a => (k.cam[a]).cHi + 1 == (k.cam[p]).cLo

/-- What a line holds for a column: in its own range or in a band that it can supply. -/
def lineColumn (lo : Nat) (l : StLine) (c : Nat) : Cell :=
  if lo ≤ c ∧ c - lo < l.cols.length then l.cols[c - lo]? else (l.band.find? fun x => x.1 == c).map fun x => (x.2.1, x.2.2)

/-- A column of the band of the seam at column `seam`: two lines blend, one alone gives class and values (07 R156,
R157). -/
def blendColumn (k : StitchBlock) (a b : Fin 12) (la lb : Option StLine) (c : Nat) : Cell :=
  let w := (k.cam[a]).blendW
  let seam := (k.cam[b]).cLo
  let j := c - (seam - w / 2)
  let va := la.bind fun l => lineColumn (k.cam[a]).cLo l c
  let vb := lb.bind fun l => lineColumn seam l c
  match va, vb with
  | some x, some y =>
    some (if c < seam then x.1 else y.1,
      zipNat (fun p q => (p * (2 * w - 2 * j - 1) + q * (2 * j + 1) + w) / (2 * w)) 4 x.2 y.2)
  | some x, none => some x
  | none, y => y

/-- Is column `c` in the blend band on the right of member `a`? -/
def inBand (k : StitchBlock) (a : Fin 12) (c : Nat) : Bool :=
  let m := k.cam[a]
  m.blend && decide (m.cHi + 1 ≤ c + m.blendW / 2 ∧ c < m.cHi + 1 + m.blendW / 2)

/-- One column of a member's segment. -/
def rowCell (k : StitchBlock) (row : InputRow) (p : Fin 12) (c : Nat) : Cell :=
  let line := fun (q : Fin 12) => (row.slots[q]).line
  let own := (line p).bind fun l => lineColumn (k.cam[p]).cLo l c
  match rightOf k p, leftOf k p with
  | some b, some a =>
    if inBand k p c then blendColumn k p b (line p) (line b) c
    else if inBand k a c then blendColumn k a p (line a) (line p) c else own
  | some b, none => if inBand k p c then blendColumn k p b (line p) (line b) c else own
  | none, some a => if inBand k a c then blendColumn k a p (line a) (line p) c else own
  | none, none => own

/-- The segments of a union row, left to right. -/
def unionSegments (k : StitchBlock) (row : InputRow) : List SegRow :=
  (membersByColumn k).map fun p =>
    let m := k.cam[p]
    { pipe := p, lo := m.cLo, cells := (List.range (m.cHi + 1 - m.cLo)).map fun i => rowCell k row p (m.cLo + i) }

/-- Seams of an input row whose band comes from one camera alone, the other one's line being a placeholder (07 R157). -/
def singleBands (k : StitchBlock) (row : InputRow) : Nat :=
  ((membersByColumn k).filter fun a => match rightOf k a with
    | some b => (k.cam[a]).blend && ((row.slots[a]).came != (row.slots[b]).came)
    | none => false).length

/-! ### Runs and intervals (07 R163, R164) -/

/-- Runs from a list of cells: position, run in progress, cells. -/
def runsFrom (seg : Nat) : Nat → Option Run → List Cell → List Run
  | _, r, [] => r.toList
  | c, r, x :: t =>
    let v := x.getD (0, [])
    match r with
    | some q =>
      if v.1 = q.cls then runsFrom seg (c + 1) (some { q with stop := c, values := q.values ++ [v.2] }) t
      else if v.1 = 0 then q :: runsFrom seg (c + 1) none t
      else q :: runsFrom seg (c + 1) (some { start := c, stop := c, cls := v.1, seg := seg, values := [v.2] }) t
    | none =>
      if v.1 = 0 then runsFrom seg (c + 1) none t
      else runsFrom seg (c + 1) (some { start := c, stop := c, cls := v.1, seg := seg, values := [v.2] }) t

/-- The runs of a union row, left to right. -/
def rowRuns (l : List SegRow) : List Run := l.flatMap fun g => runsFrom g.pipe.val g.lo none g.cells

/-- The columns of a union row that are empty, as one-column intervals (07 R168). -/
def emptyColumns (l : List SegRow) : List (Nat × Nat) :=
  l.flatMap fun g => (g.cells.zipIdx.filter fun x => x.1.isNone).map fun x => (g.lo + x.2, g.lo + x.2)

/-- Two intervals touch under 8-connectivity (07 R164). -/
def touch8 (a b : Nat × Nat) : Bool := decide (b.1 ≤ a.2 + 1 ∧ a.1 ≤ b.2 + 1)

/-- Does any interval of one list touch any of the other? -/
def anyTouch (a b : List (Nat × Nat)) : Bool := a.any fun x => b.any (touch8 x)

/-- Columns of a list of intervals. -/
def spanCount (l : List (Nat × Nat)) : Nat := (l.map fun x => x.2 + 1 - x.1).sum

/-- Columns common to two lists of disjoint intervals. -/
def overlapCount (a b : List (Nat × Nat)) : Nat :=
  (a.map fun x => (b.map fun y => min x.2 y.2 + 1 - max x.1 y.1).sum).sum

/-- Columns of a run. -/
def Run.span (r : Run) : Nat × Nat := (r.start, r.stop)

/-- Contiguous pieces of ascending intervals. -/
def pieceCount : List (Nat × Nat) → Nat
  | [] => 0
  | [_] => 1
  | a :: b :: t => (if a.2 + 1 = b.1 then 0 else 1) + pieceCount (b :: t)

/-! ### Objects in progress (07 R164 to R172) -/

/-- A group of runs of row `n` joins an object (07 R164, R172): `last` is what the object held in the row before, whose pixel
edges towards this row are in its perimeter already (`liftObj`). -/
def addRuns (k : StitchBlock) (row : InputRow) (n : Nat) (tag : RowTag) (runs : List Run) (o : SegObj) : SegObj :=
  let spans := runs.map Run.span
  let px := spanCount spans
  let cols := runs.flatMap fun r => (List.range (r.stop + 1 - r.start)).map fun i => r.start + i
  let values := runs.flatMap (·.values)
  let slot := fun (i : Nat) => values.map fun v => v[i]?.getD 0
  let area := fun (c : Nat) => ((runs.filter fun r => r.cls == c).map fun r => r.stop + 1 - r.start).sum
  let giver := fun (p : Fin 12) (c : Nat) =>
    if (row.slots[p]).line.isSome then some p else if inBand k p c then rightOf k p else leftOf k p
  let lineBolts := fun (r : Run) => match idx? 12 r.seg with
    | none => []
    | some p => (List.range (r.stop + 1 - r.start)).filterMap fun i => (giver p (r.start + i)).bind fun q =>
      (row.slots[q]).line.map fun l => (q.val, l.bolt)
  let seam := runs.any fun r => match idx? 12 r.seg with
    | none => false
    | some p => ((rightOf k p).isSome && r.stop == (k.cam[p]).cHi) || ((leftOf k p).isSome && r.start == (k.cam[p]).cLo)
  { o with
    classArea := (List.range 16).map fun c => o.classArea[c]?.getD 0 + area c
    lastRow := n
    colMin := (cols.foldl min o.colMin), colMax := (cols.foldl max o.colMax)
    sumCol := o.sumCol + cols.sum, sumRow := o.sumRow + px * n
    perimeter := o.perimeter + 2 * pieceCount spans + px - 2 * overlapCount spans o.last
    runCount := o.runCount + runs.length
    segments := runs.foldl (fun m r => m ||| 2 ^ r.seg) o.segments
    sums := (List.range 4).map fun i => o.sums[i]?.getD 0 + (slot i).sum
    mins := (List.range 4).map fun i => (slot i).foldl min (o.mins[i]?.getD 0xFFFF)
    maxs := (List.range 4).map fun i => (slot i).foldl max (o.maxs[i]?.getD 0)
    lastTag := tag
    seamUnit := o.seamUnit || seam
    bolts := (runs.flatMap lineBolts).foldl (fun l b => if l.contains b then l else l ++ [b]) o.bolts
    cur := o.cur ++ spans
    edgeLeft := o.edgeLeft || cols.contains 0, edgeRight := o.edgeRight || cols.contains (k.webWidth - 1) }

/-- A new object opens with the runs of a row. -/
def openObject (k : StitchBlock) (row : InputRow) (n : Nat) (tag : RowTag) (runs : List Run) (entry : Nat) : SegObj :=
  let c := (runs.head?.map (·.start)).getD 0
  addRuns k row n tag runs { firstRow := n, colMin := c, colMax := c, firstTag := tag, entry := entry, firstCol := c }

/-- An object at the start of a row: the pixel edges below its last row count until a pixel below takes them back. -/
def liftObj (o : SegObj) : SegObj := { o with perimeter := o.perimeter + spanCount o.last, cur := [] }

/-- An object at the end of row `n`: its runs of that row are its last ones. -/
def endObj (n : Nat) (o : SegObj) : SegObj := if o.lastRow = n then { o with last := o.cur, cur := [] } else o

/-- What a row looks like to the objects. -/
structure RowView where
  n : Nat
  tag : RowTag
  row : InputRow
  /-- empty columns of this row -/
  empties : List (Nat × Nat)

/-- The lowest free object table entry (07 R166: 16,384 entries). -/
def freeEntry (s : State) : Option Nat :=
  let used := entriesUsed s
  (List.range 16384).find? fun e => !used.contains e

/-- Is an object with these pixels INCOMPLETE through its neighbours: untracked runs and empty columns of the row
before, or empty columns of this row (07 R166, R168)? -/
def badNeighbours (s : State) (v : RowView) (spans : List (Nat × Nat)) : Bool :=
  anyTouch spans s.seg.untracked || anyTouch spans s.seg.emptyCols || anyTouch spans v.empties

/-- Runs that follow each other directly, whatever their classes (07 R164). -/
def runGroups (runs : List Run) : List (List Run) := runs.splitBy fun a b => a.stop + 1 == b.start

/-- One group of runs joins the objects that it touches, which merge at once, opens a new object, or stays untracked; the
entries of `forced` are the objects that close under MAX_ROWS (07 R164, R166, R169). -/
def takeGroup (v : RowView) (forced : List Nat) (runs : List Run) (s : State) (untracked : List (Nat × Nat)) :
    State × List (Nat × Nat) :=
  let spans := runs.map Run.span
  let split := s.seg.objs.any fun o => forced.contains o.entry && anyTouch o.last spans
  let bad := badNeighbours s v spans || split
  match s.seg.objs.filter fun o => !forced.contains o.entry && anyTouch o.last spans with
  | [] => match freeEntry s with
    | none => ({ s with seg := { s.seg with overflow := satAdd 32 s.seg.overflow runs.length } }, untracked ++ spans)
    | some e =>
      let o := openObject s.stitch v.row v.n v.tag runs e
      let s := { s with seg := { s.seg with objs := s.seg.objs ++ [{ o with incomplete := bad }] } }
      ({ s with seg := { s.seg with openPeak := max s.seg.openPeak (entriesUsed s).length } }, untracked)
  | o :: t =>
    let m := t.foldl mergeObjs o
    let gone := (o :: t).filter fun x => x.entry != m.entry
    let m' := addRuns s.stitch v.row v.n v.tag runs { m with incomplete := m.incomplete || bad }
    let s := { s with seg := { s.seg with
      objs := (s.seg.objs.filter fun x => !((o :: t).map (·.entry)).contains x.entry) ++ [m'] } }
    (forEach gone (fun x u => renameEntry m.entry x.entry u) s, untracked)

/-! ### Closure (07 R167, R169, R170) -/

/-- Does the stitched line have a column `c` in a member's range? -/
def covered (k : StitchBlock) (c : Nat) : Bool :=
  (List.finRange 12).any fun p => k.members.testBit p.val && decide ((k.cam[p]).cLo ≤ c ∧ c ≤ (k.cam[p]).cHi)

/-- Column of the closing pixel (07 R167). -/
def closingColumn (k : StitchBlock) (c1 : Nat) : Nat := if covered k (c1 + 1) then c1 + 1 else c1

/-- An object closes in a row. -/
def closeObject (v : RowView) (o : SegObj) (s : State) : State :=
  let o := { o with incomplete := o.incomplete || anyTouch o.last v.empties }
  let c : ClosedObj := { obj := o, closeTs := v.tag.ts, closeCoarse := v.tag.coarse
                         closeCol := closingColumn s.stitch o.colMax
                         shortBolt := o.bolts.any s.stitch.shortBolts.contains
                         timeKey := 0, posKey := none, closeNow := s.now, closeRow := v.n, closePos := v.tag.pos }
  let s := if o.seamUnit then { s with seg := { s.seg with seamObjects := satInc 32 s.seg.seamObjects } } else s
  closePart c { s with seg := { s.seg with objs := s.seg.objs.filter fun x => x.entry != o.entry } }

/-! ### Edge rows (13 R311 to R313) -/

/-- The edge column of a side. -/
def edgeColumn (k : StitchBlock) (d : Fin 2) : Nat := if d = 0 then 0 else k.webWidth - 1

/-- The lowest key among an object's own part and the parts joined to it on the other side (13 R316). -/
def sentKey (s : State) (d : Fin 2) (o : SegObj) : PartKey :=
  (joinsOf o (1 - d)).foldl (fun k j => if keyLower (sideKey s (1 - d) j) k then sideKey s (1 - d) j else k) (ownKey s o)

/-- A row's edge pixel on an enabled side: the own row is kept, ROWS is sent, and the row joins the received row that is
paired with the row before (13 R311 to R313). A part that touches a side not UP is finalised by this device (13 R321). -/
def edgeRow (v : RowView) (d : Fin 2) (s : State) : State :=
  if !(s.station.side[d]).enable then s
  else
    let c := edgeColumn s.stitch d
    let hit := s.seg.objs.find? fun o => o.lastRow == v.n && o.last.any fun x => decide (x.1 ≤ c ∧ c ≤ x.2)
    let cls := match rowCell s.stitch v.row ((membersByColumn s.stitch).find? (fun p =>
        decide ((s.stitch.cam[p]).cLo ≤ c ∧ c ≤ (s.stitch.cam[p]).cHi)) |>.getD 0) c with
      | some x => if hit.isSome then x.1 else 0
      | none => 0
    let pos := v.tag.pos.toInt + s.station.posOffset
    let key := (hit.map fun o => sentKey s d o).getD { row := none, pos := 0, col := 0 }
    let entry := (hit.map (·.entry)).getD 0
    let s := ellSend d 2 (rowsBody
      { pos := pos, cls := cls, empty := v.empties.contains (c, c), coarse := v.tag.coarse, part := entry
        firstCol := key.col, firstPos := key.pos }) s
    let own : OwnRow := { row := v.n, pos := pos, cls := cls, entry := entry, now := s.now }
    let before := (s.station.side[d]).rows.find? fun r => r.row + 1 == v.n
    let s := if sideUp s d then s else onObject entry v.n (fun o => if cls = 0 then o else { o with alone := true }) s
    let s := s.setSide d fun e => { e with rows := (e.rows ++ [own]).drop (e.rows.length + 1 - 65536) }
    match before.bind (·.paired) with
    | some r => joinRows d own r false s
    | none => s

/-! ### A union row (07 R163 to R170) -/

/-- The groups of the row are taken left to right; a Squall report for untracked runs at most once a row (R166). -/
def takeGroups (v : RowView) (forced : List Nat) (gs : List (List Run)) (s : State) : State :=
  let (s, un) := gs.foldl (fun p g => takeGroup v forced g p.1 p.2) (s, [])
  let s := { s with seg := { s.seg with objs := s.seg.objs.map (endObj v.n), untracked := un, emptyCols := v.empties } }
  if un.isEmpty then s else s.report { group := 6, cls := .squall, cause := 0, valueC := v.n }

/-- Union and closure of one union row (07 R163 to R170). -/
def segmentRow (tag : RowTag) (row : InputRow) (s : State) : State :=
  let segs := unionSegments s.stitch row
  let v : RowView := { n := row.number, tag := tag, row := row, empties := emptyColumns segs }
  let runs := rowRuns segs
  let isForced := fun (o : SegObj) => decide (s.seg.maxRows ≤ o.lastRow + 1 - o.firstRow)
  let forced := (s.seg.objs.filter isForced).map (·.entry)
  let old := s.seg.objs.map (·.entry)
  let spans := runs.map Run.span
  let mark := fun (o : SegObj) => if anyTouch o.last v.empties then { o with incomplete := true } else o
  let s := { s with seg := { s.seg with objs := s.seg.objs.map fun o => liftObj (mark o) } }
  let s := takeGroups v forced (runGroups runs) s
  let s := edgeRow v 1 (edgeRow v 0 s)
  let touched := fun (o : SegObj) => isForced o && anyTouch o.last spans
  let closing := s.seg.objs.filter fun o => old.contains o.entry && o.lastRow != v.n
  let closing := closing.map fun o => if touched o then { o with incomplete := true } else o
  let splits := (closing.filter touched).length
  let s := { s with seg := { s.seg with splits := satAdd 32 s.seg.splits splits } }
  let order := sortBy (fun a b => decide (closingColumn s.stitch a.colMax ≤ closingColumn s.stitch b.colMax)) closing
  reviewParts (forEach order (closeObject v) s)

/-! ### Registers (07 R177) -/

/-- A word of the `SEG_` window (07 Table 7.6). -/
def segRead (off : Nat) (s : State) : Word :=
  match off with
  | 0x00 => w32 ((entriesUsed s).length + s.seg.openPeak * 65536)
  | 0x04 => w32 s.seg.closed
  | 0x08 => w32 s.seg.smallDropped
  | 0x0C => w32 s.seg.splits
  | 0x10 => w32 s.seg.overflow
  | 0x14 => w32 s.seg.incompleteRecords
  | 0x18 => w32 s.seg.finalWaitMax
  | 0x1C => w32 s.seg.seamObjects
  | _ => 0

/-- A write to a word of the `SEG_` window: 0 clears a count (07 R177). -/
def segWrite (off : Nat) (v : Word) (s : State) : State :=
  let set := fun (f : SegBlock → SegBlock) => { s with seg := f s.seg }
  match off with
  | 0x04 => set fun g => { g with closed := countWrite g.closed v }
  | 0x08 => set fun g => { g with smallDropped := countWrite g.smallDropped v }
  | 0x0C => set fun g => { g with splits := countWrite g.splits v }
  | 0x10 => set fun g => { g with overflow := countWrite g.overflow v }
  | 0x14 => set fun g => { g with incompleteRecords := countWrite g.incompleteRecords v }
  | 0x18 => set fun g => { g with finalWaitMax := countWrite g.finalWaitMax v }
  | 0x1C => set fun g => { g with seamObjects := countWrite g.seamObjects v }
  | _ => s

end Sys2Proof.Machine
end

