-- ==== Sys2Proof/Machine/Stitch.lean ====
section
/-! DEFINITION. The stitcher: input rows, column mapping, delay queues and union rows (07 R150 to R162). -/

namespace Sys2Proof.Machine

/-- Change the stitcher. -/
def State.setStitch (s : State) (f : StitchBlock → StitchBlock) : State := { s with stitch := f s.stitch }

/-- Change the delay queue of pipe `p`. -/
def State.setQueue (s : State) (p : Fin 12) (f : DelayQueue → DelayQueue) : State :=
  s.setStitch fun k => { k with queue := upd k.queue p f }

/-- Change the slot of pipe `p` in a row. -/
def InputRow.setSlot (r : InputRow) (p : Fin 12) (f : RowSlot → RowSlot) : InputRow := { r with slots := upd r.slots p f }

/-- Is a pipe a member of the stitch group? -/
def isMember (s : State) (p : Fin 12) : Bool := s.stitch.members.testBit p.val

/-! ### Column mapping (07 R152, R153) -/

/-- The pixel x' whose mapped position is nearest to a column; the lower one at a tie (07 R153). -/
def nearestPixel (m : StitchCam) (c : Nat) : Nat :=
  ((List.range m.linePixels).foldl (fun (b : Nat × Option Nat) x =>
    let d := (stitchU m x - 64 * c).natAbs
    match b.2 with
    | none => (x, some d)
    | some e => if d < e then (x, some d) else b) (0, none)).1

/-- What a pipe line gives to a column: class and the values of slots 0 to 3; a slot without a channel gives 0 (07 R172). -/
def lineAt (m : StitchCam) (l : PipeLine) (c : Nat) : Nat × List Nat :=
  let x := nearestPixel m c
  let px := if m.flip then m.linePixels - 1 - x else x
  (l.classes[px]?.getD 0, (List.range 4).map fun i => if i < l.channels then ((l.values[px]?.getD [])[i]?).getD 0 else 0)

/-- The columns outside the own range that a line can be asked for in a blend band (07 R156). -/
def bandColumns (k : StitchBlock) (p : Fin 12) : List Nat :=
  let m := k.cam[p]
  let right := if m.blend && (rightOf k p).isSome then (List.range (m.blendW / 2)).map fun i => m.cHi + 1 + i else []
  match leftOf k p with
  | none => right
  | some a =>
    let b := k.cam[a]
    if b.blend then ((List.range (b.blendW / 2)).map fun i => m.cLo - b.blendW / 2 + i) ++ right else right

/-- A pipe line in stitched columns. -/
def mapLine (k : StitchBlock) (p : Fin 12) (l : PipeLine) : StLine :=
  let m := k.cam[p]
  { tag := l.tag, bolt := l.bolt
    cols := (List.range (m.cHi + 1 - m.cLo)).map fun i => lineAt m l (m.cLo + i)
    band := (bandColumns k p).map fun c => let v := lineAt m l c; (c, v.1, v.2) }

/-! ### The line-buffer pool (07 R158 to R161) -/

/-- Entries that fit a block: 64 KiB in entries of 48 bytes. -/
def entriesPerBlock : Nat := 1365

/-- Blocks that the live entries from `head` to `tail` lie in. -/
def blocksOf (head tail : Nat) : Nat :=
  if tail ≤ head then 0 else (tail - 1) / entriesPerBlock + 1 - head / entriesPerBlock

/-- Blocks held by the queue of a pipe. -/
def DelayQueue.blocks (q : DelayQueue) : Nat := blocksOf q.head q.tail

/-- Blocks held by Tare and binning (07 R160). -/
def auxBlocks (s : State) : Nat :=
  (s.pipe.toList.map fun p => p.bin.blocks + ((p.tare.run.map (·.blocks.length)).getD 0)).sum

/-- Sum of the members' reserves. -/
def reserveSum (k : StitchBlock) : Nat :=
  ((List.finRange 12).map fun p => if k.members.testBit p.val then (k.cam[p]).reserve else 0).sum

/-- Free blocks of the shared part (07 R160). -/
def sharedFree (s : State) : Nat :=
  let borrowed := ((List.finRange 12).map fun p => (s.stitch.queue[p]).blocks - (s.stitch.cam[p]).reserve).sum
  768 - reserveSum s.stitch - auxBlocks s - borrowed

/-- The bolt of a dropped line is INCOMPLETE, as long as its header has not left (07 R161). -/
def boltIncomplete (p : Fin 12) (n : Nat) (s : State) : State :=
  let f := fun (b : Bolt) => if b.number = n then { b with incomplete := true } else b
  { s with pipe := upd s.pipe p fun x =>
      { x with bolt := x.bolt.map f, fullBolt := x.fullBolt.map f, closed := x.closed.map f
               statsPending := x.statsPending.map fun r => { r with bolt := f r.bolt } } }

/-- The oldest line of a queue leaves when its row is `n`; an empty queue restarts at a block (07 R158). -/
def leaveQueue (p : Fin 12) (n : Nat) (s : State) : Option StLine × State :=
  let q := s.stitch.queue[p]
  match q.lines with
  | [] => (none, s)
  | l :: t =>
    if l.row ≠ n then (none, s)
    else
      let h := q.head + l.entries
      (l.line, s.setQueue p fun q =>
        if h = q.tail then { q with lines := t, head := 0, tail := 0 } else { q with lines := t, head := h })

/-- A line of row `n` enters a queue: one header entry and one entry for each run; a line that finds no block is
dropped: marked LINE_DROP it goes on without entries, as an empty line (07 R158, R161). -/
def enterQueue (p : Fin 12) (n : Nat) (l : StLine) (s : State) : State :=
  let q := s.stitch.queue[p]
  let m := s.stitch.cam[p]
  let entries := 1 + (runsFrom p.val m.cLo none (l.cols.map some)).length
  let need := blocksOf q.head (q.tail + entries)
  let extra := (need - m.reserve) - (q.blocks - m.reserve)
  if extra ≤ sharedFree s then
    s.setQueue p fun q => { q with lines := q.lines ++ [{ row := n, entries := entries, line := some l }]
                                   tail := q.tail + entries, peak := max q.peak need }
  else
    let dropped : StLine := { l with tag := { l.tag with drop := true } }
    let s := s.setQueue p fun q => { q with lines := q.lines ++ [{ row := n, entries := 0, line := some dropped }]
                                            drops := satInc 32 q.drops }
    (boltIncomplete p l.bolt s).report
      { group := 5, cls := .squall, inst := p.val, cause := 0, valueB := l.bolt, valueC := l.tag.number }

/-- The pipe's line of row `n`, or its placeholder, reaches run encoding: with a delay it enters the queue after the
line of row `n` − DELAY has left it (07 R151, R158). -/
def rowContribution (p : Fin 12) (n : Nat) (l : Option StLine) (s : State) : Option StLine × State :=
  let d := (s.stitch.cam[p]).delay
  if d = 0 then (l, s)
  else
    let (u, s) := if d ≤ n then leaveQueue p (n - d) s else (none, s)
    match l with
    | some l => (u, enterQueue p n l s)
    | none => (u, s.setQueue p fun q => { q with lines := q.lines ++ [{ row := n, entries := 0, line := none }] })

/-! ### Input rows (07 R150) -/

/-- A member without a line in the closing row gets a placeholder. -/
def placeholder (p : Fin 12) (r : InputRow) (s : State) : InputRow × State :=
  let (u, s) := rowContribution p r.number none s
  (r.setSlot p fun x => { x with union := u }, s.setStitch fun k => { k with rowMiss := satInc 32 k.rowMiss })

/-- Placeholders for all members that have no line. -/
def placeholders (r : InputRow) (s : State) : InputRow × State :=
  (List.finRange 12).foldl (fun (x : InputRow × State) p =>
    if isMember x.2 p && !(x.1.slots[p]).came then placeholder p x.1 x.2 else x) (r, s)

/-- The open input row closes (07 R150; 14 R333). -/
def closeRow (s : State) : State :=
  match s.stitch.row with
  | none => s
  | some r =>
    let single := singleBands s.stitch r
    let (r, s) := placeholders r s
    let numbers := r.slots.toList.map (·.number)
    s.setStitch fun k => { k with row := none, closed := k.closed ++ [r], blendSingle := satAdd 32 k.blendSingle single
                                  rowMap := ((r.number, numbers) :: k.rowMap).take 65536 }

/-- A line opens an input row. -/
def openRow (p : Fin 12) (l : PipeLine) (s : State) : State :=
  s.setStitch fun k => { k with row := some { number := k.nextRow, opener := l.tag, openerBolt := l.bolt
                                              openerPipe := p.val }, nextRow := modInc 64 k.nextRow }

/-- A line joins the open input row. -/
def joinRow (p : Fin 12) (l : PipeLine) (s : State) : State :=
  match s.stitch.row with
  | none => s
  | some r =>
    let (u, s) := rowContribution p r.number (some (mapLine s.stitch p l)) s
    let r := r.setSlot p fun _ => { came := true, number := some l.tag.number, union := u }
    let r := if p = s.stitch.refPipe then { r with ref := some (l.tag, l.bolt) } else r
    s.setStitch fun k => { k with row := some r }

/-- Does the pipe already have a line in the open row? -/
def hasLine (s : State) (p : Fin 12) : Bool := match s.stitch.row with
  | some r => (r.slots[p]).came
  | none => false

/-- A line of a member arrives at the stitcher (07 R150). -/
def lineArrives (p : Fin 12) (l : PipeLine) (s : State) : State :=
  let s := if hasLine s p then closeRow s else s
  let s := if s.stitch.row.isNone then openRow p l s else s
  joinRow p l s

/-- LINE_AT_STITCHER: the oldest line of a pipe leaves morphology; the lines of other pipes end there (07 R148, R150).
Without SSCLK the stitcher takes none (01 R17). -/
def execLineAtStitcher (p : Fin 12) (s : State) : Host.Outcome State Fault Refusal :=
  match (s.pipe[p]).outLines, s.clockRuns 10 with
  | [], _ | _, false => .next s
  | l :: t, true =>
    let s := { s with pipe := upd s.pipe p fun x => { x with outLines := t } }
    .next (if isMember s p then lineArrives p l s else s)

/-- ROW_WINDOW_END: the ROW_SKEW window of the open input row ends (07 R150). -/
def execRowWindowEnd (s : State) : Host.Outcome State Fault Refusal :=
  .next (if s.clockRuns 10 then closeRow s else s)

/-! ### Union rows (07 R151; 08 R197; 11 R263) -/

/-- The tag of a union row: of REF_PIPE's line, else of the line that opened the row, marked TAG_COARSE (07 R151). -/
def rowTag (r : InputRow) : RowTag :=
  match r.ref with
  | some (t, b) => { pos := t.pos, ts := t.ts, bolt := b, settings := t.settings }
  | none => { pos := r.opener.pos, ts := r.opener.ts, bolt := r.openerBolt, settings := r.opener.settings, coarse := true }

/-- A requested swap of the rule banks takes effect (08 R197). -/
def ruleSwap (s : State) : State :=
  if s.gust.swapPending then
    s.setGust fun g => { g with act := 1 - g.act, swapPending := false, swaps := satInc 32 g.swaps }
  else s

/-- UNION_ROW_START: the first pixel group of the oldest closed row enters component union: requested bank swaps take
effect, and the row is segmented. -/
def execUnionRowStart (s : State) : Host.Outcome State Fault Refusal :=
  match s.stitch.closed, s.clockRuns 10 with
  | [], _ | _, false => .next s
  | r :: t, true =>
    let s := s.setStitch fun k => { k with closed := t, rowNumber := modInc 64 k.rowNumber }
    .next (segmentRow (rowTag r) r (rowMapSwaps (ruleSwap s)))

/-! ### Registers (07 R177) -/

/-- A word of the `STCH_` window (07 Table 7.6). -/
def stchRead (off : Nat) (s : State) : Word :=
  match off with
  | 0x000 => lo64 s.stitch.rowNumber
  | 0x004 => hi64 s.stitch.rowNumber
  | 0x008 => w32 s.stitch.rowMiss
  | 0x00C => w32 s.stitch.blendSingle
  | 0x010 => w32 (sharedFree s)
  | 0x014 => w32 (auxBlocks s)
  | _ =>
    if h : 0x100 ≤ off ∧ (off - 0x100) / 16 < 12 then
      let q := s.stitch.queue[(⟨(off - 0x100) / 16, h.2⟩ : Fin 12)]
      match off % 16 / 4 with
      | 0 => w32 (q.blocks + q.peak * 65536)
      | 1 => w32 q.drops
      | 2 => w32 (q.lines.filter fun l => decide (0 < l.entries)).length
      | _ => 0
    else 0

/-- A write to a word of the `STCH_` window: 0 clears a count (07 R177). -/
def stchWrite (off : Nat) (v : Word) (s : State) : State :=
  match off with
  | 0x008 => s.setStitch fun k => { k with rowMiss := countWrite k.rowMiss v }
  | 0x00C => s.setStitch fun k => { k with blendSingle := countWrite k.blendSingle v }
  | _ =>
    if h : 0x100 ≤ off ∧ (off - 0x100) / 16 < 12 ∧ off % 16 / 4 = 1 then
      s.setQueue ⟨(off - 0x100) / 16, h.2.1⟩ fun q => { q with drops := countWrite q.drops v }
    else s

end Sys2Proof.Machine
end

