-- ==== Sys2Proof/Machine/Binning.lean ====
section
/-! DEFINITION. The binning chain and the strips (06; 04 R105 to R110; 14 R337 to R339). -/

namespace Sys2Proof.Machine

/-- Change pipe `p`. -/
def State.setPipe (s : State) (p : Fin 12) (f : Pipe → Pipe) : State := { s with pipe := upd s.pipe p f }

/-- Change the binning chain of pipe `p`. -/
def State.setBin (s : State) (p : Fin 12) (f : BinChain → BinChain) : State := s.setPipe p fun x => { x with bin := f x.bin }

/-! ### One column-slot (06 R132 to R141) -/

/-- The registers are 36 bits wide and wrap (06 R133). -/
def wrap36 (n : Int) : Nat := (n % 2 ^ 36).toNat

/-- Samples after a restart until the fine path answers (06 R141). -/
def settleSamples (b : BinParams) : Nat := if b.firEn then 10 else if b.ratio = 1 then 1 else 3

/-- Pass-through (06 R142). -/
def BinParams.passThrough (b : BinParams) : Bool := !b.firEn && b.ratio == 1

/-- The boxcar mean (06 R138). -/
def boxcar (l : List Nat) : Nat := (l.sum + l.length / 2) / l.length

/-- A column-slot after a global restart: zero, COARSE until the fine path has settled (06 R139, R141). -/
def freshCell (b : BinParams) : BinCell := { coarse := decide (1 < settleSamples b) }

/-- The fine path of a column-slot restarts (06 Table 6.3). -/
def restartFine (c : BinCell) : BinCell := { box := c.box, coarse := true, lastFine := c.lastFine }

/-- An input line enters a column-slot: integrators, boxcar and step detection; the answer says whether a step was
detected (06 R133, R138, R140). -/
def cellInput (b : BinParams) (first : Bool) (m : Nat) (c : BinCell) : BinCell × Bool :=
  let i1 := (c.i1 + m) % 2 ^ 36
  let i2 := (c.i2 + i1) % 2 ^ 36
  let i3 := (c.i3 + i2) % 2 ^ 36
  let box := (m :: c.box).take 4
  let step := decide (0 < b.stepThr) && !b.passThrough && !first && !c.coarse
    && decide (b.stepThr < ((boxcar box : Int) - c.lastFine).natAbs)
  let c := { c with i1 := i1, i2 := i2, i3 := i3, box := box }
  if step then ({ c with box := [m], coarse := true, restart := true }, true) else (c, false)

/-- The compensation FIR: value and whether it was clamped (06 R135). -/
def firOutput (h : Nat → Int) (taps : List Nat) : Nat × Bool :=
  let r := (((List.range 15).map fun k => h k * ((taps[k]?.getD 0 : Nat) : Int)).sum + 8192).fdiv 16384
  ((clampInt 0 65535 r).toNat, decide (r < 0 ∨ 65535 < r))

/-- What a column-slot gives at an output boundary. -/
structure BinValue where
  value : Nat
  coarse : Bool
  clamped : Bool
  deriving DecidableEq, Repr

/-- An output boundary of a column-slot (06 R133 to R141): `h` gives the coefficients of its slot. -/
def cellOutput (b : BinParams) (h : Nat → Int) (c : BinCell) : BinCell × BinValue :=
  let c1 := wrap36 ((c.i3 : Int) - c.d3)
  let c2 := wrap36 ((c1 : Int) - c.d1)
  let y := wrap36 ((c2 : Int) - c.d2)
  let cube := b.ratio ^ 3
  let u := (y + cube / 2) / cube
  let n := c.since + 1
  let taps := if n = 3 then List.replicate 15 u else (u :: c.taps).take 15
  let (f, clamped) := if b.firEn then firOutput h taps else (u, false)
  let box := boxcar c.box
  let c := { c with d3 := c.i3, d1 := c1, d2 := c2, taps := taps, since := n }
  if c.restart then (restartFine c, { value := box, coarse := true, clamped := clamped })
  else if n < settleSamples b then (c, { value := box, coarse := true, clamped := clamped })
  else ({ c with coarse := false, lastFine := f }, { value := f, coarse := false, clamped := clamped })

/-! ### A line of the chain -/

/-- The slots that the chain processes (06 R130). -/
def binSlots (b : BinParams) (channels : Nat) : List Nat := maskList channels b.slotMask

/-- Coefficient h(k) of a slot (06 Table 6.2). -/
def firCoef (bank : List Byte) (slot k : Nat) : Int := signed 16 (le16 bank (32 * slot + 2 * k))

/-- A delivered output sample: per column, per slot 0 to 7, value and COARSE; slots not processed give none. -/
abbrev BinRow := List (List (Option (Nat × Bool)))

/-- One column-slot's line: its cell, a step, and its output at a boundary. -/
def cellLine (b : BinParams) (first boundary : Bool) (h : Nat → Int) (m : Nat) (c : BinCell) :
    BinCell × Bool × Option BinValue :=
  let (c, step) := cellInput b first m c
  if boundary then let r := cellOutput b h c; (r.1, step, some r.2) else (c, step, none)

/-- Place the outputs of the processed slots among slots 0 to 7. -/
def spreadSlots (slots : List Nat) (outs : List (Option BinValue)) : List (Option (Nat × Bool)) :=
  (List.range 8).map fun k => match slots.findIdx? (· == k) with
    | some i => ((outs[i]?).getD none).map fun v => (v.value, v.coarse)
    | none => none

/-! ### Strips (14 R337) -/

/-- Change the strip unit of pipe `p`. -/
def State.setStrip (s : State) (p : Fin 12) (f : StripUnit → StripUnit) : State :=
  { s with outp := { s.outp with strip := upd s.outp.strip p f } }

/-- Output kind of a strip (14 Table 14.8). -/
def StripKind.out : StripKind → Nat
  | .mv _ => 8 | .coded => 7 | .preview => 9

/-- The COARSE map: one row of bits per row, padded to 8 bytes (14 R337). -/
def coarseMap (rows : List (List Byte × List Bool)) : List Byte :=
  rows.flatMap fun r => padTo 8 (packSamples 1 (r.2.map fun b => if b then 1 else 0))

/-- The payload of a strip (14 Table 14.4); a CODED strip carries its codestream in place of rows. -/
def stripPayload (c : CoderCfg) (p : Fin 12) (t : Strip) : List Byte :=
  let coarse := t.rows.any fun r => r.2.any id
  bytesOf 1 p.val ++ bytesOf 1 t.format ++ bytesOf 1 t.chMask ++ bytesOf 1 (flagAt coarse 0 + flagAt t.newParams 1)
    ++ bytesOf 4 t.width ++ bytesOf 4 t.rows.length ++ bytesOf 4 t.rowBytes ++ bytesOf 8 t.first.number
    ++ bytesOf 8 t.first.pos.toNat ++ bytesOf 4 t.first.ts.toNat ++ bytesOf 4 t.last.ts.toNat ++ bytesOf 8 t.bolt
    ++ (if t.kind = .coded then codedFrame c c.depth t.width (maskList 8 t.chMask).length t.pixels
      else t.rows.flatMap (·.1)) ++ (if coarse then coarseMap t.rows else [])

/-- A strip leaves; a CODED one only when the coder takes it (14 R339). -/
def sendStrip (p : Fin 12) (t : Strip) (s : State) : State :=
  let ring := match t.kind with | .mv r => some r | _ => none
  let put := fun (s : State) => s.item { kind := t.kind.out, source := some p, payload := stripPayload (s.outp.strip[p]).coder p t, ring := ring }
  if t.kind = .coded then
    let r := coderTake t.samples s
    if r.2 then put r.1 else r.1
  else put s

/-- The strip of a kind is sent early, when it holds a row (14 R337). -/
def flushStrip (p : Fin 12) (k : StripKind) (s : State) : State :=
  match (s.outp.strip[p]).strips.find? fun t => t.kind == k with
  | none => s
  | some t => sendStrip p t (s.setStrip p fun u => { u with strips := u.strips.erase t })

/-- What one output sample adds to a strip of a kind: format, mask, width, row bytes, packed row, COARSE bits, samples
and STRIP_ROWS. -/
structure StripRow where
  kind : StripKind
  format : Nat
  chMask : Nat
  width : Nat
  rowBytes : Nat
  row : List Byte
  coarse : List Bool
  samples : Nat
  pixels : List (List Nat)
  stripRows : Nat

/-- Does a pixel carry COARSE in one of some slots? -/
def pixelCoarse (slots : List Nat) (px : List (Option (Nat × Bool))) : Bool :=
  slots.any fun k => match (px[k]?).getD none with | some v => v.2 | none => false

/-- The value of a slot of a delivered pixel. -/
def pixelValue (px : List (Option (Nat × Bool))) (k : Nat) : Nat := (((px[k]?).getD none).map (·.1)).getD 0

/-- A machine-vision or coded row: reduced samples of the slots, packed and padded to 8 bytes (04 R105, R106). -/
def sampleRow (kind : StripKind) (format mask depth rows : Nat) (slots : List Nat) (d : BinRow) : StripRow :=
  let sel := slots.filter mask.testBit
  let px := d.map fun px => sel.map fun k => reduceTo (pixelValue px k) depth
  let vals := px.flatten
  let row := if kind = .coded then [] else padTo 8 (packSamples depth vals)
  { kind := kind, format := format, chMask := (sel.map fun k => 2 ^ k).sum, width := d.length
    rowBytes := row.length, row := row, coarse := d.map (pixelCoarse sel)
    samples := vals.length, pixels := if kind = .coded then px else [], stripRows := rows }

/-- A display row (04 R107, R108): a 4:2:2 pixel is formed by its pair. -/
def previewRow (c : PreviewCfg) (d : BinRow) : StripRow :=
  let src := if c.mono then [c.src[0]?.getD 0] else c.src
  let flat := d.map fun px => (List.range 8).map (pixelValue px)
  let groups := (groupsOf c.xscale d).map fun g => g.any (pixelCoarse src)
  let coarse := if c.format = 3 then (groupsOf 2 groups).flatMap fun g => g.map fun _ => g.any id else groups
  let row := padTo 8 (displayBytes c flat)
  { kind := .preview, format := c.format, chMask := 0, width := ceilDiv d.length c.xscale, rowBytes := row.length
    row := row, coarse := coarse, samples := 0, pixels := [], stripRows := c.stripRows }

/-- One output sample is added to the strip of a kind; a full strip leaves, and one of another shape leaves first. -/
def addStripRow (p : Fin 12) (tag : LineTag) (bolt : Nat) (r : StripRow) (s : State) : State :=
  let same := fun (t : Strip) => t.width == r.width && t.chMask == r.chMask && t.format == r.format
  let s := match (s.outp.strip[p]).strips.find? fun t => t.kind == r.kind with
    | some t => if same t then s else flushStrip p r.kind s
    | none => s
  let u := s.outp.strip[p]
  let s := match u.strips.find? fun t => t.kind == r.kind with
    | some t =>
      let t' := { t with rows := t.rows ++ [(r.row, r.coarse)], last := tag, samples := t.samples + r.samples
                         pixels := t.pixels ++ (if r.pixels.isEmpty then [] else [r.pixels]) }
      s.setStrip p fun u => { u with strips := u.strips.map fun x => if x = t then t' else x }
    | none =>
      let t : Strip := { kind := r.kind, format := r.format, chMask := r.chMask, width := r.width, rowBytes := r.rowBytes
                         rows := [(r.row, r.coarse)], first := tag, last := tag, bolt := bolt
                         newParams := u.fresh.contains r.kind, samples := r.samples
                         pixels := if r.pixels.isEmpty then [] else [r.pixels] }
      s.setStrip p fun u => { u with strips := u.strips ++ [t], fresh := u.fresh.filter (· != r.kind) }
  match (s.outp.strip[p]).strips.find? fun t => t.kind == r.kind with
  | some t => if r.stripRows ≤ t.rows.length then flushStrip p r.kind s else s
  | none => s

/-- An output sample goes to every strip that is on: of each ring that carries MV_STRIP, coded, preview (14 R337). -/
def deliverSample (p : Fin 12) (tag : LineTag) (bolt : Nat) (slots : List Nat) (d : BinRow) (s : State) : State :=
  let u := s.outp.strip[p]
  let s := forEach (List.finRange 16) (fun r t =>
    let g := t.outp.ring[r]
    let m := u.mv[r]
    if g.state == .enabled && g.cfg.kinds.testBit 7 && g.cfg.sources.testBit p.val then
      addStripRow p tag bolt (sampleRow (.mv r) (if m.depth = 12 then 0 else 1) m.chMask m.depth m.stripRows slots d) t
    else t) s
  let s := if u.coder.enable then
      addStripRow p tag bolt (sampleRow .coded 4 u.coder.chMask u.coder.depth u.coder.stripRows slots d) s else s
  if u.preview.enable then addStripRow p tag bolt (previewRow u.preview d) s else s

/-- At a bolt boundary waiting strip settings take effect; their strips end early and the next ones carry NEW_PARAMS
(04 R110, 14 R337). -/
def stripBoundary (p : Fin 12) (s : State) : State :=
  let u := s.outp.strip[p]
  let rings := (List.finRange 16).filter fun r => (u.mvNext[r]).isSome
  let kinds := rings.map StripKind.mv ++ (if u.coderNext.isSome then [.coded] else [])
    ++ (if u.previewNext.isSome then [.preview] else [])
  let s := forEach kinds (flushStrip p) s
  s.setStrip p fun u =>
    { u with coder := u.coderNext.getD u.coder, coderNext := none, preview := u.previewNext.getD u.preview
             previewNext := none
             mv := Vector.ofFn fun (r : Fin 16) => (u.mvNext[r]).getD u.mv[r]
             mvNext := Vector.replicate 16 none
             fresh := (u.fresh.filter fun k => !kinds.contains k) ++ kinds }

/-! ### The chain (06 R130 to R146) -/

/-- The speed entry of an output sample (06 R145, Table 6.5). -/
def speedEntry (p : Fin 12) (tag : LineTag) (d : BinRow) (s : State) : State :=
  let b := (s.pipe[p]).bin
  let win := (d.drop b.params.speedX0).take b.params.speedW
  let bytes := bytesOf 8 tag.number ++ bytesOf 8 tag.pos.toNat ++ bytesOf 4 tag.ts.toNat
    ++ bytesOf 4 ((win.map fun px => pixelValue px b.params.speedSlot).sum)
    ++ bytesOf 2 ((win.filter (pixelCoarse [b.params.speedSlot])).length) ++ zeros 2 ++ bytesOf 4 b.seq
  match idx? 12 b.params.speedCluster with
  | none => s
  | some c => s.store (sharedAddr c (b.params.speedOffset + 32 * (b.seq % 256))) bytes

/-- At a bolt boundary waiting parameters take effect; a change of the chain asks for a global restart (06 R146,
Table 6.3). -/
def binBoundary (b : BinChain) : BinChain :=
  match b.pending with
  | none => b
  | some n =>
    let o := b.params
    let fresh := (n.enable && !o.enable) || n.ratio != o.ratio || n.firEn != o.firEn || n.slotMask != o.slotMask
    { b with params := n, pending := none, restartNext := b.restartNext || fresh
             seq := if n.enable && !o.enable then 0 else b.seq }

/-- A global restart before the first line of a bolt (06 R139). -/
def binRestart (columns slots : Nat) (b : BinChain) : BinChain :=
  { b with cells := List.replicate columns (List.replicate slots (freshCell b.params)), phase := 0, restartNext := false
           globalRestarts := satInc 32 b.globalRestarts }

/-- A bolt opens whose SETTINGS_TAG differs from that of the bolt before it, whether that held lines or not: a global restart
comes before the next first line (06 Table 6.3). -/
def binBoltOpen (tag : Nat) (b : BinChain) : BinChain :=
  { b with restartNext := b.restartNext || b.lastTag != some tag, lastTag := some tag }

/-- A line of a pipe passes its binning chain: `first` tells that it is the first line of its bolt, `values` are the
corrected values of each pixel (06 R130 to R145). -/
def binLine (p : Fin 12) (tag : LineTag) (bolt : Nat) (first : Bool) (values : List (List Nat)) (s : State) : State :=
  let x := s.pipe[p]
  let b := x.bin
  if !b.params.enable then s
  else
    let slots := binSlots b.params x.channels
    let restart := first && b.restartNext
    let b := if restart then binRestart values.length slots.length b else b
    let boundary := b.phase % b.params.ratio == b.params.ratio - 1
    let bank := if boundary then x.active.binBank else b.bankNow
    let coef := (x.coef[bank]?).getD []
    let outs := values.mapIdx fun i px => slots.mapIdx fun j k =>
      cellLine b.params restart boundary (firCoef coef k) (px[k]?.getD 0)
        (((b.cells[i]?.getD [])[j]?).getD (freshCell b.params))
    let steps := (outs.map fun r => (r.filter fun o => o.2.1).length).sum
    let vals := outs.flatMap fun r => r.filterMap fun o => o.2.2
    let b := { b with
      cells := outs.map fun r => r.map (·.1), phase := (b.phase + 1) % b.params.ratio, bankNow := bank
      stepRestarts := satAdd 32 b.stepRestarts steps
      clampCount := satAdd 32 b.clampCount (vals.filter (·.clamped)).length
      coarseSamples := satAdd 32 b.coarseSamples (vals.filter (·.coarse)).length
      outputSamples := if boundary then satInc 32 b.outputSamples else b.outputSamples }
    let s := s.setBin p fun _ => b
    if !boundary then s
    else
      let d : BinRow := outs.map fun r => spreadSlots slots (r.map fun o => o.2.2)
      let s := if b.params.speedEn then speedEntry p tag d s else s
      deliverSample p tag bolt slots d (s.setBin p fun b => { b with seq := modInc 32 b.seq })

/-- Pool blocks of a chain (06 R131). -/
def binBlocksFor (b : BinParams) (channels linePixels : Nat) : Nat :=
  max 1 (ceilDiv (linePixels * (binSlots b channels).length * 64) 65536)

/-- The chain stops: its blocks return, but for `keep` that accepted parameters still need, and its strips end (06
Table 6.6 BIN_EN, R131). -/
def binStop (p : Fin 12) (keep : Nat) (s : State) : State :=
  let kinds := (s.outp.strip[p]).strips.map (·.kind)
  (forEach kinds (flushStrip p) s).setBin p fun b => { b with blocks := min keep b.blocks, cells := [] }

/-- A word of the `BIN_` window: the coefficient banks (06 R136). -/
def binRead (off : Nat) (s : State) : Word :=
  match idx? 12 (off / 0x1000), off % 0x1000 / 0x100 with
  | some p, 0 => w32 (le32 ((s.pipe[p]).coef[0]) (off % 0x100 / 4 * 4))
  | some p, 1 => w32 (le32 ((s.pipe[p]).coef[1]) (off % 0x100 / 4 * 4))
  | _, _ => 0

end Sys2Proof.Machine
end

