-- ==== Sys2Proof/Machine/Tare.lean ====
section
/-! DEFINITION. The Tare units: accumulation, windows, evaluation, swaps and dark lines (05). -/

namespace Sys2Proof.Machine

/-- Change the Tare unit of pipe `p`. -/
def State.setTare (s : State) (p : Fin 12) (f : TareUnit → TareUnit) : State :=
  s.setPipe p fun x => { x with tare := f x.tare }

/-- A number as log bytes. -/
def logBytes (n v : Nat) : List Nat := (bytesOf n v).map BitVec.toNat

/-! ### Start and end of a run (05 R113, R116, R120) -/

/-- Pool blocks of a run (05 R113). -/
def tareBlocksFor (t : TareParams) (channels linePixels : Nat) : Nat :=
  max 1 (ceilDiv (linePixels * (maskList channels t.slotMask).length * 8) 65536)

/-- Does the shared part of the pool have the blocks of a run? -/
def tareRoom (p : Fin 12) (s : State) : Bool :=
  let x := s.pipe[p]
  decide (tareBlocksFor x.tare.params x.channels x.active.linePixels ≤ sharedFree s)

/-- The lowest-numbered pool blocks that no Tare run holds; the spec does not say which blocks a run takes (DESIGN
CHOICE). -/
def freeBlocks (s : State) (n : Nat) : List Nat :=
  let held := s.pipe.toList.flatMap fun x => (x.tare.run.map (·.blocks)).getD []
  ((List.range 768).filter fun k => !held.contains k).take n

/-- A run is accepted: its blocks are taken and it waits for a bolt (05 R113, R114). -/
def startTare (p : Fin 12) (dark : Bool) (s : State) : State :=
  let x := s.pipe[p]
  let run : TareRun := { dark := dark, params := x.tare.params
                         blocks := freeBlocks s (tareBlocksFor x.tare.params x.channels x.active.linePixels) }
  s.setTare p fun t => { t with state := .waitStart, kind := if dark then 2 else 1, run := some run, trigCount := 0 }

/-- A run ends with a reason: its blocks return, the status block and the log record it, vector 62 is sent
(05 R120, R129; 16 Table 16.4).  A dark line already appointed stays one (05 R127). -/
def endTare (p : Fin 12) (reason failMask : Nat) (s : State) : State :=
  let t := (s.pipe[p]).tare
  match t.run with
  | none => s
  | some r =>
    let kind := if r.dark then 2 else 1
    let s := s.setTare p fun t =>
      { t with state := .idle, kind := 0, run := none, lastReason := reason, lastFailMask := failMask
               failCount := if reason = 0 then t.failCount else satInc 32 t.failCount
               trigCount := 0 }
    let s := s.log 5 0xFF (logBytes 1 p.val ++ logBytes 1 kind ++ logBytes 1 reason ++ logBytes 1 failMask
      ++ logBytes 4 r.firstBolt ++ logBytes 4 r.lastBolt ++ logBytes 4 t.minSeen ++ logBytes 4 t.maxStep
      ++ logBytes 4 t.clamped ++ logBytes 4 t.drift ++ logBytes 4 t.smoothMax ++ logBytes 2 t.darkAccepted
      ++ logBytes 2 t.darkRejected)
    s.fireVectorN 62

/-- A run in progress ends ABORTED (05 R116). -/
def abortTare (p : Fin 12) (s : State) : State := endTare p 0x12 0 s

/-- Every run in progress ends ABORTED (05 R116). -/
def abortTares (s : State) : State := forEach (List.finRange 12) abortTare s

/-- The pool block of an internal address (01 Table 1.7). -/
def poolBlock (a : Nat) : Option Nat := if 0x1000000000 ≤ a ∧ a < 0x1003000000 then some ((a - 0x1000000000) / 65536) else none

/-- An uncorrectable error in a block that a run holds (05 R120). -/
def poolBad (run : TareRun) (s : State) : Option Nat := s.eccBad.find? fun w => match poolBlock (8 * w) with
  | some k => run.blocks.contains k
  | none => false

/-- The run ends ACC_ERROR (05 R120). -/
def accError (p : Fin 12) (w : Nat) (s : State) : State :=
  (endTare p 0x13 0 s).report { group := 4, cls := .squall, inst := p.val, cause := 0, valueA := w * 8 }

/-! ### Accumulation (05 R111, R112, R115, R118) -/

/-- Is a pixel-slot evaluated (05 R112)? -/
def evaluated (slots : List Nat) (c : Nat) (t : DarkSlot) : Bool := slots.contains c && t.entry.isSome

/-- Residual w − D of a pixel-slot. -/
def residual (t : DarkSlot) : Int := (t.w : Int) - t.entry.getD 0

/-- Is a sample accumulated (05 R112)? -/
def accumulates (h : ShadowSet) (run : TareRun) (tag : LineTag) (isDark : Bool) (raw : Nat) (cls n : Nat) : Bool :=
  !tag.crc && decide (h.satLow < raw ∧ raw < h.satHigh) && decide (n < 65536)
    && (if run.dark then isDark else !isDark && cls == 0)

/-- Mean residual of a dark line over the evaluated pixel-slots beyond DARK_MAX (05 R127). -/
def darkMisaligned (run : TareRun) (slots : List Nat) (o : PixOut) : Bool :=
  let l := o.dark.flatMap fun px => (px.mapIdx fun c t => (c, t)).filterMap fun t =>
    if evaluated slots t.1 t.2 then some (residual t.2) else none
  decide ((run.params.darkMax : Int) * l.length < l.sum)

/-- The entry of a pixel-slot of the accumulators. -/
def accAt (acc : List (List (Int × Nat))) (x c : Nat) : Int × Nat := ((acc[x]?.getD [])[c]?).getD (0, 0)

/-- Accumulators after the samples of a line. -/
def accAdd (acc : List (List (Int × Nat))) (adds : List (List (Option Int))) : List (List (Int × Nat)) :=
  (adds.mapIdx fun x px => px.mapIdx fun c a => match a with
    | some v => ((accAt acc x c).1 + v, (accAt acc x c).2 + 1)
    | none => accAt acc x c) ++ acc.drop adds.length

/-- A line enters the accumulators (05 R111, R112, R118); a fill sample has no raw value. -/
def tareAdd (h : ShadowSet) (channels : Nat) (run : TareRun) (tag : LineTag) (isDark : Bool)
    (raw : List (List (Option Nat))) (o : PixOut) : TareRun :=
  let slots := maskList channels run.params.slotMask
  let add := fun (x c : Nat) (t : DarkSlot) =>
    let e := accAt run.acc x c
    match ((raw[x]?.getD [])[c]?).getD none with
    | none => none
    | some smp =>
      if evaluated slots c t && accumulates h run tag isDark smp (o.lut[x]?.getD 0) e.2 then
        some (if run.dark then residual t else (((o.v1[x]?.getD [])[c]?.getD 0 : Nat) : Int))
      else none
  let adds := o.dark.mapIdx fun x px => px.mapIdx fun c t => add x c t
  { run with acc := accAdd run.acc adds, boltAdd := accAdd run.boltAdd adds }

/-- A line of a pipe passes the tap of its Tare unit (05 R111, R127). -/
def tareLine (p : Fin 12) (tag : LineTag) (isDark : Bool) (raw : List (List (Option Nat))) (o : PixOut) (s : State) :
    State :=
  let x := s.pipe[p]
  match x.tare.run, x.tare.state with
  | some run, .accumulate =>
    match poolBad run s with
    | some w => accError p w s
    | none =>
      let bad := run.dark && isDark && darkMisaligned run (maskList x.channels run.params.slotMask) o
      let run := if !(run.dark && isDark) then run
        else if bad then { run with darkRejected := satInc 16 run.darkRejected }
        else { run with darkAccepted := satInc 16 run.darkAccepted }
      s.setTare p fun t =>
        { t with run := some (if run.accepting && !bad then tareAdd x.active x.channels run tag isDark raw o else run) }
  | _, _ => s

/-- The evaluated pixel-slots of a pipe's line, with their active entries (05 R112): slot, and per pixel the active dark
and flat entries when evaluated. -/
def evalSlots (s : State) (p : Fin 12) (run : TareRun) : List (Nat × List (Option (Int × Nat))) :=
  let x := s.pipe[p]
  let b := x.active.corrBank
  (maskList x.channels run.params.slotMask).map fun c =>
    (c, (List.range x.active.linePixels).map fun i =>
      (darkEntry s p.val b x.channels i c).map fun d => (d, flatEntry s p.val b x.channels i c))

/-- Fewest samples of any evaluated pixel-slot. -/
def fewestSamples (slots : List (Nat × List (Option (Int × Nat)))) (acc : List (List (Int × Nat))) : Nat :=
  let l := slots.flatMap fun sl => (sl.2.mapIdx fun x e => (x, e)).filterMap fun t =>
    if t.2.isSome then some (accAt acc t.1 sl.1).2 else none
  match l with
  | [] => 0
  | a :: t => t.foldl min a

/-- A bolt opens: a waiting run opens its window, a later bolt is accepted by its tag (05 R114). -/
def tareBoltOpen (p : Fin 12) (bolt tag : Nat) (s : State) : State :=
  s.setTare p fun t => match t.run, t.state with
    | some r, .waitStart =>
      { t with state := .accumulate, boltsAccepted := 0, boltsDiscarded := 0
               run := some { r with startTag := tag, firstBolt := bolt, accepting := true } }
    | some r, .accumulate => { t with run := some { r with accepting := tag == r.startTag } }
    | _, _ => t

/-- A bolt closes: what an accepted one added is kept, and the window may close (05 R115, R118). -/
def tareBoltClose (p : Fin 12) (bolt : Nat) (s : State) : State :=
  let t := (s.pipe[p]).tare
  match t.run, t.state with
  | some r, .accumulate =>
    if !r.accepting then s.setTare p fun t => { t with boltsDiscarded := satInc 16 t.boltsDiscarded }
    else
      let r := { r with bolts := r.bolts ++ [r.boltAdd], boltAdd := [], lastBolt := bolt }
      let n := t.boltsAccepted + 1
      let full := decide (r.params.window ≤ fewestSamples (evalSlots s p r) r.acc)
      s.setTare p fun t =>
        { t with run := some r, boltsAccepted := satInc 16 t.boltsAccepted
                 state := if full || decide (r.params.maxBolts ≤ n) then .evaluate else .accumulate }
  | _, _ => s

/-! ### Evaluation (05 R117 to R119) -/

/-- What the evaluation of one pixel-slot gives: the new entry, whether it was clamped, and whether it met MIN_COUNT. -/
structure NewEntry where
  value : Int
  clamped : Bool
  ok : Bool
  step : Nat
  stepFails : Bool
  deriving DecidableEq, Repr

/-- Target T of a slot in KEEP mode (05 R117). -/
def keepTarget (minCount : Nat) (acc : List (List (Int × Nat))) (c : Nat) (entries : List (Option (Int × Nat))) : Int :=
  let ok := (entries.mapIdx fun x e => (x, e)).filterMap fun t => match t.2 with
    | some (_, g) => let a := accAt acc t.1 c
      if minCount ≤ a.2 then some ((a.1 * g).fdiv (a.2 * 16384)) else none
    | none => none
  if ok.isEmpty then 0 else ok.sum.fdiv ok.length

/-- A flat pixel-slot (05 R117, Table 5.1 STEP); a gain of 0 has an unbounded step. -/
def flatEntryOf (t : TareParams) (target : Int) (a : Int × Nat) (g0 : Nat) : NewEntry :=
  if a.2 < t.minCount then { value := g0, clamped := false, ok := false, step := 0, stepFails := false }
  else
    let g := if a.1 ≤ 0 then (t.gainMax : Int) else (target * 16384 * a.2 + a.1.fdiv 2).fdiv a.1.toNat
    let v := clampInt t.gainMin t.gainMax g
    let d := (v - g0).natAbs * 10000
    { value := v, clamped := v != g, ok := true
      step := if g0 = 0 then 2 ^ 32 - 1 else d / g0
      stepFails := g0 == 0 || decide (t.stepLimit * g0 < d) }

/-- A dark pixel-slot (05 R117, Table 5.1 STEP). -/
def darkEntryOf (t : TareParams) (a : Int × Nat) (d0 : Int) : NewEntry :=
  if a.2 < t.minCount then { value := d0, clamped := false, ok := false, step := 0, stepFails := false }
  else
    let d := d0 + (2 * a.1 + a.2).fdiv (2 * a.2) - t.pedestal
    let v := clampInt (-32767) 32767 d
    { value := v, clamped := v != d, ok := true, step := (v - d0).natAbs
      stepFails := decide (t.darkStepLimit < (v - d0).natAbs) }

/-- The new entries of a slot, one per pixel; none where it is not evaluated. -/
def newSlot (run : TareRun) (c : Nat) (entries : List (Option (Int × Nat))) : List (Option NewEntry) :=
  let t := run.params
  let target : Int := if t.keep then keepTarget t.minCount run.acc c entries else ((t.target.toList[c]?.getD 0 : Nat) : Int)
  entries.mapIdx fun x e => e.map fun v =>
    if run.dark then darkEntryOf t (accAt run.acc x c) v.1 else flatEntryOf t target (accAt run.acc x c) v.2

/-- Second differences of a slot where three adjacent pixels are evaluated and meet MIN_COUNT (05 Table 5.1 SMOOTH). -/
def secondDiffs : List (Option NewEntry) → List Nat
  | some a :: some b :: some c :: t =>
    (if a.ok && b.ok && c.ok then [(a.value - 2 * b.value + c.value).natAbs] else [])
      ++ secondDiffs (some b :: some c :: t)
  | _ :: t => secondDiffs t
  | [] => []

/-- The bolt means B of a slot: of the samples that a bolt added to the pixel-slots that meet MIN_COUNT, the others taking no
part; at least 1,024 samples give a B (05 R117, R118). -/
def boltMeans (bolts : List (List (List (Int × Nat)))) (c : Nat) (entries : List (Option NewEntry)) : List Int :=
  let ok := (entries.mapIdx fun x e => (x, e)).filterMap fun t => match t.2 with
    | some e => if e.ok then some t.1 else none
    | none => none
  bolts.filterMap fun b =>
    let l : List (Int × Nat) := ok.map fun x => accAt b x c
    let n : Nat := (l.map Prod.snd).sum
    let t : Int := (l.map Prod.fst).sum
    if 1024 ≤ n then some (t.fdiv n) else none

/-- DRIFT of a slot from its bolt means; a flat slot whose means are all 0 has no stated value (05 R118). -/
def driftOf (s : State) (dark : Bool) (means : List Int) : Nat :=
  match means with
  | [] => 0
  | a :: t =>
    let span := (t.foldl max a - t.foldl min a).toNat
    if dark then span
    else if means.sum ≤ 0 then s.freeVal freeRounding
    else 10000 * span * means.length / means.sum.toNat

/-- The figures and the result of an evaluation. -/
structure TareResult where
  slots : List (Nat × List (Option NewEntry))
  minSeen : Nat
  maxStep : Nat
  clamped : Nat
  drift : Nat
  smoothMax : Nat
  failMask : Nat

/-- The evaluation of a window (05 R117 to R119). -/
def evaluateTare (s : State) (p : Fin 12) (run : TareRun) : TareResult :=
  let t := run.params
  let ev := evalSlots s p run
  let slots := ev.map fun sl => (sl.1, newSlot run sl.1 sl.2)
  let all := slots.flatMap fun sl => sl.2.filterMap id
  let diffs := if run.dark then [] else slots.flatMap fun sl => secondDiffs sl.2
  let clamped := (all.filter (·.clamped)).length
  let drifts := slots.map fun sl => driftOf s run.dark (boltMeans run.bolts sl.1 sl.2)
  let drift := drifts.foldl max 0
  let smooth := diffs.foldl max 0
  let noneOk := slots.any fun sl => !(sl.2.any fun e => match e with | some e => e.ok | none => false)
  let f1 := all.any (fun e => !e.ok) || noneOk
  let f2 := t.checkEnable.testBit 1 && all.any (·.stepFails)
  let f3 := t.checkEnable.testBit 2 && !run.dark && decide (t.smoothLimit < smooth)
  let f4 := decide (t.clampLimit * all.length < clamped * 10000)
  let f5 := t.checkEnable.testBit 4 && decide ((if run.dark then t.darkDriftLimit else t.driftLimit) < drift)
  { slots := slots, minSeen := fewestSamples ev run.acc, maxStep := (all.map (·.step)).foldl max 0, clamped := clamped
    drift := drift, smoothMax := smooth
    failMask := flagAt f1 0 + flagAt f2 1 + flagAt f3 2 + flagAt f4 3 + flagAt f5 4 }

/-- The reason code of a FAIL_MASK: the lowest-numbered failing check (05 R119). -/
def failReason (mask : Nat) : Nat := ((List.range 5).find? mask.testBit).elim 0 (· + 1)

/-- Start of a correction bank in memory. -/
def bankBase (p b : Nat) : Nat := darkAddr p b 4 0 0

/-- The other correction bank gets the content of the active one, with fresh codes (05 R121). -/
def copyBank (p : Fin 12) (b : Nat) (s : State) : State :=
  let from_ := bankBase p.val b
  let dst := bankBase p.val (1 - b)
  let cells := s.mem.filter fun c => decide (from_ ≤ c.1 ∧ c.1 < from_ + 0x40000)
  let m := forEach cells (fun c m => memWrite m (c.1 - from_ + dst) c.2) (memWipe s.mem dst (dst + 0x40000))
  clearErr dst 0x40000 { s with mem := m }

/-- BANK_LOADED_CORR of the inactive bank. -/
def setInactiveLoaded (v : Bool) (x : Pipe) : Pipe :=
  { x with loadedCorr := x.loadedCorr.mapIdx fun k o => if k = 1 - x.active.corrBank then v else o }

/-- The result of a passed run is written to the inactive bank (05 R121). -/
def writeTare (p : Fin 12) (dark : Bool) (slots : List (Nat × List (Option Int))) (s : State) : State :=
  let x := s.pipe[p]
  let b := x.active.corrBank
  let put := fun (c : Nat) (i : Nat) (e : Option Int) (s : State) => match e with
    | none => s
    | some v =>
      let a := if dark then darkAddr p.val (1 - b) x.channels i c else flatAddr p.val (1 - b) x.channels i c
      s.store a (bytesOfInt 2 v)
  let s := forEach slots (fun sl s =>
    forEach (sl.2.mapIdx fun i e => (i, e)) (fun ie s => put sl.1 ie.1 ie.2 s) s) (copyBank p b s)
  s.setPipe p (setInactiveLoaded true)

/-- TARE_EVALUATE: a closed window is evaluated and checked (05 R117 to R120, R122); a passed run starts its write, STATE WRITE
with BANK_LOADED of the bank cleared, and the row comes once more at the end of the write, which puts the table and
BANK_LOADED in place (05 R121; DESIGN CHOICE: one row for both ends of the write, so that R102 and R122 see it). -/
def execTareEvaluate (p : Fin 12) (s : State) : Host.Outcome State Fault Refusal :=
  let x := s.pipe[p]
  match x.tare.run, x.tare.state with
  | some run, .evaluate =>
    match poolBad run s with
    | some w => .next (accError p w s)
    | none =>
      let r := evaluateTare s p run
      let s := (s.setTare p fun t =>
        { t with minSeen := r.minSeen, maxStep := r.maxStep, clamped := r.clamped, drift := min r.drift (2 ^ 32 - 1)
                 smoothMax := r.smoothMax, darkAccepted := run.darkAccepted, darkRejected := run.darkRejected }).drawn
      if r.failMask ≠ 0 then .next (endTare p (failReason r.failMask) r.failMask s)
      else if run.loadConflict || (x.arm && x.staged.corrBank == 1 - x.active.corrBank) then .next (endTare p 0x11 0 s)
      else
        let out := r.slots.map fun sl => (sl.1, sl.2.map fun e => e.map (·.value))
        .next ((s.setPipe p (setInactiveLoaded false)).setTare p fun t =>
          { t with state := .write, run := some { run with result := out } })
  | some run, .write =>
    .next ((writeTare p run.dark run.result s).setTare p fun t => { t with state := .swapPending })
  | _, _ => .next s

/-- TARE_INTERVAL_EXPIRY: an automatic flat run starts, or counts as ABORTED when its blocks cannot be had
(05 Table 5.3 INTERVAL). -/
def execTareIntervalExpiry (p : Fin 12) (s : State) : Host.Outcome State Fault Refusal :=
  let x := s.pipe[p]
  if x.tare.params.interval = 0 ∨ x.unit ≠ .enabled ∨ x.tare.run.isSome then .next s
  else
    let t := startTare p false s
    .next (if tareRoom p s then t else abortTare p t)

/-! ### Swaps at bolt boundaries (05 R121 to R125; 03 R81) -/

/-- A shadow set with another correction bank. -/
def ShadowSet.withCorrBank (h : ShadowSet) (b : Nat) : ShadowSet :=
  { h with banks := (h.banks &&& ~~~1#32) ||| w32 (b % 2) }

/-- The pipe turns to the other correction bank, staged and active (05 R121). -/
def swapCorr (x : Pipe) : Pipe :=
  let b := 1 - x.active.corrBank
  { x with staged := x.staged.withCorrBank b, active := x.active.withCorrBank b }

/-- A bolt boundary for the Tare unit; `armed` tells that an armed transfer falls on it (05 R121, R123, R125). -/
def tareBoundary (p : Fin 12) (armed : Bool) (s : State) : State :=
  let t := (s.pipe[p]).tare
  if t.state = .swapPending then
    if armed then (endTare p 0x10 0 s).setTare p fun t => { t with rollbackValid := false, rollbackPending := false }
    else
      let s := (endTare p 0 0 s).setPipe p swapCorr
      s.setTare p fun t => { t with rollbackValid := true, rollbackPending := false, markSwap := true }
  else if t.rollbackPending then
    let s := s.setTare p fun t => { t with rollbackPending := false, rollbackValid := false }
    if armed then s else s.setPipe p swapCorr
  else s

/-- The first line of the first bolt on a swapped bank (05 R124). -/
def tareFirstLine (p : Fin 12) (bolt : Nat) (s : State) : State :=
  s.setTare p fun t =>
    if t.markSwap then { t with markSwap := false, passCount := satInc 32 t.passCount, lastTime := s.tbTime 0, lastBolt := bolt }
    else t

/-! ### Dark lines (05 R126, R127) -/

/-- A line trigger of the port: every DARK_EVERY-th one raises the dark request and appoints the dark line. -/
def darkTrigger (p : Fin 12) (s : State) : State :=
  let t := (s.pipe[p]).tare
  match t.run with
  | some r =>
    if !r.dark then s
    else
      let n := t.trigCount + 1
      if n < r.params.darkEvery then s.setTare p fun t => { t with trigCount := n }
      else produce (73 + p.val) (s.setTare p fun t =>
        { t with trigCount := 0, darkPending := t.darkPending ++ [r.params.darkDelay] })
  | none => s

/-- Triggers that generators issued reach the Tare units of their ports. -/
def darkTriggers (gens : List (Fin 12)) (s : State) : State :=
  forEach gens (fun g t => forEach (List.finRange 12) (fun p u =>
    if (u.pos.trig[g]).portMask.testBit p.val then darkTrigger p u else u) t) s

/-- A line enters the pipe: is it the dark line of a trigger?  The other pending ones come one line nearer. -/
def takeDark (p : Fin 12) (s : State) : Bool × State :=
  let l := (s.pipe[p]).tare.darkPending
  (l.contains 0, s.setTare p fun t => { t with darkPending := (t.darkPending.filter (· != 0)).map (· - 1) })

/-! ### Rows that issue triggers (10 R240 to R256) -/

/-- QE_EDGE: a sample (a, b) of a channel differs from the one before (10 R240, R241, R252). -/
def execQeEdge (c : Fin 8) (a b : Bool) (s : State) : Host.Outcome State Fault Refusal :=
  let r := qeSample c (a, b) s
  .next (darkTriggers r.2 r.1)

/-- QE_SPACING_END: the spacing of a class W channel ends (10 R241). -/
def execQeSpacingEnd (c : Fin 8) (s : State) : Host.Outcome State Fault Refusal :=
  let r := qeSpacingEnd c s
  .next (darkTriggers r.2 r.1)

/-- Does a sample of the position inputs end here?  Every tick of the TB0 oscillator, or every 40 ns on the always-on clock,
whose phase the model sets at multiples of 40 ns (10 R238; DESIGN CHOICE). -/
def sampleHere (s : State) : Bool := s.oscRuns || s.now % 40 == 0

/-- A channel's sample with the input it had: a disabled channel tracks it, a held transition is judged again (10 R240, R241). -/
def channelSample (c : Fin 8) (s : State) : State :=
  let r := qeSample c (s.pos.qe[c]).sample s
  darkTriggers r.2 r.1

/-- The sample of the running POSITION generators, whether or not a count changed (10 R252). -/
def generatorSample (i : Fin 12) (s : State) : State :=
  let g := s.pos.trig[i]
  if g.enable && !g.timeMode && trigRuns s then
    let r := trigSample i s
    if r.2 then darkTriggers [i] r.1 else r.1
  else s

/-- The end of a sample of the position block and of the GPIO pins: what the commands of this instant left is what the sample
saw (10 R238 to R245, R252; 18 R425). -/
def posSample (s : State) : State :=
  if sampleHere s then
    forEach (List.finRange 32) gpioSample
      (forEach (List.finRange 8) probeSample
        (forEach (List.finRange 12) generatorSample (forEach (List.finRange 8) channelSample s)))
  else s

/-- TRIG_TIME_DUE: the time key of a TIME generator is reached (10 R254, R255). -/
def execTrigTimeDue (g : Fin 12) (s : State) : Host.Outcome State Fault Refusal :=
  let t := s.pos.trig[g]
  if t.enable && t.timeMode && trigRuns s && tsReached t.nextKey (s.tbTs ⟨t.source.val % 4, by omega⟩) then
    let r := trigIssue g (fun t => { t with nextKey := t.nextKey + BitVec.ofNat 32 t.period }) s
    .next (if r.2 then darkTriggers [g] r.1 else r.1)
  else .next s

/-! ### Accumulators in the pool (05 R113) -/

/-- The 8-byte entry of a pixel-slot: sum in bits 39:0, count in bits 56:40 (05 R113). -/
def accEntry (a : Int × Nat) : List Byte :=
  bytesOf 8 ((a.1 % (2 ^ 40 : Nat)).toNat + a.2 % 2 ^ 17 * 2 ^ 40)

/-- A byte of the pool as the accumulators of a run show it: the entries stand in the run's blocks in order, pixel by
pixel, the slots of SLOT_MASK ascending (DESIGN CHOICE: the spec does not order them). -/
def accByte (s : State) (a : Nat) : Option Byte :=
  (poolBlock a).bind fun k => s.pipe.toList.findSome? fun x => x.tare.run.bind fun run =>
    (run.blocks.findIdx? (· == k)).map fun i =>
      let slots := maskList x.channels run.params.slotMask
      let n := (i * 65536 + a % 65536) / 8
      let e := if slots.isEmpty then (0, 0) else accAt run.acc (n / slots.length) ((slots[n % slots.length]?).getD 0)
      ((accEntry e)[a % 8]?).getD 0

/-! ### Status block (05 R129) -/

/-- STATE code (05 Table 5.4). -/
def TareState.code : TareState → Nat
  | .idle => 0 | .waitStart => 1 | .accumulate => 2 | .evaluate => 3 | .write => 4 | .swapPending => 5

/-- The words of a status block (05 Table 5.4). -/
def tareWords (t : TareUnit) : List Word :=
  [w32 (t.state.code + t.kind * 8 + flagAt t.rollbackValid 5 + flagAt (decide (0 < t.params.interval)) 6
      + t.lastReason * 256 + t.lastFailMask * 65536), w32 t.passCount, w32 t.failCount
    , w32 (t.boltsAccepted + t.boltsDiscarded * 65536)] ++ (t.snap ++ [0, 0, 0]).take 3
    ++ [0, lo64 t.lastBolt, hi64 t.lastBolt, w32 t.minSeen, w32 t.maxStep, w32 t.clamped, w32 t.drift, w32 t.smoothMax
    , w32 (t.darkAccepted + t.darkRejected * 65536)]

/-- A word of a Tare status block; the read at +0x10 takes the snapshot of TARE_LAST_TIME (05 R129). -/
def tareRead (off : Nat) (s : State) : Word × State :=
  match idx? 12 (off / 0x100) with
  | none => (0, s)
  | some p =>
    let s := if off % 0x100 / 4 = 4 then s.setTare p fun t =>
        { t with snap := [w32 t.lastTime.ns, lo64 t.lastTime.seconds, w32 (t.lastTime.seconds / 2 ^ 32 % 65536)] } else s
    ((tareWords (s.pipe[p]).tare)[off % 0x100 / 4]?.getD 0, s)

end Sys2Proof.Machine
end

