-- ==== Sys2Proof/Machine/CamLink.lean ====
section
/-! DEFINITION. The camera ports and lanes as line framing sees them: control messages, start and end of bring-up, and
exposure settings (02 R42 to R49; 03 R82 to R85). -/

namespace Sys2Proof.Machine

/-- Lanes are powered in ACTIVE and HOLD (02 R49). -/
def lanesPowered (s : State) : Bool := s.power.state == .active || s.power.state == .hold

/-! ### Start and end of bring-up (02 R46 to R49) -/

/-- A lane without its link, with its counters; its downlink keeps its block boundaries and loses what waits for it. -/
def laneClear (st : LinkState) (mode fill : Nat) (l : Lane) : Lane :=
  { state := st, mode := mode, fill := fill, crcErr := l.crcErr, badHeader := l.badHeader, idleDel := l.idleDel
    idleIns := l.idleIns, elasticErr := l.elasticErr, txScr := l.txScr, txBits := l.txBits, txSinceIdle := l.txSinceIdle }

/-- A port without its link, with its settings and counters. -/
def portClear (st : LinkState) (c : Port) : Port :=
  { c with link := st, mode := 0, target := 0, precode := false, degraded := false, rateLimited := false
           streamsActive := 0, primary := 0, connections := 0, caps := none, outstanding := [], held := [], passed := []
           inFrame := false, cxpTries := 0, resend := false, schedule := [], paired := false, cxpHighDeclared := false
           cxpHighUp := false, cxpTagged := false, cxpTag := 0 }

/-- The lanes of a port start: SEARCH at PL-1G25, or CoaXPress discovery at CXP-1; nothing awaits an ACK on them. -/
def startLane (cxp : Bool) (l : Fin 24) (s : State) : State :=
  (s.setLane l (laneClear (if cxp then .cxpDiscovery else .search) (if cxp then 4 else 1) 16)).setPort (laneOwner s l)
    fun x => { x with outstanding := x.outstanding.filter fun o => o.lane != l.val % 2 }

/-- A port starts bring-up: step 1, or CoaXPress discovery (02 R46, R54); its lanes are powered only in ACTIVE and HOLD,
and the odd port beside a four-connection camera stays idle (01 R12). -/
def portStart (p : Fin 12) (s : State) : State :=
  match (s.cam.port[p]).config with
  | none => s
  | some c =>
    if !lanesPowered s || pairIdle s p then s
    else
      let s := s.setPort p (portClear (if c.cxp then .cxpDiscovery else .search))
      let s := s.setPort p fun x => { x with paired := c.cxp && c.lanes == 4 }
      let s := forEach (portLanes s p) (startLane c.cxp) s
      if c.cxp then s.emit (.cxpDiscovery p.val) else s

/-- A port goes DOWN: no frame of its camera is open any more, so no line continues one or waits for its end (03 R69,
R492). -/
def portDown (p : Fin 12) (s : State) : State :=
  let s := forEach (portLanes s p) (fun l t => t.setLane l (laneClear .down 0 0)) s
  (s.setPort p (portClear .down)).setPipe p fun x => { x with fullBolt := none, waitFrame := false }

/-- The drain of a port ends (02 R46, R49; 17 R405, R406). -/
def portDrainEnd (p : Fin 12) (s : State) : State :=
  let s := portDown p s
  if (s.cam.port[p]).enablePending then
    portStart p (s.setPort p fun c => { c with unit := .enabled, enablePending := false })
  else s.setPort p fun c => { c with unit := .disabled }

/-- CAM_DEGRADED is set; the open bolt carries DEGRADED (02 Table 2.9; 03 Table 3.2). -/
def markDegraded (p : Fin 12) (s : State) : State :=
  (s.setPort p fun x => { x with degraded := true }).setPipe p fun x =>
    { x with bolt := x.bolt.map fun b => { b with degraded := true } }

/-- The port enters RUN or RUN_DEGRADED: the binning chain restarts before its next first line of a bolt (06 Table 6.3). -/
def chainRestart (p : Fin 12) (s : State) : State := s.setBin p fun b => { b with restartNext := true }

/-- The primary lane of a port is its lowest-numbered lane in RUN that takes part in the link (02 R42, R58). -/
def setPrimary (p : Fin 12) (s : State) : State :=
  match (portLanes s p).filter fun l => (s.cam.lane[l]).state == .run && (s.cam.lane[l]).rejoinAt.isNone with
  | l :: _ => s.setPort p fun x => { x with primary := l.val % 2 }
  | [] => s

/-- A port enters RUN or RUN_DEGRADED: EXPECTED_TAG is 0, the most recent settings will be sent again, and the binning
chain restarts (02 R61; 03 R85; 06 Table 6.3). -/
def portRun (p : Fin 12) (st : LinkState) (s : State) : State :=
  let s := s.setPort p fun c =>
    { c with link := st, expectedTag := 0, schedule := [], resend := c.lastSettings.isSome
             linkChanges := satInc 16 c.linkChanges }
  chainRestart p s

/-! ### Exposure settings (03 R82 to R84) -/

/-- The pairs of address and value of a CoaXPress settings body (17 Table 17.7). -/
def settingPairs (body : List Nat) : List (Nat × Nat) :=
  let b := body.map (BitVec.ofNat 8)
  (List.range (body.length / 8)).map fun i => (le32 b (8 * i), le32 b (8 * i + 4))

/-- A CoaXPress control command leaves, with a tag when the camera takes tagged commands (02 Table 2.6). -/
def cxpSend (p : Fin 12) (mk : Option Nat → Out) (s : State) : State :=
  let x := s.cam.port[p]
  if x.cxpTagged then (s.emit (mk (some x.cxpTag))).setPort p fun x => { x with cxpTag := modInc 8 x.cxpTag }
  else s.emit (mk none)

/-- Settings go to the camera: SETTINGS on the primary lane, or control commands (02 R53; 03 R83). -/
def sendSettings (p : Fin 12) (t : Settings) (s : State) : State :=
  if isCxp s p then forEach (settingPairs t.body) (fun av => cxpSend p fun tag => .cxpWrite p.val tag av.1 av.2) s
  else sendCtrl p (s.cam.port[p]).primary 0x0A (msgBytes 2 t.tag ++ msgBytes 1 t.streamMask ++ t.body) s

/-- The settings that leave at the next camera frame boundary: the pending ones, else those to be sent again (03 R83,
R85). -/
def settingsDue (c : Port) : Option Settings :=
  match c.pendingSettings with
  | some t => some t
  | none => if c.resend then c.lastSettings else none

/-- The port at a camera frame boundary that sends `due`: EXPECTED_TAG follows the settings whose frame opens (03 R83,
R84). -/
def frameTags (due : Option Settings) (c : Port) : Port :=
  let sched := c.schedule.map (fun e => (e.1 - 1, e.2)) ++ (match due with
    | some t => [(c.applyLatency, t.tag)]
    | none => [])
  { c with pendingSettings := none, resend := false
           lastSettings := if due.isSome then due else c.lastSettings
           expectedTag := ((sched.filter fun e => e.1 == 0).getLast?).elim c.expectedTag (·.2)
           schedule := sched.filter fun e => e.1 != 0 }

/-- A camera frame boundary of a port (03 R70, R83). -/
def frameBoundary (p : Fin 12) (s : State) : State :=
  let due := settingsDue s.cam.port[p]
  let s := s.setPort p (frameTags due)
  match due with
  | some t => sendSettings p t s
  | none => s

end Sys2Proof.Machine
end

