-- ==== Sys2Proof/Machine/Framing.lean ====
section
/-! DEFINITION. Line framing: lines, bolts, shadow transfers, statistics, and the drain of a pipe (03). -/

namespace Sys2Proof.Machine

/-! ### Bolt boundaries (03 R70, R76) -/

/-- The staged set becomes active (03 R76; 05 R125). -/
def shadowTransfer (x : Pipe) : Pipe :=
  { x with active := x.staged, arm := false, xferCount := modInc 16 x.xferCount, xferBolt := x.boltNumber, xferMark := true
           tare := { x.tare with
             rollbackValid := x.tare.rollbackValid && x.staged.corrBank == x.active.corrBank } }

/-- The binning chain at a bolt boundary; a chain that stops returns its blocks (06 R146). -/
def chainBoundary (p : Fin 12) (s : State) : State :=
  let s := s.setBin p binBoundary
  let x := s.pipe[p]
  let s := if x.bin.params.enable then s else s.setPipe p fun x => { x with bin := { x.bin with bankNow := x.active.binBank } }
  if !x.bin.params.enable && x.bin.blocks != 0 then binStop p 0 s else s

/-- A bolt boundary: Tare swap, shadow transfer, binning parameters, strip settings. -/
def boltBoundary (p : Fin 12) (s : State) : State :=
  let armed := (s.pipe[p]).arm
  let s := tareBoundary p armed s
  let s := if armed then s.setPipe p shadowTransfer else s
  stripBoundary p (chainBoundary p s)

/-! ### Opening and closing of bolts (03 R69 to R72) -/

/-- What opens a bolt (03 R69). -/
inductive Opening where
  /-- FRAME_START: settings tag and frame counter -/
  | frameStart (tag counter : Nat)
  /-- a further line of a frame whose bolt is full -/
  | continued (of : Bolt)
  /-- a line with no bolt open -/
  | missingStart

/-- The bolt that opens on a pipe, with the settings tag and the tag expected. -/
def newBolt (x : Pipe) (o : Opening) (cxp degraded : Bool) (expected : Nat) (stamp : LineStamp) : Bolt :=
  let tag := match o with
    | .frameStart t _ => if cxp then expected else t
    | .continued b => b.tag
    | .missingStart => x.activeTag
  let expected := if cxp then tag else expected
  { number := x.boltNumber, firstLine := x.lineNumber, firstPos := stamp.pos, firstTime := stamp.time, firstTs := stamp.ts
    tag := tag, expectedTag := expected, mismatch := tag != expected
    continued := match o with | .continued _ => true | _ => false
    missingStart := match o with | .missingStart => true | _ => false
    degraded := degraded, shXfer := x.xferMark, banks := bits x.active.banks 2 0
    camFrame := match o with | .frameStart _ k => if cxp then 0 else k | .continued b => b.camFrame | .missingStart => 0
    tb := x.tb.val, posCh := x.posCh.val }

/-- A bolt opens (03 R69 to R71, R83). -/
def openBolt (p : Fin 12) (o : Opening) (stamp : LineStamp) (s : State) : State :=
  let s := boltBoundary p s
  let s := match o with | .frameStart _ _ => frameBoundary p s | _ => s
  let c := s.cam.port[p]
  let b := newBolt s.pipe[p] o (isCxp s p) c.degraded c.expectedTag stamp
  let s := s.setPipe p fun x =>
    { x with bolt := some b, fullBolt := none, boltNumber := modInc 64 x.boltNumber, activeTag := b.tag, xferMark := false
             stats := Vector.replicate 8 {}
             continuedBolts := if b.continued then satInc 16 x.continuedBolts else x.continuedBolts }
  tareBoltOpen p b.number b.tag ((s.setPort p fun c => { c with streamsActive := 0 }).setBin p (binBoltOpen b.tag))

/-- The statistics record of a closing bolt (03 R87). -/
def statsOf (x : Pipe) (b : Bolt) : StatsRecord :=
  { bolt := b, chMask := x.active.statMask, depth := x.depth, chans := x.stats }

/-- The open bolt closes; `full` tells that its BOLT_LINES-th line closed it (03 R69, R70; 02 R49). -/
def closeBolt (p : Fin 12) (missingEnd full : Bool) (s : State) : State :=
  let x := s.pipe[p]
  match x.bolt with
  | none => s
  | some b =>
    let b := { b with missingEnd := missingEnd, shortBolt := decide (b.lineCount < x.active.boltLines)
                      degraded := b.degraded || (s.cam.port[p]).degraded }
    let s := s.setPipe p fun x =>
      { x with bolt := none, fullBolt := if full then some b else none, closed := x.closed ++ [b]
               statsPending := x.statsPending ++ [statsOf x b]
               shortBolts := if b.shortBolt then satInc 16 x.shortBolts else x.shortBolts }
    let s := if b.shortBolt then s.setStitch fun k => { k with shortBolts := (p.val, b.number) :: k.shortBolts } else s
    let s := boltBoundary p (tareBoltClose p b.number s)
    if (s.cam.port[p]).unit = .draining then portDrainEnd p s else s

/-- The pipe leaves the camera's frame: a bolt that is open closes, and a full one is not continued (03 R69). -/
def endBolts (p : Fin 12) (s : State) : State :=
  (closeBolt p false false s).setPipe p fun x => { x with fullBolt := none }

/-- Does line framing take items of the port (02 R49; 03 R492)?  Without the pipe clocks it reads nothing from the links
(01 R17). -/
def framingTakes (s : State) (p : Fin 12) : Bool :=
  let x := s.pipe[p]
  s.power.state == .active && s.clockRuns 9 && !x.waitFrame && (x.unit == .enabled || (x.unit == .draining && x.bolt.isSome))

/-- FRAME_START of the framing stream (03 R69, R492). -/
def frameStart (p : Fin 12) (tag counter : Nat) (stamp : LineStamp) (s : State) : State :=
  let s := s.setPort p fun c => { c with inFrame := true, frameCounter := counter }
  let s := if (s.pipe[p]).unit = .enabled then s.setPipe p fun x => { x with waitFrame := false } else s
  if !framingTakes s p then s
  else
    let drains := (s.pipe[p]).unit != .enabled || (s.cam.port[p]).unit != .enabled
    let s := closeBolt p true false s
    let s := s.setPipe p fun x => { x with fullBolt := none }
    if drains then s else openBolt p (.frameStart tag counter) stamp s

/-- FRAME_END of the framing stream (03 R69). That of a frame whose lines are discarded under R492 is no orphan (DESIGN CHOICE: no
bolt is open, but the frame was never to open one). -/
def frameEnd (p : Fin 12) (s : State) : State :=
  let s := s.setPort p fun c => { c with inFrame := false }
  let x := s.pipe[p]
  if x.waitFrame then s.setPipe p fun x => { x with waitFrame := false }
  else if !framingTakes s p then s
  else if x.bolt.isSome then closeBolt p false false s
  else if x.fullBolt.isSome then s.setPipe p fun x => { x with fullBolt := none }
  else s.setPipe p fun x => { x with orphanEnds := satInc 32 x.orphanEnds }

/-! ### Lines (03 R64 to R67) -/

/-- A raw line as the merger hands it on: a pixel's samples in channel order, none where the merger filled. -/
abbrev RawLine := List (List (Option Nat))

/-- The line in LINE_PIXELS pixels of `channels` samples: filled at its end or cut (03 R67). -/
def fitLine (n channels : Nat) (px : RawLine) : RawLine :=
  ((px ++ List.replicate (n - px.length) []).take n).map fun v => (List.range channels).map fun c => (v[c]?).getD none

/-- A sample enters the statistics of its channel (03 R87, R88). -/
def ChanStats.add (h : ShadowSet) (depth smp : Nat) (k : ChanStats) : ChanStats :=
  let i := smp / 2 ^ (depth - 8)
  { count := k.count + 1, sum := k.sum + smp, min := Nat.min k.min smp, max := Nat.max k.max smp
    satHigh := if h.satHigh ≤ smp then k.satHigh + 1 else k.satHigh
    satLow := if smp ≤ h.satLow then k.satLow + 1 else k.satLow
    hist := k.hist.set i ((k.hist[i]?).getD 0 + 1) }

/-- The raw samples of a line enter the statistics (03 R87). -/
def lineStats (h : ShadowSet) (depth : Nat) (raw : RawLine) (st : Vector ChanStats 8) : Vector ChanStats 8 :=
  Vector.ofFn fun (c : Fin 8) =>
    if h.statMask.testBit c.val then
      forEach (raw.filterMap fun v => (v[c.val]?).getD none) (fun smp k => k.add h depth smp) st[c]
    else st[c]

/-- The bolt with one more line (03 Table 3.2). -/
def Bolt.addLine (b : Bolt) (t : LineTag) (stamp : LineStamp) (degraded : Bool) : Bolt :=
  let one := fun (f : Bool) => if f then 1 else 0
  let b := if b.lineCount = 0 then
      { b with firstLine := t.number, firstPos := stamp.pos, firstTime := stamp.time, firstTs := stamp.ts } else b
  { b with lineCount := b.lineCount + 1, crc := b.crc || t.crc, shortLine := b.shortLine || t.short
           longLine := b.longLine || t.long, shortLines := b.shortLines + one t.short
           longLines := b.longLines + one t.long, crcLines := b.crcLines + one t.crc
           degraded := b.degraded || degraded }

/-- The tag of a line that enters an open bolt (03 R64 to R67). -/
def lineTag (x : Pipe) (b : Bolt) (pixels : Nat) (stamp : LineStamp) (short crc : Bool) : LineTag :=
  { number := x.lineNumber, pos := stamp.pos, ts := stamp.ts, index := b.lineCount
    short := short || decide (pixels < x.active.linePixels), long := decide (x.active.linePixels < pixels), crc := crc
    first := b.lineCount == 0, last := b.lineCount + 1 == x.active.boltLines, settings := b.tag }

/-- Reports of table read errors of a line (04 R103). -/
def tableReports (p : Fin 12) (t : LineTag) (bolt : Nat) (o : PixOut) (s : State) : State :=
  let put := fun (cls : FltClass) (cause : Nat) (e : TableErr) (s : State) => s.report
    { group := 2, cls := cls, inst := p.val, cause := cause, valueA := e.word * 8, valueB := bolt, valueC := t.number }
  forEach o.errs (put .squall 1) (forEach o.softs (put .drizzle 0) s)

/-- The line as it goes on: a dark line is a copy of the previous line, or itself when there is none (05 R127). -/
def afterDark (x : Pipe) (isDark : Bool) (o : PixOut) : List (List Nat) × List Nat :=
  if isDark && !x.prevValues.isEmpty then (x.prevValues, x.prevClasses) else (o.values, o.classes)

/-- A line enters the open bolt `b` of a pipe and passes the pipe and its side branches (03 R64 to R67; 04; 05; 06;
14 R327). -/
def lineInBolt (p : Fin 12) (b : Bolt) (px : RawLine) (stamp : LineStamp) (short crc : Bool) (s : State) : State :=
  let x := s.pipe[p]
  let t := lineTag x b px.length stamp short crc
  let raw := fitLine x.active.linePixels x.channels px
  let (isDark, s) := takeDark p s
  let o := correctLine s x.active p.val x.channels x.depth (raw.map fun v => v.map fun a => a.getD x.active.fillValue)
  let s := tareLine p t isDark raw o (tableReports p t b.number o s)
  let d := afterDark x isDark o
  let s := s.setPipe p fun x =>
    { x with bolt := some (b.addLine t stamp (s.cam.port[p]).degraded), lineNumber := modInc 64 x.lineNumber
             stats := lineStats x.active x.depth raw x.stats, counters := x.counters.add o b.number
             shortLines := if t.short then satInc 32 x.shortLines else x.shortLines
             longLines := if t.long then satInc 32 x.longLines else x.longLines
             prevValues := d.1, prevClasses := d.2
             outLines := x.outLines ++ [PipeLine.mk t b.number d.2 d.1 x.channels] }
  let s := if t.first then produce (105 + p.val) (tareFirstLine p b.number s) else s
  let s := binLine p t b.number t.first d.1 (fathomLine p t b.number d.1 s)
  if t.last then closeBolt p false true s else s

/-- A line is handed on by the merger: it joins the open bolt, or opens one (03 R69). -/
def lineIn (p : Fin 12) (px : RawLine) (stamp : LineStamp) (short crc : Bool) (s : State) : State :=
  if !framingTakes s p then s
  else
    let x := s.pipe[p]
    let s := if x.bolt.isSome then s
      else match x.fullBolt with
        | some b => openBolt p (.continued b) stamp s
        | none => openBolt p .missingStart stamp s
    match (s.pipe[p]).bolt with
    | some b => lineInBolt p b px stamp short crc s
    | none => s

/-! ### Bolt header and statistics (03 R72, R87, R88) -/

/-- BOLT_FLAGS (03 Table 3.2). -/
def boltFlags (b : Bolt) : Nat :=
  flagAt b.shortBolt 0 + flagAt b.continued 1 + flagAt b.incomplete 2 + flagAt b.crc 3 + flagAt b.shortLine 4
    + flagAt b.longLine 5 + flagAt b.mismatch 6 + flagAt b.missingStart 7 + flagAt b.missingEnd 8 + flagAt b.degraded 9

/-- The 64 bytes of a bolt header (03 Table 3.2). -/
def boltHeader (p : Nat) (b : Bolt) : List Byte :=
  bytesOf 8 b.number ++ bytesOf 8 b.firstLine ++ bytesOf 8 b.firstPos.toNat ++ bytesOf 6 b.firstTime.seconds
    ++ bytesOf 4 b.firstTime.ns ++ bytesOf 2 b.firstTime.frac ++ bytesOf 4 b.firstTs.toNat ++ bytesOf 4 b.lineCount
    ++ bytesOf 2 b.tag ++ bytesOf 2 b.expectedTag ++ bytesOf 2 (boltFlags b) ++ bytesOf 1 p
    ++ bytesOf 1 (b.tb + b.posCh * 4) ++ bytesOf 2 b.shortLines ++ bytesOf 2 b.longLines ++ bytesOf 2 b.crcLines
    ++ bytesOf 1 (if b.shXfer then 1 else 0) ++ bytesOf 1 b.banks ++ bytesOf 4 b.camFrame

/-- The 64-byte header of a statistics record (03 Table 3.9). -/
def statsHeader (p : Nat) (r : StatsRecord) : List Byte :=
  bytesOf 8 r.bolt.number ++ bytesOf 2 r.bolt.tag ++ bytesOf 1 p ++ bytesOf 1 r.chMask ++ bytesOf 4 r.bolt.lineCount
    ++ bytesOf 2 (boltFlags r.bolt) ++ bytesOf 1 r.depth ++ zeros 5 ++ bytesOf 8 r.bolt.firstLine
    ++ bytesOf 4 r.bolt.firstTs.toNat ++ zeros 28

/-- The block of one channel (03 Table 3.9, R88). -/
def chanBlock (k : ChanStats) : List Byte :=
  bytesOf 4 k.count ++ bytesOf 4 (k.sum * 65536 / k.count) ++ bytesOf 8 k.sum ++ bytesOf 2 k.min ++ bytesOf 2 k.max
    ++ bytesOf 4 k.satHigh ++ bytesOf 4 k.satLow ++ zeros 4 ++ k.hist.flatMap (bytesOf 4)

/-- The channels present in a record. -/
def statsChannels (r : StatsRecord) : List (Fin 8) := (List.finRange 8).filter fun c => r.chMask.testBit c.val

/-- A whole statistics record (03 Table 3.9). -/
def statsBytes (p : Nat) (r : StatsRecord) : List Byte :=
  statsHeader p r ++ (statsChannels r).flatMap fun c => chanBlock r.chans[c]

/-- The correction counter record (04 Table 4.4). -/
def counterBytes (k : CorrCounters) : List Byte :=
  bytesOf 4 k.darkClamp ++ bytesOf 4 k.defectReplaced ++ bytesOf 4 k.defectUnresolved ++ bytesOf 4 k.flatSat
    ++ bytesOf 4 k.matrixLow ++ bytesOf 4 k.matrixHigh ++ bytesOf 4 k.eccCorr ++ bytesOf 4 k.eccUncorr
    ++ bytesOf 8 k.firstBolt ++ zeros 24

/-- The binning counter record (06 Table 6.7). -/
def binCounterBytes (b : BinChain) : List Byte :=
  bytesOf 4 b.clampCount ++ bytesOf 4 b.stepRestarts ++ bytesOf 4 b.globalRestarts ++ bytesOf 4 b.coarseSamples
    ++ bytesOf 4 b.outputSamples ++ zeros 12

/-- Is a line of a bolt still on its way through morphology and the stitcher (03 R72)? -/
def boltInFlight (s : State) (p : Fin 12) (n : Nat) : Bool :=
  let inRow := fun (r : InputRow) => match (r.slots[p]).line with | some l => l.bolt == n | none => false
  (s.pipe[p]).outLines.any (fun l => l.bolt == n)
    || (s.stitch.queue[p]).lines.any (fun q => match q.line with | some l => !l.tag.drop && l.bolt == n | none => false)
    || s.stitch.row.any inRow || s.stitch.closed.any inRow

/-- BOLT_HEADER_EMIT: the last line of the oldest closed bolt has left the stitcher (03 R72). -/
def execBoltHeaderEmit (p : Fin 12) (s : State) : Host.Outcome State Fault Refusal :=
  match (s.pipe[p]).closed with
  | [] => .next s
  | b :: t =>
    if boltInFlight s p b.number then .next s
    else .next ((s.setPipe p fun x => { x with closed := t }).item
      { kind := 3, source := some p, payload := boltHeader p.val b })

/-- STATS_COMPLETE: the statistics record of the oldest closed bolt is complete and leaves (03 R87; 14 Table 14.8). -/
def execStatsComplete (p : Fin 12) (s : State) : Host.Outcome State Fault Refusal :=
  let x := s.pipe[p]
  match x.statsPending with
  | [] => .next s
  | r :: t =>
    let s := s.setPipe p fun x => { x with statsPending := t, statsLast := r }
    .next (s.item { kind := 4, source := some p
                    payload := statsBytes p.val r ++ counterBytes x.counters ++ binCounterBytes x.bin })

/-! ### Enable and drain of a pipe (03 R492; 06 R131) -/

/-- A pipe becomes ENABLED; lines of a frame already open are not taken. -/
def pipeOn (p : Fin 12) (s : State) : State :=
  s.setPipe p fun x => { x with unit := .enabled, enablePending := false, fullBolt := none
                                waitFrame := (s.cam.port[p]).inFrame }

/-- Have all lines of a pipe left morphology, and those of a member the stitcher? -/
def pipeEmpty (s : State) (p : Fin 12) : Bool :=
  let inRow := fun (r : InputRow) => (r.slots[p]).line.isSome
  (s.pipe[p]).outLines.isEmpty && !(s.stitch.queue[p]).lines.any (fun q => decide (0 < q.entries))
    && !s.stitch.row.any inRow && !s.stitch.closed.any inRow

/-- The drain of a pipe is complete (03 R492). -/
def pipeDrained (s : State) (p : Fin 12) : Bool :=
  let x := s.pipe[p]
  x.bolt.isNone && pipeEmpty s p && x.closed.isEmpty && x.statsPending.isEmpty

/-- A draining pipe becomes DISABLED: its chain stops and BIN_EN clears; a pending enable follows.  Parameters accepted since
the last bolt boundary wait on for the pipe's first boundary, with the blocks taken for them (06 R131, R146; DESIGN
CHOICE: the spec says no more of such parameters). -/
def pipeOff (p : Fin 12) (s : State) : State :=
  let x := s.pipe[p]
  let keep := ((x.bin.pending.filter (·.enable)).map fun b => binBlocksFor b x.channels x.active.linePixels).getD 0
  let s := (binStop p keep s).setBin p fun b => { b with params := { b.params with enable := false } }
  if (s.pipe[p]).enablePending then pipeOn p s else s.setPipe p fun x => { x with unit := .disabled, fullBolt := none }

/-- PIPE_DRAIN_END: the conditions of a draining pipe hold (03 R492). -/
def execPipeDrainEnd (p : Fin 12) (s : State) : Host.Outcome State Fault Refusal :=
  .next (if (s.pipe[p]).unit = .draining ∧ pipeDrained s p then pipeOff p s else s)

/-! ### Shadow registers (03 R73 to R78) -/

/-- The words of Table 3.6 with their writable bits. -/
def shadowMask (off : Nat) : Option Word :=
  match off with
  | 0x100 => some 0xFFFF7FFF#32
  | 0x104 => some 0x0000FFFF#32
  | 0x108 => some 0x00007F3F#32
  | 0x10C => some 7#32
  | 0x110 => some 0x000FFFFF#32
  | 0x114 => some 0xFFFFFFFF#32
  | 0x118 => some 0x000000FF#32
  | _ => if (0x140 ≤ off ∧ off ≤ 0x164) ∧ off % 4 = 0 then some 0xFFFFFFFF#32 else none

/-- A shadowed register. -/
def ShadowSet.word (h : ShadowSet) (off : Nat) : Word :=
  match off with
  | 0x100 => h.format
  | 0x104 => h.fill
  | 0x108 => h.stages
  | 0x10C => h.banks
  | 0x110 => h.lutSplit
  | 0x114 => h.sat
  | 0x118 => h.stats
  | 0x160 => h.mofs[0]
  | 0x164 => h.mofs[1]
  | _ => if 0x140 ≤ off ∧ off < 0x160 then (h.matrix.toList[(off - 0x140) / 4]?).getD 0 else 0

/-- A shadow set with one register written. -/
def ShadowSet.withWord (h : ShadowSet) (off : Nat) (v : Word) : ShadowSet :=
  match off with
  | 0x100 => { h with format := v }
  | 0x104 => { h with fill := v }
  | 0x108 => { h with stages := v }
  | 0x10C => { h with banks := v }
  | 0x110 => { h with lutSplit := v }
  | 0x114 => { h with sat := v }
  | 0x118 => { h with stats := v }
  | 0x160 => { h with mofs := h.mofs.set 0 v }
  | 0x164 => { h with mofs := h.mofs.set 1 v }
  | _ => match idx? 8 ((off - 0x140) / 4) with
    | some k => if 0x140 ≤ off then { h with matrix := h.matrix.set k v } else h
    | none => h

/-- The ranges of Table 3.6, with the depth and channels of the pipe (03 R75). -/
def shadowInRange (h : ShadowSet) (channels depth : Nat) : Bool :=
  decide (1 ≤ h.linePixels ∧ h.linePixels ≤ (if channels ≤ 4 then 16384 else 8192)) && decide (h.fillValue < 2 ^ depth)
    && h.defectRule != 3 && (h.morphOp == 0 || h.morphSize != 0)

/-- Do the checks of R75, R155 and R328 pass for a set on a pipe? -/
def shadowOk (s : State) (p : Fin 12) (h : ShadowSet) (channels depth : Nat) : Bool :=
  let x := s.pipe[p]
  let f := s.outp.fathom[p]
  let loaded := fun (v : Vector Bool 2) (now next : Nat) => next == now || ((v.toList[next]?).getD false)
  shadowInRange h channels depth && ((List.range 4).map h.splitBits).sum == 16 && decide (h.satLow ≤ h.satHigh)
    && loaded x.loadedCorr x.active.corrBank h.corrBank && loaded x.loadedLut x.active.lutBank h.lutBank
    && loaded x.loadedBin x.active.binBank h.binBank
    && (!isMember s p || h.linePixels == (s.stitch.cam[p]).linePixels) && (!f.enable || decide (h.linePixels ≤ f.linePixels))

/-- Pool blocks that an enabled chain needs with a shadow set (06 R131). -/
def chainNeed (x : Pipe) (h : ShadowSet) : Nat :=
  let b := x.bin.pending.getD x.bin.params
  if b.enable || x.bin.params.enable then binBlocksFor b x.channels h.linePixels else 0

/-- Can the chain of a pipe hold a number of blocks (06 R131)? -/
def chainRoom (s : State) (p : Fin 12) (need : Nat) : Bool := decide (need ≤ (s.pipe[p]).bin.blocks + sharedFree s)

/-- The chain of a pipe takes the blocks it needs beyond those it holds. -/
def chainTake (p : Fin 12) (need : Nat) (s : State) : State := s.setBin p fun b => { b with blocks := max b.blocks need }

/-- A write of 1 to ARM (03 R75, R78): without effect while ARM is 1.  A LINE_PIXELS for which the chain cannot get its
blocks is refused too (06 R131). -/
def shadowArm (p : Fin 12) (s : State) : State :=
  let x := s.pipe[p]
  if x.arm then s
  else if shadowOk s p x.staged x.channels x.depth && chainRoom s p (chainNeed x x.staged) then
    (chainTake p (chainNeed x x.staged) s).setPipe p fun x => { x with arm := true }
  else s.setPipe p fun x => { x with badValue := true }

/-- A write to a shadowed register (03 R74). -/
def shadowStage (p : Fin 12) (off : Nat) (v : Word) (s : State) : State :=
  match shadowMask off with
  | none => s
  | some m => s.setPipe p fun x =>
    if x.arm then { x with staleWrite := true } else { x with staged := x.staged.withWord off (v &&& m) }

/-- A write to `PIPE_SH_CTRL` (03 Table 3.4): flags clear first, DISARM wins over ARM. -/
def shadowCtrl (p : Fin 12) (v : Word) (s : State) : State :=
  let s := s.setPipe p fun x =>
    { x with badValue := w1c x.badValue (bit v 2), staleWrite := w1c x.staleWrite (bit v 3)
             foreignWrite := w1c x.foreignWrite (bit v 4) }
  if bit v 1 then s.setPipe p fun x => { x with arm := false } else if bit v 0 then shadowArm p s else s

/-- A write of a PCIe session to the shadow set of a pipe (03 R73, R77). -/
def shadowWrite (p : Fin 12) (off : Nat) (v : Word) (s : State) : State :=
  if !s.pcieMayWrite (resPipe p.val) then s.setPipe p fun x => { x with foreignWrite := true }
  else if off = 0 then shadowCtrl p v s
  else shadowStage p off v s

/-- SH_ARM: a write to `PIPE_SH_CTRL` with ARM 1 and DISARM 0; the other bits are `v`'s (03 R75 to R78, R155, R328). -/
def execShArm (p : Fin 12) (v : Word) (s : State) : Host.Outcome State Fault Refusal :=
  .next (shadowWrite p 0 ((v ||| 1#32) &&& ~~~2#32) s)

/-- SH_DISARM: a write to `PIPE_SH_CTRL` with DISARM 1 (03 Table 3.4). -/
def execShDisarm (p : Fin 12) (v : Word) (s : State) : Host.Outcome State Fault Refusal :=
  .next (shadowWrite p 0 (v ||| 2#32) s)

/-- SH_REG_WRITE: a write to any offset of a shadow set (03 R73, R74, R77). -/
def execShRegWrite (p : Fin 12) (off : Fin 0x10000) (v : Word) (s : State) : Host.Outcome State Fault Refusal :=
  .next (shadowWrite p (off.val / 4 * 4) v s)

/-- `PIPE_SH_CTRL` as it reads (03 Table 3.4). -/
def shadowCtrlWord (x : Pipe) : Word :=
  w32 (flagAt x.arm 0 + flagAt x.badValue 2 + flagAt x.staleWrite 3 + flagAt x.foreignWrite 4 + x.xferCount * 65536)

/-- `PIPE_SH_STATUS` (03 Table 3.5). -/
def shadowStatusWord (x : Pipe) : Word :=
  w32 (x.activeTag + flagAt (x.active.corrBank == 1) 16 + flagAt (x.active.lutBank == 1) 17
    + flagAt (x.active.binBank == 1) 18 + flagAt x.bolt.isSome 19 + flagAt x.loadedCorr[0] 20 + flagAt x.loadedCorr[1] 21
    + flagAt x.loadedLut[0] 22 + flagAt x.loadedLut[1] 23 + flagAt x.loadedBin[0] 24 + flagAt x.loadedBin[1] 25)

/-- A word of the shadow set of a pipe (03 R73). -/
def shadowRead (x : Pipe) (off : Nat) : Word :=
  match off with
  | 0x0000 => shadowCtrlWord x
  | 0x0004 => shadowStatusWord x
  | 0x0008 => lo64 x.xferBolt
  | 0x000C => hi64 x.xferBolt
  | 0x0010 => w32 x.shortLines
  | 0x0014 => w32 x.longLines
  | 0x0018 => w32 (x.shortBolts + x.continuedBolts * 65536)
  | 0x001C => w32 x.orphanEnds
  | _ => if off < 0x8000 then x.staged.word off else x.active.word (off - 0x8000)

end Sys2Proof.Machine
end

