-- ==== Sys2Proof/Machine/MbxCore.lean ====
section
/-! DEFINITION. Mboxis: the queue of requests, sessions, responses, notices, repeats and refusals (17 R391 to R407). -/

namespace Sys2Proof.Machine

/-- Change session `k`. -/
def State.setSess (s : State) (k : Fin 14) (f : Session → Session) : State :=
  { s with mbx := { s.mbx with sess := upd s.mbx.sess k f } }

/-- Change mailbox `k` (numbered from 0). -/
def State.setMailbox (s : State) (k : Fin 4) (f : Mailbox → Mailbox) : State :=
  { s with host := { s.host with mbx := upd s.host.mbx k f } }

/-- The QUERY flag (17 Table 17.1). -/
def Req.query (q : Req) : Bool := q.flags.testBit 1
/-- The BULK flag. -/
def Req.isBulk (q : Req) : Bool := q.flags.testBit 2
/-- The CLEAR flag. -/
def Req.clear (q : Req) : Bool := q.flags.testBit 3

/-- The largest payload of a response to a session (17 R391, R396). -/
def maxPayload (session : Nat) : Nat := if 5 ≤ session ∧ session ≤ 12 then 1440 else 4080

/-- Firmware serves mailboxes: they are open, and the device is not in DEEP SLEEP (20 Table 20.13). -/
def mailboxesServe (s : State) : Bool := s.mbx.isOpen && s.power.state != .deepSleep

/-- The RDYBSY ball (16 R374, Table 16.5): the mailboxes are open and session 13 has no outstanding request. -/
def rdybsyNow (s : State) : State :=
  let v := mailboxesServe s && (s.mbx.sess[(13 : Fin 14)]).outstanding.isNone
  if s.host.rdybsy = v then s else ({ s with host := { s.host with rdybsy := v } }).setBall .rdybsy v

/-! ### Delivery of a response (16 R371; 17 R391, R396, R397) -/

/-- The bytes of a response (17 Table 17.1). -/
def respBytes (flags : Nat) (r : Resp) : List Byte :=
  bytesOf 2 r.opcode ++ bytesOf 1 r.session ++ bytesOf 1 (flags % 16 / 2 * 2 + 1) ++ bytesOf 4 r.sequence
    ++ bytesOf 2 r.payload.length ++ zeros 2 ++ bytesOf 2 r.status.code ++ zeros 2 ++ r.payload

/-- A mailbox shows its response and accepts requests again, and fires its vector (16 R371). -/
def mailboxAnswer (k : Fin 4) (bs : List Byte) (s : State) : State :=
  (s.setMailbox k fun m => { m with response := fit 4096 bs, resp := true, ready := true }).fireVectorN k.val

/-- A network response goes back to the sender (17 R396). -/
def netAnswer (ip port : Nat) (bs : List Byte) (s : State) : State := s.sendUdp 0 3 23118 ip port 0 bs

/-- The session whose port a request occupies; a SESSION_OPEN from the network occupies none (17 R396, R399). -/
def Req.slot (q : Req) : Option (Fin 14) := if q.net && q.opcode == 0x0101 then none else idx? 14 q.session

/-- The request of a session is no longer outstanding. -/
def clearOutstanding (q : Req) (s : State) : State :=
  match q.slot with
  | some k => s.setSess k fun c => { c with outstanding := none }
  | none => s

/-- A response leaves on the way its request came. -/
def deliver (q : Req) (r : Resp) (s : State) : State :=
  let bs := respBytes q.flags r
  let s := clearOutstanding q s
  let s := if q.session = 0 ∧ !q.net then s else s.emit (.response r)
  if q.net then netAnswer q.srcIp q.srcPort bs s
  else if q.session = 13 then rdybsyNow { s with mbx := { s.mbx with sbResponse := bs, sbUnread := true } }
  else match idx? 4 (q.session - 1) with
    | some k => if 1 ≤ q.session then mailboxAnswer k bs s else s
    | none => s

/-- A request is discarded without a response: its port takes another one (17 R392, R398). -/
def discard (q : Req) (s : State) : State :=
  let s := clearOutstanding q s
  if q.net then s
  else if q.session = 13 then rdybsyNow s
  else match idx? 4 (q.session - 1) with
    | some k => if 1 ≤ q.session then s.setMailbox k fun m => { m with ready := s.mbx.isOpen } else s
    | none => s

/-! ### Notices (17 R403) -/

/-- SUPERSEDED takes the place of OK while the session has an unreported notice. -/
def noticeStatus (c : Session) (st : Status) : Status :=
  if st = .ok ∧ c.notices.any (fun n => !n.reported) then .superseded else st

/-- A response that carries SUPERSEDED marks every notice held as reported. -/
def markNotices (st : Status) (c : Session) : Session :=
  if st = .superseded then { c with notices := c.notices.map fun n => { n with reported := true } } else c

/-- What a command writes, for the comparison of R403: resource, selector bytes and the bytes written. -/
structure Written where
  resource : Nat
  selector : List Byte := []
  payload : List (Option Byte)
  deriving DecidableEq, Repr

/-- Do two commands write different values into a field that both write? -/
def contradicts (old new : List (Option Byte)) : Bool :=
  (old.zip new).any fun p => match p with
    | (some a, some b) => a != b
    | _ => false

/-- A notice for a session; it holds 16. -/
def addNotice (session opcode res : Nat) (s : State) : State :=
  match idx? 14 session with
  | none => s
  | some k => s.setSess k fun c =>
      let l := c.notices ++ [{ opcode := opcode, resource := res }]
      { c with notices := l.drop (l.length - 16) }

/-- A command that took effect is recorded as the last writer of an unowned setting, and gives the earlier writer a notice
when it contradicts it. -/
def recordWrite (q : Req) (w : Written) (s : State) : State :=
  if (s.holder w.resource).isSome then s
  else
    let same := fun (x : Writer) => x.opcode == q.opcode && x.resource == w.resource && x.selector == w.selector
    let s := match s.mbx.writers.find? same with
      | some o =>
        if o.session ≠ q.session ∧ contradicts o.payload w.payload then addNotice o.session q.opcode w.resource s else s
      | none => s
    { s with mbx := { s.mbx with writers := (s.mbx.writers.filter fun x => !same x)
        ++ [{ opcode := q.opcode, resource := w.resource, selector := w.selector, session := q.session, payload := w.payload }] } }

/-! ### Answering a request -/

/-- What the end of a command waits for: a camera register access or the test of an engine (17 Table 17.7; 09 R235). -/
inductive Later where
  | port (p : Fin 12)
  | engine (e : Fin 192)
  deriving DecidableEq, Repr

/-- What a command answers. -/
structure Answer where
  status : Status
  payload : List Byte
  state : State
  /-- the answer comes later (17 Table 17.7; 09 R235) -/
  later : Option Later := none

/-- Done, with a response payload. -/
def done (s : State) (payload : List Byte := []) : Answer := { status := .ok, payload := payload, state := s }

/-- Refused: nothing changes (17 R393). -/
def refuse (st : Status) (s : State) : Answer := { status := st, payload := [], state := s }

/-- The first refusal of a list of conditions, in their order. -/
def refusal (l : List (Bool × Status)) : Option Status := (l.find? (·.1)).map (·.2)

/-- Refuse by the first condition that holds, else do. -/
def guarded (l : List (Bool × Status)) (s : State) (act : Answer) : Answer :=
  match refusal l with
  | some st => refuse st s
  | none => act

/-- A response is stored with its request and delivered; that of a SESSION_OPEN from the network is stored with the session
it opened (17 R394, R399, R403). -/
def respond (q : Req) (st : Status) (payload : List Byte) (s : State) : State :=
  match q.slot with
  | none =>
    let r : Resp := { opcode := q.opcode, session := q.session, sequence := q.sequence, status := st, payload := payload }
    let s := match idx? 14 (byteAt payload 0) with
      | some k => if st = .ok then s.setSess k fun c => { c with last := some (q, r) } else s
      | none => s
    deliver q r s
  | some k =>
    let st := noticeStatus s.mbx.sess[k] st
    let r : Resp := { opcode := q.opcode, session := q.session, sequence := q.sequence, status := st, payload := payload }
    deliver q r (s.setSess k fun c => { markNotices st c with last := some (q, r) })

/-- Is a request the repeat of another (17 R394)? -/
def sameRequest (a b : Req) : Bool :=
  a.sequence == b.sequence && a.opcode == b.opcode && a.payload == b.payload

/-- The stored response of a repeated request. -/
def storedResponse (q : Req) (s : State) : Option Resp :=
  match q.slot with
  | none => (s.mbx.sess.toList.findSome? fun c =>
      if c.isOpen && c.addr == q.srcIp && c.port == q.srcPort then c.last else none).bind fun x =>
        if sameRequest x.1 q then some x.2 else none
  | some k => match (s.mbx.sess[k]).last with
    | some (p, r) => if sameRequest p q then some r else none
    | none => none

/-! ### The description of a command -/

/-- Where the data of a loading command stand (17 R392, R408). -/
inductive Loads where
  /-- no loading command -/
  | no
  /-- parts: byte of the flags, bits of START and LAST; OFFSET and TOTAL follow at byte 4 -/
  | part (flagByte start last : Nat)
  /-- plain data from an offset on -/
  | data (off : Nat)
  /-- data from an offset on, with START and LAST in a flag byte -/
  | flagged (off flagByte start last : Nat)

/-- What the framework needs to know of a command. -/
structure Cmd where
  opcode : Nat
  /-- the request length is right -/
  len : List Byte → Bool
  /-- QUERY is accepted (17 R392) -/
  query : Bool := false
  loads : Loads := .no
  /-- settings written, for R403 -/
  written : List Byte → List Written := fun _ => []
  body : Req → State → Answer

/-- The 16-byte reference of a BULK request: host address, length, and whether the reserved bytes are zero. -/
def bulkRef (bs : List Byte) : Nat × Nat × Bool := (le64 bs 0, le32 bs 8, zeroAt bs 12 4)

/-- START and LAST set in the flag byte of a request. -/
def setFlags (head : List Byte) (f st la : Nat) : List Byte :=
  let set := fun (n k : Nat) => if n.testBit k then n else n + 2 ^ k
  head.set f (BitVec.ofNat 8 (set (set (byteAt head f) st) la))

/-- A BULK request of a loading command as the command reads it (17 R392): the data as one part with START and LAST. -/
def bulkPayload (c : Cmd) (q : Req) : Option (List Byte) :=
  match c.loads with
  | .no => none
  | .part f st la =>
    let r := bulkRef (q.payload.drop 4)
    if q.payload.length ≠ 20 ∨ !r.2.2 then none
    else
      some (setFlags (q.payload.take 4) f st la ++ bytesOf 4 0 ++ bytesOf 4 r.2.1 ++ fit r.2.1 q.bulk)
  | .data off =>
    let r := bulkRef (q.payload.drop off)
    if q.payload.length ≠ off + 16 ∨ !r.2.2 then none else some (q.payload.take off ++ fit r.2.1 q.bulk)
  | .flagged off f st la =>
    let r := bulkRef (q.payload.drop off)
    if q.payload.length ≠ off + 16 ∨ !r.2.2 then none
    else some (setFlags (q.payload.take off) f st la ++ fit r.2.1 q.bulk)

/-- The payload of a request as its command reads it (17 R392). -/
def Cmd.effective (c : Cmd) (q : Req) : List Byte :=
  if !q.isBulk then q.payload
  else match c.loads with
    | .no => q.payload.take (q.payload.length - 16)
    | _ => (bulkPayload c q).getD q.payload

/-- Change the waiting command that a deferred answer belongs to. -/
def State.setLater (s : State) (l : Later) (f : RegAccess → RegAccess) : State :=
  match l with
  | .port p => s.setPort p fun x => { x with regAccess := x.regAccess.map f }
  | .engine e => s.setEng e fun x => { x with test := x.test.map f }

/-- A BULK response: the data go to the host buffer, cut to its length; the response carries the count (17 R392).  D2H6 carries
them (16 Table 16.6; DESIGN CHOICE, not D2H7). -/
def bulkAnswer (addr len : Nat) (a : Answer) : Answer :=
  if a.status = .ok then
    let d := a.payload.take len
    { a with payload := bytesOf 4 d.length, state := a.state.emit (.hostWrite (some 6) addr d false) }
  else a

/-- The body of a command on a request whose flags have been dealt with. -/
def Cmd.checked (c : Cmd) (q : Req) (s : State) : Answer :=
  if c.len q.payload then c.body q s else refuse .badParam s

/-- A request is carried out (17 R392, R393). -/
def Cmd.run (c : Cmd) (q : Req) (s : State) : Answer :=
  if q.bad || decide (16 ≤ q.flags) || (q.query && !c.query) then refuse .badParam s
  else if q.isBulk then
    if q.session < 1 ∨ 4 < q.session then refuse .unsupported s
    else match c.loads with
      | .no =>
        let n := q.payload.length - 16
        let r := bulkRef (q.payload.drop n)
        if q.payload.length < 16 ∨ !r.2.2 then refuse .badParam s
        else
          let a := c.checked { q with payload := q.payload.take n } s
          match a.later with
          | some w => { a with state := a.state.setLater w fun y => { y with dest := some (r.1, r.2.1) } }
          | none => bulkAnswer r.1 r.2.1 a
      | _ => match bulkPayload c q with
        | some p => c.checked { q with payload := p } s
        | none => refuse .badParam s
  else c.checked q s

/-! ### The queue (17 R395 to R402) -/

/-- Rank of a request among those of one management cycle (17 R402). -/
def rank (q : Req) : Nat := if q.session = 13 then 14 else if q.net ∧ (q.session < 5 ∨ 12 < q.session) then 13 else q.session

/-- A request enters the queue behind the earlier ones and those of its cycle with a lower or equal rank. -/
def enqueue (now : Nat) (q : Req) : List (Nat × Req) → List (Nat × Req)
  | [] => [(now, q)]
  | (t, r) :: l => if t = now ∧ rank q < rank r then (now, q) :: (t, r) :: l else (t, r) :: enqueue now q l

/-- A request arrives at firmware. -/
def arrive (q : Req) (s : State) : State :=
  let s := match q.slot with
    | some k => s.setSess k fun c => { c with outstanding := some q, lastAt := s.now }
    | none => s
  { s with mbx := { s.mbx with queue := enqueue s.now q s.mbx.queue } }

/-- The opcodes of the chapter (17 Tables 17.6 to 17.14). -/
def knownOpcode (o : Nat) : Bool :=
  [0x0100, 0x0101, 0x0102, 0x0103, 0x0104, 0x0105, 0x0106, 0x0107, 0x0200, 0x0201, 0x0202, 0x0203, 0x0204, 0x0205, 0x0300,
   0x0301, 0x0302, 0x0303, 0x0304, 0x0400, 0x0401, 0x0402, 0x0403, 0x0500, 0x0501, 0x0600, 0x0601, 0x0602, 0x0603].contains o
  || [0x0700, 0x0701, 0x0702, 0x0703, 0x0704, 0x0800, 0x0801, 0x0802, 0x0803, 0x0900, 0x0901, 0x0902, 0x0903, 0x0904, 0x0A00,
   0x0A01, 0x0A02, 0x0A03, 0x0B00, 0x0B01, 0x0C00, 0x0C01, 0x0C02, 0x0C03, 0x0D00, 0x0D01, 0x0E00, 0x0E01, 0x0F00, 0x0F01].contains o
  || [0x1000, 0x1001, 0x1003, 0x1004, 0x1005, 0x1010, 0x1011, 0x1012, 0x1013, 0x1014, 0x1015, 0x1020, 0x1021].contains o

/-- The opcodes that the boot ROM serves in HALTED (20 R439). -/
def recoveryOpcode (o : Nat) : Bool :=
  [0x0100, 0x1020, 0x1010, 0x1011, 0x1012, 0x1013, 0x1014, 0x1015].contains o

/-- The policy word in effect (20 Tables 20.8, 20.9). -/
def policyWord (s : State) : Nat :=
  match s.mgmt.lifeCycle with
  | .blank | .manufactured => 63
  | _ => s.mgmt.policyFuse % 64

/-- Does HALTED with RECOVERY serve the session and opcode (20 R439)? -/
def recoveryServes (s : State) (q : Req) : Bool :=
  (policyWord s).testBit 5 && (q.session == 13 || q.session == 1) && recoveryOpcode q.opcode

/-- Is the session of a request open (17 R398)? -/
def sessionOpen (s : State) (q : Req) : Bool :=
  match idx? 14 q.session with
  | some k => q.session == 0 || (s.mbx.sess[k]).isOpen || (q.net && q.opcode == 0x0101)
  | none => q.net && q.opcode == 0x0101

/-- Does firmware answer a request at the queue's head without a command of this chapter: a discard, or UNSUPPORTED
(17 R392, R393, R398; 20 R439)? -/
def plainAnswer (s : State) (q : Req) : Option (State → State) :=
  if q.flags.testBit 0 || q.noSession || !sessionOpen s q then some (discard q)
  else if !knownOpcode q.opcode then some (respond q .unsupported [])
  else if s.mgmt.dev = .halted ∧ !recoveryServes s q then some (respond q .unsupported [])
  else none

/-- Firmware works off the head of the queue as long as it needs no command for it. -/
def drainQueue : Nat → State → State
  | 0, s => s
  | n + 1, s => match s.mbx.queue with
    | [] => s
    | (_, q) :: t => match plainAnswer s q with
      | some f => drainQueue n (f { s with mbx := { s.mbx with queue := t } })
      | none => s

/-- The queue worked off. -/
def settleQueue (s : State) : State := drainQueue s.mbx.queue.length s

/-- May session 0 go on: its background command has ended, and no cluster is being installed, since the records apply in
stored order (20 R450)? -/
def recordsGoOn (s : State) : Bool :=
  (s.mbx.sess[(0 : Fin 14)]).background.isNone && (List.finRange 12).all fun c => (s.eng.cluster[c]).installing.isNone

/-- Does firmware act: the management core runs, and requests other than session 0's need open mailboxes (17 R398)? -/
def firmwareActs (s : State) (q : Req) : Bool :=
  s.firmwareRuns && s.power.state != .deepSleep
    && (if q.session = 0 ∧ !q.net then decide (8 ≤ s.mgmt.step) && recordsGoOn s else s.mbx.isOpen)

/-- The request that a command takes: the head of the queue, or one that arrives and is taken at once when nothing
waits. -/
def takeRequest (q : Req) (s : State) : Option State :=
  match s.mbx.queue with
  | [] => some s
  | (_, h) :: t => if h = q then some { s with mbx := { s.mbx with queue := t } } else none

/-- The settings store that firmware reads: the committed one of higher GENERATION, with its number (20 R449). -/
def committedStore (m : MgmtBlock) : Option (Nat × SettingsStore) :=
  let ok := fun (x : Option SettingsStore) => x.bind fun st => if st.trial then none else some st
  match ok m.stores[0], ok m.stores[1] with
  | some a, some b => if a.generation < b.generation then some (1, b) else some (0, a)
  | some a, none => some (0, a)
  | none, some b => some (1, b)
  | none, none => none

/-- A SETTINGS log entry: result, store generation, schema (20 Table 20.6). -/
def settingsLog (result : Nat) (more : List Byte) (s : State) : State :=
  let st := (committedStore s.mgmt).map (·.2)
  s.log 2 0xFF ([result] ++ (bytesOf 4 ((st.map (·.generation)).getD 0) ++ bytesOf 4 ((st.map (·.schema)).getD 0)
    ++ more).map BitVec.toNat)

/-- A settings record that is refused is logged and skipped (20 R450). -/
def recordRefused (opcode : Nat) (st : Status) (s : State) : State :=
  settingsLog 5 (bytesOf 2 opcode ++ bytesOf 1 st.code) s

/-- Session 0 claims each resource that a record names and nobody holds, and logs a refused record (20 R450). -/
def firmwareRecord (q : Req) (st : Status) (named : List Nat) (s : State) : State :=
  if q.session ≠ 0 ∨ q.net then s
  else
    let s := forEach named (fun r t => if r ≠ resDevice ∧ (t.holder r).isNone then
      { t with mbx := { t.mbx with claims := t.mbx.claims ++ [(r, 0)] } } else t) s
    if st = .ok ∨ st = .pending then s else recordRefused q.opcode st s

/-- The status with SUPERSEDED, by the notices held before the command (17 R403). -/
def noticed (old : State) (q : Req) (st : Status) : Status :=
  match q.slot with
  | some k => noticeStatus old.mbx.sess[k] st
  | none => st

/-- A request whose answer comes later stays outstanding (17 R395). -/
def deferred (w : Later) (q : Req) (s : State) : State :=
  let s := s.setLater w fun y => { y with req := q }
  match q.slot with
  | some k => s.setSess k fun c => { c with outstanding := some q }
  | none => s

/-- A command whose answer came later is answered, unless its session has closed (17 R392, R399). -/
def answerLater (a : RegAccess) (st : Status) (payload : List Byte) (s : State) : State :=
  let waits := match a.req.slot with
    | some k => (s.mbx.sess[k]).outstanding == some a.req
    | none => false
  if !waits then s
  else match a.dest with
    | none => respond a.req st payload s
    | some d =>
      let b := bulkAnswer d.1 d.2 { status := st, payload := payload, state := s }
      respond a.req st b.payload b.state

/-- Firmware takes a request of a command and answers it (17 R394, R400, R402, R403). -/
def serve (c : Cmd) (q : Req) (s : State) : State :=
  if q.opcode ≠ c.opcode ∨ !firmwareActs s q then s
  else match takeRequest q s with
    | none => s
    | some s =>
      match plainAnswer s q with
      | some f => settleQueue (f s)
      | none =>
        match storedResponse q s with
        | some r => settleQueue (deliver q r s)
        | none =>
          let old := s
          let a := c.run q s
          match a.later with
          | some w => settleQueue (deferred w q a.state)
          | none =>
          let s := if (a.status = .ok ∨ a.status = .pending) ∧ !q.query then
              forEach (c.written (c.effective q)) (recordWrite q) a.state else a.state
          let s := firmwareRecord q a.status ((c.written (c.effective q)).map (·.resource)) s
          settleQueue (respond q (noticed old q a.status) a.payload s)

/-- Fixed request length. -/
def lenIs (n : Nat) (p : List Byte) : Bool := p.length == n

/-- A device-wide setting (17 R403). -/
def wholeSetting (p : List Byte) : List Written := [{ resource := resDevice, payload := p.map some }]

/-- A device-wide setting selected by its first byte. -/
def selectedSetting (n : Nat) (p : List Byte) : List Written :=
  [{ resource := resDevice, selector := p.take n, payload := (p.drop n).map some }]

/-- A setting of the resource that byte 0 names. -/
def resourceSetting (res : Nat → Nat) (p : List Byte) : List Written :=
  [{ resource := res (byteAt p 0), payload := (p.drop 1).map some }]

end Sys2Proof.Machine
end

