-- ==== Sys2Proof/Machine/Camera.lean ====
section
/-! DEFINITION. The camera links: blocks, control messages, bring-up, merging, loss and CoaXPress (02). -/

namespace Sys2Proof.Machine

/-! ### Blocks as received (02 R35, R38, R40) -/

/-- The pair of bits of a Gray value, the earlier-sent bit first (02 R40). -/
def grayPair (g : Nat) : Bool × Bool := (decide (2 ≤ g), g == 1 || g == 2)

/-- The value P of symbol `i` of a PAM4 block. -/
def pamValue (blk : BitVec 66) (i : Nat) : Nat := blk.toNat / 4 ^ i % 4

/-- The 66 bits of a PAM4 block whose symbols are P values, and the last P (02 R40). -/
def pamDecode (precode : Bool) (last : Nat) (blk : BitVec 66) : BitVec 66 × Nat :=
  let bits := (List.range 33).flatMap fun i =>
    let p := pamValue blk i
    let prev := if i = 0 then last else pamValue blk (i - 1)
    let g := grayPair (if precode then (p + prev) % 4 else p)
    [g.1, g.2]
  (BitVec.ofNat 66 (bits.foldr (fun b n => 2 * n + b.toNat) 0), pamValue blk 32)

/-- The descrambled payload and the register after it: x^58 + x^39 + 1, bit 0 first (02 R35). -/
def descramble (reg : BitVec 58) (payload : BitVec 64) : BitVec 64 × BitVec 58 :=
  let r := (List.range 64).foldl (fun (a : List Bool × BitVec 58) i =>
    let b := payload.getLsbD i
    ((b ^^ a.2.getLsbD 38 ^^ a.2.getLsbD 57) :: a.1, (a.2 <<< 1) ||| (BitVec.ofBool b).zeroExtend 58)) ([], reg)
  (BitVec.ofNat 64 (r.1.foldl (fun n b => 2 * n + b.toNat) 0), r.2)

/-- A block of a lane: its sync header and descrambled payload. -/
structure Block where
  header : Nat
  payload : BitVec 64
  deriving DecidableEq, Repr

/-- A block is received on a lane, which shows a signal at its receiver. -/
def receiveBlock (l : Fin 24) (blk : BitVec 66) (s : State) : Block × State :=
  let c := s.cam.lane[l]
  let d := if c.mode = 3 then pamDecode c.precode c.lastP blk else (blk, c.lastP)
  let u := descramble c.descr (d.1.extractLsb' 2 64)
  ({ header := d.1.toNat % 4, payload := u.1 }, s.setLane l fun c => { c with lastP := d.2, descr := u.2, signal := true })

/-- Byte `i` of a payload. -/
def Block.byte (b : Block) (i : Nat) : Nat := b.payload.toNat / 256 ^ i % 256

/-- The `n`-byte field at byte `i` of a payload. -/
def Block.field (b : Block) (i n : Nat) : Nat := b.payload.toNat / 256 ^ i % 256 ^ n

/-- A control block of a type. -/
def Block.isType (b : Block) (t : Nat) : Bool := b.header == 2 && b.byte 0 == t

/-- A control type listed in 02 Table 2.2; the receiver removes a TRIGGER from the data stream (02 R38). -/
def Block.known (b : Block) : Bool := b.header == 2 && [0x1E, 0x2D, 0x33, 0x4B, 0x55, 0x66, 0x78].contains (b.byte 0)

/-- Is the lane powered and started, as a lane of Phirvo Link? -/
def laneUp (s : State) (l : Fin 24) : Bool := (s.cam.lane[l]).state != .down && !isCxp s (laneOwner s l)

/-- A report of the camera link group; `cause` is the row of 02 Table 2.7 (19 Table 19.1). -/
def camReport (p : Fin 12) (cls : FltClass) (cause : Nat) (s : State) : State :=
  s.report { group := 0, cls := cls, inst := p.val, cause := cause }

/-- An invalid header, an unknown control type or untagged data is counted and the block discarded (02 R57). -/
def badBlock (l : Fin 24) (s : State) : State :=
  camReport (laneOwner s l) .drizzle 1 (s.setLane l fun c => { c with badHeader := satInc 32 c.badHeader })

/-- The header is invalid: a running check window counts it (02 Table 2.4). -/
def countInvalid (l : Fin 24) (s : State) : State :=
  s.setLane l fun c => if c.checking then { c with checkBad := c.checkBad + 1 } else c

/-- INVALID_BLOCK_RX: a block with an invalid header or of an unlisted control type is received (02 R35, R38, R57). -/
def execInvalidBlockRx (l : Fin 24) (blk : BitVec 66) (s : State) : Host.Outcome State Fault Refusal :=
  if !laneUp s l then .next s
  else
    let (b, s) := receiveBlock l blk s
    .next (if b.header = 0 ∨ b.header = 3 then badBlock l (countInvalid l s)
      else if b.header = 2 ∧ !b.known then badBlock l s else s)

/-! ### Assembly and merging of lines (02 R36, R37, R55, R56; 03 R66) -/

/-- The stamp that the receiver gives now (02 R51; 03 R66). -/
def stampNow (p : Fin 12) (s : State) : LineStamp :=
  let x := s.pipe[p]
  { pos := s.posCount x.posCh, time := s.tbTime x.tb, ts := s.tbTs x.tb }

/-- Does the port pass lines to line framing (02 R46)? -/
def portRuns (s : State) (p : Fin 12) : Bool :=
  let k := (s.cam.port[p]).link
  k == .run || k == .runDegraded

/-- Do lines come on both lanes (02 R37, R58)? -/
def dualLane (s : State) (p : Fin 12) : Bool :=
  (s.cam.port[p]).link == .run && (match (s.cam.port[p]).config with | some c => !c.cxp && c.lanes == 2 | none => false)

/-- Block `j` of a line travels on lane `j mod 2` (02 R37): the blocks in order, up to the first missing one. -/
def interleave {α : Type} : List α → List α → List α
  | [], _ => []
  | a :: _, [] => [a]
  | a :: as, b :: bs => a :: b :: interleave as bs

/-- Samples per pixel of a stream: its channels under JOIN, the pipe's under SPLIT (02 R55). -/
def streamChannels (c : PortConfig) (channels stream : Nat) : Nat :=
  if c.split then channels else (maskList 8 ((c.chMask.toList[stream]?).getD 0)).length

/-- Whole pixels in `blocks` blocks at `size` bits a pixel: the zero bits that fill the last block can make a pixel or more
(02 R36), so the count is the first of the counts `wanted` that fills exactly these blocks, else all that fit (DEDUCED). -/
def pixelCount (wanted : List Nat) (size blocks : Nat) : Nat :=
  (wanted.find? fun n => ceilDiv (n * size) 64 == blocks).getD (64 * blocks / size)

/-- The first `n` pixels of a run of payloads (02 R36; 03 R67). -/
def unpackPixels (channels depth n : Nat) (blocks : List (BitVec 64)) : List (List Nat) :=
  let w := (blocks.foldr (fun b n => b.toNat + 2 ^ 64 * n) 0)
  (List.range n).map fun x => (List.range channels).map fun c => w / 2 ^ ((x * channels + c) * depth) % 2 ^ depth

/-- Samples of a line packed into 64-bit blocks, the last one padded with zero bits (02 R36, R53). -/
def packPixels (depth : Nat) (px : List (List Nat)) : List (BitVec 64) :=
  let smp := px.flatMap id
  let w := smp.foldr (fun v n => v % 2 ^ depth + 2 ^ depth * n) 0
  (List.range (ceilDiv (smp.length * depth) 64)).map fun j => BitVec.ofNat 64 (w / 2 ^ (64 * j))

/-- The sample of channel `ch` of pixel `x` under JOIN: of the lowest stream that supplies the channel. -/
def joinSample (c : PortConfig) (m : MergeLine) (x ch : Nat) : Option Nat :=
  match (List.finRange 4).find? fun k => c.streamMask.testBit k.val && (c.chMask[k]).testBit ch with
  | none => none
  | some k => match m.parts[k] with
    | none => none
    | some t => (t.pixels[x]?).bind (·[((maskList 8 c.chMask[k]).filter (· < ch)).length]?)

/-- The parts that have come. -/
def partsOfLine (m : MergeLine) : List StreamPart := m.parts.toList.filterMap id

/-- The least element of a list, 0 for none. -/
def minLen (l : List Nat) : Nat := match l with | [] => 0 | a :: t => t.foldl min a

/-- The merged pixels of a line (02 R55, R56): fill where a part is missing. Under SPLIT the lowest stream supplies a column that
two runs cover, and under JOIN the shortest part sets the length (DESIGN CHOICE: the spec is silent on both). -/
def mergedPixels (c : PortConfig) (channels : Nat) (m : MergeLine) : RawLine :=
  if c.split then
    let ends := (List.finRange 4).filterMap fun k => (m.parts[k]).map fun t => c.startCol[k] + t.pixels.length
    (List.range (ends.foldl max 0)).map fun x =>
      match (List.finRange 4).filterMap (fun k => match m.parts[k] with
        | some t => if c.startCol[k] ≤ x then t.pixels[x - c.startCol[k]]? else none
        | none => none) with
      | [] => []
      | px :: _ => px.map some
  else
    (List.range (minLen ((partsOfLine m).map (·.pixels.length)))).map fun x =>
      (List.range channels).map fun ch => joinSample c m x ch

/-- The streams that a port merges. -/
def enabledStreams (c : PortConfig) : List (Fin 4) := (List.finRange 4).filter fun k => c.streamMask.testBit k.val

/-- Have all enabled streams delivered the line? -/
def lineWhole (c : PortConfig) (m : MergeLine) : Bool := (enabledStreams c).all fun k => (m.parts[k]).isSome

/-- A pixel of a merged line that no stream supplied. -/
def hasHole (px : RawLine) : Bool := px.any fun v => v.isEmpty

/-- A line leaves the merger towards line framing (02 R56; 03 R67). -/
def passLine (p : Fin 12) (c : PortConfig) (m : MergeLine) (s : State) : State :=
  let px := mergedPixels c (s.pipe[p]).channels m
  let short := !lineWhole c m || hasHole px || (partsOfLine m).any (·.cut)
  let s := s.setPort p fun x => { x with passed := (m.number :: x.passed).take 8
                                         held := x.held.filter fun h => h.number != m.number }
  let s := lineIn p px m.stamp short ((partsOfLine m).any (·.crc)) s
  let act := ((enabledStreams c).filter fun k => (m.parts[k]).isSome).foldl (fun n k => n ||| 2 ^ k.val) 0
  s.setPort p fun x => { x with streamsActive := x.streamsActive ||| act }

/-- Is line number `n` at least 4 older than `m` (02 R56)? -/
def staleLine (m n : Nat) : Bool := decide (4 ≤ (BitVec.ofNat 32 m - BitVec.ofNat 32 n).toInt)

/-- Has a line number been passed on: it is among the last ones, or at least 4 older than one of them, so that the merger
no longer holds it (02 R56)? -/
def alreadyPassed (x : Port) (n : Nat) : Bool := x.passed.any fun m => m == n || staleLine m n

/-- Lines that the arrival of number `n` completes, oldest first, and those that no longer fit the four held. -/
def completeStale (p : Fin 12) (c : PortConfig) (n : Nat) (s : State) : State :=
  let old := ((s.cam.port[p]).held).filter fun h => staleLine n h.number
  let s := forEach old (passLine p c) s
  let l := (s.cam.port[p]).held
  forEach (l.take (l.length - 4)) (passLine p c) s

/-- The line with one more part; a line's stamp is its first part's, under JOIN the framing stream's (03 R66). -/
def addPart (c : PortConfig) (k : Fin 4) (t : StreamPart) (stamp : LineStamp) (m : MergeLine) : MergeLine :=
  let framing := (enabledStreams c).head? == some k
  { m with parts := m.parts.set k (some t), stamp := if framing && !c.split then stamp else m.stamp }

/-- A stream has delivered a line (02 R56). -/
def mergePart (p : Fin 12) (k : Fin 4) (number : Nat) (t : StreamPart) (stamp : LineStamp) (s : State) : State :=
  match (s.cam.port[p]).config with
  | none => s
  | some c =>
    if !c.streamMask.testBit k.val || alreadyPassed s.cam.port[p] number then
      s.setPort p fun x => { x with unmapped := satInc 32 x.unmapped }
    else
      let held := (s.cam.port[p]).held
      let held := if held.any (·.number == number) then held else held ++ [{ number := number, stamp := stamp }]
      let s := s.setPort p fun x =>
        { x with held := held.map fun m => if m.number = number then addPart c k t stamp m else m }
      let s := match ((s.cam.port[p]).held).find? (·.number == number) with
        | some m => if lineWhole c m then passLine p c m s else s
        | none => s
      completeStale p c number s

/-- Where the run of columns of a stream ends under SPLIT: at the next start column, or at LINE_PIXELS. -/
def runEnd (c : PortConfig) (linePixels : Nat) (k : Fin 4) : Nat :=
  (((enabledStreams c).map fun j => c.startCol[j]).filter (c.startCol[k] < ·)).foldl min linePixels

/-- The pixel counts that a stream's line can be expected to have: the camera's pixels per line (02 Table 2.3), then what
the pipe takes of the stream (02 R55). -/
def wantedPixels (c : PortConfig) (caps : Option Caps) (linePixels : Nat) (k : Fin 4) : List Nat :=
  (caps.map (·.pixels)).toList ++ [if c.split then runEnd c linePixels k - c.startCol[k] else linePixels]

/-- A line of a stream is complete on the port's lanes: its CRC errors count, and it is merged (02 R56, R57). -/
def deliverLine (p : Fin 12) (d : LaneLine) (blocks : List (BitVec 64)) (crcBad cut : Bool) (s : State) : State :=
  match (s.cam.port[p]).config with
  | none => s
  | some c =>
    let x := s.pipe[p]
    let ch := streamChannels c x.channels d.stream.val
    let want := wantedPixels c (s.cam.port[p]).caps x.active.linePixels d.stream
    let px := unpackPixels ch x.depth (pixelCount want (ch * x.depth) blocks.length) blocks
    let s := s.setPort p fun y => { y with crcErrS := if crcBad then upd y.crcErrS d.stream (satInc 32) else y.crcErrS }
    if portRuns s p then mergePart p d.stream d.number { pixels := px, crc := crcBad, cut := cut } d.stamp s else s

/-- The other lane of a lane's port. -/
def otherLane (l : Fin 24) : Fin 24 := ⟨l.val / 2 * 2 + (1 - l.val % 2), by omega⟩

/-- Are two parts of one line of one stream? -/
def sameLine (d e : LaneLine) : Bool := d.number == e.number && d.stream == e.stream

/-- Finished parts of a lane whose partners did not come end their lines early. -/
def flushParts (l : Fin 24) (ds : List LaneLine) (s : State) : State :=
  forEach ds (fun d t =>
    deliverLine (laneOwner s l) d (if l.val % 2 = 0 then interleave d.blocks [] else []) d.crcBad true t) s

/-- All parts that wait on a lane end their lines early. -/
def flushDone (l : Fin 24) (s : State) : State :=
  flushParts l (s.cam.lane[l]).done (s.setLane l fun c => { c with done := [] })

/-- The parts of one line have come on both lanes: older parts, whose partners did not come, end their lines early, and the
line is complete (02 R37). -/
def joinParts (l : Fin 24) (d e : LaneLine) (s : State) : State :=
  let o := otherLane l
  let older := (s.cam.lane[o]).done.takeWhile fun x => !sameLine d x
  let rest := (s.cam.lane[o]).done.drop (older.length + 1)
  let s := flushParts o older ((flushDone l s).setLane o fun c => { c with done := rest })
  let b := if l.val % 2 = 0 then interleave d.blocks e.blocks else interleave e.blocks d.blocks
  deliverLine (laneOwner s l) d b (d.crcBad || e.crcBad) (d.cut || e.cut) s

/-- A part waits for the other lane's; the skew tolerance is 16 blocks, so at most 16 parts wait (02 R51). -/
def holdPart (l : Fin 24) (d : LaneLine) (s : State) : State :=
  let q := (s.cam.lane[l]).done ++ [d]
  flushParts l (q.take (q.length - 16)) (s.setLane l fun c => { c with done := q.drop (q.length - 16) })

/-- A lane's part of a line is finished: with one lane in use the line is complete, with two it waits for the other lane's
part (02 R37). -/
def partDone (l : Fin 24) (d : LaneLine) (s : State) : State :=
  let s := s.setLane l fun c => { c with line := none }
  if !dualLane s (laneOwner s l) then deliverLine (laneOwner s l) d d.blocks d.crcBad d.cut s
  else match (s.cam.lane[otherLane l]).done.find? (sameLine d) with
    | some e => joinParts l d e s
    | none => holdPart l d s

/-- The line in flight on a lane ends short (02 R50, R58). -/
def cutLine (l : Fin 24) (s : State) : State :=
  match (s.cam.lane[l]).line with
  | some d => partDone l { d with cut := true } s
  | none => s

/-! ### Elastic buffer (02 R50, R51) -/

/-- An elastic or skew error: counted, reported, and the line in flight ends short (02 R57). -/
def elasticError (l : Fin 24) (s : State) : State :=
  cutLine l (camReport (laneOwner s l) .drizzle 2 (s.setLane l fun c =>
    { c with elasticErr := satInc 16 c.elasticErr, fill := 16 }))

/-- The fill after a block: 0 with data pending, or 32, is an error (02 R50). -/
def elasticFill (l : Fin 24) (fill : Nat) (s : State) : State :=
  if fill = 32 ∨ (fill = 0 ∧ (s.cam.lane[l]).line.isSome) then elasticError l s
  else s.setLane l fun c => { c with fill := fill }

/-- DATA_BLOCK_RX: a data block is received; `fill` is the elastic buffer's fill after it (02 R39, R50).  Data blocks of a
line that an elastic or skew error has cut count as untagged data (DESIGN CHOICE). -/
def execDataBlockRx (l : Fin 24) (blk : BitVec 66) (fill : Fin 33) (s : State) : Host.Outcome State Fault Refusal :=
  if !laneUp s l then .next s
  else
    let (b, s) := receiveBlock l blk s
    if b.header ≠ 1 then .next s
    else match (s.cam.lane[l]).line with
      | none => .next (elasticFill l fill.val (badBlock l s))
      | some d => .next (elasticFill l fill.val
          (s.setLane l fun c => { c with line := some { d with blocks := d.blocks ++ [b.payload] } }))

/-- IDLE_BLOCK_RX: an IDLE is received at a fill: it is deleted, doubled or kept (02 R50). -/
def execIdleBlockRx (l : Fin 24) (blk : BitVec 66) (fill : Fin 33) (s : State) : Host.Outcome State Fault Refusal :=
  if !laneUp s l then .next s
  else
    let (b, s) := receiveBlock l blk s
    if !b.isType 0x1E then .next s
    else if 17 ≤ fill.val then
      .next (elasticFill l fill.val (s.setLane l fun c => { c with idleDel := satInc 16 c.idleDel }))
    else if fill.val ≤ 15 then
      .next (elasticFill l fill.val (s.setLane l fun c => { c with idleIns := satInc 16 c.idleIns }))
    else .next (elasticFill l fill.val s)

/-- The line part that a LINE_START opens, stamped on the earlier lane of the line (02 R39, R51; 03 R66). -/
def openLine (l : Fin 24) (b : Block) (s : State) : LaneLine :=
  let d : LaneLine := { stream := ⟨b.byte 1 % 4, by omega⟩, number := b.field 4 4, announced := b.field 2 2
                        stamp := stampNow (laneOwner s l) s }
  let o := s.cam.lane[otherLane l]
  if !dualLane s (laneOwner s l) then d
  else match (o.line.toList ++ o.done).find? (sameLine d) with
    | some e => { d with stamp := e.stamp }
    | none => d

/-- LINE_START_RX: `skew` is the lane skew in blocks when this is the later lane, else 0; without block lock no line starts
(02 R39, R51; 03 R66). -/
def execLineStartRx (l : Fin 24) (blk : BitVec 66) (skew : Fin 256) (s : State) : Host.Outcome State Fault Refusal :=
  if !laneUp s l then .next s
  else
    let (b, s) := receiveBlock l blk s
    if !b.isType 0x2D ∨ !(s.cam.lane[l]).lock then .next s
    else
      let s := cutLine l s
      let d := openLine l b s
      let s := s.setLane l fun c => { c with line := some d }
      .next (if 16 < skew.val then elasticError l s else s)

/-- LINE_END_RX: the line's CRC is checked, and the line is merged, measured, tagged and handed to its pipe
(02 R56, R57; 03 R67). -/
def execLineEndRx (l : Fin 24) (blk : BitVec 66) (s : State) : Host.Outcome State Fault Refusal :=
  if !laneUp s l then .next s
  else
    let (b, s) := receiveBlock l blk s
    if !b.isType 0x33 then .next s
    else match (s.cam.lane[l]).line with
      | none => .next s
      | some d =>
        let bad := (crc32 d.blocks).toNat != b.field 4 4
        let s := if bad then camReport (laneOwner s l) .drizzle 0
            (s.setLane l fun c => { c with crcErr := satInc 32 c.crcErr }) else s
        .next (partDone l { d with crcBad := bad } s)

/-! ### Frames (03 R68; 02 R58) -/

/-- The framing stream of a port (03 R68). -/
def framingStream (c : PortConfig) : Option (Fin 4) := (enabledStreams c).head?

/-- At the frame that LANE_UP named, a recovered lane rejoins and CAM_DEGRADED clears (02 R58, R60).  The return is no
further arrival, so LINK_CHANGES does not count it (DESIGN CHOICE). -/
def rejoin (p : Fin 12) (counter : Nat) (s : State) : State :=
  let due := (portLanes s p).filter fun l => match (s.cam.lane[l]).rejoinAt with
    | some n => (s.cam.lane[l]).state == .run && decide (0 ≤ (BitVec.ofNat 32 counter - BitVec.ofNat 32 n).toInt)
    | none => false
  if due.isEmpty || (s.cam.port[p]).link != .runDegraded then s
  else
    chainRestart p (setPrimary p ((forEach due (fun l t => t.setLane l fun c => { c with rejoinAt := none }) s).setPort p fun x =>
      { x with link := .run, degraded := false }))

/-- FRAME_START of a stream. -/
def streamFrameStart (p : Fin 12) (k : Fin 4) (tag counter : Nat) (s : State) : State :=
  match (s.cam.port[p]).config with
  | none => s
  | some c =>
    if !portRuns s p then s
    else if framingStream c = some k then
      let stamp := stampNow p s
      frameStart p tag counter stamp (rejoin p counter s)
    else s.setPort p fun x => { x with otherFrames := x.otherFrames + 1 }

/-- FRAME_END of a stream. -/
def streamFrameEnd (p : Fin 12) (k : Fin 4) (s : State) : State :=
  match (s.cam.port[p]).config with
  | none => s
  | some c =>
    if !portRuns s p then s
    else if framingStream c = some k then frameEnd p s
    else s.setPort p fun x => { x with otherFrames := x.otherFrames + 1 }

/-- FRAME_START_RX (03 R68, R69). -/
def execFrameStartRx (l : Fin 24) (blk : BitVec 66) (s : State) : Host.Outcome State Fault Refusal :=
  if !laneUp s l then .next s
  else
    let (b, s) := receiveBlock l blk s
    if !b.isType 0x4B then .next s
    else .next (streamFrameStart (laneOwner s l) ⟨b.byte 1 % 4, by omega⟩ (b.field 2 2) (b.field 4 4) s)

/-- FRAME_END_RX (03 R68, R69). -/
def execFrameEndRx (l : Fin 24) (blk : BitVec 66) (s : State) : Host.Outcome State Fault Refusal :=
  if !laneUp s l then .next s
  else
    let (b, s) := receiveBlock l blk s
    if !b.isType 0x55 then .next s
    else .next (streamFrameEnd (laneOwner s l) ⟨b.byte 1 % 4, by omega⟩ s)

/-! ### Loss (02 R57 to R60) -/

/-- A port is lost: the open bolt closes, and the port returns to step 1 (02 R57; 03 R69). A line in flight is handed on first, cut
short, as the bolt's last line (DESIGN CHOICE: the spec says only that the bolt closes after its last accepted line). -/
def portLoss (p : Fin 12) (s : State) : State :=
  if (s.cam.port[p]).link = .down then s
  else
    let on := (s.cam.port[p]).unit == .enabled
    let s := forEach (portLanes s p) cutLine s
    let s := camReport p .squall 4 s
    let s := (endBolts p s).setPipe p fun x => { x with waitFrame := false }
    if on then portStart p s else s

/-- PORT_LOSS: all lanes of a port are lost (02 R57, R60). -/
def execPortLoss (p : Fin 12) (s : State) : Host.Outcome State Fault Refusal := .next (portLoss p s)

/-- PRIMARY_SILENCE_TIMEOUT: 50 ms without a message on the primary lane (02 R44). -/
def execPrimarySilenceTimeout (p : Fin 12) (s : State) : Host.Outcome State Fault Refusal :=
  .next (if portRuns s p ∧ !isCxp s p then portLoss p s else s)

/-- One lane of two is lost in RUN (02 R58). -/
def degrade (p : Fin 12) (l : Fin 24) (s : State) : State :=
  let k := 1 - l.val % 2
  let s := flushDone (otherLane l) (flushDone l (cutLine (otherLane l) (cutLine l s)))
  let s := startLane false l s
  let s := chainRestart p ((markDegraded p s).setPort p fun x => { x with link := .runDegraded, primary := k })
  sendCtrl p k 0x0C (msgBytes 1 (l.val % 2)) (camReport p .squall 3 s)

/-- LANE_LOSS: a lane is lost (02 R57, R58, R60): degraded operation, port loss, or the lane's own bring-up again. -/
def execLaneLoss (l : Fin 24) (s : State) : Host.Outcome State Fault Refusal :=
  let p := laneOwner s l
  if !laneUp s l ∨ isCxp s p then .next s
  else if dualLane s p then .next (degrade p l s)
  else if portRuns s p ∧ (s.cam.port[p]).primary = l.val % 2 then .next (portLoss p s)
  else .next (setPrimary p (startLane false l s))

/-! ### Control messages (02 R42, R43) -/

/-- A complete message of bytes, when its length and CRC hold (02 R43). -/
def parseMsg (bs : List Byte) : Option CtrlMsg :=
  let n := le16 bs 2
  if n ≤ 90 ∧ n + 6 ≤ bs.length ∧ (crc16 (bs.take (n + 4))).toNat = le16 bs (n + 4) then
    some { typ := byteAt bs 0, seq := byteAt bs 1, body := (slice bs 4 n).map BitVec.toNat }
  else none

/-- The fragments after one more of index `i`: first and last flags, six bytes.  A fragment out of order discards the message
in progress (DESIGN CHOICE: the spec is silent). -/
def addFragment (fr : Option (List Byte × Nat)) (i : Nat) (first : Bool) (six : List Byte) : Option (List Byte × Nat) :=
  if first then (if i = 0 then some (six, 1) else none)
  else match fr with
    | some (bs, n) => if i = n then some (bs ++ six, n + 1) else none
    | none => none

/-- Types of the messages that a row of the table handles (02 Table 2.3). -/
def rxTypes : List Nat := [0x01, 0x02, 0x04, 0x05, 0x06, 0x09, 0x0B, 0x0E, 0x0F]

/-- A complete message has come: any but ACK is answered with an ACK of its sequence on its lane, and one that a row handles
waits for its row (02 R43). -/
def messageIn (l : Fin 24) (m : CtrlMsg) (s : State) : State :=
  let s := if m.typ = 0x0F then s else queueCtrl l 0x0F m.seq [] s
  if rxTypes.contains m.typ then s.setLane l fun c => { c with inbox := c.inbox ++ [m] } else s

/-- CTRL_FRAGMENT_RX: a fragment of a control message is received; the last one completes it (02 R43). -/
def execCtrlFragmentRx (l : Fin 24) (blk : BitVec 66) (s : State) : Host.Outcome State Fault Refusal :=
  if !laneUp s l then .next s
  else
    let (b, s) := receiveBlock l blk s
    if !b.isType 0x66 then .next s
    else
      let flags := b.byte 1
      let fr := addFragment (s.cam.lane[l]).frags (flags % 16) (flags.testBit 4) ((List.range 6).map fun i => BitVec.ofNat 8 (b.byte (2 + i)))
      if !flags.testBit 5 then .next (s.setLane l fun c => { c with frags := fr })
      else
        let s := s.setLane l fun c => { c with frags := none }
        .next (match fr.bind fun f => parseMsg f.1 with
          | some m => messageIn l m s
          | none => s)

/-- The oldest message of a type that waits on a lane is taken. -/
def takeMsg (l : Fin 24) (typ : Nat) (s : State) : Option (CtrlMsg × State) :=
  ((s.cam.lane[l]).inbox.find? (·.typ == typ)).map fun m =>
    (m, s.setLane l fun c => { c with inbox := c.inbox.erase m })

/-- A row that handles a message of a type: without such a message nothing happens. -/
def onMsg (l : Fin 24) (typ : Nat) (s : State) (f : List Nat → State → State) : Host.Outcome State Fault Refusal :=
  match takeMsg l typ s with
  | some (m, t) => .next (f m.body t)
  | none => .next s

/-- CTRL_ACK_RX: the message with the same sequence is answered (02 R43). -/
def execCtrlAckRx (l : Fin 24) (s : State) : Host.Outcome State Fault Refusal :=
  match takeMsg l 0x0F s with
  | none => .next s
  | some (m, t) => .next (t.setPort (laneOwner s l) fun x =>
      { x with outstanding := x.outstanding.filter fun o => o.msg.seq != m.seq })

/-- CTRL_ACK_TIMEOUT: 1 ms without the ACK of a message: it is repeated at most 3 times, then the link returns to SEARCH
(02 R43). -/
def execCtrlAckTimeout (p : Fin 12) (seq : Fin 256) (s : State) : Host.Outcome State Fault Refusal :=
  match (s.cam.port[p]).outstanding.find? fun o => o.msg.seq == seq.val with
  | none => .next s
  | some o =>
    if o.repeats < 3 then
      .next (queueCtrl (laneIx p o.lane) o.msg.typ o.msg.seq o.msg.body (s.setPort p fun x =>
        { x with outstanding := x.outstanding.map fun y => if y = o then { y with repeats := y.repeats + 1 } else y }))
    else
      let s := s.setPort p fun x => { x with outstanding := x.outstanding.filter (· != o) }
      .next (if portRuns s p ∧ (s.cam.port[p]).primary = o.lane then portLoss p s
        else startLane false (laneIx p o.lane) s)

/-- KEEPALIVE_TIMER: the 10 ms of KEEPALIVE are over (02 Table 2.3, R42). -/
def execKeepaliveTimer (p : Fin 12) (s : State) : Host.Outcome State Fault Refusal :=
  .next (if portRuns s p ∧ !isCxp s p then sendCtrl p (s.cam.port[p]).primary 0x0E [] s else s)

/-- KEEPALIVE_RX: a KEEPALIVE is answered (02 R43, R44). -/
def execKeepaliveRx (l : Fin 24) (s : State) : Host.Outcome State Fault Refusal := onMsg l 0x0E s fun _ s => s

/-- SETTINGS_APPLIED_RX: the apply latency of later sends (03 R84). -/
def execSettingsAppliedRx (l : Fin 24) (s : State) : Host.Outcome State Fault Refusal :=
  onMsg l 0x0B s fun b s => s.setPort (laneOwner s l) fun x => { x with applyLatency := (b[2]?).getD 0 % 8 }

/-- A camera register access ends with its answer, unless its session has closed (17 R392, R399). -/
def regDone (p : Fin 12) (st : Status) (payload : List Byte) (s : State) : State :=
  match (s.cam.port[p]).regAccess with
  | none => s
  | some a =>
    answerLater a st payload (s.setPort p fun x => { x with regAccess := none })

/-- A camera register access is answered (17 Table 17.7). -/
def regAnswer (p : Fin 12) (status : Nat) (data : List Byte) (s : State) : State :=
  match (s.cam.port[p]).regAccess with
  | none => s
  | some a =>
    let n := if byteAt a.req.payload 1 = 0 then 4 * byteAt a.req.payload 2 else 0
    regDone p .ok (bytesOf 2 status ++ zeros 2 ++ fit n data) s

/-- REG_RESP_RX: the answer to a register access arrives (02 Table 2.3; 17 CAM_REG_ACCESS). -/
def execRegRespRx (l : Fin 24) (s : State) : Host.Outcome State Fault Refusal :=
  onMsg l 0x09 s fun b s =>
    let bs := b.map (BitVec.ofNat 8)
    regAnswer (laneOwner s l) (le16 bs 0) (bs.drop 2) s

/-! ### Bring-up (02 R46 to R48, Table 2.4) -/

/-- The configured policy asks for precoding at first (02 R41). -/
def asksPrecode (c : PortConfig) : Bool := c.precode != 0

/-- RATE_REQ for a mode on a lane; the lane notes the precoding asked for.  Its body is one byte of mode in the codes of
Table 2.9 and one byte of precoding (DESIGN CHOICE: Table 2.3 gives no widths). -/
def rateReq (p : Fin 12) (l : Fin 24) (mode : Nat) (precode : Bool) (s : State) : State :=
  sendCtrl p (l.val % 2) 0x03 (msgBytes 1 mode ++ msgBytes 1 (if precode then 1 else 0))
    (s.setLane l fun c => { c with precode := precode, checking := false })

/-- A lane starts the rate step of a mode. -/
def startStep (p : Fin 12) (l : Fin 24) (mode : Nat) (s : State) : State :=
  let pre := mode == 3 && (match (s.cam.port[p]).config with | some c => asksPrecode c | none => false)
  rateReq p l mode pre (s.setLane l fun c => { c with state := if mode = 3 then .stepPam4 else .step10g, attempts := 0 })

/-- The lanes of a Phirvo Link port in RUN. -/
def lanesInRun (s : State) (p : Fin 12) : List (Fin 24) := (portLanes s p).filter fun l => (s.cam.lane[l]).state == .run

/-- The port takes the mode and precoding of a lane that reached RUN. -/
def takeMode (p : Fin 12) (l : Fin 24) (s : State) : State :=
  let c := s.cam.lane[l]
  s.setPort p fun x => { x with mode := c.mode, precode := c.mode == 3 && c.precode }

/-- A lane reaches RUN (02 R46, R58): the port enters RUN when all its lanes have, and a lane of a degraded port announces
itself with LANE_UP (one byte of lane, four of frame counter: DESIGN CHOICE). -/
def laneRun (p : Fin 12) (l : Fin 24) (s : State) : State :=
  let s := s.setLane l fun c => { c with state := .run, checking := false }
  let x := s.cam.port[p]
  if x.link = .runDegraded then
    let n := (x.frameCounter + 1) % 2 ^ 32
    sendCtrl p x.primary 0x0D (msgBytes 1 (l.val % 2) ++ msgBytes 4 n) (s.setLane l fun c => { c with rejoinAt := some n })
  else
    let s := setPrimary p s
    if (lanesInRun s p).length = (portLanes s p).length then portRun p .run (takeMode p l s) else s

/-- Both lanes of a port use the lower mode when one failed a step that the other passed (02 R48): lanes beyond it go
back to it. -/
def lowerOthers (p : Fin 12) (l : Fin 24) (mode : Nat) (s : State) : State :=
  forEach ((portLanes s p).filter (· != l)) (fun o t =>
    if mode < (t.cam.lane[o]).mode then
      let t := rateReq p o mode false (t.setLane o fun c => { c with mode := mode })
      if (t.cam.lane[o]).state = .run then t else laneRun p o t
    else if (t.cam.lane[o]).mode = mode ∧ ((t.cam.lane[o]).state = .step10g ∨ (t.cam.lane[o]).state = .stepPam4) then
      laneRun p o t
    else t) s

/-- A rate step of a lane failed: the step is repeated from the lower mode, or after 3 attempts the port runs in the last
mode that passed with RATE_LIMITED (02 R47, R48). -/
def stepFailed (p : Fin 12) (l : Fin 24) (s : State) : State :=
  let c := s.cam.lane[l]
  let low := if c.state = .stepPam4 then 2 else 1
  let s := rateReq p l low false (s.setLane l fun c => { c with mode := low, attempts := c.attempts + 1, lock := false })
  if c.attempts + 1 < 3 then s
  else laneRun p l (lowerOthers p l low (s.setPort p fun x =>
    { x with target := low, rateLimited := true, mode := min x.mode low, precode := false }))

/-- A lane goes on after a mode has passed: to RUN in the target mode, else to the next rate step (02 Table 2.4). -/
def nextStep (p : Fin 12) (l : Fin 24) (s : State) : State :=
  let m := (s.cam.lane[l]).mode
  if (s.cam.port[p]).target ≤ m then laneRun p l s else startStep p l (m + 1) s

/-- The value of the HELLO protocol version, which the spec does not give. -/
def freeHello : Nat := 3

/-- BLOCK_LOCK: a lane has seen 64 consecutive valid headers; `fom` is the equaliser's figure of merit (02 Table 2.4). -/
def execBlockLock (l : Fin 24) (fom : Fin 256) (s : State) : Host.Outcome State Fault Refusal :=
  let p := laneOwner s l
  if !laneUp s l then .next s
  else
    let s := (cutLine l s).setLane l fun c =>
      { c with lock := true, signal := true, eqFom := if [2, 3, 9, 10].contains c.mode then fom.val else 0 }
    match (s.cam.lane[l]).state with
    | .search => .next (sendCtrl p (l.val % 2) 0x01 (msgBytes 2 (Config.freeNat freeHello 0 % 65536))
        (s.setLane l fun c => { c with state := .hello }))
    | .step10g | .stepPam4 => .next (s.setLane l fun c => { c with checking := true, checkBad := 0, cameraBad := 0 })
    | _ => .next s

/-- PL_HELLO_RX: the camera's HELLO (02 Table 2.4 step 2). -/
def execPlHelloRx (l : Fin 24) (s : State) : Host.Outcome State Fault Refusal :=
  onMsg l 0x01 s fun _ s => s.setLane l fun c => { c with helloSeen := true }

/-- CAPS of a message body; the widths of its fields are the model's (02 Table 2.3). -/
def parseCaps (b : List Nat) : Caps :=
  let at_ := fun (i : Nat) => (b[i]?).getD 0
  { highestMode := at_ 0, lanes := at_ 1, precoding := at_ 2 != 0, streams := at_ 3, pixels := at_ 4 + 256 * at_ 5
    channels := at_ 6, depths := at_ 7, applyLatency := at_ 8 % 8, identity := (b.drop 9).take 32 }

/-- The common target mode of a port (02 R46). -/
def targetMode (c : PortConfig) (k : Caps) : Nat := max 1 (min c.maxMode k.highestMode)

/-- CAPS_RX: the camera's capabilities choose the target mode, and the lane goes on (02 R46, Table 2.4 steps 2 and 3). -/
def execCapsRx (l : Fin 24) (s : State) : Host.Outcome State Fault Refusal :=
  onMsg l 0x02 s fun b s =>
    let p := laneOwner s l
    match (s.cam.port[p]).config, (s.cam.lane[l]).state with
    | some c, .hello =>
      let k := parseCaps b
      let limited := (s.cam.port[p]).rateLimited
      let s := s.setPort p fun x =>
        { x with caps := some k, applyLatency := k.applyLatency
                 target := if portRuns s p then x.mode else if limited then x.target else targetMode c k }
      nextStep p l (s.setLane l fun c => { c with state := .negotiate })
    | _, _ => s

/-- RATE_ACK_RX: the camera changes its rate; back in the lower mode the step starts again (02 Table 2.4). -/
def execRateAckRx (l : Fin 24) (s : State) : Host.Outcome State Fault Refusal :=
  onMsg l 0x04 s fun b s =>
    let p := laneOwner s l
    let m := (b[0]?).getD 0
    let c := s.cam.lane[l]
    let step := if c.state = .stepPam4 then 3 else 2
    if c.state ≠ .step10g ∧ c.state ≠ .stepPam4 then s
    else
      let s := (cutLine l s).setLane l fun c => { c with mode := m, lock := false, lastP := 0 }
      if m = step - 1 then
        let pre := step == 3 && (match (s.cam.port[p]).config with | some c => asksPrecode c | none => false)
        rateReq p l step pre s
      else s

/-- RATE_NAK_RX: without precoding the request is repeated under PREFERRED; anything else fails the step (02 R41). -/
def execRateNakRx (l : Fin 24) (s : State) : Host.Outcome State Fault Refusal :=
  onMsg l 0x05 s fun b s =>
    let p := laneOwner s l
    let c := s.cam.lane[l]
    let preferred := match (s.cam.port[p]).config with | some c => c.precode == 1 | none => false
    if c.state ≠ .step10g ∧ c.state ≠ .stepPam4 then s
    else if b[0]? == some 2 && c.precode && preferred then rateReq p l 3 false s
    else stepFailed p l s

/-- CHECK_RESULT_RX: the invalid headers that the camera saw (02 Table 2.3). -/
def execCheckResultRx (l : Fin 24) (s : State) : Host.Outcome State Fault Refusal :=
  onMsg l 0x06 s fun b s => s.setLane l fun c => { c with cameraBad := le32 (b.map (BitVec.ofNat 8)) 0 }

/-- CHECK_WINDOW_END: the 10 ms check window ends; the step passes with no invalid header (02 R46, R47), neither seen by the
device nor reported by the camera's CHECK_RESULT before the window's end (DESIGN CHOICE). -/
def execCheckWindowEnd (l : Fin 24) (s : State) : Host.Outcome State Fault Refusal :=
  let p := laneOwner s l
  let c := s.cam.lane[l]
  if !c.checking then .next s
  else
    let s := sendCtrl p (l.val % 2) 0x06 (msgBytes 4 c.checkBad) (s.setLane l fun c => { c with checking := false })
    .next (if c.checkBad = 0 ∧ c.cameraBad = 0 then nextStep p l s else stepFailed p l s)

/-- BRINGUP_STEP_TIMEOUT: the time of a lane's step is over (02 Table 2.4). -/
def execBringupStepTimeout (l : Fin 24) (s : State) : Host.Outcome State Fault Refusal :=
  let p := laneOwner s l
  match (s.cam.lane[l]).state with
  | .search | .hello | .negotiate => .next (startLane false l s)
  | .step10g | .stepPam4 => .next (stepFailed p l s)
  | _ => .next s

/-- LANE_HELLO_WAIT_EXPIRY: 100 ms after one lane reached RUN the other has not reached HELLO (02 R48). -/
def execLaneHelloWaitExpiry (p : Fin 12) (s : State) : Host.Outcome State Fault Refusal :=
  match lanesInRun s p with
  | [l] =>
    if !portRuns s p ∧ !isCxp s p ∧ (portLanes s p).length = 2 ∧ (s.cam.lane[otherLane l]).state = .search then
      .next (portRun p .runDegraded ((takeMode p l (markDegraded p s)).setPort p fun x => { x with primary := l.val % 2 }))
    else .next s
  | _ => .next s

/-! ### CoaXPress (02 R52 to R54, R59) -/

/-- Bootstrap address of ConnectionConfig and its value for a speed and a connection count. -/
def connectionConfig (mode connections : Nat) : Nat × Nat := (0x4014, connections * 65536 + 0x28 + 8 * (mode - 4))

/-- CXP_DISCOVERY_RETRY: discovery is repeated every 100 ms until a camera answers (02 R54). -/
def execCxpDiscoveryRetry (p : Fin 12) (s : State) : Host.Outcome State Fault Refusal :=
  .next (if (s.cam.port[p]).link = .cxpDiscovery then
      (s.setPort p fun x => { x with cxpTries := x.cxpTries + 1 }).emit (.cxpDiscovery p.val) else s)

/-- ConnectionConfig is written for a speed and a number of connections. -/
def writeConnections (p : Fin 12) (mode n : Nat) (s : State) : State :=
  let v := connectionConfig mode n
  cxpSend p (fun tag => .cxpWrite p.val tag v.1 v.2) s

/-- Bootstrap registers that are read after discovery: Standard, Revision, ConnectionConfigDefault and HsUpConnection
(02 Table 2.6; their addresses are PRESUMED from CoaXPress 2.1). -/
def bootstrapRegs : List Nat := [0x0000, 0x0004, 0x4018, 0x403C]

/-- Connections that a port runs with: 1, 2 or 4, as many as both sides have (02 Table 2.6). -/
def connectionCount (configured offered : Nat) : Nat :=
  let n := min configured offered
  if 4 ≤ n then 4 else if 2 ≤ n then 2 else 1

/-- The connections of a configured camera run; the upconnection is fast when the camera declares it and every connection
runs at CXP-10 or CXP-12 (02 Table 2.6; 03 R85). -/
def cxpRun (p : Fin 12) (c : PortConfig) (s : State) : State :=
  let x := s.cam.port[p]
  let s := forEach ((portLanes s p).take x.connections) (fun l t => t.setLane l fun k =>
    { k with state := .run, mode := x.target, lock := true, signal := true }) s
  let deg := decide (x.connections < c.lanes)
  let s := s.setPort p fun x => { x with mode := x.target, applyLatency := c.cxpLatency
                                         cxpHighUp := x.cxpHighDeclared && decide (9 ≤ x.target) }
  portRun p (if deg then .runDegraded else .run) (if deg then markDegraded p s else s)

/-- The camera answers discovery: the bootstrap registers are read (02 Table 2.6). -/
def cxpFound (p : Fin 12) (s : State) : State :=
  if (s.cam.port[p]).link ≠ .cxpDiscovery then s
  else forEach bootstrapRegs (fun a => cxpSend p fun tag => .cxpRead p.val tag a 1)
    (s.setPort p fun x => { x with link := .cxpConfig, target := 0 })

/-- The bootstrap registers are known: ConnectionConfig is written to the highest common speed and connection count
(02 Table 2.6). -/
def cxpBootstrap (p : Fin 12) (c : PortConfig) (speed n : Nat) (highUp tagged : Bool) (s : State) : State :=
  if (s.cam.port[p]).link ≠ .cxpConfig ∨ (s.cam.port[p]).target ≠ 0 then s
  else
    let m := max 4 (min c.maxMode speed)
    let k := connectionCount c.lanes n
    writeConnections p m k (s.setPort p fun x =>
      { x with target := m, connections := k, cxpHighDeclared := highUp, cxpTagged := tagged })

/-- CXP_CONTROL_RESPONSE: the camera answers discovery, the bootstrap reads, a ConnectionConfig write or a register access,
or sends a heartbeat (02 Table 2.6). -/
def execCxpControlResponse (p : Fin 12) (r : CxpResp) (s : State) : Host.Outcome State Fault Refusal :=
  match (s.cam.port[p]).config, r with
  | none, _ => .next s
  | some _, .found => .next (cxpFound p s)
  | some c, .bootstrap speed n up tagged => .next (cxpBootstrap p c speed n up tagged s)
  | some c, .configured =>
    .next (if (s.cam.port[p]).link = .cxpConfig ∧ (s.cam.port[p]).target ≠ 0 then cxpRun p c s else s)
  | some c, .access st d => .next (if c.cxp ∧ portRuns s p then regAnswer p st d s else s)
  | some c, .heartbeat =>
    .next (if c.cxp ∧ portRuns s p then s.setPort p fun x => { x with cxpBeats := x.cxpBeats + 1 } else s)

/-- CXP_EVENT_PACKET: event packets are counted and the last one is kept (02 Table 2.6). -/
def execCxpEventPacket (p : Fin 12) (data : List Byte) (s : State) : Host.Outcome State Fault Refusal :=
  .next (if isCxp s p ∧ portRuns s p then
      s.setPort p fun x => { x with cxpEvents := x.cxpEvents + 1, cxpLastEvent := data.take 254 } else s)

/-- The stream of a CoaXPress stream identifier (02 Table 2.6). -/
def cxpStream (c : PortConfig) (sid : Nat) : Option (Fin 4) :=
  (enabledStreams c).find? fun k => c.cxpStreamId[k] == sid

/-- A line packet of a stream: its pixels are repacked into 64-bit blocks, a CRC error counts for its lane and stream, and
the line is merged (02 R53). -/
def cxpLine (p : Fin 12) (l : Fin 24) (k : Fin 4) (number : Nat) (px : List (List Nat)) (crcOk : Bool) (s : State) : State :=
  let s := if crcOk then s else camReport p .drizzle 0 (s.setLane l fun c => { c with crcErr := satInc 32 c.crcErr })
  let blocks := packPixels (s.pipe[p]).depth px
  deliverLine p { stream := k, number := number, announced := blocks.length, stamp := stampNow p s } blocks (!crcOk) false s

/-- CXP_STREAM_PACKET: a stream packet arrives on a connection (02 R53; 03 R68). -/
def execCxpStreamPacket (p : Fin 12) (conn : Fin 4) (pk : CxpPacket) (s : State) : Host.Outcome State Fault Refusal :=
  match (s.cam.port[p]).config, (portLanes s p)[conn.val]? with
  | some c, some l =>
    if !c.cxp ∨ !portRuns s p then .next s
    else
      let sid := match pk with | .imageHeader i => i | .line i _ _ _ => i | .imageEnd i => i
      match cxpStream c sid, pk with
      | none, _ => .next (s.setPort p fun x => { x with unmapped := satInc 32 x.unmapped })
      | some k, .imageHeader _ => .next (streamFrameStart p k 0 0 s)
      | some k, .imageEnd _ => .next (streamFrameEnd p k s)
      | some k, .line _ n px ok => .next (cxpLine p l k n px ok s)
  | _, _ => .next s

/-- CXP_CONNECTION_LOSS: loss of connection 0 is port loss; of another one, the rest goes on at the same speed (02 R59). -/
def execCxpConnectionLoss (p : Fin 12) (k : Fin 4) (s : State) : Host.Outcome State Fault Refusal :=
  match (portLanes s p)[k.val]? with
  | none => .next s
  | some l =>
    let x := s.cam.port[p]
    if !isCxp s p ∨ !portRuns s p ∨ (s.cam.lane[l]).state ≠ .run then .next s
    else if k = 0 then .next (portLoss p s)
    else
      let s := s.setLane l (laneClear .cxpDiscovery 4 16)
      let n := x.connections - 1
      .next (camReport p .squall 3 (writeConnections p x.mode n (chainRestart p ((markDegraded p s).setPort p fun x =>
        { x with connections := n, link := .runDegraded }))))

end Sys2Proof.Machine
end

