-- ==== Sys2Proof/Machine/Faults.lean ====
section
/-! DEFINITION. The fault collector, the Gale sequence, clock losses and sensors (19; 20 R445; 21 R480), and the entry
to HOLD that a Gale shares with the power controller. -/

namespace Sys2Proof.Machine

/-! ### Common parts -/

/-- The power state aimed at: the one a transition leads to, else the present one (16 Table 16.2). -/
def powerShown (s : State) : PowerState := match s.power.transit with
  | some t => t.target
  | none => s.power.state

/-- POWER_STATE code (17 Table 17.6). -/
def PowerState.code : PowerState → Nat
  | .active => 0 | .hold => 1 | .standby => 2 | .deepSleep => 3

/-- The fields whose change fires vector 4 (16 Table 16.4). -/
def stateView (s : State) : DevState × PowerState × Nat × Bool × Bool :=
  (s.mgmt.dev, powerShown s, s.mgmt.imageSlot, s.mgmt.trial, s.mgmt.hostIndependent)

/-- Vector 4 fires when one of those fields has changed since `old`. -/
def stateIrq (old s : State) : State := if stateView old = stateView s then s else s.fireVector 4

/-- Change the management processor. -/
def State.setMgmt (s : State) (f : MgmtBlock → MgmtBlock) : State := { s with mgmt := f s.mgmt }

/-- Change the power controller. -/
def State.setPower (s : State) (f : PowerBlock → PowerBlock) : State := { s with power := f s.power }

/-- Change the fault collector. -/
def State.setFlt (s : State) (f : FltBlock → FltBlock) : State := { s with flt := f s.flt }

/-- Every time base with source PTP that counts enters HOLDOVER at once; a sample that waits there is no sample of the new
image (12 R292, R295). -/
def ptpHoldover (s : State) : State :=
  forEach (List.finRange 4) (fun b t =>
    let x := t.time.tb[b]
    let t := if x.source = .ptp then t.setTb b fun y => { y with sample := none } else t
    if x.source = .ptp && t.tbCounts b && x.state != .holdover then tbHoldover b t else t) s

/-- An Ethernet port without its link: what it has queued or is sending is lost (DESIGN CHOICE: 12 is silent on it). -/
def EthPort.down (p : EthPort) : EthPort := { p with up := false, txQueue := [], txLeft := 0 }

/-- What leaving ACTIVE does (19 R430; 21 Table 21.10): open bolts close (03 R69), Tare runs end ABORTED (05 R116), every
valve link is disarmed (11 R277), and the pipes, the slot grid and the engines stop. -/
def leaveActive (s : State) : State :=
  if s.power.state = .active then
    let s := abortTares (forEach (List.finRange 12) endBolts s)
    (disarmAll s).setPower fun w => { w with state := .hold }
  else s

/-! ### The management core stops and its mailboxes close (19 R433; 20 R456) -/

/-- The mailboxes close: requests that wait are lost with the memory of the core (16 Table 16.5). -/
def closeMailboxes (s : State) : State :=
  let s := { s with mbx := { s.mbx with isOpen := false, queue := s.mbx.queue.filter fun q => q.2.session == 0 && !q.2.net
                                        sess := s.mbx.sess.map fun c => { c with outstanding := none } } }
  let s := forEach (List.finRange 4) (fun k t => t.setMailbox k fun m => { m with ready := false }) s
  rdybsyNow s

/-- A pause begins: the mailboxes close, DEV_STATE is PAUSE and PTP time bases enter HOLDOVER (12 R295; 20 R456);
background commands end with the core. -/
def beginPause (k : PauseKind) (s : State) : State :=
  let s' := (closeMailboxes s).setMgmt fun m =>
    { m with dev := .pause, mgtDown := true, pause := some k, settingsWork := [], pauseAsked := none
             testBefore := m.dev == .test || (m.dev == .pause && m.testBefore)
             update := if m.update.state = .verifying then { m.update with state := .receiving } else m.update }
  let s' := { s' with mbx := { s'.mbx with sess := s'.mbx.sess.map fun c => { c with background := none } } }
  stateIrq s (ptpHoldover s')

/-- The management core restarts into the image it is running (19 R433). -/
def mgtRestart (cause : ResetCause) (s : State) : State :=
  if s.mgmt.mgtDown then s
  else beginPause .restart (s.setMgmt fun m => { m with cause := cause })

/-! ### The collector (19 R428 to R435) -/

/-- Counts of a group after the onset of a report (19 Table 19.4). -/
def FltGroup.add (ts : Ts32) (c : FltClass) (g : FltGroup) : FltGroup :=
  match c with
  | .none => g
  | .drizzle => { g with drizzle := satInc 32 g.drizzle, lastTs := ts }
  | .squall => { g with squall := satInc 32 g.squall, lastTs := ts }
  | .gale => { g with gale := satInc 32 g.gale, lastTs := ts }

/-- The Gale sequence of Table 19.3 but for its vector 5 (19 R430, R432; 11 R278; 16 R390). -/
def galeSequence (s : State) : State :=
  let s0 := s
  let s := produce 118 s
  let s := ejGale s
  let s := (leaveActive s).setPower fun w =>
    { w with transit := match w.transit with
        | some t => if t.target = .active then some { target := .hold } else some t
        | none => none }
  let s := galeFallbacks s
  let s := if s.flt.faultN then s else s.setBall .faultN false
  let s := s.setFlt fun f => { f with faultN := true, galeHeld := true }
  valveIrq s0 (stateIrq s0 s.driveWakeN)

/-- The collector latches a first record (19 R434): FLT_FIRST, vector 5 and a log entry. -/
def latchFirst (r : Report) (s : State) : State :=
  let t := s.tbTime 0
  let rec_ : FirstRecord := { report := r, cls := r.cls, time := t, timeValid := s.tbCounts 0, ts := t.ts32 }
  let s := s.setFlt fun f => { f with first := some rec_ }
  let s := (produce 117 s).fireVector 5
  s.log 4 0xFF ([r.group, r.cls.rank] ++ (bytesOf 2 r.inst ++ bytesOf 1 r.cause ++ bytesOf 4 r.valueB).map BitVec.toNat)

/-- A report while a record is held (19 R435). -/
def furtherReport (f : FirstRecord) (r : Report) (s : State) : State :=
  let up := decide (f.cls.rank < r.cls.rank)
  let s := s.setFlt fun b => { b with overflow := true, first := some { f with cls := if up then r.cls else f.cls } }
  if up && r.cls == .gale then galeSequence (s.fireVector 5) else s

/-- A report is the repetition of a level condition that persists (19 R428). -/
def isRepetition (s : State) (r : Report) : Bool := r.level && s.flt.levels.contains r

/-- A report reaches the collector (19 R428, R434, R435). -/
def collect (g : Fin 33) (r : Report) (s : State) : State :=
  let again := isRepetition s r
  let ts := s.ts0
  let s := s.setFlt fun f => { f with status := f.status ||| 2 ^ g.val }
  let s := if again then s else s.setFlt fun f =>
    { f with groups := upd f.groups g (FltGroup.add ts r.cls), levels := if r.level then f.levels ++ [r] else f.levels }
  match s.flt.first with
  | none =>
    let s := latchFirst r s
    if r.cls = .gale && !again then galeSequence s else s
  | some f => if again then s else furtherReport f r s

/-- An uncorrectable error strikes the staging of an output ring: the message read there is dropped (19 Table 19.1 OUTPUT). -/
def stagingLost (r : Report) (s : State) : State :=
  match idx? 16 r.inst with
  | some k => if (s.outp.ring[k]).held.isEmpty then s else dropMsg k (s.setRing k fun g => { g with held := g.held.drop 1 })
  | none => s

/-- A report arrives: one that no unit of the device has under way tells of an error that the outside world strikes, which is a
single event; one in group MGT restarts the management core (19 R428, R433).  The collector is armed from start-up step 4 (20
Table 20.1). -/
def reportArrives (r : Report) (s : State) : State :=
  match idx? 33 r.group with
  | none => s
  | some g =>
    let known := s.flt.inFlight.contains r
    let s := s.setFlt fun f => { f with inFlight := f.inFlight.erase r }
    let s := if !known && r.group == 22 && r.cause == 1 then stagingLost r s else s
    if r.cls = .none ∨ s.mgmt.step < 4 then s
    else
      let s := collect g { r with level := r.level && (known || s.flt.levels.contains r) } s
      if r.group = 32 then mgtRestart .mgt s else s

/-- Report `a` comes before `b` where both arrive in one collector cycle: a higher class, then a lower group (19 R435). -/
def reportFirst (a b : Report) : Bool :=
  decide (b.cls.rank < a.cls.rank) || (decide (a.cls.rank = b.cls.rank) && decide (a.group ≤ b.group))

/-- Put a report into a list in the order of `reportFirst`. -/
def insertReport (r : Report) : List Report → List Report
  | [] => [r]
  | x :: l => if reportFirst r x then r :: x :: l else x :: insertReport r l

/-- The reports of one collector cycle in the order in which the collector weighs them (19 R435). -/
def inCycle (rs : List Report) : List Report := rs.foldr insertReport []

/-- FAULT_REPORT: the reports of one collector cycle arrive; the record goes to the highest class and among these to the lowest
group, and the others are further reports (19 R435). -/
def execFaultReport (rs : List Report) (s : State) : Host.Outcome State Fault Refusal :=
  .next (forEach (inCycle rs) reportArrives s)

/-- The repetitions of the level conditions that persist, in the next collector cycles: the group bits are set again, and where no
record is held one latches (19 R428). -/
def levelRepeats (s : State) : State :=
  if s.mgmt.step < 4 then s
  else forEach (inCycle s.flt.levels) (fun r t => match idx? 33 r.group with
    | some g => collect g r t
    | none => t) s

/-- A Gale report of a level condition still arrives (19 R431). -/
def galeLevel (s : State) : Bool := s.flt.levels.any fun r => r.cls == .gale

/-- The Gale is acknowledged: GALE_SAFE clears and `FAULT_N` is released (19 R431, R432). -/
def galeEnds (s : State) : State :=
  let s0 := s
  let s := { s with ej := { s.ej with galeSafe := false } }
  let s := if s.flt.faultN then s.setBall .faultN true else s
  valveIrq s0 (s.setFlt fun f => { f with faultN := false, galeHeld := false })

/-- A level condition ends: its reports cease; one that is still on its way stays a single event. -/
def levelEnds (p : Report → Bool) (s : State) : State :=
  s.setFlt fun f => { f with levels := f.levels.filter fun r => !p r
                             inFlight := f.inFlight.map fun r => if p r then { r with level := false } else r }

/-! ### Registers (19 R437, Tables 19.4, 19.5; 16 Table 16.2) -/

/-- First-record word, FIRST_TIME words. -/
def firstWords (s : State) : List Word :=
  let f := s.flt.first
  let cls := (f.map fun x => x.cls.rank).getD 0
  let t := (f.map fun x => x.time).getD {}
  [w32 ((f.map fun x => x.report.group).getD 0 + cls * 256 + flagAt s.flt.overflow 10 + flagAt s.flt.faultN 11
      + flagAt f.isSome 12 + flagAt (galeLevel s) 13 + flagAt ((f.map fun x => x.timeValid).getD false) 14),
   w32 t.ns, lo64 t.seconds, hi64 t.seconds]

/-- FIRST_DETAIL (19 Table 19.5). -/
def detailBytes (f : Option FirstRecord) : List Byte :=
  match f with
  | none => zeros 40
  | some x =>
    let r := x.report
    bytesOf 2 r.inst ++ bytesOf 1 r.cause ++ zeros 1 ++ bytesOf 8 r.valueA ++ bytesOf 8 r.valueB ++ bytesOf 4 x.ts.toNat
      ++ bytesOf 8 r.valueC ++ zeros 8

/-- Word `w` of FIRST_DETAIL. -/
def detailWord (f : Option FirstRecord) (w : Nat) : Word := w32 (le32 (detailBytes f) (4 * w))

/-- A word of the fault collector block; the read of +0x008 takes the snapshot of FIRST_TIME (19 R437). -/
def fltRead (off : Nat) (s : State) : Word × State :=
  if off = 0 then (lo64 s.flt.status, s)
  else if off = 4 then (hi64 s.flt.status, s)
  else if off = 8 then ((firstWords s)[0]?.getD 0, s.setFlt fun f => { f with snap := firstWords s })
  else if 0xC ≤ off ∧ off < 0x18 then (s.flt.snap[(off - 8) / 4]?.getD 0, s)
  else if 0x20 ≤ off ∧ off < 0x48 then (detailWord s.flt.first ((off - 0x20) / 4), s)
  else if h : 0x100 ≤ off ∧ (off - 0x100) / 16 < 33 then
    let g := s.flt.groups[(⟨(off - 0x100) / 16, h.2⟩ : Fin 33)]
    (match off % 16 / 4 with
     | 0 => w32 g.drizzle
     | 1 => w32 g.squall
     | 2 => w32 g.gale
     | _ => g.lastTs, s)
  else (0, s)

/-! ### Clocks (19 Table 19.1; 20 Table 20.4; 21 R480) -/

/-- The presence bit of a clock changes. -/
def setClock (k : Fin 26) (present : Bool) (s : State) : State :=
  s.setPower fun w => { w with clockOk := w.clockOk.set k present }

/-- The report of the loss of a clock: group, class, instance and cause of Table 19.1; the management PLL has none. -/
def clockReport (k : Fin 26) : Option Report :=
  match k.val with
  | 0 => some { group := 17, cls := .gale, level := true }
  | 1 => some { group := 26, cls := .squall, cause := 1, level := true }
  | 2 => some { group := 19, cls := .squall, cause := 1, level := true }
  | 9 | 10 => some { group := 3, cls := .gale, level := true }
  | 11 => some { group := 15, cls := .gale, level := true }
  | 12 => some { group := 28, cls := .gale, level := true }
  | 13 => none
  | n => if n < 9 then some { group := 1, cls := .squall, inst := n - 3, level := true }
         else some { group := 12, cls := .squall, inst := n - 14, level := true }

/-- Loss of `REFCLK_SYS`: every time base stops, VALID clears, PPS outputs fall and the position channels are still
(10 R238, R250; 12 R289, R292, R303). -/
def sysRefLost (s : State) : State :=
  let s := forEach (List.finRange 4) (fun b t => t.setTb b fun x => { x with valid := false }) s
  ppsSettle (posTimeStops s)

/-- The Ethernet ports stop, and time bases with source PTP enter HOLDOVER (19 Table 19.1 ETH; 12 R292). -/
def ethStop (s : State) : State :=
  ptpHoldover { s with net := { s.net with port := s.net.port.map EthPort.down } }

/-- Loss of a cluster's fabric clock: every engine that runs is FENCED with FAIL_CAUSE CLOCK and its object is handled
under 09 R232 (19 Table 19.1 CLUSTER_CLK). -/
def clusterClockLost (c : Fin 12) (s : State) : State :=
  forEach (enginesOf c) (fun e t =>
    let x := t.eng.eng[e]
    if x.state = .fenced then t
    else
      let t := match x.task with | .event n => tinEnd c n t | _ => t
      let t := fenceEngine e .clock t
      match x.task with
      | .object o _ => redispatch o t
      | _ => t) s

/-- The local effects of the loss of a clock; `REFCLK_PCIE` is handled with the host interface. -/
def clockLocal (k : Fin 26) (s : State) : State :=
  if k.val = 0 then sysRefLost s
  else if k.val = 2 then ethStop s
  else if h : 3 ≤ k.val ∧ k.val < 9 then
    let q := k.val - 3
    portLoss ⟨2 * q + 1, by omega⟩ (portLoss ⟨2 * q, by omega⟩ s)
  else if h : 14 ≤ k.val then clusterClockLost ⟨k.val - 14, by omega⟩ s
  else s

/-- A clock is declared lost: presence bit, report at the onset, local handling. -/
def clockLost (k : Fin 26) (s : State) : State :=
  if !s.power.clockOk[k] then s
  else
    let s := setClock k false s
    let s := match clockReport k with
      | some r => s.report r
      | none => s
    clockLocal k s

/-- CLOCK_LOSS: an internal clock, presence bits 9 to 25, is lost; the units on it stand still until it returns (01 R17;
19 Table 19.1). -/
def execClockLoss (k : Fin 17) (s : State) : Host.Outcome State Fault Refusal :=
  .next (clockLost ⟨9 + k.val, by omega⟩ s)

/-- CLOCK_RESTORED: a lost clock is present again; its level report ceases, and with `REFCLK_SYS` the sampler returns to
the TB0 clock (10 R238, R250; 20 Table 20.4). -/
def execClockRestored (k : Fin 26) (s : State) : Host.Outcome State Fault Refusal :=
  if s.power.clockOk[k] then .next s
  else
    let s := qeSlow (setClock k true s)
    let other := (k.val == 9 && !s.power.clockOk[10]) || (k.val == 10 && !s.power.clockOk[9])
    .next (match clockReport k with
      | some r => if other then s else levelEnds (fun x => x == r) s
      | none => s)

/-! ### Sensors (20 R445; 19 Table 19.1 THERMAL, VOLTAGE; 21 Table 21.6) -/

/-- The window of a voltage monitor in mV (20 Table 20.4, 21 Table 21.6). -/
def voltageWindow (v : Nat) : Nat × Nat :=
  match v with
  | 0 | 1 => (679, 876)
  | 2 => (776, 824)
  | 3 => (760, 840)
  | 4 => (1710, 1890)
  | 5 => (3135, 3465)
  | 6 => (475, 525)
  | 7 => (1020, 1080)
  | 8 | 9 => (873, 927)
  | 10 => (1164, 1236)
  | _ => (1710, 1890)

/-- Is a monitor's reading outside its window?  Monitor 11 reads 0 without supply and raises nothing (20 Table 20.4). -/
def voltageBad (v mv : Nat) : Bool :=
  !(v == 11 && mv == 0) && (decide (mv < (voltageWindow v).1) || decide ((voltageWindow v).2 < mv))

/-- The VOLTAGE report of a monitor. -/
def voltageReport (v : Nat) : Report := { group := 31, cls := .gale, inst := v, level := true }

/-- The THERMAL Gale of a site. -/
def thermalGale (k : Nat) : Report := { group := 30, cls := .gale, inst := k, cause := 1, level := true }

/-- A level condition begins or ends: its report sets out at the onset and ceases at the end. -/
def levelNow (on : Bool) (r : Report) (s : State) : State :=
  if on then (if s.flt.levels.contains r || s.flt.inFlight.contains r then s else s.report r) else levelEnds (fun x => x == r) s

/-- A site's temperature in 1/8 °C: THERMAL Drizzle when it comes to 105 °C, Gale level from 115 °C (19 Table 19.1). -/
def thermalNow (k : Fin 16) (old new : Int) (s : State) : State :=
  let s := if 840 ≤ new ∧ old < 840 then s.report { group := 30, cls := .drizzle, inst := k.val } else s
  levelNow (decide (920 ≤ new)) (thermalGale k.val) s

/-- SENSOR_SAMPLE: firmware samples the thermal sites, in 1/8 °C, and the voltage monitors, in mV, of the last
millisecond; a monitor sampled outside its window counts as outside it for 10 µs (20 R445; 21 R479). -/
def execSensorSample (thermal : Vector Int 16) (voltage : Vector Nat 12) (s : State) : Host.Outcome State Fault Refusal :=
  if !s.firmwareRuns || s.mgmt.step < 4 || s.power.state == .deepSleep then .next s
  else
    let old := s.mgmt.sensors.thermal
    let s := s.setMgmt fun m => { m with sensors := { thermal := thermal, voltage := voltage }
                                         fuseSupply := voltage[11] != 0 && !voltageBad 11 voltage[11] }
    let s := forEach (List.finRange 16) (fun k t => thermalNow k old[k] thermal[k] t) s
    .next (forEach (List.finRange 12) (fun v t => levelNow (voltageBad v.val voltage[v]) (voltageReport v.val) t) s)

end Sys2Proof.Machine
end

