-- ==== Sys2Proof/Machine/Dma.lean ====
section
/-! DEFINITION. The channels of the DMA engines: states, doorbells, descriptors, stops and completion (16 R375 to R387). -/

namespace Sys2Proof.Machine

/-- A channel's record. -/
def State.chan (s : State) : DmaSel → DmaChan
  | .d2h c => s.host.d2h[c]
  | .h2d c => s.host.h2d[c]

/-- Change a channel. -/
def State.setDma (s : State) (k : DmaSel) (f : DmaChan → DmaChan) : State :=
  match k with
  | .d2h c => { s with host := { s.host with d2h := upd s.host.d2h c f } }
  | .h2d c => { s with host := { s.host with h2d := upd s.host.h2d c f } }

/-- Number of a channel on its engine. -/
def DmaSel.num : DmaSel → Nat
  | .d2h c => c.val
  | .h2d c => c.val

/-- Is it on the H2D engine? -/
def DmaSel.isH2d : DmaSel → Bool
  | .d2h _ => false
  | .h2d _ => true

/-- Is it a host channel (16 Table 16.6)? -/
def DmaSel.isHost : DmaSel → Bool
  | .d2h c => decide (8 ≤ c.val)
  | .h2d c => decide (4 ≤ c.val)

/-- The host channels. -/
def hostChans : List DmaSel :=
  ((List.finRange 16).filter fun c => decide (8 ≤ c.val)).map .d2h
    ++ ((List.finRange 8).filter fun c => decide (4 ≤ c.val)).map .h2d

/-- Resource identifier of a host channel (17 Table 17.3). -/
def DmaSel.res : DmaSel → Nat
  | .d2h c => resD2h c.val
  | .h2d c => resH2d c.val

/-- MSI-X vector of a host channel (16 Table 16.4). -/
def DmaSel.vector : DmaSel → Nat
  | .d2h c => 22 + (c.val - 8)
  | .h2d c => 30 + (c.val - 4)

/-- INSTANCE of a channel in a report: D2H0 to D2H15, then H2D0 to H2D7. -/
def DmaSel.inst : DmaSel → Nat
  | .d2h c => c.val
  | .h2d c => 16 + c.val

/-- The engine of a channel. -/
def State.engineOf (s : State) (h2d : Bool) : DmaEngine := if h2d then s.host.h2dEngine else s.host.d2hEngine

/-- Change an engine. -/
def State.setEngine (s : State) (h2d : Bool) (f : DmaEngine → DmaEngine) : State :=
  if h2d then { s with host := { s.host with h2dEngine := f s.host.h2dEngine } }
  else { s with host := { s.host with d2hEngine := f s.host.d2hEngine } }

/-- The channel whose descriptor is in progress on an engine. -/
def busyChan (s : State) (h2d : Bool) : Option (DmaSel × Transfer) :=
  match (s.engineOf h2d).xfer with
  | none => none
  | some t => some (if h2d then .h2d (idxMod 7 (s.engineOf h2d).act) else .d2h (idxMod 15 (s.engineOf h2d).act), t)

/-! ### Descriptors (16 Table 16.7, R381) -/

/-- LENGTH. -/
def Descriptor.length (d : Descriptor) : Nat := d.lengthWord % 2 ^ 25
/-- Width of the source accesses in bytes. -/
def Descriptor.srcW (d : Descriptor) : Nat := 2 ^ (d.control % 8)
/-- Width of the destination accesses in bytes. -/
def Descriptor.dstW (d : Descriptor) : Nat := 2 ^ (d.control / 8 % 8)
/-- SRC_FIXED. -/
def Descriptor.srcFixed (d : Descriptor) : Bool := d.control.testBit 6
/-- DST_FIXED. -/
def Descriptor.dstFixed (d : Descriptor) : Bool := d.control.testBit 7
/-- FENCE. -/
def Descriptor.fence (d : Descriptor) : Bool := d.control.testBit 8
/-- READBACK. -/
def Descriptor.readback (d : Descriptor) : Bool := d.control.testBit 9
/-- IRQ. -/
def Descriptor.irq (d : Descriptor) : Bool := d.control.testBit 10
/-- LAST. -/
def Descriptor.last (d : Descriptor) : Bool := d.control.testBit 11
/-- TAG. -/
def Descriptor.tag (d : Descriptor) : Nat := d.control / 65536 % 65536

/-- The descriptor of 32 bytes (16 Table 16.7). -/
def descriptorOf (bs : List Byte) : Descriptor :=
  { src := le64 bs 0, dst := le64 bs 8, lengthWord := le32 bs 16, control := le32 bs 20, next := le64 bs 24 }

/-- The internal address of a descriptor: source of D2H, destination of H2D. -/
def Descriptor.internal (h2d : Bool) (d : Descriptor) : Nat := if h2d then d.dst else d.src

/-- The channel as an agent of the internal address space. -/
def DmaSel.agent : DmaSel → Agent
  | .d2h c => .d2h c
  | .h2d c => .h2d c

/-- Does a descriptor stop its channel with BAD_DESC (16 R381)? -/
def badDescriptor (h2d : Bool) (d : Descriptor) : Bool :=
  let side := fun (fixed : Bool) (a w : Nat) => fixed && (decide (a % w ≠ 0) || decide (d.length % w ≠ 0))
  d.control % 8 == 7 || d.control / 8 % 8 == 7 || d.length == 0 || decide (16777216 < d.length)
    || decide (d.lengthWord / 2 ^ 25 ≠ 0) || decide (d.control / 4096 % 16 ≠ 0) || decide (d.internal h2d / 2 ^ 40 ≠ 0)
    || (!d.last && decide (d.next % 32 ≠ 0)) || side d.srcFixed d.src d.srcW || side d.dstFixed d.dst d.dstW

/-- Does an internal range lie in the reach of the sliding window (01 R22, R23, Table 1.7)? -/
def windowReach (s : State) (a len : Nat) : Bool :=
  let inside := fun (lo hi : Nat) => decide (lo ≤ a ∧ a + len ≤ hi)
  dramHas s a len || inside 0x1000000000 0x1003000000 || inside 0x1004000000 0x1007000000 || inside 0x1008000000 0x1008C00000
    || inside 0x1009000000 0x1009300000 || inside 0x100A000000 0x100A600000 || inside 0x100B000000 0x100B600000
    || inside 0x100C000000 0x100C400000 || inside 0x1010000000 0x1011400000 || inside 0x1011500000 0x1011600000

/-- Bytes of internal address space that a descriptor touches. -/
def Descriptor.internalLen (h2d : Bool) (d : Descriptor) : Nat :=
  if h2d then (if d.dstFixed then d.dstW else d.length) else if d.srcFixed then d.srcW else d.length

/-- Address of source access `i` (16 R382). -/
def Descriptor.access (d : Descriptor) (i : Nat) : Nat := if d.srcFixed then d.src else (d.src / d.srcW + i) * d.srcW

/-- Number of source accesses (16 R382). -/
def Descriptor.accessCount (d : Descriptor) : Nat :=
  if d.srcFixed then d.length / d.srcW else (d.src + d.length - 1) / d.srcW - d.src / d.srcW + 1

/-- The next source read of a transfer from host memory sets out. -/
def requestAccess (h2d : Bool) (t : Transfer) (s : State) : State :=
  if h2d && decide (t.accesses < t.desc.accessCount) then s.emit (.hostRead (t.desc.access t.accesses) t.desc.srcW) else s

/-! ### Stops and completion (16 R383 to R385) -/

/-- READBACK_FORCED: a device-wide condition of 16 R384. -/
def readbackForced (s : State) : Bool :=
  s.mgmt.dev == .init || s.mgmt.dev == .test || (match s.flt.first with | some f => decide (2 ≤ f.cls.rank) | none => false)

/-- Code of a stop cause (16 Table 16.9). -/
def StopCause.code : StopCause → Nat
  | .none => 0 | .loop => 1 | .loopSuspect => 2 | .timeout => 3 | .urCa => 4 | .poison => 5 | .ecc => 6 | .badDesc => 7
  | .address => 8 | .aborted => 9

/-- The D2H channel of a write to host memory; a completion word of an H2D channel has none. -/
def DmaSel.d2hChan : DmaSel → Option Nat
  | .d2h c => some c.val
  | .h2d _ => none

/-- The completion word of a channel goes to CPL_ADDR as a fenced write (16 R385). -/
def completionWord (k : DmaSel) (tag : Nat) (cause : StopCause) (s : State) : State :=
  let c := s.chan k
  if c.cplAddr = 0 then s
  else s.emit (.hostWrite k.d2hChan c.cplAddr (bytesOf 4 (s.countWord c.completed).toNat ++ bytesOf 2 tag ++ bytesOf 2 cause.code) false)

/-- A channel whose drain has ended: DISABLED, or ENABLING for a pending enable (16 R378, 17 Table 17.4). -/
def dmaDrainEnd (k : DmaSel) (s : State) : State :=
  s.setDma k fun c => { c with state := if c.enablePending then .enabling else .disabled, enablePending := false
                               fetchAt := none, ready := none }

/-- Is a channel ready for its engine (16 R376)? -/
def dmaReady (c : DmaChan) : Bool := (c.state == .enabled || c.state == .draining) && c.run == .running && c.ready.isSome

/-- The ready channels of an engine. -/
def readyChans (s : State) (h2d : Bool) : List DmaSel :=
  if h2d then ((List.finRange 8).map DmaSel.h2d).filter fun k => dmaReady (s.chan k)
  else ((List.finRange 16).map DmaSel.d2h).filter fun k => dmaReady (s.chan k)

/-- The channel with the highest PRIO, the lower number on a tie (16 R376). -/
def bestChan (s : State) : List DmaSel → Option DmaSel
  | [] => none
  | k :: t => match bestChan s t with
    | none => some k
    | some j => if (s.chan k).prio < (s.chan j).prio then some j else some k

/-- An idle engine starts the next descriptor (16 R376). -/
def engineNext (h2d : Bool) (s : State) : State :=
  if (s.engineOf h2d).xfer.isSome then s
  else match bestChan s (readyChans s h2d) with
    | none => s
    | some k => match (s.chan k).ready with
      | none => s
      | some d =>
        requestAccess h2d { desc := d }
          ((s.setDma k fun c => { c with ready := none }).setEngine h2d fun _ => { act := k.num, xfer := some { desc := d } })

/-- A descriptor fetch sets out (16 R379, R380). -/
def dmaFetch (k : DmaSel) (a : Nat) (s : State) : State :=
  (s.setDma k fun c => { c with fetchAt := some a }).emit (.hostRead a 32)

/-- A channel stops (16 R383): RUN STOPPED with the cause, ERRORS, BYTES_DONE, the completion word, its vector, and for
causes 3 to 6 a report; a draining channel's drain ends.  The engine goes on to the next ready channel. -/
def dmaStop (k : DmaSel) (cause : StopCause) (bytes tag : Nat) (s : State) : State :=
  let s := s.setDma k fun c => { c with run := .stopped, stop := cause, bytesDone := bytes, errors := c.errors + 1
                                        fetchAt := none, ready := none, stopReadback := true }
  let s := completionWord k tag cause s
  let s := if k.isHost then s.fireVectorN k.vector else s
  let s := if 3 ≤ cause.code ∧ cause.code ≤ 6 then
      s.report { group := 25, cls := .squall, inst := k.inst, cause := cause.code, valueA := (s.chan k).curDesc } else s
  if (s.chan k).state = .draining then dmaDrainEnd k s else s

/-- The transfer of an engine ends with a stop of its channel. -/
def transferStop (k : DmaSel) (t : Transfer) (cause : StopCause) (bytes : Nat) (s : State) : State :=
  engineNext k.isH2d (dmaStop k cause bytes t.desc.tag (s.setEngine k.isH2d fun e => { e with xfer := none }))

/-- A doorbell of the tick in which a chain ends counts as arriving at IDLE (16 R379; DESIGN CHOICE: the tick stands for the engine
cycle). -/
def lateDoorbell (k : DmaSel) (s : State) : State :=
  match (s.chan k).doorbellAt with
  | some (t, was) =>
    if t = s.now then
      let s := s.setDma k fun c => { c with dbDropped := was, doorbellAt := none }
      dmaFetch k (s.chan k).head (s.setDma k fun c => { c with run := .running, stop := .none, descCount := 0 })
    else s
  | none => s

/-- A chain goes on from a completed descriptor: LOOP, LOOP_SUSPECT, or the fetch of NEXT (16 R380, Table 16.9). -/
def chainNext (k : DmaSel) (d : Descriptor) (s : State) : State :=
  let c := s.chan k
  if c.state = .draining then dmaDrainEnd k (s.setDma k fun c => { c with run := .idle })
  else if d.last then lateDoorbell k (s.setDma k fun c => { c with run := .idle })
  else if d.next = c.curDesc then dmaStop k .loop 0 d.tag s
  else if c.chainLimit ≤ c.descCount then dmaStop k .loopSuspect 0 d.tag s
  else dmaFetch k d.next s

/-- A descriptor completes: COMPLETED, LAST_TAG, the completion word and the vector (16 R384, R385). -/
def dmaComplete (k : DmaSel) (d : Descriptor) (s : State) : State :=
  let s := s.setEngine k.isH2d fun e => { e with xfer := none }
  let s := s.setDma k fun c => { c with completed := c.completed + 1, lastTag := d.tag, stopReadback := false }
  let s := if d.irq || d.last then completionWord k d.tag .none s else s
  let s := if d.irq && k.isHost then s.fireVectorN k.vector else s
  engineNext k.isH2d (chainNext k d s)

/-! ### The control word and the doorbell (16 R377 to R379, Table 16.10) -/

/-- A BAR2 write to a host channel's block is accepted while one of sessions 1 to 4 claims the channel (16 R377). -/
def dmaClaimed (s : State) (k : DmaSel) : Bool := match s.holder k.res with
  | some h => decide (1 ≤ h ∧ h ≤ 4)
  | none => false

/-- ENABLE (16 R378, 17 Table 17.4). -/
def dmaEnable (k : DmaSel) (s : State) : State :=
  match (s.chan k).state with
  | .disabled => s.setDma k fun c => { c with state := .enabling, enable := true }
  | .draining => s.setDma k fun c => { c with enablePending := true, enable := true }
  | _ => s

/-- DISABLE: a running channel drains, any other is DISABLED at once; a doorbell of the same tick counts as dropped (16 R378,
R379). -/
def dmaDisable (k : DmaSel) (s : State) : State :=
  let c := s.chan k
  let rung := match c.doorbellAt with
    | some (t, _) => t == s.now
    | none => false
  let s := s.setDma k fun c => { c with enable := false, dbDropped := c.dbDropped || rung, doorbellAt := none }
  match c.state with
  | .enabling => s.setDma k fun c => { c with state := .disabled }
  | .draining => s.setDma k fun c => { c with enablePending := false }
  | .enabled =>
    if c.run = .running then
      if (match busyChan s k.isH2d with | some (j, _) => j == k | none => false) then
        s.setDma k fun c => { c with state := .draining, fetchAt := none }
      else dmaDrainEnd k (s.setDma k fun c => { c with run := .idle })
    else dmaDrainEnd k s
  | .disabled => s

/-- CLEAR returns a STOPPED channel to IDLE (16 R378). -/
def dmaClear (k : DmaSel) (s : State) : State :=
  s.setDma k fun c => if c.run = .stopped then { c with run := .idle, stop := .none } else c

/-- The highest PRIO of a host channel (16 Table 16.6). -/
def prioMax (k : DmaSel) : Nat := if k.isH2d then 5 else 4

/-- An accepted write of word `v` to ch +0x00; DISABLE applies over ENABLE in one word. -/
def dmaCtrl (k : DmaSel) (v : Word) (s : State) : State :=
  let s := s.setDma k fun c => { c with prio := min (prioMax k) (bits v 5 3), foreignWrite := w1c c.foreignWrite (bit v 6)
                                        dbDropped := w1c c.dbDropped (bit v 7) }
  let s := if bit v 2 then dmaClear k s else s
  if bit v 1 then dmaDisable k s else if bit v 0 then dmaEnable k s else s

/-- DOORBELL: an IDLE channel that is ENABLED fetches the descriptor at HEAD (16 R379). -/
def dmaDoorbell (k : DmaSel) (s : State) : State :=
  let c := s.chan k
  let at_ := some (s.now, c.dbDropped)
  if c.state = .enabled ∧ c.run = .idle then
    dmaFetch k c.head (s.setDma k fun c => { c with run := .running, stop := .none, descCount := 0, doorbellAt := at_ })
  else if c.state = .enabled ∧ c.run = .running then s.setDma k fun c => { c with dbDropped := true, doorbellAt := at_ }
  else s.setDma k fun c => { c with dbDropped := true }

/-- A write of word `v` to offset `off` of a channel block (16 R377, Table 16.10). -/
def dmaChanWrite (k : DmaSel) (off : Nat) (v : Word) (s : State) : State :=
  if !k.isHost then s
  else if !dmaClaimed s k then s.setDma k fun c => { c with foreignWrite := true }
  else
    let lo := fun (old : Nat) => old / 2 ^ 32 * 2 ^ 32 + v.toNat
    let hi := fun (old : Nat) => v.toNat * 2 ^ 32 + old % 2 ^ 32
    match off / 4 with
    | 0 => dmaCtrl k v s
    | 2 => s.setDma k fun c => { c with head := lo c.head / 32 * 32 }
    | 3 => s.setDma k fun c => { c with head := hi c.head }
    | 4 => if bit v 0 then dmaDoorbell k s else s
    | 5 => s.setDma k fun c =>
        if bits v 16 0 = 0 then c else { c with chainLimit := min 65536 (bits v 16 0) }
    | 10 => s.setDma k fun c => { c with cplAddr := lo c.cplAddr / 8 * 8 }
    | 11 => s.setDma k fun c => { c with cplAddr := hi c.cplAddr }
    | 12 => s.setDma k fun c => { c with completed := countWrite c.completed v }
    | 13 => s.setDma k fun c => { c with errors := countWrite c.errors v }
    | _ => s

/-- DMA_ENABLE: a write of word `v` to ch +0x00 (16 R378). -/
def execDmaEnable (k : DmaSel) (v : Word) (s : State) : Host.Outcome State Fault Refusal := .next (dmaChanWrite k 0 v s)

/-- DMA_DISABLE: a write of word `v` to ch +0x00 (16 R378). -/
def execDmaDisable (k : DmaSel) (v : Word) (s : State) : Host.Outcome State Fault Refusal := .next (dmaChanWrite k 0 v s)

/-- DMA_CLEAR: a write of word `v` to ch +0x00 (16 R378). -/
def execDmaClear (k : DmaSel) (v : Word) (s : State) : Host.Outcome State Fault Refusal := .next (dmaChanWrite k 0 v s)

/-- DMA_DOORBELL: a write of word `v` to ch +0x10 (16 R379). -/
def execDmaDoorbell (k : DmaSel) (v : Word) (s : State) : Host.Outcome State Fault Refusal :=
  .next (dmaChanWrite k 0x10 v s)

/-- DMA_ENABLE_DONE: ENABLING reaches ENABLED with RUN IDLE (16 R378). -/
def execDmaEnableDone (k : DmaSel) (s : State) : Host.Outcome State Fault Refusal :=
  if (s.chan k).state = .enabling then
    .next (s.setDma k fun c => { c with state := .enabled, run := .idle })
  else .next s

/-! ### Descriptors fetched (16 R380, R381) -/

/-- A fetched descriptor: BAD_DESC, ADDRESS, or ready for the engine. -/
def dmaFetched (k : DmaSel) (a : Nat) (d : Descriptor) (s : State) : State :=
  let s := s.setDma k fun c => { c with fetchAt := none, curDesc := a, descCount := c.descCount + 1 }
  if badDescriptor k.isH2d d then dmaStop k .badDesc 0 d.tag s
  else if !windowReach s (d.internal k.isH2d) (d.internalLen k.isH2d) then dmaStop k .address 0 d.tag s
  else engineNext k.isH2d (s.setDma k fun c => { c with ready := some d })

/-- DMA_DESCRIPTOR_FETCHED: the read of a descriptor ends (16 R381, R383). -/
def execDmaDescriptorFetched (k : DmaSel) (r : ReadEnd) (s : State) : Host.Outcome State Fault Refusal :=
  match (s.chan k).fetchAt with
  | none => .next s
  | some a => .next (match r with
    | .data bs => dmaFetched k a (descriptorOf bs) s
    | .urCa => dmaStop k .urCa 0 (s.chan k).lastTag s
    | .poison => dmaStop k .poison 0 (s.chan k).lastTag s)

/-- DMA_COMPLETION_TIMEOUT: the outstanding non-posted request of a channel times out: a descriptor fetch, a source
read of H2D or a read-back of D2H (16 R368, R383); none does under Completion Timeout Disable. -/
def execDmaCompletionTimeout (k : DmaSel) (s : State) : Host.Outcome State Fault Refusal :=
  match (s.chan k).fetchAt, s.host.timeoutDisable with
  | _, true => .next s
  | some _, false => .next (dmaStop k .timeout 0 (s.chan k).lastTag s)
  | none, false => match busyChan s k.isH2d with
    | some (j, t) =>
      if j ≠ k then .next s
      else if t.awaitReadback then .next (if k.isH2d then s else transferStop k t .timeout 0 s)
      else .next (if k.isH2d then transferStop k t .timeout t.written s else s)
    | none => .next s

/-! ### Registers (16 R386, R387) -/

/-- The words of a channel block (16 Table 16.10). -/
def dmaChanWords (s : State) (k : DmaSel) : List Word :=
  let c := s.chan k
  let run := match c.run with | .idle => 0 | .running => 1 | .stopped => 2
  [w32 (flagAt c.enable 0 + c.prio * 8 + flagAt c.foreignWrite 6 + flagAt c.dbDropped 7),
   w32 (c.state.code + flagAt c.enablePending 2 + run * 8 + c.stop.code * 256 + c.lastTag * 65536),
   lo64 c.head, hi64 c.head, 0, w32 c.chainLimit, lo64 c.curDesc, hi64 c.curDesc, w32 c.bytesDone, s.countWord c.descCount,
   lo64 c.cplAddr, hi64 c.cplAddr, s.countWord c.completed, s.countWord c.errors]

/-- +0x000 of the DMA block. -/
def dmaHeadWord (s : State) : Word :=
  let d := s.host.d2hEngine
  let h := s.host.h2dEngine
  w32 (d.act + flagAt d.xfer.isSome 4 + h.act * 256 + flagAt h.xfer.isSome 11 + flagAt (readbackForced s) 12)

/-- A word of the DMA block (16 R386). -/
def dmaRead (off : Nat) (s : State) : Word :=
  if off = 0 then dmaHeadWord s
  else if h : 0x100 ≤ off ∧ (off - 0x100) / 0x40 < 16 then
    (dmaChanWords s (.d2h ⟨(off - 0x100) / 0x40, h.2⟩))[off % 0x40 / 4]?.getD 0
  else if h : 0x500 ≤ off ∧ (off - 0x500) / 0x40 < 8 then
    (dmaChanWords s (.h2d ⟨(off - 0x500) / 0x40, h.2⟩))[off % 0x40 / 4]?.getD 0
  else if h : 0x800 ≤ off ∧ (off - 0x800) / 4 < 16 then w32 s.host.outCons[(⟨(off - 0x800) / 4, h.2⟩ : Fin 16)]
  else if off = 0x840 then s.countWord s.host.consReject
  else 0

/-- A write to a word of the DMA block (16 R386). -/
def dmaWrite (off : Nat) (v : Word) (s : State) : State :=
  if h : 0x100 ≤ off ∧ (off - 0x100) / 0x40 < 16 then
    dmaChanWrite (.d2h ⟨(off - 0x100) / 0x40, h.2⟩) (off % 0x40) v s
  else if h : 0x500 ≤ off ∧ (off - 0x500) / 0x40 < 8 then
    dmaChanWrite (.h2d ⟨(off - 0x500) / 0x40, h.2⟩) (off % 0x40) v s
  else if h : 0x800 ≤ off ∧ (off - 0x800) / 4 < 16 then outConsWrite ⟨(off - 0x800) / 4, h.2⟩ v s
  else if off = 0x840 then { s with host := { s.host with consReject := countWrite s.host.consReject v } }
  else s

end Sys2Proof.Machine
end

