-- ==== Sys2Proof/Machine/MbxPort.lean ====
section
/-! DEFINITION. How requests reach firmware: PCIe mailboxes, network datagrams and the sideband; end of sessions
(16 R371, R374; 17 R395 to R401). -/

namespace Sys2Proof.Machine

/-! ### Requests as bytes (17 Table 17.1) -/

/-- The request of a byte string with header and payload.  A port that carries one session fixes it, whatever other session from 0
to 13 the header names (DESIGN CHOICE); one above 15 is a value out of range (17 R393). -/
def reqOf (limit : Nat) (port : Option Nat) (bs : List Byte) : Req :=
  let len := le16 bs 8
  { opcode := le16 bs 0, session := port.getD (byteAt bs 2), flags := byteAt bs 3, sequence := le32 bs 4
    payload := fit (min len limit) (bs.drop 16)
    bad := decide (limit < len) || !zeroAt bs 10 6 || decide (15 < byteAt bs 2)
    noSession := byteAt bs 2 == 14 || byteAt bs 2 == 15 }

/-! ### PCIe mailboxes (16 R371) -/

/-- A doorbell or a request-window write is dropped. -/
def mailboxLost (k : Fin 4) (s : State) : State := s.setMailbox k fun m => { m with lost := true }

/-- DOORBELL of mailbox `k`: a request goes to firmware when MBX_READY is 1, and is dropped otherwise (16 R371). -/
def doorbell (k : Fin 4) (bulk : List Byte) (s : State) : State :=
  let m := s.host.mbx[k]
  if m.ready then
    let q := reqOf 4080 (some (k.val + 1)) (memReadN m.request 0 4096)
    let s := s.setMailbox k fun m => { m with ready := false }
    settleQueue (arrive { q with bulk := bulk } s)
  else mailboxLost k s

/-- MBX_DOORBELL: a write of word `v` to DOORBELL of mailbox `k`; `bulk` is what a BULK fetch from host memory would
return (16 R371; 17 R392). -/
def execMbxDoorbell (k : Fin 4) (v : Word) (bulk : List Byte) (s : State) : Host.Outcome State Fault Refusal :=
  .next (if bit v 0 then doorbell k bulk s else s)

/-- A write to a request window; one of more than 512 bytes or across the window's end has no effect (16 R369, R371). -/
def requestWrite (k : Fin 4) (off : Nat) (bs : List Byte) (s : State) : State :=
  if bs.isEmpty ∨ 512 < bs.length ∨ 4096 < off + bs.length then s
  else if (s.host.mbx[k]).ready then s.setMailbox k fun m => { m with request := memWriteN m.request off bs }
  else mailboxLost k s

/-- MBX_REQUEST_WRITE. -/
def execMbxRequestWrite (k : Fin 4) (off : Fin 4096) (bs : List Byte) (s : State) : Host.Outcome State Fault Refusal :=
  .next (requestWrite k off.val bs s)

/-! ### Network (17 R396) -/

/-- A datagram is discarded at E0 and counted (17 R396). -/
def netDrop (s : State) : State := s.droppedFrame 0

/-- Is the datagram's session the one opened from its source (17 R396)? -/
def boundTo (s : State) (q : Req) : Bool :=
  decide (5 ≤ q.session ∧ q.session ≤ 12) && (match idx? 14 q.session with
    | some k =>
      let c := s.mbx.sess[k]
      c.isOpen && c.addr == q.srcIp && c.port == q.srcPort
    | none => false)

/-- Does firmware receive network requests: mailboxes served, E0's link up (20 Table 20.13)? -/
def netServes (s : State) : Bool :=
  mailboxesServe s && (s.net.port[(0 : Fin 4)]).up && s.mgmt.dev != .halted

/-- A request from the network: RX_DROP, BUSY at once beside an outstanding one, or the queue (17 R396).  The repeat of
the outstanding request itself is dropped. -/
def netRequest (q : Req) (s : State) : State :=
  if !netServes s then s
  else if q.opcode = 0x0101 ∧ !q.noSession then settleQueue (arrive q s)
  else if !boundTo s q then netDrop s
  else match idx? 14 q.session with
    | none => s
    | some k => match (s.mbx.sess[k]).outstanding with
      | none => settleQueue (arrive q s)
      | some o =>
        if sameRequest o q then s
        else
          let r : Resp := { opcode := q.opcode, session := q.session, sequence := q.sequence, status := .busy }
          netAnswer q.srcIp q.srcPort (respBytes q.flags r) (s.emit (.response r))

/-- The request of a UDP payload; a payload that is not header and LENGTH bytes is refused as the header's LENGTH is
wrong (17 R393, R396). -/
def netReq (ip port : Nat) (bs : List Byte) : Req :=
  let q := reqOf 1440 none bs
  { q with net := true, srcIp := ip, srcPort := port, bad := q.bad || decide (bs.length ≠ 16 + le16 bs 8) }

/-- NET_REQUEST_RX: a datagram to UDP port 23,118 of E0, from an IPv4 address and a port (17 R396); one without a whole
header is discarded. -/
def execNetRequestRx (ip : BitVec 32) (port : BitVec 16) (bs : List Byte) (s : State) : Host.Outcome State Fault Refusal :=
  if !netServes s then .next s
  else
    let s := s.tookFrame 0
    .next (if bs.length < 16 then netDrop s else netRequest (netReq ip.toNat port.toNat bs) s)

/-! ### Sideband (17 R397) -/

/-- SB_WRITE_REQUEST: a frame hands over a request; while `RDYBSY` is low it is dropped with LOST. -/
def execSbWriteRequest (bs : List Byte) (s : State) : Host.Outcome State Fault Refusal :=
  if s.host.rdybsy then
    let q := reqOf 4080 (some 13) bs
    let q := { q with bad := q.bad || decide (bs.length < 16 + le16 bs 8) }
    .next (rdybsyNow (settleQueue (rdybsyNow (arrive q s))))
  else .next { s with mbx := { s.mbx with sbLost := true } }

/-- SB_READ_RESPONSE: a frame shifts out the last response, as far as the master clocks it. -/
def execSbReadResponse (n : Fin 4097) (s : State) : Host.Outcome State Fault Refusal :=
  let bs := fit n.val s.mbx.sbResponse
  let whole := decide (s.mbx.sbResponse.length ≤ n.val)
  .next (({ s with readBytes := bs, mbx := { s.mbx with sbUnread := s.mbx.sbUnread && !whole } }).emit (.sideband bs))

/-- The status byte of READ_STATUS. -/
def sbStatus (s : State) : Byte :=
  BitVec.ofNat 8 (flagAt s.host.rdybsy 0 + flagAt s.mbx.sbUnread 1 + flagAt s.mbx.sbLost 2)

/-- SB_READ_STATUS: a frame shifts out the status byte and clears LOST. -/
def execSbReadStatus (s : State) : Host.Outcome State Fault Refusal :=
  .next (({ s with readBytes := [sbStatus s], mbx := { s.mbx with sbLost := false } }).emit (.sideband [sbStatus s]))

/-! ### Releases and the end of sessions (17 R399, R401) -/

/-- A held resource becomes unowned, with the effects of the owning chapters: a pipe's Tare run ends (05 R116) and a
valve link is disarmed (11 R277). -/
def releaseOne (res : Nat) (s : State) : State :=
  let s := { s with mbx := { s.mbx with claims := s.mbx.claims.filter fun c => c.1 != res } }
  if res / 256 = 2 then (match idx? 12 (res % 256) with | some p => abortTare p s | none => s)
  else if res / 256 = 3 then (match idx? 4 (res % 256) with | some l => disarm l s | none => s)
  else s

/-- The resources of a session, ascending. -/
def heldBy (s : State) (session : Nat) : List Nat :=
  sortBy (fun a b => decide (a ≤ b)) ((s.mbx.claims.filter fun c => c.2 == session).map (·.1))

/-- An update in progress ends: the lock is free, the target slot invalid (20 R454). -/
def updateEnds (s : State) : State :=
  let u := s.mgmt.update
  s.setMgmt fun m => { m with update := { lastStatus := u.lastStatus, trialS := u.trialS }
                              slots := if u.state = .idle then m.slots else upd m.slots (idxMod 1 u.target) fun _ => none }

/-- A log entry of the update (20 Table 20.6): step, image version, kind. -/
def updateLog (step session : Nat) (s : State) : State :=
  let u := s.mgmt.update
  s.log 3 session ([step] ++ (bytesOf 4 u.version).map BitVec.toNat ++ [if u.isLibrary then 1 else 0])

/-- A session loses the update lock as by UPDATE_ABORT (17 R399; 20 R454). -/
def dropUpdate (session : Nat) (s : State) : State :=
  if s.mgmt.update.holder = some session then updateEnds (updateLog 1 session s) else s

/-- Every claim of a session is released, in ascending order. -/
def releaseAll (session : Nat) (s : State) : State := forEach (heldBy s session) releaseOne s

/-- The rings that a network or PCIe session configured drain when it closes (14 R340). -/
def drainRings (session : Nat) (s : State) : State :=
  if 1 ≤ session ∧ session ≤ 12 then
    forEach (List.finRange 16) (fun r t => if t.outp.ring[r].owner = some session then ringEnable r false t else t) s
  else s

/-- A session closes (17 R399): its update ends, its claims are released and its output rings drain. -/
def closeSession (k : Fin 14) (s : State) : State :=
  let s := drainRings k.val (releaseAll k.val (dropUpdate k.val s))
  s.setSess k fun c => { background := c.background }

/-- SESSION_IDLE_TIMEOUT: a network session has had no request for its IDLE_S (17 R399). -/
def execSessionIdleTimeout (n : Fin 8) (s : State) : Host.Outcome State Fault Refusal :=
  let k : Fin 14 := ⟨5 + n.val, by omega⟩
  let c := s.mbx.sess[k]
  if c.isOpen && c.outstanding.isNone && s.firmwareRuns && decide (c.lastAt + c.idleS * 1000000000 ≤ s.now) then
    let s := s.log 7 k.val ([2] ++ (bytesOf 4 c.addr ++ bytesOf 2 c.port).map BitVec.toNat)
    .next (closeSession k s)
  else .next s

end Sys2Proof.Machine
end

