-- ==== Sys2Proof/Machine/Regs.lean ====
section
/-! DEFINITION. The registers as agents reach them: the internal address space, BAR0, BAR2, the sliding window and MSI-X
(01 R18 to R23; 16 R369 to R373). -/

namespace Sys2Proof.Machine

/-! ### Register windows (01 R20, Tables 1.8, 1.10) -/

/-- Base of the block registers. -/
def regBase : Nat := 0x1010000000

/-- Offset of a register word that is the low half of a 64-bit field, by window and offset (01 R18; 03, 05, 10, 14, 15,
16, 19). -/
def wideIn (k off : Nat) : Bool :=
  match k with
  | 0x01 => decide (off < 0xC0000) && off % 0x10000 == 0x0008
  | 0x02 => decide (off < 0xC00) && off % 0x100 == 0x20
  | 0x04 => off == 0
  | 0x09 =>
    (decide (off < 0x800) && [0x00, 0x10, 0x18, 0x20].contains (off % 0x100))
      || (decide (0xC00 ≤ off ∧ off < 0xF00) && [0x08, 0x10].contains (off % 0x40))
  | 0x0C => decide (off < 0xC00) && off % 0x100 == 0x04
  | 0x0E => off == 0xA04
  | 0x0F => decide (0x100 ≤ off ∧ off < 0x700) && [0x08, 0x18, 0x28].contains (off % 0x40)
  | 0x12 => off == 0
  | _ => false

/-- The same by internal address. -/
def wideLow (a : Nat) : Bool := decide (regBase ≤ a) && wideIn ((a - regBase) / 0x100000) ((a - regBase) % 0x100000)

/-- Kind of free value: the rounding of a correction of Table 12.5 to 16.16 ns, which the spec does not state. -/
def freeCorr : Nat := 90

/-- Tenths of a ns in units of 2^-16 ns. -/
def corrUnits (k tenths : Nat) : Nat :=
  tenths * 65536 / 10 + (if tenths * 65536 % 10 = 0 then 0 else Config.freeNat freeCorr k % 2)

/-- Corrections of a port's mode in units of 2^-16 ns: transmit, receive (12 Table 12.5). -/
def modeCorr (p : EthPort) : Nat × Nat :=
  match p.mode with
  | .r25g => if p.fec then (corrUnits 0 784, corrUnits 1 2362) else (corrUnits 2 246, corrUnits 3 318)
  | .r10g => (corrUnits 4 582, corrUnits 5 864)
  | .x1000 => (corrUnits 6 2960, corrUnits 7 3840)
  | .off => (0, 0)

/-- A word of the `ETH_` port blocks (12 Table 12.2). -/
def ethRead (off : Nat) (s : State) : Word :=
  if h : off / 0x100 < 4 then
    let p := s.net.port[(⟨off / 0x100, h⟩ : Fin 4)]
    match off % 0x100 / 4 with
    | 0 => w32 ((match p.mode with | .off => 0 | .x1000 => 1 | .r10g => 2 | .r25g => 3) + flagAt (p.fec && p.mode == .r25g) 2
        + flagAt p.up 3)
    | 1 => w32 (modeCorr p).1
    | 2 => w32 (modeCorr p).2
    | 3 => s.countWord p.rxFrames
    | 4 => s.countWord p.txFrames
    | 5 => s.countWord p.fcsErr
    | 6 => s.countWord p.rxDrop
    | 7 => s.countWord p.ptpRx
    | 8 => s.countWord p.ptpTx
    | _ => 0
  else 0

/-- A write to a word of the `ETH_` port blocks. -/
def ethWrite (off : Nat) (v : Word) (s : State) : State :=
  if h : off / 0x100 < 4 then
    { s with net := { s.net with port := upd s.net.port ⟨off / 0x100, h⟩ fun p => match off % 0x100 / 4 with
      | 3 => { p with rxFrames := countWrite p.rxFrames v }
      | 4 => { p with txFrames := countWrite p.txFrames v }
      | 5 => { p with fcsErr := countWrite p.fcsErr v }
      | 6 => { p with rxDrop := countWrite p.rxDrop v }
      | 7 => { p with ptpRx := countWrite p.ptpRx v }
      | 8 => { p with ptpTx := countWrite p.ptpTx v }
      | _ => p } }
  else s

/-- The full OBS set may be selected now (20 Table 20.8, R414). -/
def obsFull (s : State) : Bool :=
  s.mgmt.lifeCycle == .blank || (s.mgmt.lifeCycle == .decommissioned && (policyWord s).testBit 4)

/-- A word of the OBS mirror (20 Table 20.12). -/
def obsRead (off : Nat) (s : State) : Word :=
  if h : off / 4 < 8 then w32 s.mgmt.obsSel[(⟨off / 4, h⟩ : Fin 8)]
  else if off = 0x20 then w32 (flagAt (obsFull s) 0) else 0

/-- A word of register window `k`; windows whose registers the spec does not lay out read zero. -/
def windowWord (k off : Nat) (s : State) : Word × State :=
  match k with
  | 0x01 => (match idx? 12 (off / 0x10000) with | some p => shadowRead s.pipe[p] (off % 0x10000) | none => 0, s)
  | 0x02 => tareRead off s
  | 0x03 => (binRead off s, s)
  | 0x04 => (stchRead off s, s)
  | 0x05 => (segRead off s, s)
  | 0x06 => (gustRead off s, s)
  | 0x07 => (engRead off s, s)
  | 0x08 => (ejRead off s, s)
  | 0x09 => posRead off s
  | 0x0A => timeRead off s
  | 0x0B => (if off < 0x80000 then ethRead off s else ellRead (off - 0x80000) s, s)
  | 0x0C => (fathRead off s, s)
  | 0x0D => (outRead off s, s)
  | 0x0E => (dramReadReg off s, s)
  | 0x0F => (dmaRead off s, s)
  | 0x11 => (evtRead off s, s)
  | 0x12 => fltRead off s
  | 0x15 => (obsRead off s, s)
  | _ => (0, s)

/-- A write of PCIe session `ses` to a word of register window `k`. -/
def windowWrite (k off : Nat) (v : Word) (ses : Nat) (s : State) : State :=
  match k with
  | 0x01 => match idx? 12 (off / 0x10000) with | some p => shadowWrite p (off % 0x10000) v s | none => s
  | 0x04 => stchWrite off v s
  | 0x05 => segWrite off v s
  | 0x06 => gustWrite off v s
  | 0x07 => engWrite off v s
  | 0x08 => ejWrite off v s
  | 0x09 => posWrite off v s
  | 0x0A => timeWrite off v s
  | 0x0B => if off < 0x80000 then ethWrite off v s else ellWrite (off - 0x80000) v s
  | 0x0C => fathWrite off v s
  | 0x0D => outWrite off v s
  | 0x0E => dramWriteReg off v s
  | 0x0F => dmaWrite off v s
  | 0x11 => evtWrite off v ses s
  | _ => s

/-- Keep a snapshot of a word (01 R18). -/
def keepSnap (key : Nat) (v : Word) (s : State) : State :=
  { s with host := { s.host with snaps := (key, v) :: s.host.snaps.filter fun e => e.1 != key } }

/-- The snapshot of a word; zero before any. -/
def snapOf (s : State) (key : Nat) : Word := ((s.host.snaps.find? fun e => e.1 == key).map (·.2)).getD 0

/-- Read a register word by internal address: the low word of a 64-bit field takes the snapshot that its high word
returns (01 R18). -/
def regRead (a : Nat) (s : State) : Word × State :=
  let raw := fun (b : Nat) => windowWord ((b - regBase) / 0x100000) ((b - regBase) % 0x100000) s
  if 4 ≤ a ∧ wideLow (a - 4) then (snapOf s a, s)
  else if wideLow a then ((raw a).1, keepSnap (a + 4) (raw (a + 4)).1 (raw a).2)
  else raw a

/-- Write a register word by internal address. -/
def regWrite (a : Nat) (v : Word) (ses : Nat) (s : State) : State :=
  windowWrite ((a - regBase) / 0x100000) ((a - regBase) % 0x100000) v ses s

/-! ### BAR2 host-direct blocks (16 Table 16.3, 01 Table 1.10) -/

/-- The internal address of a host-direct register. -/
def bar2Addr (off : Nat) : Option Nat :=
  let at_ := fun (k base : Nat) => some (regBase + k * 0x100000 + (off - base))
  if off < 0xC0000 then at_ 0x01 0
  else match off / 0x10000 with
  | 0x0C => at_ 0x0A 0xC0000
  | 0x0D => at_ 0x11 0xD0000
  | 0x0E => at_ 0x09 0xE0000
  | 0x0F => at_ 0x0F 0xF0000
  | 0x10 => at_ 0x08 0x100000
  | 0x11 => at_ 0x12 0x110000
  | 0x12 => at_ 0x02 0x120000
  | 0x13 => at_ 0x07 0x130000
  | 0x14 => at_ 0x15 0x140000
  | _ => none

/-! ### BAR0 (16 Table 16.2) -/

/-- Key of a BAR0 snapshot. -/
def bar0Key (off : Nat) : Nat := 2 ^ 41 + off

/-- DEV_STATE code (16 Table 16.2). -/
def DevState.code : DevState → Nat
  | .rom => 0 | .init => 1 | .operational => 2 | .test => 3 | .pause => 4 | .halted => 5

/-- LIFE_CYCLE code (16 Table 16.2). -/
def LifeCycle.code : LifeCycle → Nat
  | .blank => 0 | .manufactured => 1 | .provisioned => 2 | .decommissioned => 3

/-- One bit per mailbox, from bit `lo` up. -/
def mbxBits (s : State) (f : Mailbox → Bool) (lo : Nat) : Nat :=
  ((List.finRange 4).map fun k => flagAt (f s.host.mbx[k]) (lo + k.val)).sum

/-- A word of the MSI-X table. -/
def msixWord (m : MsixVector) (w : Nat) : Word :=
  match w with
  | 0 => lo64 m.addr
  | 1 => hi64 m.addr
  | 2 => w32 m.data
  | _ => w32 (flagAt m.masked 0)

/-- Pending bits of 32 vectors from `lo` up. -/
def pbaWord (s : State) (lo : Nat) : Word :=
  w32 ((List.range 32).map fun i => match idx? 64 (lo + i) with
    | some v => flagAt (s.host.msix[v]).pba i
    | none => 0).sum

/-- The bytes of mailbox windows. -/
def mailboxWord (s : State) (off : Nat) : Word :=
  match idx? 4 ((off - 0x8000) / 0x2000) with
  | none => 0
  | some k =>
    let o := (off - 0x8000) % 0x2000
    let m := s.host.mbx[k]
    if o < 0x1000 then w32 (leAt (memReadN m.request o 4) 0 4) else w32 (le32 m.response (o - 0x1000))

/-- A word of BAR0. -/
def bar0Word (off : Nat) (s : State) : Word :=
  let h := s.host
  let m := s.mgmt
  if 0x8000 ≤ off then mailboxWord s off
  else if hx : 0x1000 ≤ off ∧ (off - 0x1000) / 16 < 64 then msixWord (h.msix[(⟨(off - 0x1000) / 16, hx.2⟩ : Fin 64)]) (off % 16 / 4)
  else match off with
  | 0x0000 => w32 (0x1216 + m.stepping % 256 * 65536)
  | 0x0004 => w32 m.fwVersion
  | 0x0008 => w32 (m.dev.code + (powerShown s).code * 16 + m.lifeCycle.code * 256 + flagAt m.hostIndependent 10
      + m.imageSlot % 2 * 2048 + flagAt m.trial 12)
  | 0x000C => lo64 m.serial
  | 0x0010 => hi64 m.serial
  | 0x0014 => w32 s.station.plantDevice
  | 0x0018 => w32 (h.linkGen + h.linkWidth * 8)
  | 0x001C => h.scratch
  | 0x0020 => w32 h.winBase
  | 0x0110 => w32 (flagAt h.rdybsy 0 + mbxBits s (·.ready) 1 + mbxBits s (·.resp) 5 + mbxBits s (·.lost) 9)
  | 0x0200 => lo64 s.flt.status
  | 0x0204 => hi64 s.flt.status
  | 0x0208 => (firstWords s)[0]?.getD 0 &&& 0xFFF#32
  | 0x020C => (firstWords s)[1]?.getD 0
  | 0x0210 => (firstWords s)[2]?.getD 0
  | 0x0214 => (firstWords s)[3]?.getD 0
  | 0x1800 => pbaWord s 0
  | 0x1804 => pbaWord s 32
  | _ => 0

/-- Read a word of BAR0: SERIAL, FLT_STATUS and FIRST_TIME by snapshots (01 R18; 16 Table 16.2). -/
def bar0Read (off : Nat) (s : State) : Word × State :=
  if off = 0x0010 ∨ off = 0x0204 ∨ off = 0x0210 ∨ off = 0x0214 then (snapOf s (bar0Key off), s)
  else
    let w := bar0Word off s
    if off = 0x000C ∨ off = 0x0200 then (w, keepSnap (bar0Key (off + 4)) (bar0Word (off + 4) s) s)
    else if off = 0x020C then
      (w, keepSnap (bar0Key 0x0214) (bar0Word 0x0214 s) (keepSnap (bar0Key 0x0210) (bar0Word 0x0210 s) s))
    else (w, s)

/-! ### MSI-X (16 R373) -/

/-- A vector whose mask and function mask are clear sends what its PBA bit holds. -/
def msixFlush (v : Fin 64) (s : State) : State :=
  let m := s.host.msix[v]
  if s.host.msixEnable && m.pba && !m.masked && !s.host.functionMask then
    ({ s with host := { s.host with msix := upd s.host.msix v fun m => { m with pba := false } } }).emit (.msix v m.addr m.data)
  else s

/-- Vector Control is written. -/
def setMask (v : Fin 64) (masked : Bool) (s : State) : State :=
  msixFlush v { s with host := { s.host with msix := upd s.host.msix v fun m => { m with masked := masked } } }

/-- MSIX_VECTOR_UNMASK: the mask of a vector is cleared; a set PBA bit sends one message (16 R373). -/
def execMsixVectorUnmask (v : Fin 64) (s : State) : Host.Outcome State Fault Refusal := .next (setMask v false s)

/-- The MSI-X control word of configuration space: [31] enable, [30] function mask; a vector 4 that waited for the enable
fires (16 R373, R389). -/
def msixControl (v : Word) (s : State) : State :=
  let on := bit v 31
  let s := { s with host := { s.host with msixEnable := on, functionMask := bit v 30 } }
  let s := if on && s.host.vector4Due then
      ({ s with host := { s.host with vector4Due := false } }).fireVector 4 else s
  forEach (List.finRange 64) msixFlush s

/-- Device Control 2 of configuration space: [3:0] Completion Timeout Value, [4] Completion Timeout Disable (16 R368; the places
PRESUMED of PCI Express). -/
def deviceControl2 (v : Word) (s : State) : State :=
  { s with host := { s.host with timeoutValue := bits v 3 0, timeoutDisable := bit v 4 } }

/-- A write to the MSI-X table. -/
def msixWrite (v : Fin 64) (w : Nat) (x : Word) (s : State) : State :=
  let set := fun (f : MsixVector → MsixVector) => { s with host := { s.host with msix := upd s.host.msix v f } }
  match w with
  | 0 => set fun m => { m with addr := m.addr / 2 ^ 32 * 2 ^ 32 + x.toNat }
  | 1 => set fun m => { m with addr := x.toNat * 2 ^ 32 + m.addr % 2 ^ 32 }
  | 2 => set fun m => { m with data := x.toNat }
  | _ => setMask v (bit x 0) s

/-- A write to a word of BAR0 (16 Table 16.2). -/
def bar0Write (off : Nat) (v : Word) (s : State) : State :=
  if 0x8000 ≤ off then
    match idx? 4 ((off - 0x8000) / 0x2000) with
    | some k => if (off - 0x8000) % 0x2000 < 0x1000 then requestWrite k ((off - 0x8000) % 0x2000) (bytesOf 4 v.toNat) s else s
    | none => s
  else if h : 0x1000 ≤ off ∧ (off - 0x1000) / 16 < 64 then msixWrite ⟨(off - 0x1000) / 16, h.2⟩ (off % 16 / 4) v s
  else if off = 0x001C then { s with host := { s.host with scratch := v } }
  else if off = 0x0020 then { s with host := { s.host with winBase := bits v 15 0 } }
  else if off = 0x0110 then
    forEach (List.finRange 4) (fun k t => t.setMailbox k fun m =>
      { m with resp := w1c m.resp (bit v (5 + k.val)), lost := w1c m.lost (bit v (9 + k.val)) }) s
  else match idx? 4 ((off - 0x0100) / 4) with
    | some k => if 0x0100 ≤ off && bit v 0 then doorbell k [] s else s
    | none => s

/-! ### The sliding window (16 R372; 01 R22, R23; 04 R102; 15 R364) -/

/-- Is an internal address one of a region that only its own unit writes (04 R102)? -/
def tableRegion (a : Nat) : Bool :=
  decide (0x1009000000 ≤ a ∧ a < 0x1009300000) || decide (0x100A000000 ≤ a ∧ a < 0x100A600000)

/-- Is an internal address in the register windows? -/
def isRegister (a : Nat) : Bool := decide (regBase ≤ a ∧ a < 0x1017000000)

/-- The DRAM port of the device DMA engines and the sliding window (15 Table 15.3). -/
def hostPort : Nat := 3

/-- Bytes of internal memory outside the registers: pool blocks that a Tare run holds show its accumulators (05 R113). -/
def spaceBytes (s : State) (a len : Nat) : List Byte :=
  if (poolBlock a).isSome then (List.range len).map fun i => (accByte s (a + i)).getD (memRead s.mem (a + i))
  else memReadN s.mem a len

/-- A read of internal space by a DMA channel or through the sliding window: registers in words of 4 or 8 aligned bytes. -/
def internalRead (ag : Agent) (a len : Nat) (s : State) : List Byte × State :=
  if !windowReach s a len then (zeros len, reservedAccess a ag s)
  else if isRegister a then
    if len = 4 ∧ a % 4 = 0 then
      let r := regRead a s
      (bytesOf 4 r.1.toNat, r.2)
    else if len = 8 ∧ a % 8 = 0 then
      let lo := regRead a s
      let hi := regRead (a + 4) lo.2
      (bytesOf 4 lo.1.toNat ++ bytesOf 4 hi.1.toNat, hi.2)
    else (zeros len, s)
  else if a < 2 ^ 36 then
    let r := dramRead hostPort a len s
    (if r.2 then List.replicate len 0xFF#8 else memReadN s.mem a len, r.1)
  else (spaceBytes s a len, s)

/-- A write of internal space by a DMA channel or through the sliding window. -/
def internalWrite (ag : Agent) (a : Nat) (bs : List Byte) (ses : Nat) (s : State) : State :=
  if !windowReach s a bs.length then reservedAccess a ag s
  else if isRegister a then
    if bs.length = 4 ∧ a % 4 = 0 then regWrite a (w32 (le32 bs 0)) ses s
    else if bs.length = 8 ∧ a % 8 = 0 then
      regWrite (a + 4) (w32 (le32 bs 4)) ses (regWrite a (w32 (le32 bs 0)) ses s)
    else s
  else if tableRegion a then s
  else s.store a bs

/-- SLIDING_WINDOW_ACCESS: a read of `len` bytes, or a write of the bytes given, at an offset of the window; an access of
no bytes, of more than 512, or across the window's end has no effect (16 R369, R372). -/
def execSlidingWindowAccess (off : Fin 0x1000000) (len : Fin 513) (data : Option (List Byte)) (ses : Fin 4) (s : State) :
    Host.Outcome State Fault Refusal :=
  let a := s.host.winBase * 0x1000000 + off.val
  match data with
  | some bs =>
    .next (if bs.isEmpty ∨ 512 < bs.length ∨ 0x1000000 < off.val + bs.length then s
      else internalWrite .host a bs (ses.val + 1) s)
  | none =>
    if len.val = 0 ∨ 0x1000000 < off.val + len.val then .next { s with readBytes := zeros len.val }
    else
      let r := internalRead .host a len.val s
      .next { r.2 with readBytes := r.1 }

/-- A word of a place. -/
def placeWord (place : RegPlace) (add : Nat) (s : State) : Word × State :=
  match place with
  | .bar0 off => bar0Read (off.val + add) s
  | .bar2 off => match bar2Addr (off.val + add) with
    | some a => regRead a s
    | none => (0, s)
  | .msixControl => (w32 (flagAt s.host.msixEnable 31 + flagAt s.host.functionMask 30), s)
  | .deviceControl2 => (w32 (s.host.timeoutValue + flagAt s.host.timeoutDisable 4), s)

/-- Offset of a place. -/
def RegPlace.off : RegPlace → Nat
  | .bar0 off => off.val
  | .bar2 off => off.val
  | _ => 0

/-- Bytes of the mailbox windows (16 Table 16.2). -/
def mailboxBytes (s : State) (off len : Nat) : List Byte :=
  (List.range len).map fun i =>
    byteAt (bytesOf 4 (mailboxWord s ((off + i) / 4 * 4)).toNat) ((off + i) % 4)

/-- A read of `len` bytes at a place: naturally aligned 4 bytes, 8 bytes as the low and then the high word, any 1 to 512 bytes
within a mailbox window; another one returns zeros (16 R369). -/
def placeRead (place : RegPlace) (len : Nat) (s : State) : List Byte × State :=
  let one := fun (add : Nat) (t : State) => let r := placeWord place add t; (bytesOf 4 r.1.toNat, r.2)
  match place with
  | .bar0 off =>
    if 0x8000 ≤ off.val then
      (if len = 0 ∨ 0x1000 < off.val % 0x1000 + len then zeros len else mailboxBytes s off.val len, s)
    else if len = 4 ∧ off.val % 4 = 0 then one 0 s
    else if len = 8 ∧ off.val % 8 = 0 then
      let lo := one 0 s
      let hi := one 4 lo.2
      (lo.1 ++ hi.1, hi.2)
    else (zeros len, s)
  | _ =>
    if len = 4 ∧ place.off % 4 = 0 then one 0 s
    else if len = 8 ∧ place.off % 8 = 0 then
      let lo := one 0 s
      let hi := one 4 lo.2
      (lo.1 ++ hi.1, hi.2)
    else (zeros len, s)

/-- COUNTER_LOW_READ: a read of a register of BAR0 or BAR2, of a mailbox window, or of configuration space; the
low word of a wide field takes its snapshot (01 R18; 16 R369).  `readData` is the first word. -/
def execCounterLowRead (read : RegRead) (s : State) : Host.Outcome State Fault Refusal :=
  let r := placeRead read.place read.len.val s
  .next { r.2 with readBytes := r.1, readData := BitVec.ofNat 32 (le32 r.1 0) }

/-- A word is written to a place by PCIe session `ses` + 1. -/
def placeWrite (place : RegPlace) (add : Nat) (v : Word) (ses : Fin 4) (s : State) : State :=
  match place with
  | .bar0 off => bar0Write (off.val + add) v s
  | .bar2 off => match bar2Addr (off.val + add) with
    | some a => regWrite a v (ses.val + 1) s
    | none => s
  | .msixControl => msixControl v s
  | .deviceControl2 => deviceControl2 v s

/-- REGISTER_WRITE: PCIe session `ses` + 1 writes a register of BAR0 or BAR2, or a word of configuration space: naturally
aligned 4 bytes, or 8 bytes as the low and then the high word; any other write has no effect, except in a request window (08
R199; 16 R368 to R370, R373). -/
def execRegisterWrite (place : RegPlace) (d : RegData) (ses : Fin 4) (s : State) : Host.Outcome State Fault Refusal :=
  .next (match d with
    | .word v => if place.off % 4 = 0 then placeWrite place 0 v ses s else s
    | .pair lo hi => if place.off % 8 = 0 then placeWrite place 4 hi ses (placeWrite place 0 lo ses s) else s
    | .other bs => match place with
      | .bar0 off =>
        if 0x8000 ≤ off.val ∧ (off.val - 0x8000) % 0x2000 < 0x1000 then
          match idx? 4 ((off.val - 0x8000) / 0x2000) with
          | some k => requestWrite k ((off.val - 0x8000) % 0x2000) bs s
          | none => s
        else s
      | _ => s)

/-- Does an internal address lie in an agent's reach: the whole implemented map for the management core, all but its memory
and the `LCS_` window for the host, the DMA channels and the outputs, and three places for an engine (01 R22, R23)? -/
def agentReach (s : State) (ag : Agent) (a : Nat) : Bool :=
  let inside := fun (lo size : Nat) => decide (lo ≤ a ∧ a < lo + size)
  let engine := fun (e : Fin 192) => dramHas s a 1 || inside (0x1004000000 + e.val * 0x40000) 0x40000
    || inside (0x1008000000 + e.val / 16 * 0x100000) 0x100000
  match ag with
  | .engine e => engine e
  | .engineDma e => engine e
  | .mgmt => windowReach s a 1 || inside 0x100D000000 0x200000 || inside 0x1011400000 0x100000
  | _ => windowReach s a 1

/-- RESERVED_ADDRESS_ACCESS: an agent accesses an internal address.  One outside its reach is counted with the agent, a write
is dropped and a read returns zero (01 R22, R23). -/
def execReservedAddressAccess (a : Fin 0x10000000000) (acc : Access) (s : State) :
    Host.Outcome State Fault Refusal :=
  .next (if agentReach s acc.agent a.val then s
    else
      let s := reservedAccess a.val acc.agent s
      if acc.write then s else { s with readData := 0, readBytes := zeros 64 })

end Sys2Proof.Machine
end

