-- ==== Sys2Proof/Machine/DmaMove.lean ====
section
/-! DEFINITION. The movement of a DMA descriptor's bytes: source reads, packing, destination writes, read-back (16 R382 to
R384). -/

namespace Sys2Proof.Machine

/-- The used bytes of source access `i`: offset in the access and count (16 R382). -/
def Descriptor.used (d : Descriptor) (i : Nat) : Nat × Nat :=
  if d.srcFixed then (0, d.srcW)
  else
    let a := d.access i
    let lo := max a d.src
    (lo - a, min (a + d.srcW) (d.src + d.length) - lo)

/-- The next destination write of a transfer: address and byte count (16 R382). -/
def Transfer.nextWrite (t : Transfer) : Nat × Nat :=
  let d := t.desc
  if d.dstFixed then (d.dst, d.dstW)
  else
    let a := d.dst + t.written
    (a, min (d.dstW - a % d.dstW) (d.length - t.written))

/-- A destination write leaves: to host memory, or to internal space on behalf of the session that holds the channel. -/
def dmaWriteOut (k : DmaSel) (d : Descriptor) (a : Nat) (bs : List Byte) (s : State) : State :=
  if k.isH2d then internalWrite k.agent a bs ((s.holder k.res).getD 0) s else s.emit (.hostWrite k.d2hChan a bs (!d.fence))

/-- Writes leave while the holding register has all their bytes; each takes at least one byte of it. -/
def drainHold (k : DmaSel) : Nat → Transfer → State → Transfer × State
  | 0, t, s => (t, s)
  | n + 1, t, s =>
    let w := t.nextWrite
    if t.written < t.desc.length ∧ 0 < w.2 ∧ w.2 ≤ t.hold.length then
      drainHold k n { t with written := t.written + w.2, hold := t.hold.drop w.2 }
        (dmaWriteOut k t.desc w.1 (t.hold.take w.2) s)
    else (t, s)

/-- A source access has returned its bytes. -/
def takeAccess (k : DmaSel) (t : Transfer) (bs : List Byte) (s : State) : State :=
  let u := t.desc.used t.accesses
  let got := slice bs u.1 u.2
  let t := { t with accesses := t.accesses + 1, taken := t.taken + got.length, hold := t.hold ++ got }
  let r := drainHold k t.hold.length t s
  requestAccess k.isH2d r.1 (r.2.setEngine k.isH2d fun e => { e with xfer := some r.1 })

/-- Has an access to internal memory an uncorrectable error (15 R364)? -/
def internalBad (a len : Nat) (s : State) : Bool :=
  if a < 2 ^ 36 then readsBad s a len else !isRegister a && !(errWords s.eccBad a len).isEmpty

/-- A source access of a transfer ends: D2H reads internal space, H2D gets what the host read returned. -/
def sourceEnd (k : DmaSel) (t : Transfer) (r : ReadEnd) (s : State) : State :=
  let d := t.desc
  if k.isH2d then match r with
    | .data bs => takeAccess k t (fit d.srcW bs) s
    | .urCa => transferStop k t .urCa t.written s
    | .poison => transferStop k t .poison t.written s
  else
    let a := d.access t.accesses
    let g := internalRead k.agent a d.srcW s
    if internalBad a d.srcW s then transferStop k t .ecc t.written g.2 else takeAccess k t g.1 g.2

/-- DMA_READ_COMPLETION: a source read of the engine's descriptor returns (16 R382, R383). -/
def execDmaReadCompletion (h2d : Bool) (r : ReadEnd) (s : State) : Host.Outcome State Fault Refusal :=
  match busyChan s h2d with
  | none => .next s
  | some (k, t) => .next (if t.accesses < t.desc.accessCount then sourceEnd k t r s else s)

/-- Does a descriptor complete with read-back (16 R384)? -/
def needsReadback (s : State) (k : DmaSel) (d : Descriptor) : Bool :=
  d.readback || readbackForced s || (s.chan k).stopReadback

/-- The aligned word that holds the last byte written. -/
def readbackAddr (d : Descriptor) : Nat :=
  (if d.dstFixed then d.dst + d.dstW - 1 else d.dst + d.length - 1) / 4 * 4

/-- DMA_DESCRIPTOR_COMPLETE: the last write of the engine's descriptor has left; it completes, or its read-back sets out
(16 R384). -/
def execDmaDescriptorComplete (h2d : Bool) (s : State) : Host.Outcome State Fault Refusal :=
  match busyChan s h2d with
  | none => .next s
  | some (k, t) =>
    if t.written < t.desc.length || t.awaitReadback then .next s
    else if needsReadback s k t.desc then
      let s := s.setEngine h2d fun e => { e with xfer := some { t with awaitReadback := true } }
      .next (if h2d then s else s.emit (.hostRead (readbackAddr t.desc) 4))
    else .next (dmaComplete k t.desc s)

/-- DMA_READBACK_DONE: the read-back of the engine's descriptor returns (16 R383, R384). -/
def execDmaReadbackDone (h2d : Bool) (r : ReadEnd) (s : State) : Host.Outcome State Fault Refusal :=
  match busyChan s h2d with
  | none => .next s
  | some (k, t) =>
    if !t.awaitReadback then .next s
    else if h2d then
      .next (if internalBad (readbackAddr t.desc) 4 s then transferStop k t .ecc 0 s else dmaComplete k t.desc s)
    else .next (match r with
      | .data _ => dmaComplete k t.desc s
      | .urCa => transferStop k t .urCa 0 s
      | .poison => transferStop k t .poison 0 s)

end Sys2Proof.Machine
end

