-- ==== Sys2Proof/Machine/Reset.lean ====
section
/-! DEFINITION. Cold and warm resets (20 R438, R462; 21 R477 to R482) and the boot header (20 R443). -/

namespace Sys2Proof.Machine

/-! ### Boot header (20 R443) -/

/-- The valid copy of higher GEN with its number; with no valid copy, slot A is taken. -/
def bootHeader (m : MgmtBlock) : Nat × BootHeader :=
  match m.bootHdr[0], m.bootHdr[1] with
  | some a, some b => if a.gen < b.gen then (1, b) else (0, a)
  | some a, none => (0, a)
  | none, some b => (1, b)
  | none, none => (1, {})

/-- Firmware writes the other copy, with GEN + 1. -/
def writeHeader (f : BootHeader → BootHeader) (m : MgmtBlock) : MgmtBlock :=
  let h := bootHeader m
  { m with bootHdr := upd m.bootHdr (idxMod 1 (1 - h.1)) fun _ => some { f h.2 with gen := h.2.gen + 1 } }

/-- The key that signs images in the present life cycle (20 R453, Table 20.8). -/
def signingKey (m : MgmtBlock) : Nat := if m.lifeCycle = .provisioned then m.rootKeyHash else m.factoryKeyHash

/-- Largest SIZE of an image by its KIND (20 R453). -/
def imageLimit (isLibrary : Bool) : Nat := if isLibrary then 0x80000 else 0x800000

/-- Is an image valid (20 R453)? -/
def imageValid (m : MgmtBlock) (i : ImageInfo) : Bool :=
  i.keyHash == signingKey m && i.signatureOk && decide (m.rollbackFuse ≤ i.rollback) && decide (i.size ≤ imageLimit i.isLibrary)

/-- Does a slot pass the checks of step 3? -/
def slotValid (m : MgmtBlock) (k : Nat) : Bool :=
  match m.slots[k % 2]? with
  | some (some i) => imageValid m i && !i.isLibrary
  | _ => false

/-- The image in the slot that runs. -/
def runningImage (m : MgmtBlock) : ImageInfo := ((m.slots[m.imageSlot % 2]?).getD none).getD {}

/-- The boot ROM chooses a slot: the trial slot while ATTEMPTS is below 2, which it increments first, else the active one;
then the other slot.  None is HALTED.  TRIAL holds when the trial slot boots (20 R443). -/
def bootSelect (m : MgmtBlock) : MgmtBlock × Option Nat :=
  let h := (bootHeader m).2
  let (m, first, trial) := match h.trialSlot with
    | some t => if h.attempts < 2 then (writeHeader (fun b => { b with attempts := b.attempts + 1 }) m, t, true)
                else (m, h.activeSlot, false)
    | none => (m, h.activeSlot, false)
  if slotValid m first then ({ m with imageSlot := first % 2, trial := trial }, some (first % 2))
  else if slotValid m (first + 1) then ({ m with imageSlot := (first + 1) % 2, trial := false }, some ((first + 1) % 2))
  else (m, none)

/-! ### What a reset keeps -/

/-- Management state in flash, fuses and mask ROM (20 Table 20.2, R459, R461). -/
def flashOf (m : MgmtBlock) : MgmtBlock :=
  { bootHdr := m.bootHdr, slots := m.slots, stores := m.stores, tableStores := m.tableStores, bigFlash := m.bigFlash
    reserveValue := m.reserveValue, logRing := m.logRing, logNext := m.logNext
    lifeCycle := m.lifeCycle, lifeCycleNext := m.lifeCycleNext, policyFuse := m.policyFuse, eraseDue := m.eraseDue
    rootKeyNext := m.rootKeyNext, policyNext := m.policyNext, rootKeyHash := m.rootKeyHash
    factoryKeyHash := m.factoryKeyHash, rollbackFuse := m.rollbackFuse, fuseSupply := m.fuseSupply
    stepping := m.stepping, serial := m.serial }

/-- The image slots after a warm reset: the target of an update that was receiving to VERIFIED is invalid (20 Table 20.14). -/
def slotsAfterReset (m : MgmtBlock) : Vector (Option ImageInfo) 2 :=
  if m.update.state = .idle then m.slots else upd m.slots (idxMod 1 m.update.target) fun _ => none

/-- The board's side of the power controller: supplies, clocks, pins and the test access port. -/
def boardOf (w : PowerBlock) : PowerBlock :=
  { porHigh := w.porHigh, wrstHigh := w.wrstHigh, clockOk := w.clockOk, jtagIr := w.jtagIr, jtagOut := w.jtagOut
    jtagHolds := w.jtagHolds, jtagFloats := w.jtagFloats }

/-- The regions that a warm reset wipes in DRAM: Fathom regions and spill windows configured now, as (base, size)
(20 R462). -/
def configuredRegions (s : State) : List (Nat × Nat) :=
  ((s.outp.fathom.toList.filter fun f => decide (0 < f.stride)).map fun f =>
      (f.base, indexBytes f.lines + f.stride * f.lines))
    ++ ((s.eng.cluster.toList.filter fun c => decide (0 < c.spillSize)).map fun c => (c.spillBase, c.spillSize))

/-- Every ball takes its state in reset (21 R466, R478): the levels that differ are driven back. -/
def ballsInReset (s : State) : State :=
  let s := s.setBall .faultN false
  let s := if s.host.rdybsy then s.setBall .rdybsy false else s
  let s := if s.host.wakeN then s.setBall .wakeN true else s
  let s := forEach (List.finRange 2) (fun k t => if t.time.pps.out[k].level then t.setBall (.ppsOut k.val) false else t) s
  let s := forEach (List.finRange 8) (fun k t => t.setObs k false) s
  let s := forEach (List.finRange 4) (fun k t => if t.evt.strobeOff[k] then t else t.setBall (.strobeOut k.val) false) s
  let s := forEach (List.finRange 24) (fun k t =>
    if (t.evt.gpio[(⟨k.val, by omega⟩ : Fin 32)]).drive then t.emit (.released (.gpio k.val)) else t) s
  forEach (List.finRange 12) (fun p t => if t.pos.trigOut[p] then t.setBall (.trigOut p.val) false else t) s

/-- The state after a reset of everything but what `keep` hands over; start-up waits for STARTUP_BEGIN. -/
def afterReset (m : MgmtBlock) (mem : List Host.Cell) (bad soft : List Nat) (s : State) : State :=
  let s := ballsInReset s
  { State.reset with
      pending := s.pending, now := s.now, freeCount := s.freeCount, out := s.out
      readData := s.readData, readBytes := s.readBytes, mem := mem, eccBad := bad, eccSoft := soft
      mgmt := m, power := boardOf s.power, host := { perst := s.host.perst }
      eng := { library := s.eng.library } }

/-- FENCE_COUNT, access RS, survives a warm reset (00 R7; 09 Table 9.12). -/
def keepSticky (old : State) (s : State) : State :=
  { s with eng := { s.eng with eng := Vector.ofFn fun (e : Fin 192) => { fenceCount := (old.eng.eng[e]).fenceCount } } }

/-- A cold reset: nothing but flash and fuses is kept (21 Table 21.9); the ABORTED end of a Tare run (05 R116) is lost with the
log staging buffer. -/
def coldReset (s : State) : State := afterReset (flashOf s.mgmt) [] [] [] s

/-- A warm reset: reset values but for RS fields; memory waits for the wipes of start-up, the log staging buffer is kept.
Before a cold start-up has reached step 9 it begins again as a cold one (20 R462; 21 R482).  Tare runs end ABORTED, with
their log entries (05 R116, R120). -/
def warmReset (cause : ResetCause) (s : State) : State :=
  if s.mgmt.coldStart then coldReset s
  else
    let s := abortTares s
    let m := { flashOf s.mgmt with
      slots := slotsAfterReset s.mgmt, logStaged := s.mgmt.logStaged, coldStart := false, cause := cause
      wipeRegions := (if s.mgmt.step < 8 then s.mgmt.wipeRegions else []) ++ configuredRegions s }
    keepSticky s (afterReset m s.mem s.eccBad s.eccSoft s)

/-! ### The reset rows -/

/-- POR_FALL: `POR_N` falls (21 R478). -/
def execPorFall (s : State) : Host.Outcome State Fault Refusal :=
  .next ((coldReset s).setPower fun w => { w with porHigh := false })

/-- BROWN_OUT: `VDD_AON` or `VDD_IO18` collapses and the device acts as if `POR_N` had fallen (21 R479). -/
def execBrownOut (s : State) : Host.Outcome State Fault Refusal :=
  .next ((coldReset s).setPower fun w => { w with porHigh := false })

/-- WARM_RESET: by `WRST_N`, or by a DEV_RESET that was answered; when both coincide, one reset follows with cause 1.
While `POR_N` is low the reset stays cold (21 R481, R482). -/
def execWarmReset (pin : Bool) (s : State) : Host.Outcome State Fault Refusal :=
  if pin then
    let s := if s.power.porHigh then warmReset .warmPin s else s
    .next (s.setPower fun w => { w with wrstHigh := false })
  else if s.mbx.resetAsked then .next (warmReset .devReset s)
  else .next s

end Sys2Proof.Machine
end

