-- ==== Sys2Proof/Machine/HostReset.lean ====
section
/-! DEFINITION. PERST_N, D3hot, the PCI Express link and the loss of a reference clock (16 R388 to R390; 21 R480). -/

namespace Sys2Proof.Machine

/-- A host DMA channel at a `PERST_N` assertion: a chain in progress is abandoned with ABORTED, the state is DISABLED
(16 Table 16.11). -/
def chanAbort (written : Option Nat) (c : DmaChan) : DmaChan :=
  let c := if c.run = .running then
      { c with run := .stopped, stop := .aborted, errors := c.errors + 1, bytesDone := written.getD 0 }
    else c
  { c with state := .disabled, enable := false, enablePending := false, fetchAt := none, ready := none
           stopReadback := c.stopReadback || c.run == .stopped }

/-- Bytes that the descriptor of a channel has written, when it is in progress. -/
def writtenOf (k : DmaSel) (s : State) : Option Nat :=
  match busyChan s k.isH2d with
  | some (j, t) => if j = k then some t.written else none
  | none => none

/-- Every host DMA channel is abandoned. -/
def hostDmaAbort (s : State) : State :=
  let s := forEach hostChans (fun k t => t.setDma k (chanAbort (writtenOf k t))) s
  let drop := fun (h2d : Bool) (t : State) => match busyChan t h2d with
    | some (k, _) => if k.isHost then t.setEngine h2d fun e => { e with xfer := none } else t
    | none => t
  drop true (drop false s)

/-- The PCIe core, configuration space, BARs and the MSI-X table return to their PCI Express defaults; the link is down
(16 Table 16.11). -/
def pcieCoreReset (s : State) : State :=
  { s with host := { s.host with winBase := 0, linkGen := 0, linkWidth := 0, msixEnable := false, functionMask := false
                                 timeoutValue := 5, timeoutDisable := false
                                 vector4Due := false, msix := Vector.replicate 64 {} } }

/-- The PCIe sessions. -/
def pcieSessions : List (Fin 14) := [1, 2, 3, 4]

/-- A session number after sessions 1 to 4 passed what they hold to session 0. -/
def toFirmware (n : Nat) : Nat := if 1 ≤ n ∧ n ≤ 4 then 0 else n

/-- Sessions 1 to 4 close; their claims and the configuration they made pass to session 0, and this is no close or release
under R277 or R340 (16 Table 16.11; 20 Table 20.14). -/
def closePcieSessions (s : State) : State :=
  let s := forEach pcieSessions (fun k t => dropUpdate k.val t) s
  let s := forEach pcieSessions (fun k t => t.setSess k fun c => { background := c.background }) s
  let s := forEach (List.finRange 4) (fun k t => t.setMailbox k fun m => { m with ready := false }) s
  let s := forEach (List.finRange 16) (fun r t => t.setRing r fun g => { g with owner := g.owner.map toFirmware }) s
  { s with mbx := { s.mbx with
      claims := s.mbx.claims.map fun c => (c.1, toFirmware c.2)
      writers := s.mbx.writers.map fun w => { w with session := toFirmware w.session }
      queue := s.mbx.queue.filter fun q => q.2.net || !(decide (1 ≤ q.2.session ∧ q.2.session ≤ 4))
      perstClose := false } }

/-- A `PERST_N` assertion with HOST_INDEPENDENT = 1: the effects of Table 16.11 and no others; in a pause the closes are
applied at reopening (20 Table 20.14). -/
def hostIndependentReset (s : State) : State :=
  let s := hostRingsOff (hostDmaAbort (pcieCoreReset s))
  if s.mgmt.mgtDown then { s with mbx := { s.mbx with perstClose := true } } else settleQueue (closePcieSessions s)

/-- `PERST_N` is asserted (16 R388; 20 R465; 21 R482).  HOST_INDEPENDENT counts as it stood before this tick. -/
def perstAssert (s : State) : State :=
  let hi := s.mgmt.hostIndependentWas
  let s := { s with host := { s.host with perst := true, perstIndependent := hi } }
  if s.mgmt.step < 9 then pcieCoreReset s
  else if !hi then warmReset .perst s
  else if s.power.state = .deepSleep then { s with host := { s.host with perstPending := true } }
  else hostIndependentReset s

/-- PERST_ASSERT: `PERST_N`, a hot reset or a Function Level Reset begins. -/
def execPerstAssert (s : State) : Host.Outcome State Fault Refusal :=
  .next (if s.host.perst then s else perstAssert s)

/-- PERST_DEASSERT: it ends; `WAKE_N` is released (16 R389, R390).  The link trains afterwards, as PCIE_LINK_CHANGE shows. -/
def execPerstDeassert (s : State) : Host.Outcome State Fault Refusal :=
  let s := { s with host := { s.host with perst := false, perstIndependent := false } }
  .next (if s.host.wakeN then ({ s with host := { s.host with wakeN := false } }).setBall .wakeN true else s)

/-- D3HOT_ENTRY: as an assertion with respect to DMA and HOST rings only (16 R388). -/
def execD3hotEntry (s : State) : Host.Outcome State Fault Refusal := .next (hostRingsOff (hostDmaAbort s))

/-- Vector 4 fires at a reopening, once MSI-X is enabled (16 R389). -/
def vector4AtReopen (s : State) : State :=
  if s.host.msixEnable then s.fireVector 4 else { s with host := { s.host with vector4Due := true } }

/-- PCIe sessions open and their mailboxes accept requests. -/
def openPcieSessions (s : State) : State :=
  forEach (List.finRange 4) (fun k t =>
    let n : Fin 14 := ⟨k.val + 1, by omega⟩
    if (t.mbx.sess[n]).isOpen then t.setMailbox k fun m => { m with ready := (t.mbx.sess[n]).outstanding.isNone }
    else (t.setSess n fun c => { isOpen := true, lastAt := t.now, background := c.background }).setMailbox k
      fun m => { m with ready := true }) s

/-- MAILBOX_REOPEN: BAR0 is restored after `PERST_N`; firmware reopens mailboxes 1 to 4 (16 R389). -/
def execMailboxReopen (s : State) : Host.Outcome State Fault Refusal :=
  if s.host.perst || !mailboxesServe s || decide (s.mgmt.step < 9)
      || pcieSessions.all (fun k => (s.mbx.sess[k]).isOpen) then .next s
  else .next (vector4AtReopen (openPcieSessions s))

/-- PCIE_LINK_CHANGE: the link trains or goes down; 0 stands for a link that is down (16 Table 16.2; 14 R344). -/
def execPcieLinkChange (gen : Fin 5) (width : Fin 9) (s : State) : Host.Outcome State Fault Refusal :=
  if gen.val ≠ 0 ∧ !([1, 2, 4, 8].contains width.val) then .next s
  else .next { s with host := { s.host with linkGen := gen.val, linkWidth := if gen.val = 0 then 0 else width.val } }

/-- REFERENCE_LOST: reference 0 to 8 of Table 20.4 is declared lost; the loss of `REFCLK_PCIE` is handled as a `PERST_N`
assertion (21 R480; 19 Table 19.1). -/
def execReferenceLost (k : Fin 9) (s : State) : Host.Outcome State Fault Refusal :=
  let here := s.power.clockOk[(⟨k.val, by omega⟩ : Fin 26)]
  let s := clockLost ⟨k.val, by omega⟩ s
  .next (if here && k.val == 1 && !s.host.perst then perstAssert s else s)

end Sys2Proof.Machine
end

