-- ==== Sys2Proof/Machine/Startup.lean ====
section
/-! DEFINITION. Start-up (20 R438 to R441), settings read (20 R450, R452), wipes (20 R462) and the log's way to flash
(20 R446). -/

namespace Sys2Proof.Machine

/-! ### Settings read (20 R450, R452) -/

/-- SettingsResult codes (20 Table 20.6). -/
def SettingsResult.code : SettingsResult → Nat
  | .loaded => 0 | .migrated => 1 | .empty => 2 | .unreadable => 3

/-- The committed store is read and its schema checked against the running image (20 R452). -/
def settingsCheck (s : State) : State :=
  let i := runningImage s.mgmt
  let st := (committedStore s.mgmt).map (·.2)
  let r : SettingsResult := match st with
    | none => .empty
    | some st => if st.schema = i.schema then .loaded
      else if i.minSchema ≤ st.schema ∧ st.schema ≤ i.schema then .migrated else .unreadable
  let s := s.setMgmt fun m => { m with settingsResult := r, storeSchema := (st.map (·.schema)).getD 0 }
  settingsLog r.code [] s

/-- The records that a settings result lets firmware apply. -/
def appliedRecords (m : MgmtBlock) : List SettingsRecord :=
  match m.settingsResult with
  | .loaded | .migrated => (((committedStore m).map (·.2)).map (·.records)).getD []
  | _ => []

/-- A device record takes effect on the management processor (20 R450). -/
def deviceRecord (r : SettingsRecord) (m : MgmtBlock) : MgmtBlock :=
  match r with
  | .device hi ecc scrub idle => { m with hostIndependent := hi, inlineEcc := ecc, scrubH := scrub, idleSMax := idle }
  | .allow l => { m with allow := l }
  | .arm mask test lock wait => { m with armRecord := some (mask, test, lock, wait) }
  | .reserve _ | .command _ _ => m

/-- The COMMAND records, in order. -/
def commandRecords (l : List SettingsRecord) : List (Nat × List Byte) :=
  l.filterMap fun r => match r with
    | .command o p => some (o, p)
    | _ => none

/-- Session 0 queues its settings-store commands (17 R402); one whose opcode the chapter does not know is refused. -/
def queueRecords (l : List (Nat × List Byte)) (s : State) : State :=
  l.foldl (fun t x =>
    if knownOpcode x.1 then
      let n := match t.mbx.queue.getLast? with
        | some (_, q) => if q.session = 0 then q.sequence + 1 else 0
        | none => ((t.mbx.sess[(0 : Fin 14)]).last.map fun y => y.1.sequence + 1).getD 0
      let q : Req := { opcode := x.1, session := 0, sequence := n, payload := x.2 }
      { t with mbx := { t.mbx with queue := t.mbx.queue ++ [(t.now, q)] } }
    else recordRefused x.1 .unsupported t) s

/-- Tables of a table store return to the correction tables, with BANK_LOADED (20 R450). -/
def restoreTables (l : List TableImage) (s : State) : State :=
  l.foldl (fun t x =>
    let t := { t with mem := x.cells.foldl (fun m c => memWrite m c.1 c.2) t.mem }
    match idx? 12 x.pipe with
    | some p => t.setPipe p fun y => { y with loadedCorr := upd y.loadedCorr (idxMod 1 x.bank) fun _ => true }
    | none => t) s

/-! ### Steps 1 to 5 (20 Table 20.1) -/

/-- Step 1: fuses are sensed; a programmed life-cycle transition takes effect at a cold reset (20 R460). -/
def fuseSense (m : MgmtBlock) : MgmtBlock :=
  if m.coldStart then
    { m with lifeCycle := m.lifeCycleNext.getD m.lifeCycle, policyFuse := m.policyNext.getD m.policyFuse
             rootKeyHash := m.rootKeyNext.getD m.rootKeyHash, eraseDue := m.eraseDue || m.lifeCycleNext == some .decommissioned
             lifeCycleNext := none, policyNext := none, rootKeyNext := none }
  else m

/-- The addresses of the on-die SRAM (01 Table 1.7). -/
def sramLo : Nat := 0x1000000000
/-- Their end. -/
def sramHi : Nat := 0x100D200000

/-- A range of internal memory is written with zero and valid codes (20 R462). -/
def wipe (lo hi : Nat) (s : State) : State :=
  let keep := fun (w : Nat) => decide (w * 8 + 8 ≤ lo ∨ hi ≤ w * 8)
  { s with mem := memWipe s.mem lo hi, eccBad := s.eccBad.filter keep, eccSoft := s.eccSoft.filter keep }

/-- HALTED: no slot passes step 3; with RECOVERY the boot ROM serves session 13 and mailbox 1 (20 R439). -/
def haltBoot (s : State) : State :=
  let s := s.setMgmt fun m => { m with dev := .halted, step := 3, mgtDown := false, pause := none }
  if (policyWord s).testBit 5 then
    let s := (s.setSess 1 fun c => { c with isOpen := true }).setSess 13 fun c => { c with isOpen := true }
    rdybsyNow (({ s with mbx := { s.mbx with isOpen := true } }).setMailbox 0 fun m => { m with ready := true })
  else s

/-- Reset cause codes (20 Table 20.6). -/
def ResetCause.code : ResetCause → Nat
  | .cold => 0 | .warmPin => 1 | .devReset => 2 | .perst => 3 | .watchdog => 4 | .mgt => 5

/-- LifeCycle codes in the order of Table 20.8. -/
def lifeLog (old : LifeCycle) (s : State) : State :=
  if old = s.mgmt.lifeCycle then s else s.log 0xA 0xFF [old.code, s.mgmt.lifeCycle.code]

/-- The first boot in DECOMMISSIONED erases both settings stores, both table stores and the library (20 R460). -/
def decommissionErase (s : State) : State :=
  if s.mgmt.eraseDue then
    { s with mgmt := { s.mgmt with eraseDue := false, stores := Vector.replicate 2 none
                                   tableStores := Vector.replicate 2 [], reserveValue := 0 }
             eng := { s.eng with library := Vector.replicate 16 none } }
  else s

/-- A log entry about an image in the running or a trial slot (20 Table 20.6, type UPDATE, KIND FIRMWARE). -/
def imageLog (step version : Nat) (s : State) : State :=
  s.log 3 0xFF ([step] ++ (bytesOf 4 version).map BitVec.toNat ++ [0])

/-- IMAGE_VERSION of a slot, 0 where it holds no image. -/
def slotVersion (m : MgmtBlock) (k : Nat) : Nat := (((m.slots[k % 2]?).getD none).map (·.version)).getD 0

/-- A boot with ATTEMPTS at 2 ends the trial: the header names no trial slot and FALLBACK is logged (20 R458). -/
def attemptsEnd (was : BootHeader) (s : State) : State :=
  if was.trialSlot.isSome ∧ 2 ≤ was.attempts then
    imageLog 6 (slotVersion s.mgmt (was.trialSlot.getD 0)) (s.setMgmt (writeHeader fun h => { h with trialSlot := none }))
  else s

/-- A clock that is absent when the collector is armed reports at once: a level condition repeats (19 R428). -/
def clocksAtArming (s : State) : State :=
  forEach (List.finRange 26) (fun k t => if t.power.clockOk[k] then t else match clockReport k with
    | some r => t.report r
    | none => t) s

/-- Step 4: Osder starts, `FAULT_N` is released, the collector is armed, BOOT is logged, and the sequence is taken from
RESERVE (20 Table 20.1, R439; 13 R310). -/
def osderStart (old : LifeCycle) (was : BootHeader) (s : State) : State :=
  let i := runningImage s.mgmt
  let s := (s.setMgmt fun m => { m with dev := .init, step := 4, fwVersion := i.version }).setBall .faultN true
  let h := (bootHeader s.mgmt).2
  let s := s.log 1 0xFF ([s.mgmt.imageSlot, if s.mgmt.trial then 1 else 0, h.attempts, s.mgmt.cause.code]
    ++ (bytesOf 4 i.version).map BitVec.toNat)
  let s := attemptsEnd was (decommissionErase (lifeLog old s))
  let r := s.mgmt.reserveValue % 2 ^ 52
  let s := { s with gust := { s.gust with sequence := r }, mgmt := { s.mgmt with reserveValue := (r + 2 ^ 36) % 2 ^ 52 } }
  clocksAtArming s

/-- Step 5: the settings are read and checked; device records, the tables and the queue of session 0 are ready for step 8
(20 R450, R452). -/
def settingsRead (s : State) : State :=
  let s := settingsCheck s
  let l := appliedRecords s.mgmt
  let s := s.setMgmt fun m => l.foldl (fun x r => deviceRecord r x) m
  let s := if l.isEmpty ∨ !s.mgmt.bigFlash then s
    else restoreTables (s.mgmt.tableStores[idxMod 1 (((committedStore s.mgmt).map (·.1)).getD 0)]) s
  queueRecords (commandRecords l) s

/-- Step 6: the channels train (15 R350); inline ECC and the scrub interval take effect (15 R362, R365). -/
def trainingStart (s : State) : State :=
  let s := dramSet .training .training (s.setMgmt fun m => { m with step := 6 })
  { s with dram := { s.dram with inlineEcc := s.mgmt.inlineEcc, scrubH := s.mgmt.scrubH } }

/-- STARTUP_BEGIN: `POR_N` and `WRST_N` are high, `REFCLK_SYS` is present and the monitors are within their windows: steps
1 to 5 run and training begins (20 R438; 21 R477). -/
def execStartupBegin (s : State) : Host.Outcome State Fault Refusal :=
  if s.mgmt.step ≠ 0 ∨ s.mgmt.dev ≠ .rom ∨ !s.power.clockOk[0] then .next s
  else
    let old := s.mgmt.lifeCycle
    let s := (s.setPower fun w => { w with porHigh := true, wrstHigh := true }).setMgmt fuseSense
    let s := wipe sramLo sramHi s
    let was := (bootHeader s.mgmt).2
    match bootSelect s.mgmt with
    | (m, none) => .next (haltBoot { s with mgmt := m })
    | (m, some _) => .next (trainingStart (settingsRead (osderStart old was { s with mgmt := m })))

/-! ### Steps 7 to 9 -/

/-- DRAM_WIPE_DONE: all of DRAM after a cold reset, the regions of the list after a warm one (20 R462). -/
def execDramWipeDone (s : State) : Host.Outcome State Fault Refusal :=
  if s.dram.state ≠ .wiping then .next s
  else
    let s := if s.mgmt.coldStart then wipe 0 sramLo s
      else forEach s.mgmt.wipeRegions (fun r t => wipe r.1 (r.1 + r.2) t) s
    .next (dramSet .ready .active (s.setMgmt fun m => { m with step := 8, wipeRegions := [] }))

/-- The trial window opens (20 R457). -/
def trialOpens (s : State) : State :=
  if s.mgmt.trial then
    s.setMgmt fun m => { m with trialAt := s.now, trialS := (bootHeader m).2.trialS, acceptDefaults := false, trialStore := false }
  else s

/-- The mailboxes open: those of PCIe unless `PERST_N` is asserted, and the sideband (17 Table 17.2; 16 R374). -/
def openMailboxes (s : State) : State :=
  let s := { s with mbx := { s.mbx with isOpen := true } }
  let s := s.setSess 13 fun c => { c with isOpen := true }
  rdybsyNow (if s.host.perst then s else openPcieSessions s)

/-- No command of session 0 waits. -/
def firmwareIdle (s : State) : Bool := s.mbx.queue.all fun q => q.2.net || q.2.session != 0

/-- MAILBOXES_OPEN: step 9 (20 R438). -/
def execMailboxesOpen (s : State) : Host.Outcome State Fault Refusal :=
  if s.mgmt.step ≠ 8 ∨ !s.firmwareRuns ∨ !firmwareIdle s then .next s
  else
    let s := s.setMgmt fun m => { m with step := 9, dev := .operational, coldStart := false, openedAt := s.now }
    .next ((trialOpens (openMailboxes s)).fireVector 4)

/-- ARM_WAIT_EXPIRY: ARM_WAIT_S after step 9 the links that did not meet their conditions stay disarmed, and a log entry names each (20 R441). -/
def execArmWaitExpiry (s : State) : Host.Outcome State Fault Refusal :=
  match s.mgmt.armRecord with
  | none => .next s
  | some (mask, _, _, wait) =>
    if s.mgmt.step < 9 ∨ !s.firmwareRuns ∨ s.now < s.mgmt.openedAt + wait * 1000000000 then .next s
    else
      let s := forEach (maskList 4 mask) (fun l t => t.log 8 0 [l, 1]) s
      .next (s.setMgmt fun m => { m with armRecord := none })

/-! ### Log (20 R446) -/

/-- The bytes of a log entry (20 Table 20.5). -/
def logBytes32 (e : LogEntry) : List Byte :=
  bytesOf 4 e.index ++ bytesOf 4 e.time.ns ++ bytesOf 6 e.time.seconds
    ++ bytesOf 1 (flagAt e.timeValid 0 + flagAt e.cont 1) ++ bytesOf 1 e.session ++ bytesOf 2 e.typ ++ bytesOf 2 0
    ++ fit 12 (e.data.map (BitVec.ofNat 8))

/-- The ring with further entries: beyond 65,536 the oldest page of 128 entries goes. -/
def logRingAdd (ring new : List LogEntry) : List LogEntry :=
  let l := ring ++ new
  if 65536 < l.length then l.drop (ceilDiv (l.length - 65536) 128 * 128) else l

/-- LOG_FLUSH: the staged entries are written to flash (20 R446) and leave as LOG items of the output rings (14 Table
14.8). -/
def execLogFlush (s : State) : Host.Outcome State Fault Refusal :=
  if !s.firmwareRuns ∨ s.mgmt.step < 4 ∨ s.power.state = .deepSleep then .next s
  else
    let new := s.mgmt.logStaged
    let s := s.setMgmt fun m => { m with logRing := logRingAdd m.logRing new, logStaged := [] }
    .next (forEach new (fun e t => t.item { kind := 5, source := none, payload := logBytes32 e }) s)

end Sys2Proof.Machine
end

