-- ==== Sys2Proof/Machine/Trial.lean ====
section
/-! DEFINITION. Restarts of the management core, the trial of a new image, the watchdog, the library (19 R433; 20 R448,
R454 to R458). -/

namespace Sys2Proof.Machine

/-! ### Settings stores as written (20 R449, R450) -/

/-- The number of the store that firmware writes: not the committed one. -/
def writtenStore (m : MgmtBlock) : Nat := match committedStore m with
  | some (k, _) => 1 - k
  | none => 0

/-- The GENERATION of a store written now. -/
def nextGeneration (m : MgmtBlock) : Nat := (((committedStore m).map fun x => x.2.generation).getD 0) + 1

/-- Firmware writes a store with its table store. -/
def writeStore (records : List SettingsRecord) (tables : List TableImage) (trial : Bool) (m : MgmtBlock) : MgmtBlock :=
  let k := idxMod 1 (writtenStore m)
  let i := runningImage m
  { m with stores := upd m.stores k fun _ => some { generation := nextGeneration m, schema := i.schema, trial := trial,
                                                    imageVersion := i.version, records := records }
           tableStores := if m.bigFlash then upd m.tableStores k fun _ => tables else m.tableStores
           trialStore := m.trialStore || trial }

/-- The TRIAL store becomes COMMITTED (20 R457). -/
def commitStore (m : MgmtBlock) : MgmtBlock :=
  { m with stores := upd m.stores (idxMod 1 (writtenStore m)) fun x => x.map fun st => { st with trial := false }
           trialStore := false }

/-- The settings of the committed store as the running image holds them: migrated, or none. -/
def migratedStore (m : MgmtBlock) : List SettingsRecord × List TableImage :=
  if m.acceptDefaults then ([], [])
  else match committedStore m with
    | some (k, st) => (st.records, m.tableStores[idxMod 1 k])
    | none => ([], [])

/-! ### Restarts -/

/-- The mailboxes reopen after a pause; the session closes of a `PERST_N` are applied (20 R456, Table 20.14). -/
def reopen (s : State) : State :=
  let s := s.setMgmt fun m => { m with mgtDown := false, pause := none
                                       dev := if m.step < 9 then .init else if m.testBefore then .test else .operational }
  let s := if s.mbx.perstClose then closePcieSessions s else s
  if s.mgmt.step < 9 then s else openMailboxes s

/-- The core boots a slot through steps 3 to 5 without applying settings (20 R456), or HALTED follows. -/
def bootAgain (s : State) : State :=
  match bootSelect s.mgmt with
  | (m, none) => haltBoot { s with mgmt := m }
  | (m, some _) =>
    let s := { s with mgmt := m }
    let s := s.setMgmt fun m => { m with fwVersion := (runningImage m).version }
    trialOpens (reopen (settingsCheck s))

/-- ACTIVATION_RESTART_DONE: the new image adopts the registers, the mailboxes reopen and the trial starts (20 R456, R457). -/
def execActivationRestartDone (s : State) : Host.Outcome State Fault Refusal :=
  if s.mgmt.mgtDown && s.mgmt.pause == some .activation then .next (stateIrq s (settleQueue (bootAgain s))) else .next s

/-- The core runs again in the image it was running, with a BOOT entry that names the cause (19 R433; 20 R448). -/
def restartDone (s : State) : State :=
  let s := s.log 1 0xFF ([s.mgmt.imageSlot, if s.mgmt.trial then 1 else 0, (bootHeader s.mgmt).2.attempts, s.mgmt.cause.code]
    ++ (bytesOf 4 s.mgmt.fwVersion).map BitVec.toNat)
  reopen s

/-- MGT_RESTART_DONE: after an MGT report, a watchdog expiry or the fallback of a trial the mailboxes reopen. -/
def execMgtRestartDone (s : State) : Host.Outcome State Fault Refusal :=
  match s.mgmt.mgtDown, s.mgmt.pause with
  | true, some .restart => .next (stateIrq s (settleQueue (restartDone s)))
  | true, some .fallback => .next (stateIrq s (settleQueue (bootAgain s)))
  | _, _ => .next s

/-- The trial ends without confirmation: FALLBACK is logged, the header names no trial slot, and a second pause into the
previous image begins (20 R458). -/
def fallbackStart (s : State) : State :=
  let s := imageLog 6 s.mgmt.fwVersion s
  beginPause .fallback (s.setMgmt (writeHeader fun h => { h with trialSlot := none }))

/-- TRIAL_WINDOW_END: TRIAL_S have passed since the mailboxes reopened (20 R457, R458). -/
def execTrialWindowEnd (s : State) : Host.Outcome State Fault Refusal :=
  .next (if s.mgmt.trial && s.firmwareRuns && decide (s.mgmt.trialAt + s.mgmt.trialS * 1000000000 ≤ s.now) then fallbackStart s
    else s)

/-- Has the trial what it needs to confirm once its self-checks have passed (20 R457)? -/
def trialPasses (s : State) : Bool :=
  s.mgmt.trial && s.firmwareRuns && s.mbx.isOpen && (s.mgmt.settingsResult != .unreadable || s.mgmt.acceptDefaults)

/-- The steps of a confirmation (20 R457). -/
def confirmTrial (s : State) : State :=
  let s := s.setMgmt fun m =>
    if m.trialStore then m else writeStore (migratedStore m).1 (migratedStore m).2 true m
  let s := s.setMgmt fun m => writeHeader (fun h => { h with activeSlot := m.imageSlot, trialSlot := none }) (commitStore m)
  let i := runningImage s.mgmt
  let s := if s.mgmt.fuseSupply then s.setMgmt fun m => { m with rollbackFuse := max m.rollbackFuse i.rollback }
    else imageLog 7 s.mgmt.fwVersion s
  imageLog 5 s.mgmt.fwVersion (s.setMgmt fun m => { m with trial := false })

/-- TRIAL_CONFIRM: the self-checks have passed and the image confirms (20 R457). -/
def execTrialConfirm (s : State) : Host.Outcome State Fault Refusal :=
  .next (if trialPasses s then stateIrq s (confirmTrial s) else s)

/-- Kind of free value: the program counter in a WATCHDOG entry. -/
def freePc : Nat := 91

/-- WATCHDOG_EXPIRY: 1 s without service restarts the core, with a WATCHDOG entry; in a trial the fallback starts
(20 R448, R458). -/
def execWatchdogExpiry (s : State) : Host.Outcome State Fault Refusal :=
  if s.mgmt.mgtDown ∨ s.mgmt.step < 4 ∨ s.power.state = .deepSleep then .next s
  else if s.mgmt.trial then .next (fallbackStart s)
  else .next (mgtRestart .watchdog ((s.log 9 0xFF ((bytesOf 4 (s.freeVal freePc)).map BitVec.toNat)).drawn))

/-! ### Updates without a command -/

/-- UPDATE_IDLE_TIMEOUT: the holder issued no update command for 60 s (20 R454). -/
def execUpdateIdleTimeout (s : State) : Host.Outcome State Fault Refusal :=
  match s.mgmt.update.holder with
  | some h =>
    if !s.firmwareRuns ∨ s.now < s.mgmt.update.lastAt + 60000000000 then .next s else .next (updateEnds (updateLog 2 h s))
  | none => .next s

/-- The bytes of a library image: those after its 512-byte header (20 R453). -/
def libraryBytes (u : Update) : List Byte := memReadN u.data 512 (u.size - 512)

/-- LIBRARY_ACTIVATION_DONE: the image is the named library slot, and STATE is IDLE (20 R456). -/
def execLibraryActivationDone (s : State) : Host.Outcome State Fault Refusal :=
  let u := s.mgmt.update
  if u.activating && s.firmwareRuns then
    let s := { s with eng := { s.eng with library := upd s.eng.library (idxMod 15 u.librarySlot) fun _ => some (libraryBytes u) } }
    .next (s.setMgmt fun m => { m with update := { lastStatus := u.lastStatus } })
  else .next s

end Sys2Proof.Machine
end

