-- ==== Sys2Proof/Machine/Power.lean ====
section
/-! DEFINITION. Power states: their entries and exits, and WAKE (21 R483, R484; 20 R465). -/

namespace Sys2Proof.Machine

/-- The depth of a power state, as POWER_STATE codes it. -/
def PowerState.depth : PowerState → Nat := PowerState.code

/-- Every trigger generator starts afresh at a return to HOLD or ACTIVE (10 R252). -/
def trigsInit (s : State) : State := { s with pos := { s.pos with trig := s.pos.trig.map fun g => if g.enable then trigInit s g else g } }

/-- The lanes of a port power down; a drain that waits has ended (02 R49). -/
def portSleep (p : Fin 12) (s : State) : State :=
  let c := s.cam.port[p]
  if c.unit = .draining then portDrainEnd p s else if c.unit = .disabled then s else portDown p s

/-- HOLD to STANDBY: a Tare run accepted since ends ABORTED (05 R116), lanes and Ethernet are powered down, DRAM enters self-refresh, PTP time bases hold over and position
channels are still (02 R49; 10 R250; 12 R292; 15 R359). -/
def enterStandby (s : State) : State :=
  let s := (abortTares s).setPower fun w => { w with state := .standby }
  allStill (ethStop (dramSleep (forEach (List.finRange 12) portSleep s)))

/-- STANDBY to DEEP SLEEP: time bases enter OFF, PPS outputs stay low, the mailboxes are not served (10 R250; 12 R292,
R303, R304; 20 Table 20.13). -/
def enterDeep (s : State) : State :=
  let s := forEach (List.finRange 4) tbOff (abortTares s)
  let s := s.setPower fun w => { w with state := .deepSleep }
  let s := ppsSettle (posTimeStops { s with time := { s.time with aonNs := 0 } })
  rdybsyNow (forEach (List.finRange 4) (fun k t => t.setMailbox k fun m => { m with ready := false }) s)

/-- DEEP SLEEP to STANDBY: every enabled time base restarts from zero in ACQUIRING; a `PERST_N` assertion that waits is
handled; the mailboxes are served again (12 R292; 20 R465). -/
def leaveDeep (s : State) : State :=
  let s := s.setPower fun w => { w with state := .standby }
  let s := forEach (List.finRange 4) (fun b t => if t.time.tb[b].enable then tbLeaveOff b .acquiring t else t) s
  let s := allStill s
  let s := if s.host.perstPending then hostIndependentReset { s with host := { s.host with perstPending := false } } else s
  if s.mbx.isOpen then rdybsyNow (if s.host.perst then s else openPcieSessions s) else s

/-- STANDBY to HOLD: DRAM leaves self-refresh, enabled ports start bring-up at step 1, trigger generators run again
(02 R49; 10 R250, R252; 15 R361). -/
def leaveStandby (s : State) : State :=
  let s := (abortTares s).setPower fun w => { w with state := .hold }
  let s := allStill (dramWakeUp s)
  trigsInit (forEach (List.finRange 12) (fun p t => if t.cam.port[p].unit = .disabled then t else portStart p t) s)

/-- HOLD to ACTIVE: pipes, slot grid and engines run; the binning chains restart (06 Table 6.3; 10 R252; 11 R268). -/
def leaveHold (s : State) : State :=
  let s := trigsInit (s.setPower fun w => { w with state := .active })
  rejudge (forEach (List.finRange 12) chainRestart s)

/-- The device moves one state towards the target. -/
def powerStep (target : PowerState) (s : State) : State :=
  match s.power.state with
  | .active => if target = .active then s else leaveActive s
  | .hold => if target = .active then leaveHold s else if target = .hold then s else enterStandby s
  | .standby => if target = .deepSleep then enterDeep s else if target = .standby then s else leaveStandby s
  | .deepSleep => if target = .deepSleep then s else leaveDeep s

/-- The target reached: the transition and the wake sequence end (18 Table 18.2 WAKE). -/
def powerReached (target : PowerState) (s : State) : State :=
  if s.power.state = target then consumerEnd 68 (s.setPower fun w => { w with transit := none }) else s

/-- POWER_TRANSITION_DONE: the entry or return under way reaches the next state on its way; DEEP SLEEP lies beyond
STANDBY (21 R483).  A Gale that is not acknowledged keeps the device from ACTIVE (19 R431). -/
def execPowerTransitionDone (s : State) : Host.Outcome State Fault Refusal :=
  match s.power.transit with
  | none => .next s
  | some t =>
    let target := if t.target = .active ∧ s.flt.galeHeld then .hold else t.target
    .next (stateIrq s (powerReached target (powerStep target (s.setPower fun w => { w with transit := some { target := target } }))))

/-- The device sets out for a power state; leaving ACTIVE takes effect at once (19 R430; 21 R483). RETURN_STATE is that from which
the entry set out, whatever target it is given on its way (21 R484). -/
def powerTo (target : PowerState) (s : State) : State :=
  let underWay := match s.power.transit with
    | some t => decide (2 ≤ t.target.depth)
    | none => false
  let s := if 2 ≤ target.depth ∧ s.power.state.depth < 2 ∧ !underWay then
      s.setPower fun w => { w with returnHold := w.state == .hold } else s
  let s := if target = .active then s else leaveActive s
  s.setPower fun w => { w with transit := if w.state = target then none else some { target := target } }

/-- Is the device in STANDBY or DEEP SLEEP, or entering one? -/
def sleeping (s : State) : Bool := decide (2 ≤ s.power.state.depth) || decide (2 ≤ (powerShown s).depth)

/-- RETURN_STATE, or HOLD while a Gale is not acknowledged (21 R484; 19 R431). -/
def returnTarget (s : State) : PowerState := if s.power.returnHold || s.flt.galeHeld then .hold else .active

/-- WAKE: an activation of the WAKE consumer returns the device to RETURN_STATE; outside STANDBY, DEEP SLEEP and an entry to
them it has no effect apart from its counts (18 R424; 21 R484). -/
def execWake (s : State) : Host.Outcome State Fault Refusal :=
  if s.evt.cons[(68 : Fin 96)].pending && !s.evt.cons[(68 : Fin 96)].busy then
    let old := s
    let s := s.setCons 68 fun c => { c with pending := false }
    if sleeping s then
      let target := returnTarget s
      .next (stateIrq old (powerReached target (powerTo target (s.setCons 68 fun c => { c with busy := true }))))
    else .next s
  else .next s

end Sys2Proof.Machine
end

