-- ==== Sys2Proof/Machine/Jtag.lean ====
section
/-! DEFINITION. The test access port (21 R488) and the programming of the life cycle (20 R460). -/

namespace Sys2Proof.Machine

/-- Kind of free value: the manufacturer code of IDCODE, which the spec does not state. -/
def freeManufacturer : Nat := 92

/-- An instruction of the test access port is current: balls are held by EXTEST and its AC forms and by CLAMP, and floated by
HIGHZ (21 R488; IEEE 1149.1). -/
def jtagTake (i : JtagIr) (holds floats : Bool) (s : State) : State :=
  s.setPower fun w => { w with jtagIr := i, jtagHolds := holds, jtagFloats := floats }

/-- Is EXTEST refused: DEV_STATE is OPERATIONAL and a valve link is armed (21 R488)? -/
def extestRefused (s : State) : Bool := s.mgmt.dev == .operational && s.ej.link.toList.any fun k => k.arm != 0 || k.armNext != 0

/-- BYPASS. -/
def execBypass (s : State) : Host.Outcome State Fault Refusal := .next (jtagTake .bypass false false s)

/-- The value that IDCODE reads: stepping, 0x1216, the manufacturer code, 1. -/
def idcodeWord (s : State) : Nat :=
  s.mgmt.stepping % 16 * 2 ^ 28 + 0x1216 * 2 ^ 12 + Config.freeNat freeManufacturer 0 % 2 ^ 11 * 2 + 1

/-- IDCODE: its register shifts out (21 R488). -/
def execIdcode (s : State) : Host.Outcome State Fault Refusal :=
  .next ((jtagTake .idcode false false s).setPower fun w => { w with jtagOut := idcodeWord s })

/-- SAMPLE/PRELOAD. -/
def execSamplePreload (s : State) : Host.Outcome State Fault Refusal := .next (jtagTake .samplePreload false false s)

/-- EXTEST; refused while DEV_STATE is OPERATIONAL with a link armed. -/
def execExtest (s : State) : Host.Outcome State Fault Refusal :=
  .next (if extestRefused s then s else jtagTake .extest true false s)

/-- EXTEST_PULSE (IEEE 1149.6). -/
def execExtestPulse (s : State) : Host.Outcome State Fault Refusal := .next (jtagTake .extestPulse true false s)

/-- EXTEST_TRAIN (IEEE 1149.6). -/
def execExtestTrain (s : State) : Host.Outcome State Fault Refusal := .next (jtagTake .extestTrain true false s)

/-- CLAMP. -/
def execClamp (s : State) : Host.Outcome State Fault Refusal := .next (jtagTake .clamp true false s)

/-- HIGHZ. -/
def execHighz (s : State) : Host.Outcome State Fault Refusal := .next (jtagTake .highz false true s)

/-- The life-cycle state that the fuses hold, transitions programmed but not yet in effect included. -/
def fusedLife (m : MgmtBlock) : LifeCycle := m.lifeCycleNext.getD m.lifeCycle

/-- One direction only: BLANK to MANUFACTURED to PROVISIONED, and from any state to DECOMMISSIONED (20 R460). -/
def lifeStepAllowed (a b : LifeCycle) : Bool :=
  match a, b with
  | .blank, .manufactured => true
  | .manufactured, .provisioned => true
  | .decommissioned, .decommissioned => false
  | _, .decommissioned => true
  | _, _ => false

/-- JTAG_LIFECYCLE_PROGRAM: a transition is programmed with `VDD_FUSE` at 1.8 V; it takes effect at the next cold reset;
PROVISIONED takes the root key hash and the policy word with it (20 R460). -/
def execJtagLifecycleProgram (target : LifeCycle) (keyHash : BitVec 384) (policy : BitVec 6) (s : State) :
    Host.Outcome State Fault Refusal :=
  let s := jtagTake .lifecycle false false s
  if s.mgmt.fuseSupply && lifeStepAllowed (fusedLife s.mgmt) target then
    .next (s.setMgmt fun m =>
      if target = .provisioned then
        { m with lifeCycleNext := some target, rootKeyNext := some keyHash.toNat, policyNext := some policy.toNat }
      else { m with lifeCycleNext := some target })
  else .next s

end Sys2Proof.Machine
end

