-- ==== Sys2Proof/Machine/Network.lean ====
section
/-! DEFINITION. Ethernet ports and PTP (12 R283 to R286, R296 to R300). -/

namespace Sys2Proof.Machine

/-! ### Frames (12 R284 to R286) -/

/-- The broadcast address. -/
def macBroadcast : Nat := 0xFFFFFFFFFFFF

/-- The PTP multicast addresses of Table 12.6, those of UDP/IPv4 as IPv4 maps them. -/
def ptpGroups : List Nat := [0x011B19000000, 0x0180C200000E, 0x01005E000181, 0x01005E00006B]

/-- Is a frame addressed to the port (12 R285)? -/
def addressed (p : EthPort) (dst : Nat) : Bool :=
  dst == p.mac || dst == macBroadcast || ptpGroups.contains dst
    || p.groups.any fun g => dst == 0x01005E000000 + g % 2 ^ 23

/-- An IPv4 datagram that is fragmented or carries options (12 R285). -/
def ipv4Refused (bs : List Byte) : Bool :=
  byteAt bs 0 % 16 != 5 || (byteAt bs 6 * 256 + byteAt bs 7) % 0x4000 != 0

/-- Is a frame discarded under R284 or R285: size, address, VLAN, PAUSE, IPv6, or a refused IPv4 datagram? -/
def frameRefused (p : EthPort) (f : EthFrame) : Bool :=
  decide (f.len < 64) || decide (9600 < f.len) || !addressed p f.dst || f.etherType == 0x8808 || f.etherType == 0x86DD
    || (match f.vlan with | some v => v != p.vlan | none => false) || (f.etherType == 0x0800 && ipv4Refused f.payload)

/-- The `n` big-endian bytes of a number, as protocols of the network carry it. -/
def beBytes (n v : Nat) : List Byte := (bytesOf n v).reverse

/-- The `n`-byte big-endian number at offset `i`. -/
def beAt (bs : List Byte) (i n : Nat) : Nat := leAt (slice bs i n).reverse 0 n

/-- A frame sent: header, the port's tag, payload (12 R285). -/
def frameBytes (p : EthPort) (dst etherType : Nat) (payload : List Byte) : List Byte :=
  beBytes 6 dst ++ beBytes 6 p.mac ++ (if p.vlan = 0 then [] else beBytes 2 0x8100 ++ beBytes 2 p.vlan)
    ++ beBytes 2 etherType ++ payload

/-- The answer to an ARP request for the port's address. -/
def arpReply (p : EthPort) (f : EthFrame) : Option (List Byte) :=
  let bs := f.payload
  if f.etherType = 0x0806 ∧ beAt bs 6 2 = 1 ∧ beAt bs 24 4 = p.ip then
    some (frameBytes p f.src 0x0806 (slice bs 0 6 ++ beBytes 2 2 ++ beBytes 6 p.mac ++ beBytes 4 p.ip ++ slice bs 8 10))
  else none

/-- The internet checksum over 16-bit words, which both headers of an echo reply carry. -/
def inetSum : List Byte → Nat
  | [] => 0
  | [a] => a.toNat * 256
  | a :: b :: t => a.toNat * 256 + b.toNat + inetSum t

/-- A sum folded to 16 bits and complemented. -/
def inetCheck (n : Nat) : Nat :=
  let n := n % 65536 + n / 65536
  65535 - (n % 65536 + n / 65536) % 65536

/-- The answer to an ICMP echo request for the port's address. -/
def echoReply (p : EthPort) (f : EthFrame) : Option (List Byte) :=
  let bs := f.payload
  if f.etherType = 0x0800 ∧ byteAt bs 9 = 1 ∧ beAt bs 16 4 = p.ip ∧ byteAt bs 20 = 8 then
    let icmp := bs.drop 20
    let body := beBytes 2 0 ++ beBytes 2 0 ++ icmp.drop 4
    let head := slice bs 0 8 ++ [64, 1] ++ beBytes 2 0 ++ beBytes 4 p.ip ++ slice bs 12 4
    let head := (head.take 10) ++ beBytes 2 (inetCheck (inetSum head)) ++ head.drop 12
    some (frameBytes p f.src 0x0800 (head ++ beBytes 2 0 ++ beBytes 2 (inetCheck (inetSum body)) ++ icmp.drop 4))
  else none

/-- A frame of bytes, complete but for its FCS, becomes due on a port (12 R286). -/
def sendBytes (n : Fin 4) (cls : Nat) (bs : List Byte) (s : State) : State :=
  s.queueFrame n { cls := cls, at_ := s.now, len := max 64 (bs.length + 4), out := .eth n.val cls bs }

/-- ETH_FRAME_RX: a frame on port `n`, filtered and counted; ARP and ICMP echo are answered as management traffic.  What other
frames carry is handed on by the rows of Ell, of network requests and of PTP (12 R284 to R286). -/
def execEthFrameRx (n : Fin 4) (f : EthFrame) (s : State) : Host.Outcome State Fault Refusal :=
  let p := s.net.port[n]
  if !p.up then .next s
  else if !f.fcsOk then .next (s.setEth n fun x => { x with fcsErr := x.fcsErr + 1 })
  else if frameRefused p f then .next (s.droppedFrame n)
  else
    let s := s.tookFrame n
    match arpReply p f, echoReply p f with
    | some bs, _ => .next (sendBytes n 3 bs s)
    | none, some bs => .next (sendBytes n 3 bs s)
    | none, none => .next s

/-- Can a port's link be up: a mode is set, the lanes are powered and `REFCLK_ETH` is present (12 R283)? -/
def linkPossible (s : State) (n : Fin 4) : Bool :=
  (s.net.port[n]).mode != .off && lanesPowered s && s.power.clockOk[(2 : Fin 26)]

/-- ETH_LINK_CHANGE: port `n` gains or loses PCS lock; a loss is an ETH report (12 R283, Table 12.2; 19 Table 19.1). -/
def execEthLinkChange (n : Fin 4) (up : Bool) (s : State) : Host.Outcome State Fault Refusal :=
  if up then .next (if linkPossible s n then s.setEth n fun p => { p with up := true } else s)
  else if (s.net.port[n]).up then
    .next ((s.setEth n EthPort.down).report { group := 19, cls := .drizzle, inst := n.val })
  else .next s

/-! ### PTP: identities and stamps (12 R296, R297, Table 12.6) -/

/-- clockIdentity of instance `i`. -/
def clockIdentity (s : State) (i : Fin 4) : Nat :=
  let m := (s.net.port[(0 : Fin 4)]).mac
  m / 2 ^ 24 * 2 ^ 40 + 0xFF * 2 ^ 32 + (0xF0 + i.val) * 2 ^ 24 + m % 2 ^ 24

/-- A receive stamp on time base `b` at the balls and beyond, in 2^-16 ns. -/
def rxStamp (s : State) (b : Fin 4) (p : EthPort) (e : PtpEvent) : Int :=
  (s.tbTime b).units + e.sub - (modeCorr p).2 - e.align - p.userRx

/-- A transmit stamp. -/
def txStamp (s : State) (b : Fin 4) (p : EthPort) (sub align : Nat) : Int :=
  (s.tbTime b).units + sub + (modeCorr p).1 + align + p.userTx

/-- Change PTP instance `i`. -/
def State.setInst (s : State) (i : Fin 4) (f : PtpInst → PtpInst) : State :=
  { s with net := { s.net with inst := upd s.net.inst i f } }

/-- The ports that an instance uses: a boundary clock all of its mask; an ordinary clock, which has one port, the lowest
(DESIGN CHOICE for a mask with several). -/
def PtpInst.usesPort (x : PtpInst) (n : Fin 4) : Bool :=
  x.ports.testBit n.val && (x.boundary || (List.range n.val).all fun k => !x.ports.testBit k)

/-! ### PTP: frames (12 R299, Table 12.6; the layout of messages and headers PRESUMED: IEEE 1588-2019, RFC 791, RFC 768) -/

/-- An event message, messageType 0 to 3. -/
def isEvent (t : Nat) : Bool := decide (t < 4)

/-- Peer delay messages, which a peer-to-peer pair ends at each port (IEEE 1588-2019). -/
def isPdelay (t : Nat) : Bool := t == 2 || t == 3 || t == 10

/-- A timestamp field: 48 bits of seconds and 32 of nanoseconds. -/
def stampBytes (ns : Nat) : List Byte := beBytes 6 (ns / 1000000000) ++ beBytes 4 (ns % 1000000000)

/-- The fields behind the header of a message. -/
def ptpBody (m : PtpMsg) : List Byte :=
  let req := beBytes 8 m.reqIdentity ++ beBytes 2 m.reqPort
  match m.typ with
  | 2 => stampBytes m.stamp ++ zeros 10
  | 3 | 9 | 10 => stampBytes m.stamp ++ req
  | 11 => stampBytes m.stamp ++ beBytes 2 (m.utcOffset % 65536).toNat ++ zeros 1 ++ beBytes 1 m.gmPriority1
      ++ beBytes 1 m.gmClass ++ beBytes 1 m.gmAccuracy ++ beBytes 2 m.gmVariance ++ beBytes 1 m.gmPriority2
      ++ beBytes 8 m.gmIdentity ++ beBytes 2 m.stepsRemoved ++ beBytes 1 0xA0
  | 0 | 1 | 8 => stampBytes m.stamp
  | _ => []

/-- controlField of a message type. -/
def ptpControl (t : Nat) : Nat :=
  match t with
  | 0 => 0 | 1 => 1 | 8 => 2 | 9 => 3 | 13 => 4 | _ => 5

/-- The bytes of a PTP message. -/
def ptpMessage (m : PtpMsg) : List Byte :=
  let body := ptpBody m ++ m.tail
  beBytes 1 (m.typ % 16) ++ beBytes 1 0x12 ++ beBytes 2 (34 + body.length) ++ beBytes 1 m.domain ++ zeros 1
    ++ beBytes 1 (flagAt m.twoStep 1) ++ beBytes 1 (flagAt m.utcValid 2) ++ beBytes 8 (m.correction % (2 ^ 64 : Nat)).toNat
    ++ zeros 4 ++ beBytes 8 m.srcIdentity ++ beBytes 2 m.srcPort ++ beBytes 2 m.seq ++ beBytes 1 (ptpControl m.typ)
    ++ beBytes 1 (m.logInterval % 256).toNat ++ body

/-- Destination MAC and IPv4 address of a PTP message (12 Table 12.6). -/
def ptpDest (m : PtpMsg) : Nat × Nat :=
  match m.udp, isPdelay m.typ with
  | false, false => (0x011B19000000, 0)
  | false, true => (0x0180C200000E, 0)
  | true, false => (0x01005E000181, 0xE0000181)
  | true, true => (0x01005E00006B, 0xE000006B)

/-- The IPv4 and UDP headers of a PTP message: ports 319 and 320, the UDP checksum zero (12 R299). -/
def ptpUdpHead (p : EthPort) (m : PtpMsg) (n : Nat) : List Byte :=
  let ip := beBytes 2 0x4500 ++ beBytes 2 (28 + n) ++ beBytes 4 0 ++ beBytes 2 0x4011
  let addr := beBytes 4 (m.fromIp.getD p.ip) ++ beBytes 4 (ptpDest m).2
  let port := beBytes 2 (if isEvent m.typ then 319 else 320)
  ip ++ beBytes 2 (inetCheck (inetSum (ip ++ addr))) ++ addr ++ port ++ port ++ beBytes 2 (8 + n) ++ beBytes 2 0

/-- The frame of a PTP message on a port, padded and with its FCS (12 R299). -/
def ptpFrame (p : EthPort) (m : PtpMsg) : List Byte :=
  let msg := ptpMessage m
  let body := if m.udp then beBytes 2 0x0800 ++ ptpUdpHead p m msg.length ++ msg else beBytes 2 0x88F7 ++ msg
  let tag := if p.vlan = 0 then [] else beBytes 2 0x8100 ++ beBytes 2 p.vlan
  let f := beBytes 6 (ptpDest m).1 ++ beBytes 6 (m.fromMac.getD p.mac) ++ tag ++ body
  let f := f ++ zeros (60 - f.length)
  f ++ bytesOf 4 (crc32Bytes f).toNat

/-! ### The transmit queue of a port (12 R286, R296, R299, R300) -/

/-- Does one queued frame go before another: by class, among PTP event messages due in one cycle the forwarded one first, and
else in the order of coming (12 R286, R300)? -/
def txBefore (a b : TxFrame) : Bool :=
  decide (a.cls < b.cls) || (a.cls == b.cls && a.at_ == b.at_ && a.forwarded && !b.forwarded)

/-- The frame that a port sends next. -/
def txPick : List TxFrame → Option TxFrame
  | [] => none
  | f :: l => some (l.foldl (fun b x => if txBefore x b then x else b) f)

/-- What the MAC does with the transmit stamp `t` of a message that passes it (12 R299, R300). -/
def txStamped (n : Fin 4) (f : TxFrame) (m : PtpMsg) (s : State) : PtpMsg × State :=
  let t := fun (b : Fin 4) => txStamp s b s.net.port[n] f.sub f.align
  match f.use with
  | .none => (m, s)
  | .origin b => ({ m with stamp := (t b / 65536).toNat, correction := m.correction + t b % 65536 }, s)
  | .passage b rx => ({ m with correction := m.correction + (t b - rx) }, s)
  | .hold i peer q =>
    (m, s.setInst i fun x => if peer then { x with pdelayReq := upd x.pdelayReq n fun _ => some (q, t i) }
      else { x with delayReq := some (q, t i) })

/-- A frame leaves on a port. -/
def txEmit (n : Fin 4) (f : TxFrame) (s : State) : State :=
  let s := s.sentFrame n
  match f.out with
  | .ptp _ m _ =>
    let r := txStamped n f m (s.setEth n fun p => { p with ptpTx := p.ptpTx + 1 })
    r.2.emit (.ptp n.val r.1 (ptpFrame s.net.port[n] r.1))
  | o => s.emit o

/-- A port that sends nothing starts the next queued frame; one in transmission is never cut short (12 R286). -/
def txStart (n : Fin 4) (s : State) : State :=
  let p := s.net.port[n]
  if p.txLeft ≠ 0 then s
  else match txPick p.txQueue with
    | none => s
    | some f => txEmit n f (s.setEth n fun p => { p with txQueue := p.txQueue.erase f, txLeft := 8 * f.len })

/-- Bits that a port sends in 4 ns (12 Table 12.1). -/
def lineRate : EthMode → Nat
  | .off => 0 | .x1000 => 4 | .r10g => 40 | .r25g => 100

/-- 4 ns of transmission. -/
def txDrain (n : Fin 4) (s : State) : State := s.setEth n fun p => { p with txLeft := p.txLeft - lineRate p.mode }

/-- A PTP message becomes due on a port; what the MAC does with its stamp comes with it. -/
def ptpSend (n : Fin 4) (m : PtpMsg) (use : TxStamp) (sub align : Nat) (forwarded : Bool) (s : State) : State :=
  s.queueFrame n { cls := if isEvent m.typ then 0 else 2, at_ := s.now, forwarded := forwarded
                   len := (ptpFrame s.net.port[n] m).length, out := .ptp n.val m [], use := use, sub := sub, align := align }

/-- The other port of a pair. -/
def pairPort (n : Fin 4) : Fin 4 := ⟨n.val / 2 * 2 + (1 - n.val % 2), by omega⟩

/-- The pair of a port. -/
def pairOf (n : Fin 4) : Fin 2 := ⟨n.val / 2, by omega⟩

/-- The delay asymmetry that a transparent clock applies to an event message: that of the port of entry to Sync and
Pdelay_Resp, and less that of the port of exit for the requests (12 R297; PRESUMED: IEEE 1588-2019, 11.6). -/
def forwardAsym (rx tx : EthPort) (t : Nat) : Int := if t = 0 ∨ t = 3 then rx.asym else if t = 1 ∨ t = 2 then -tx.asym else 0

/-- A transparent-clock pair forwards a message: meanLinkDelay of a peer-to-peer pair and the asymmetry go into correctionField
of an event message at once, and the residence time on TC_TB as the message leaves (12 R297, R300). -/
def ptpForward (n : Fin 4) (e : PtpEvent) (s : State) : State :=
  let c := s.net.tc[pairOf n]
  let o := pairPort n
  let rx := s.net.port[n]
  if !c.enable || (c.p2p && isPdelay e.msg.typ) then s
  else if isEvent e.msg.typ then
    let add := forwardAsym rx s.net.port[o] e.msg.typ + (if c.p2p && e.msg.typ == 0 then rx.linkDelay else 0)
    ptpSend o { e.msg with correction := e.msg.correction + add } (.passage c.tb (rxStamp s c.tb rx e)) e.subTx e.alignTx true s
  else ptpSend o e.msg .none 0 0 true s

/-- Is a message for an instance (12 Table 12.6)? -/
def forInstance (x : PtpInst) (n : Fin 4) (m : PtpMsg) : Bool :=
  x.enable && x.usesPort n && x.domain == m.domain && x.udp == m.udp

/-- The instances that take a message, firmware running. -/
def takers (s : State) (n : Fin 4) (m : PtpMsg) : List (Fin 4) :=
  if !s.firmwareRuns || m.unsupported then [] else (List.finRange 4).filter fun i => forInstance s.net.inst[i] n m

/-! ### PTP: the slave's sums (IEEE 1588-2019) -/

/-- An offset sample of instance `i` reaches its time base: θ and the time since the previous sample, which the spec does not
state for the first (12 R293). -/
def ptpSample (i : Fin 4) (theta : Int) (s : State) : State :=
  let x := s.net.inst[i]
  let (gap, s) := match x.lastSample with
    | some t => ((s.now - t) * 65536, s)
    | none => (s.freeVal freeInterval + 1, s.drawn)
  let s := s.setInst i fun x => { x with offset := theta, lastSample := some s.now }
  if s.time.tb[i].source = .ptp && s.tbCounts i then s.setTb i fun t => { t with sample := some (theta, gap) } else s

/-- A Sync with its origin time `t1`, corrections included, and its receive stamp: the offset from the master. -/
def syncDone (i n : Fin 4) (t1 t2 : Int) (s : State) : State :=
  let x := s.net.inst[i]
  let delay := if x.p2p then (s.net.port[n]).linkDelay else x.meanPathDelay
  ptpSample i (t2 - t1 - delay) (s.setInst i fun x => { x with sync := some (t1, t2) })

/-- Does a message come from the master that an instance follows on this port? -/
def fromMaster (x : PtpInst) (n : Fin 4) (m : PtpMsg) : Bool :=
  x.slavePort == some n && (match x.parent with
    | some a => a.srcIdentity == m.srcIdentity && a.srcPort == m.srcPort
    | none => false)

/-- A Sync. -/
def onSync (i n : Fin 4) (e : PtpEvent) (s : State) : State :=
  let x := s.net.inst[i]
  let p := s.net.port[n]
  if !fromMaster x n e.msg then s
  else
    let t2 := rxStamp s i p e
    let corr := e.msg.correction + p.asym
    if e.msg.twoStep then s.setInst i fun x => { x with syncWait := some (e.msg.seq, corr, t2) }
    else syncDone i n (e.msg.stamp * 65536 + corr) t2 s

/-- A Follow_Up. -/
def onFollowUp (i n : Fin 4) (m : PtpMsg) (s : State) : State :=
  let x := s.net.inst[i]
  match x.syncWait with
  | some (q, corr, t2) =>
    if fromMaster x n m ∧ q = m.seq then
      syncDone i n (m.stamp * 65536 + corr + m.correction) t2 (s.setInst i fun x => { x with syncWait := none })
    else s
  | none => s

/-- The header of a message that firmware sends for an instance on a port. -/
def ownMsg (s : State) (i n : Fin 4) (typ seq : Nat) : PtpMsg :=
  let x := s.net.inst[i]
  { typ := typ, domain := x.domain, udp := x.udp, srcIdentity := clockIdentity s i, srcPort := n.val + 1, seq := seq }

/-- A Delay_Req at a master port is answered with its receive stamp, whole nanoseconds apart from the fraction. -/
def onDelayReq (i n : Fin 4) (e : PtpEvent) (s : State) : State :=
  let x := s.net.inst[i]
  if x.p2p ∨ x.portState[n] ≠ 6 then s
  else
    let t4 := rxStamp s i s.net.port[n] e
    ptpSend n { ownMsg s i n 9 e.msg.seq with
      stamp := (t4 / 65536).toNat, correction := e.msg.correction - t4 % 65536
      reqIdentity := e.msg.srcIdentity, reqPort := e.msg.srcPort, logInterval := x.logDelayReq } .none 0 0 false s

/-- A Delay_Resp to this instance: meanPathDelay. -/
def onDelayResp (i n : Fin 4) (m : PtpMsg) (s : State) : State :=
  let x := s.net.inst[i]
  match x.delayReq, x.sync with
  | some (q, t3), some (t1, t2) =>
    if x.slavePort = some n ∧ q = m.seq ∧ m.reqIdentity = clockIdentity s i ∧ m.reqPort = n.val + 1 then
      let t4 := (m.stamp * 65536 : Int) - m.correction
      (s.setInst i fun x => { x with delayReq := none, meanPathDelay := s.freeDiv (t2 - t1 + (t4 - t3)) 2 }).drawn
    else s
  | _, _ => s

/-- A Pdelay_Req is answered in one step: the turnaround t3 − t2 on time base `b` goes into correctionField as the answer leaves
(12 R299). -/
def onPdelayReq (i n b : Fin 4) (e : PtpEvent) (s : State) : State :=
  ptpSend n { ownMsg s i n 3 e.msg.seq with
    correction := e.msg.correction, reqIdentity := e.msg.srcIdentity, reqPort := e.msg.srcPort }
    (.passage b (rxStamp s b s.net.port[n] e)) e.subTx e.alignTx false s

/-- The mean link delay of a port from t1, t4 and the far turnaround, 2^-16 ns. -/
def linkDelayDone (i n : Fin 4) (t1 t4 far : Int) (s : State) : State :=
  let d := s.freeDiv (t4 - t1 - far) 2
  ((s.setEth n fun p => { p with linkDelay := d }).setInst i fun x => { x with meanPathDelay := d }).drawn

/-- A Pdelay_Resp to this instance. -/
def onPdelayResp (i n : Fin 4) (e : PtpEvent) (s : State) : State :=
  let p := s.net.port[n]
  match (s.net.inst[i]).pdelayReq[n] with
  | some (q, t1) =>
    if q ≠ e.msg.seq ∨ e.msg.reqIdentity ≠ clockIdentity s i ∨ e.msg.reqPort ≠ n.val + 1 then s
    else
      let t4 := rxStamp s i p e
      let corr := e.msg.correction + p.asym
      let s := s.setInst i fun x => { x with pdelayReq := upd x.pdelayReq n fun _ => none }
      if e.msg.twoStep then
        s.setInst i fun x => { x with pdelayWait := upd x.pdelayWait n fun _ => some (q, t1, e.msg.stamp * 65536 - corr, t4) }
      else linkDelayDone i n t1 t4 corr s
  | none => s

/-- A Pdelay_Resp_Follow_Up to this instance: the far turnaround is t3 − t2 and the corrections. -/
def onPdelayFollowUp (i n : Fin 4) (m : PtpMsg) (s : State) : State :=
  match (s.net.inst[i]).pdelayWait[n] with
  | some (q, t1, t2, t4) =>
    if q ≠ m.seq ∨ m.reqIdentity ≠ clockIdentity s i then s
    else linkDelayDone i n t1 t4 (m.stamp * 65536 + m.correction - t2)
      (s.setInst i fun x => { x with pdelayWait := upd x.pdelayWait n fun _ => none })
  | none => s

/-- The message of an event row at one instance. -/
def onEvent (n : Fin 4) (e : PtpEvent) (i : Fin 4) (s : State) : State :=
  match e.msg.typ with
  | 0 => onSync i n e s
  | 1 => onDelayReq i n e s
  | 2 => if (s.net.inst[i]).p2p then onPdelayReq i n i e s else s
  | 3 => if (s.net.inst[i]).p2p then onPdelayResp i n e s else s
  | _ => s

/-- A message is counted as received (12 Table 12.2). -/
def ptpCount (n : Fin 4) (s : State) : State :=
  s.setEth n fun p => { p with ptpRx := p.ptpRx + 1, rxFrames := p.rxFrames + 1 }

/-- A peer-to-peer pair answers Pdelay_Req on its ports where no instance does; firmware originates the answer (12 R295). -/
def pairAnswers (n : Fin 4) (e : PtpEvent) (s : State) : State :=
  let c := s.net.tc[pairOf n]
  if c.enable && c.p2p && e.msg.typ == 2 && !e.msg.unsupported && s.firmwareRuns
      && ((takers s n e.msg).filter fun i => (s.net.inst[i]).p2p).isEmpty then
    onPdelayReq 0 n c.tb e s
  else s

/-- PTP_EVENT_RX: an event message, messageType 0 to 3, is stamped on receipt, forwarded by a transparent-clock pair and
handed to the instances of its domain (12 R296 to R300). -/
def execPtpEventRx (n : Fin 4) (e : PtpEvent) (s : State) : Host.Outcome State Fault Refusal :=
  if !(s.net.port[n]).up ∨ 3 < e.msg.typ then .next s
  else
    let s := ptpForward n e (ptpCount n s)
    .next (pairAnswers n e (forEach (takers s n e.msg) (onEvent n e) s))

/-! ### The best master (default BMCA, IEEE 1588-2019) -/

/-- A data set as the comparison takes it: an Announce, and the clock and port that received it. -/
structure DataSet where
  msg : PtpMsg
  rxIdentity : Nat
  rxPort : Nat
  deriving DecidableEq, Repr

/-- The attributes of a grandmaster, in the order of comparison. -/
def masterKey (m : PtpMsg) : List Nat :=
  [m.gmPriority1, m.gmClass, m.gmAccuracy, m.gmVariance, m.gmPriority2, m.gmIdentity]

/-- The smaller list of numbers, compared in order. -/
def listLower : List Nat → List Nat → Bool
  | a :: s, b :: t => decide (a < b) || (a == b && listLower s t)
  | _, _ => false

/-- The topology part of the comparison, for one grandmaster with `a` the data set further from it by one step: -2 or -1 as the
identity of its receiver lies below that of its sender or not. -/
def stepFarther (a : DataSet) : Int :=
  if listLower [a.rxIdentity, a.rxPort] [a.msg.srcIdentity, a.msg.srcPort] then -2 else -1

/-- The data set comparison of IEEE 1588-2019: 2 when `a` is better, 1 when it is better by topology, -1 and -2 the other way
round. -/
def dsCompare (a b : DataSet) : Int :=
  if a.msg.gmIdentity ≠ b.msg.gmIdentity then (if listLower (masterKey a.msg) (masterKey b.msg) then 2 else -2)
  else if a.msg.stepsRemoved + 1 < b.msg.stepsRemoved then 2
  else if b.msg.stepsRemoved + 1 < a.msg.stepsRemoved then -2
  else if b.msg.stepsRemoved < a.msg.stepsRemoved then stepFarther a
  else if a.msg.stepsRemoved < b.msg.stepsRemoved then -stepFarther b
  else if listLower [a.msg.srcIdentity, a.msg.srcPort, a.rxPort] [b.msg.srcIdentity, b.msg.srcPort, b.rxPort] then 1 else -1

/-- The data set of the instance itself: clockAccuracy and variance unknown. -/
def ownAnnounce (s : State) (i n : Fin 4) : PtpMsg :=
  let x := s.net.inst[i]
  { ownMsg s i n 11 0 with
    gmIdentity := clockIdentity s i, gmPriority1 := x.priority1, gmClass := x.clockClass, gmAccuracy := 0xFE
    gmVariance := 0xFFFF, gmPriority2 := x.priority2, logInterval := x.logAnnounce }

/-- The data set D0 of the instance. -/
def ownSet (s : State) (i : Fin 4) : DataSet :=
  { msg := { ownAnnounce s i 0 with srcPort := 0 }, rxIdentity := clockIdentity s i, rxPort := 0 }

/-- Four announce intervals, within which a foreign master must be heard twice. -/
def foreignWindow (x : PtpInst) : Nat := 4 * 2 ^ x.logAnnounce.toNat * 1000000000

/-- A foreign master is qualified: heard twice within the window. -/
def qualified (now : Nat) (x : PtpInst) (f : Foreign) : Bool :=
  match f.prev with
  | some t => decide (now ≤ t + foreignWindow x)
  | none => false

/-- The better of two data sets that may be absent. -/
def betterSet (a b : Option DataSet) : Option DataSet :=
  match a, b with
  | some x, some y => if 0 < dsCompare x y then some x else some y
  | some x, none => some x
  | none, b => b

/-- Erbest: the best of the qualified foreign masters of a port. -/
def portBest (s : State) (i n : Fin 4) : Option DataSet :=
  let x := s.net.inst[i]
  (x.foreign[n]).foldl (fun b f =>
    if qualified s.now x f then
      betterSet b (some { msg := f.msg, rxIdentity := clockIdentity s i, rxPort := n.val + 1 })
    else b) none

/-- Ebest: the best of the ports. -/
def instBest (s : State) (i : Fin 4) : Option DataSet :=
  (List.finRange 4).foldl (fun b n => betterSet b (portBest s i n)) none

/-- D0 is better, or better by topology, than a data set that may be absent. -/
def ownBetter (own : DataSet) (e : Option DataSet) : Bool :=
  match e with
  | some e => decide (0 < dsCompare own e)
  | none => true

/-- The state that the decision gives port `n`: 4 LISTENING, 6 MASTER, 7 PASSIVE, 9 SLAVE. -/
def decideState (x : PtpInst) (own : DataSet) (best erBest : Option DataSet) (n : Fin 4) : Nat :=
  let mine := match best with
    | some e => e.rxPort == n.val + 1
    | none => false
  if x.slaveOnly then (if mine then 9 else 4)
  else if erBest.isNone && x.portState[n] != 6 && x.portState[n] != 7 && x.portState[n] != 9 then 4
  else if 1 ≤ x.clockClass ∧ x.clockClass ≤ 127 then (if ownBetter own erBest then 6 else 7)
  else if ownBetter own best then 6
  else if mine then 9
  else match best, erBest with
    | some e, some r => if dsCompare e r = 1 then 7 else 6
    | _, _ => 6

/-- The states of an instance's ports are decided; a new master is followed without the samples of another. -/
def bmca (i : Fin 4) (s : State) : State :=
  let x := s.net.inst[i]
  let best := instBest s i
  let st := fun (n : Fin 4) => if x.usesPort n then decideState x (ownSet s i) best (portBest s i n) n else 3
  let slave : Option (Fin 4) := (List.finRange 4).find? fun n => st n == 9
  let parent : Option PtpMsg := if slave.isSome then best.map (·.msg) else none
  let source := fun (m : Option PtpMsg) => (m.map fun a => (a.srcIdentity, a.srcPort) : Option (Nat × Nat))
  s.setInst i fun x =>
    let x := { x with portState := Vector.ofFn st, slavePort := slave, parent := parent }
    if (s.net.inst[i]).slavePort = slave ∧ source (s.net.inst[i]).parent = source parent then x
    else { x with sync := none, syncWait := none, delayReq := none }

/-- The foreign masters of a port after an Announce; those not heard within the window are forgotten. -/
def heard (now : Nat) (x : PtpInst) (m : PtpMsg) (l : List Foreign) : List Foreign :=
  let same := fun (f : Foreign) => f.msg.srcIdentity == m.srcIdentity && f.msg.srcPort == m.srcPort
  let prev := (l.find? same).map (·.last)
  (l.filter fun f => !same f && decide (now ≤ f.last + foreignWindow x)) ++ [{ msg := m, last := now, prev := prev }]

/-- An Announce of another clock. -/
def onAnnounce (i n : Fin 4) (m : PtpMsg) (s : State) : State :=
  if m.srcIdentity = clockIdentity s i ∨ 255 ≤ m.stepsRemoved then s
  else bmca i (s.setInst i fun x => { x with foreign := upd x.foreign n (heard s.now x m) })

/-- The message of a general row at one instance. -/
def onGeneral (n : Fin 4) (m : PtpMsg) (i : Fin 4) (s : State) : State :=
  match m.typ with
  | 8 => onFollowUp i n m s
  | 9 => onDelayResp i n m s
  | 10 => if (s.net.inst[i]).p2p then onPdelayFollowUp i n m s else s
  | 11 => onAnnounce i n m s
  | _ => s

/-- PTP_GENERAL_RX: a general message, messageType 8 to 13, is counted, forwarded by a transparent-clock pair and handed to the
instances of its domain, which discard signalling and management messages (12 R298, R300). -/
def execPtpGeneralRx (n : Fin 4) (m : PtpMsg) (s : State) : Host.Outcome State Fault Refusal :=
  if !(s.net.port[n]).up ∨ m.typ < 8 ∨ 13 < m.typ then .next s
  else
    let s := ptpForward n { msg := m } (ptpCount n s)
    .next (forEach (takers s n m) (onGeneral n m) s)

/-! ### What firmware sends by itself (12 R298, R299) -/

/-- May an instance send on a port: enabled there, link up, no pause (12 R295)? -/
def ptpSends (s : State) (i n : Fin 4) : Bool :=
  let x := s.net.inst[i]
  x.enable && x.usesPort n && (s.net.port[n]).up && s.firmwareRuns

/-- The Announce that a master port sends: of the grandmaster it follows, one step further, or of itself. -/
def announceMsg (s : State) (i n : Fin 4) : PtpMsg :=
  let own := ownAnnounce s i n
  match (s.net.inst[i]).parent with
  | none => own
  | some a => { a with srcIdentity := own.srcIdentity, srcPort := own.srcPort, udp := own.udp, correction := 0
                       stepsRemoved := a.stepsRemoved + 1, logInterval := own.logInterval, tail := []
                       fromMac := none, fromIp := none }

/-- The interval of a kind of message expires on a port; `sub` and `align` place the transmit stamp, which a Sync carries and
firmware keeps of a request (12 R299). -/
def ptpTimer (i n : Fin 4) (k : PtpTimer) (sub align : Nat) (s : State) : State :=
  let x := s.net.inst[i]
  let p := s.net.port[n]
  let q := x.seq
  let s' := s.setInst i fun x => { x with seq := modInc 16 q }
  match k with
  | .sync =>
    if x.portState[n] = 6 then
      ptpSend n { ownMsg s i n 0 q with logInterval := x.logSync } (.origin i) sub align false s'
    else s
  | .announce => if x.portState[n] = 6 then ptpSend n { announceMsg s i n with seq := q } .none 0 0 false s' else s
  | .delayReq =>
    if !x.p2p ∧ x.slavePort = some n then
      ptpSend n { ownMsg s i n 1 q with correction := -p.asym } (.hold i false q) sub align false s'
    else s
  | .pdelayReq =>
    if x.p2p then
      ptpSend n { ownMsg s i n 2 q with correction := -p.asym } (.hold i true q) sub align false s'
    else s

/-- PTP_MESSAGE_TIMER: an interval of instance `i` on port `n` expires and firmware sends the message (12 R298, R299). -/
def execPtpMessageTimer (i n : Fin 4) (k : PtpTimer) (sub align : Nat) (s : State) : Host.Outcome State Fault Refusal :=
  .next (if ptpSends s i n then ptpTimer i n k sub align s else s)

/-- PTP_ANNOUNCE_TIMEOUT: announceReceiptTimeout intervals pass on a port without an Announce: it is forgotten, the port is
MASTER or, slaveOnly, LISTENING, and the states are decided anew (12 R298). -/
def execPtpAnnounceTimeout (i n : Fin 4) (s : State) : Host.Outcome State Fault Refusal :=
  if ptpSends s i n then
    .next (bmca i (s.setInst i fun x =>
      { x with foreign := upd x.foreign n fun _ => []
               portState := upd x.portState n fun _ => if x.slaveOnly then 4 else 6 }))
  else .next s

end Sys2Proof.Machine
end

