-- ==== Sys2Proof/Machine/MbxDevice.lean ====
section
/-! DEFINITION. Mboxis commands: device, sessions, events, faults, sensors, log, life cycle, OBS (17 Tables 17.6, 17.13,
17.14). -/

namespace Sys2Proof.Machine

/-! ### Identity and health -/

/-- DEV_IDENTIFY (17 Table 17.6). -/
def cmdDevIdentify : Cmd :=
  { opcode := 0x0100, len := lenIs 0
    body := fun q s => done s (bytesOf 2 0x1216 ++ bytesOf 1 s.mgmt.stepping ++ bytesOf 1 s.mgmt.lifeCycle.code
      ++ bytesOf 4 s.mgmt.fwVersion ++ bytesOf 8 s.mgmt.serial ++ bytesOf 2 s.station.plantDevice
      ++ bytesOf 1 s.mgmt.dev.code ++ bytesOf 1 (powerShown s).code ++ bytesOf 1 s.mgmt.imageSlot
      ++ bytesOf 1 (flagAt s.mgmt.trial 0) ++ bytesOf 1 (flagAt s.mgmt.hostIndependent 0) ++ bytesOf 1 q.session
      ++ bytesOf 4 (policyWord s) ++ bytesOf 4 (runningImage s.mgmt).schema ++ zeros 32) }

/-- DEV_IDENTIFY. -/
def execDevIdentify (q : Req) (s : State) : Host.Outcome State Fault Refusal := .next (serve cmdDevIdentify q s)

/-- Words of a block at offsets `lo` to `hi - 1`. -/
def blockWords (read : Nat → State → Word) (lo hi : Nat) (s : State) : List Byte :=
  (List.range ((hi - lo) / 4)).flatMap fun i => bytesOf 4 (read (lo + 4 * i) s).toNat

/-- A write of 0 to the words of a block: what CLEAR does to its counts (17 R392; 08 R199). -/
def clearWords (write : Nat → Word → State → State) (lo hi : Nat) (s : State) : State :=
  forEach (List.range ((hi - lo) / 4)) (fun i t => write (lo + 4 * i) 0 t) s

/-- A block of DEV_HEALTH: ID, length, register image. -/
def healthBlock (id : Nat) (image : List Byte) : List Byte := bytesOf 2 id ++ bytesOf 2 image.length ++ image

/-- The 320 bytes of DEV_HEALTH. -/
def healthBytes (s : State) : List Byte :=
  healthBlock 1 (blockWords stchRead 0x000 0x018 s ++ blockWords stchRead 0x100 0x1C0 s)
    ++ healthBlock 2 (blockWords segRead 0x00 0x20 s) ++ healthBlock 3 (blockWords gustRead 0x000 0x02C s)
    ++ healthBlock 4 (blockWords ejRead 0x0F0 0x0FC s)

/-- CLEAR of DEV_HEALTH. -/
def healthClear (s : State) : State :=
  clearWords ejWrite 0x0F0 0x0FC (clearWords gustWrite 0x000 0x02C (clearWords segWrite 0x00 0x20
    (clearWords stchWrite 0x100 0x1C0 (clearWords stchWrite 0x000 0x018 s))))

/-- DEV_HEALTH (17 Table 17.6). -/
def cmdDevHealth : Cmd :=
  { opcode := 0x0107, len := lenIs 0
    body := fun q s => done (if q.clear then healthClear s else s) (healthBytes s) }

/-- DEV_HEALTH. -/
def execDevHealth (q : Req) (s : State) : Host.Outcome State Fault Refusal := .next (serve cmdDevHealth q s)

/-! ### Sessions (17 R399 to R401) -/

/-- A SESSION log entry (20 Table 20.6). -/
def sessionLog (what session addr port : Nat) (s : State) : State :=
  s.log 7 session ([what] ++ (bytesOf 4 addr ++ bytesOf 2 port).map BitVec.toNat)

/-- Does the allow list allow an address (17 R399; 20 R450)? -/
def addressAllowed (s : State) (ip : Nat) : Bool :=
  s.mgmt.allow.isEmpty || s.mgmt.allow.any fun e => e.1 / 2 ^ (32 - e.2) == ip / 2 ^ (32 - e.2)

/-- The lowest free network session. -/
def freeSession (s : State) : Option (Fin 14) :=
  (List.finRange 14).find? fun k => decide (5 ≤ k.val ∧ k.val ≤ 12) && !(s.mbx.sess[k]).isOpen

/-- A session of the network opens, bound to its source. -/
def openNetSession (q : Req) (k : Fin 14) (s : State) : Answer :=
  let idle := min (le32 q.payload 0) s.mgmt.idleSMax
  let s := s.setSess k fun c =>
    { isOpen := true, addr := q.srcIp, port := q.srcPort, idleS := idle, lastAt := s.now, background := c.background }
  done (sessionLog 0 k.val q.srcIp q.srcPort s) (bytesOf 1 k.val ++ zeros 1 ++ bytesOf 2 1440 ++ bytesOf 4 idle)

/-- SESSION_OPEN (17 R399). -/
def cmdSessionOpen : Cmd :=
  { opcode := 0x0101, len := lenIs 8
    body := fun q s =>
      if !zeroAt q.payload 4 4 ∨ le32 q.payload 0 < 5 ∨ 3600 < le32 q.payload 0 then refuse .badParam s
      else if !q.net then done s (bytesOf 1 q.session ++ zeros 1 ++ bytesOf 2 4080 ++ zeros 4)
      else if !(policyWord s).testBit 3 || !addressAllowed s q.srcIp then refuse .denied s
      else match freeSession s with
        | some k => openNetSession q k s
        | none => refuse .noResource s }

/-- SESSION_OPEN. -/
def execSessionOpen (q : Req) (s : State) : Host.Outcome State Fault Refusal := .next (serve cmdSessionOpen q s)

/-- SESSION_CLOSE: a network session closes (17 R399); on any other port nothing changes. -/
def cmdSessionClose : Cmd :=
  { opcode := 0x0102, len := lenIs 0
    body := fun q s => match idx? 14 q.session with
      | some k => if 5 ≤ q.session ∧ q.session ≤ 12 then done (closeSession k (sessionLog 1 q.session q.srcIp q.srcPort s)) else done s
      | none => done s }

/-- SESSION_CLOSE. -/
def execSessionClose (q : Req) (s : State) : Host.Outcome State Fault Refusal := .next (serve cmdSessionClose q s)

/-- Is a resource identifier one that the session may claim (17 Table 17.3)? -/
def claimable (session r : Nat) : Bool :=
  let i := r % 256
  decide (1 ≤ session) && match r / 256 with
    | 1 | 2 | 6 => decide (i < 12)
    | 3 | 5 => decide (i < 4)
    | 4 => decide (i < 64)
    | 7 => decide (8 ≤ i ∧ i < 16 ∧ session ≤ 4)
    | 8 => decide (4 ≤ i ∧ i < 8 ∧ session ≤ 4)
    | _ => false

/-- The resources that a claim or a release lists. -/
def listedResources (p : List Byte) : List Nat := (List.range (byteAt p 0)).map fun i => le16 p (4 + 2 * i)

/-- A channel with SEC set, which only session 0 may hold (17 Table 17.3). -/
def secResource (s : State) (r : Nat) : Bool :=
  r / 256 == 4 && (match idx? 64 (r % 256) with | some n => (s.evt.chan[n]).sec | none => false)

/-- The holder that blocks a claim: another session, or session 0 without TAKE (17 R401). -/
def blocker (s : State) (session : Nat) (take : Bool) (l : List Nat) : Option (Nat × Nat) :=
  l.findSome? fun r => match s.holder r with
    | some h => if h ≠ session ∧ (h ≠ 0 ∨ !take) then some (r, h) else none
    | none => none

/-- A resource passes to a session. -/
def claimOne (session r : Nat) (s : State) : State :=
  { s with mbx := { s.mbx with claims := (s.mbx.claims.filter fun c => c.1 != r) ++ [(r, session)] } }

/-- The answer of a claim: what the session holds, and its notices, which COUNT 0 clears (17 R401, R403). -/
def claimAnswer (q : Req) (s : State) : Answer :=
  let held := heldBy s q.session
  let notes := match idx? 14 q.session with | some k => (s.mbx.sess[k]).notices | none => []
  let s' := match idx? 14 q.session with
    | some k => if byteAt q.payload 0 = 0 then s.setSess k fun c => { c with notices := [] } else s
    | none => s
  done s' (bytesOf 1 held.length ++ bytesOf 1 notes.length ++ zeros 2 ++ held.flatMap (bytesOf 2)
    ++ notes.flatMap fun n => bytesOf 2 n.opcode ++ bytesOf 2 n.resource)

/-- The reserved fields, COUNT and identifiers of a claim or release are right. -/
def claimListOk (q : Req) : Bool :=
  let p := q.payload
  decide (byteAt p 0 ≤ 32) && decide (byteAt p 1 ≤ 1) && zeroAt p 2 2 && (listedResources p).all (claimable q.session)

/-- Resources of session 0 that pass by TAKE. -/
def takenOver (s : State) (l : List Nat) : Bool := l.any fun r => s.holder r == some 0

/-- SESSION_CLAIM: all or nothing (17 R401). -/
def claimBody (q : Req) (s : State) : Answer :=
  let l := listedResources q.payload
  if !claimListOk q then refuse .badParam s
  else if l.any (secResource s) then refuse .denied s
  else match blocker s q.session (byteAt q.payload 1 == 1) l with
    | some (r, h) => { status := .notOwner, payload := bytesOf 2 r ++ bytesOf 1 h, state := s }
    | none =>
      let s := if takenOver s l then sessionLog 3 q.session q.srcIp q.srcPort s else s
      claimAnswer q (forEach l (claimOne q.session) s)

/-- SESSION_CLAIM. -/
def cmdSessionClaim : Cmd :=
  { opcode := 0x0103, len := fun p => 4 ≤ p.length && p.length == 4 + 2 * byteAt p 0, body := claimBody }

/-- SESSION_CLAIM.  SUPERSEDED is decided before COUNT 0 clears the notices (17 R403). -/
def execSessionClaim (q : Req) (s : State) : Host.Outcome State Fault Refusal := .next (serve cmdSessionClaim q s)

/-- SESSION_RELEASE: the listed resources, or with COUNT 0xFF all; one that the session does not hold is left (17 R401). -/
def releaseBody (q : Req) (s : State) : Answer :=
  if byteAt q.payload 0 = 0xFF then
    if byteAt q.payload 1 ≤ 1 ∧ zeroAt q.payload 2 2 then done (releaseAll q.session s) else refuse .badParam s
  else if !claimListOk q then refuse .badParam s
  else done (forEach (listedResources q.payload) (fun r t => if t.holder r = some q.session then releaseOne r t else t) s)

/-- SESSION_RELEASE. -/
def cmdSessionRelease : Cmd :=
  { opcode := 0x0104
    len := fun p => 4 ≤ p.length && (p.length == 4 + 2 * byteAt p 0 || (byteAt p 0 == 0xFF && p.length == 4)), body := releaseBody }

/-- SESSION_RELEASE. -/
def execSessionRelease (q : Req) (s : State) : Host.Outcome State Fault Refusal := .next (serve cmdSessionRelease q s)

/-! ### Device state and reset (17 R409; 20 R444; 21 R483) -/

/-- A session other than 0 and the issuer holds a claim (17 R409). -/
def othersHold (s : State) (session : Nat) : Bool := s.mbx.claims.any fun c => c.2 != 0 && c.2 != session

/-- A valve link is armed in RUN. -/
def armedRun (s : State) : Bool := s.ej.link.toList.any fun k => k.arm == 1 || k.armNext == 1

/-- An update is under way or in trial, so that DEEP SLEEP is refused (20 Table 20.13). -/
def updateBusy (s : State) : Bool := s.mgmt.update.state != .idle || s.mgmt.update.activating || s.mgmt.trial

/-- The power state of a code. -/
def powerOf : Nat → Option PowerState
  | 0 => some .active | 1 => some .hold | 2 => some .standby | 3 => some .deepSleep | _ => none

/-- Ranges of DEV_STATE_SET. -/
def stateSetOk (p : List Byte) : Bool :=
  (decide (byteAt p 0 ≤ 3) || byteAt p 0 == 0xFF) && (decide (byteAt p 1 ≤ 1) || byteAt p 1 == 0xFF)
    && (decide (byteAt p 2 ≤ 1) || byteAt p 2 == 0xFF) && zeroAt p 3 1

/-- The settings of DEV_STATE_SET take effect. -/
def stateSet (p : List Byte) (s : State) : State :=
  let s := if byteAt p 1 = 0xFF then s else s.setMgmt fun m => { m with hostIndependent := byteAt p 1 == 1 }
  let s := if byteAt p 2 = 0xFF then s else s.setMgmt fun m => { m with dev := if byteAt p 2 = 1 then .test else .operational }
  match powerOf (byteAt p 0) with
  | some w => powerTo w s
  | none => s

/-- DEV_STATE_SET: what the request leaves unchanged was not written (17 R403). -/
def stateWritten (p : List Byte) : List Written :=
  [{ resource := resDevice, payload := p.map fun b => if b = 0xFF then none else some b }]

/-- DEV_STATE_SET (17 R409; 19 R431; 20 R444, Table 20.13; 21 R484). -/
def cmdDevStateSet : Cmd :=
  { opcode := 0x0105, len := lenIs 4, written := stateWritten
    body := fun q s =>
      let p := q.payload
      guarded [(!stateSetOk p, .badParam), (othersHold s q.session, .notOwner),
          (byteAt p 0 == 3 && updateBusy s, .busy),
          (byteAt p 0 == 3 && (s.evt.cons[(68 : Fin 96)]).pending, .wrongState),
          (byteAt p 0 == 0 && s.flt.galeHeld, .wrongState),
          (byteAt p 2 == 1 && s.mgmt.dev != .test && armedRun s, .wrongState)] s
        (let t := stateIrq s (stateSet p s)
         done t (bytesOf 1 (powerShown t).code ++ bytesOf 1 (flagAt t.mgmt.hostIndependent 0)
           ++ bytesOf 1 (flagAt (t.mgmt.dev == .test) 0) ++ zeros 1)) }

/-- DEV_STATE_SET. -/
def execDevStateSet (q : Req) (s : State) : Host.Outcome State Fault Refusal := .next (serve cmdDevStateSet q s)

/-- DEV_RESET: the response is sent, the warm reset follows (17 Table 17.6, R409). -/
def cmdDevReset : Cmd :=
  { opcode := 0x0106, len := lenIs 8
    body := fun q s =>
      guarded [(byteAt q.payload 0 != 1 || !zeroAt q.payload 1 3 || le32 q.payload 4 != 0x4D524157, .badParam),
          (othersHold s q.session, .notOwner)] s
        (done { s with mbx := { s.mbx with resetAsked := true } }) }

/-- DEV_RESET. -/
def execDevReset (q : Req) (s : State) : Host.Outcome State Fault Refusal := .next (serve cmdDevReset q s)

/-! ### Event channels (18 R420 to R422; 17 R412) -/

/-- The producer that an activation of consumer `j` leads to, and whether at once (18 Table 18.2, Hop). -/
def hopOf (j : Nat) : Option (Nat × Bool) :=
  if j < 48 then some (61 + j / 4, false)
  else if 69 ≤ j ∧ j ≤ 71 then some (120 + (j - 69), true)
  else if 72 ≤ j ∧ j < 96 then some (j - 72, false)
  else none

/-- Is there an edge from one channel to another, immediate ones only or any (18 R422)? -/
def edge (immediate : Bool) (a b : EvtChan) : Bool :=
  a.enabled && b.enabled && (maskList 96 a.consumers).any fun j => match hopOf j with
    | some (p, im) => (im || !immediate) && b.sources.contains p
    | none => false

/-- The channels that an edge leads to. -/
def successors (immediate : Bool) (v : Vector EvtChan 64) (a : EvtChan) : List (Fin 64) :=
  (List.finRange 64).filter fun b => edge immediate a v[b]

/-- A path of `n` further edges from a channel back to `goal`, as the channels passed. -/
def pathBack (v : Vector EvtChan 64) (goal : Fin 64) : Nat → Fin 64 → Option (List (Fin 64))
  | 0, _ => none
  | n + 1, a =>
    if edge true v[a] v[goal] then some [a]
    else (successors true v v[a]).findSome? fun b => (pathBack v goal n b).map (a :: ·)

/-- The cycle of immediate edges through a channel; three relays bound it (18 R422). -/
def immediateCycle (v : Vector EvtChan 64) (n : Fin 64) : Option (List (Fin 64)) := pathBack v n 3 n

/-- A list of channels turned so that the lowest number comes first. -/
def fromLowest (l : List (Fin 64)) : List (Fin 64) :=
  let low := l.foldl (fun m k => if k.val < m then k.val else m) 64
  let i := (l.takeWhile fun k => k.val != low).length
  l.drop i ++ l.take i

/-- The channels reached by `n` edges or fewer. -/
def reach (v : Vector EvtChan 64) : Nat → List (Fin 64) → List (Fin 64)
  | 0, l => l
  | n + 1, l =>
    let next := (l.flatMap fun a => successors false v v[a]).filter fun b => !l.contains b
    if next.isEmpty then l else reach v n (l ++ next.eraseDups)

/-- ON_CYCLE of a channel (18 R422). -/
def onCycle (v : Vector EvtChan 64) (n : Fin 64) : Bool :=
  (v[n]).enabled && (reach v 64 (successors false v v[n])).contains n

/-- The channel as a request configures it; LOOP_ACTIVE clears (18 R421, R423). -/
def configuredChan (p : List Byte) (c : EvtChan) : EvtChan :=
  { c with enabled := (byteAt p 1).testBit 0, sec := (byteAt p 1).testBit 1
           sources := (List.range (byteAt p 2)).map fun i => le16 p (4 + 2 * i)
           consumers := leAt p 20 12, lockoutNs := le32 p 32, loopActive := false, streak := 0 }

/-- Ranges of EVT_CHANNEL_CONFIG. -/
def evtConfigOk (p : List Byte) : Bool :=
  let n := byteAt p 2
  let src := (List.range n).map fun i => le16 p (4 + 2 * i)
  decide (byteAt p 0 < 64) && decide (byteAt p 1 < 4) && decide (n ≤ 8) && zeroAt p 3 1 && zeroAt p (4 + 2 * n) (16 - 2 * n)
    && src.all (fun x => decide (x ≤ 122)) && src.eraseDups.length == n
    && decide (20 ≤ le32 p 32 ∧ le32 p 32 ≤ 1000000)

/-- Another session holds the channel, a cluster of a named task input, or the base of a named capture unit (18 R421). -/
def evtForeign (s : State) (session n consumers : Nat) : Bool :=
  !s.owns session (resChan n) || (maskList 96 consumers).any fun j =>
    if j < 48 then !s.owns session (resCluster (j / 4))
    else if h : 48 ≤ j ∧ j < 56 then !s.owns session (resTb (s.time.cap[(⟨j - 48, by omega⟩ : Fin 8)]).tb.val)
    else false

/-- The request payload that reproduces a channel (17 R392). -/
def evtRequest (n : Nat) (c : EvtChan) : List Byte :=
  bytesOf 1 n ++ bytesOf 1 (flagAt c.enabled 0 + flagAt c.sec 1) ++ bytesOf 1 c.sources.length ++ zeros 1
    ++ fit 16 (c.sources.flatMap (bytesOf 2)) ++ bytesOf 12 c.consumers ++ bytesOf 4 c.lockoutNs

/-- The new configuration of the fabric applies at one instant; ON_CYCLE is computed again (18 R421, R422). -/
def evtCommit (v : Vector EvtChan 64) (s : State) : State :=
  { s with evt := { s.evt with chan := Vector.ofFn fun (n : Fin 64) => { v[n] with onCycle := onCycle v n } } }

/-- EVT_CHANNEL_CONFIG on channel `n`. -/
def evtConfig (q : Req) (n : Fin 64) (s : State) : Answer :=
  let p := q.payload
  let sec := (byteAt p 1).testBit 1
  let locked := !sec && (List.finRange 96).any fun j => (leAt p 20 12).testBit j.val && secLock s j
  let v := upd s.evt.chan n (configuredChan p)
  guarded [(evtForeign s q.session n.val (leAt p 20 12), .notOwner),
      ((sec || (s.evt.chan[n]).sec) && q.session != 0, .denied), (locked, .denied)] s
    (match immediateCycle v n with
     | some l => { status := .loop, payload := bytesOf 1 l.length ++ (fromLowest l).flatMap (fun k => bytesOf 1 k.val), state := s }
     | none => done (evtCommit v s))

/-- EVT_CHANNEL_CONFIG (17 Table 17.13, R412). -/
def cmdEvtChannelConfig : Cmd :=
  { opcode := 0x0E00, len := lenIs 36, query := true
    written := resourceSetting resChan
    body := fun q s => match idx? 64 (byteAt q.payload 0) with
      | none => refuse .badParam s
      | some n =>
        if q.query then guarded [(!s.owns q.session (resChan n.val), .notOwner)] s (done s (evtRequest n.val s.evt.chan[n]))
        else if !evtConfigOk q.payload then refuse .badParam s
        else evtConfig q n s }

/-- EVT_CHANNEL_CONFIG. -/
def execEvtChannelConfig (q : Req) (s : State) : Host.Outcome State Fault Refusal := .next (serve cmdEvtChannelConfig q s)

/-- A channel in EVT_CHANNEL_STATUS: +0x0 to +0xF of its block with byte 0 OWNER and bits [10:8] in byte 1 (18 R427). -/
def chanStatus (s : State) (n : Fin 64) : List Byte :=
  let c := s.evt.chan[n]
  let own := bytesOf 1 ((s.holder (resChan n.val)).getD 0xFF)
  if c.sec then own ++ bytesOf 1 (flagAt c.enabled 0 + 2) ++ zeros 14
  else own ++ bytesOf 1 (flagAt c.enabled 0 + flagAt c.loopActive 2) ++ zeros 2
    ++ bytesOf 4 (s.countWord c.firings).toNat ++ bytesOf 4 (s.countWord c.held).toNat ++ bytesOf 4 c.lastTs.toNat

/-- The channels of a mask. -/
def maskChans (m : Nat) : List (Fin 64) := (List.finRange 64).filter fun n => m.testBit n.val

/-- EVT_CHANNEL_STATUS (17 Table 17.13). -/
def cmdEvtChannelStatus : Cmd :=
  { opcode := 0x0E01, len := lenIs 8
    body := fun q s =>
      let l := maskChans (le64 q.payload 0)
      done (if q.clear then forEach l (fun n t => t.setChan n fun c => { c with firings := 0, held := 0 }) s else s)
        (l.flatMap (chanStatus s)) }

/-- EVT_CHANNEL_STATUS. -/
def execEvtChannelStatus (q : Req) (s : State) : Host.Outcome State Fault Refusal := .next (serve cmdEvtChannelStatus q s)

/-! ### Faults (19 R431, R436, R437) -/

/-- The payload of FLT_READ. -/
def fltBytes (s : State) : List Byte :=
  let f := s.flt.first
  let t := (f.map fun x => x.time).getD {}
  bytesOf 8 s.flt.status ++ bytesOf 1 ((f.map fun x => x.report.group).getD 0) ++ bytesOf 1 ((f.map fun x => x.cls.rank).getD 0)
    ++ bytesOf 1 (flagAt s.flt.overflow 0 + flagAt s.flt.faultN 1) ++ zeros 1 ++ bytesOf 4 t.ns ++ bytesOf 6 t.seconds ++ zeros 2
    ++ detailBytes f

/-- FLT_READ; CLEAR clears every count of the block (19 R437). -/
def cmdFltRead : Cmd :=
  { opcode := 0x0F00, len := lenIs 0
    body := fun q s => done (if q.clear then
        s.setFlt fun f => { f with groups := f.groups.map fun g => { g with drizzle := 0, squall := 0, gale := 0 } } else s)
      (fltBytes s) }

/-- FLT_READ. -/
def execFltRead (q : Req) (s : State) : Host.Outcome State Fault Refusal := .next (serve cmdFltRead q s)

/-- The record and bits that FLT_ACK names are released (19 R431, R436). -/
def fltAck (mask : Nat) (release : Bool) (s : State) : State :=
  let gale := release && (match s.flt.first with | some x => x.cls == .gale | none => false)
  let s := s.setFlt fun f => { f with status := f.status &&& (fullMask - mask), first := if release then none else f.first
                                      overflow := f.overflow && !release }
  if gale then galeEnds s else s

/-- Is the acknowledgement of a Gale refused, a Gale level still arriving (19 R431)? -/
def ackRefused (s : State) (release : Bool) : Bool :=
  release && (match s.flt.first with | some x => x.cls == .gale | none => false) && galeLevel s

/-- FLT_ACK (17 Table 17.13; 19 R436). -/
def cmdFltAck : Cmd :=
  { opcode := 0x0F01, len := lenIs 9
    body := fun q s =>
      let release := byteAt q.payload 8 == 1
      guarded [(decide (1 < byteAt q.payload 8), .badParam), (ackRefused s release, .wrongState)] s
        (let t := fltAck (le64 q.payload 0) release s
         done t (bytesOf 8 t.flt.status)) }

/-- FLT_ACK. -/
def execFltAck (q : Req) (s : State) : Host.Outcome State Fault Refusal := .next (serve cmdFltAck q s)

/-! ### Sensors, log, life cycle, OBS (20 R445, R446, R459, R461, R463) -/

/-- The clock-presence bitmap; bit 26 shows the always-on domain on its RC oscillator (20 Table 20.4). -/
def clockBits (s : State) : Nat :=
  ((List.finRange 26).map fun k => flagAt s.power.clockOk[k] k.val).sum + flagAt (!s.sysRef) 26

/-- MGT_SENSORS_READ. -/
def cmdMgtSensorsRead : Cmd :=
  { opcode := 0x1000, len := lenIs 0
    body := fun _ s => done s (s.mgmt.sensors.thermal.toList.flatMap (bytesOfInt 2)
      ++ s.mgmt.sensors.voltage.toList.flatMap (bytesOf 2) ++ bytesOf 4 (clockBits s) ++ zeros 4) }

/-- MGT_SENSORS_READ. -/
def execMgtSensorsRead (q : Req) (s : State) : Host.Outcome State Fault Refusal := .next (serve cmdMgtSensorsRead q s)

/-- The log entries held: the ring in flash and those staged. -/
def heldLog (s : State) : List LogEntry := s.mgmt.logRing ++ s.mgmt.logStaged

/-- Entries of LOG_READ: from the first index on, as many as asked for and as fit. -/
def logSlice (s : State) (first count limit : Nat) : List LogEntry :=
  ((heldLog s).filter fun e => decide ((e.index + 2 ^ 32 - first) % 2 ^ 32 < count)).take ((limit - 8) / 32)

/-- LOG_READ (17 Table 17.14). -/
def cmdLogRead : Cmd :=
  { opcode := 0x1001, len := lenIs 6
    body := fun q s =>
      let n := le16 q.payload 4
      if n < 1 ∨ 127 < n then refuse .badParam s
      else done s (bytesOf 4 (((heldLog s).head?.map (·.index)).getD 0) ++ bytesOf 4 (((heldLog s).getLast?.map (·.index)).getD 0)
        ++ (logSlice s (le32 q.payload 0) n (maxPayload q.session)).flatMap logBytes32) }

/-- LOG_READ. -/
def execLogRead (q : Req) (s : State) : Host.Outcome State Fault Refusal := .next (serve cmdLogRead q s)

/-- LCS_READ (17 Table 17.14; 20 R461). -/
def cmdLcsRead : Cmd :=
  { opcode := 0x1020, len := lenIs 0
    body := fun _ s => done s (bytesOf 1 s.mgmt.lifeCycle.code ++ zeros 3 ++ bytesOf 4 (policyWord s)
      ++ bytesOf 48 s.mgmt.rootKeyHash ++ bytesOf 4 s.mgmt.rollbackFuse) }

/-- LCS_READ. -/
def execLcsRead (q : Req) (s : State) : Host.Outcome State Fault Refusal := .next (serve cmdLcsRead q s)

/-- Is a number a signal of Table 20.11? -/
def obsSignal (n : Nat) : Bool := decide (n ≤ 0x59 ∨ (0x100 ≤ n ∧ n ≤ 0x2FF))

/-- The eight selections of a request. -/
def obsList (p : List Byte) : List Nat := (List.range 8).map fun k => le16 p (2 * k)

/-- The selections in effect as bytes. -/
def obsBytes (s : State) : List Byte := s.mgmt.obsSel.toList.flatMap (bytesOf 2)

/-- OBS_SELECT (17 R414; 20 R463). -/
def cmdObsSelect : Cmd :=
  { opcode := 0x1021, len := lenIs 16, query := true, written := wholeSetting
    body := fun q s =>
      let l := obsList q.payload
      if q.query then done s (obsBytes s)
      else guarded [(!l.all obsSignal, .badParam), (l.any (fun n => decide (0x59 < n)) && !obsFull s, .denied)] s
        (let t := s.setMgmt fun m => { m with obsSel := Vector.ofFn fun (k : Fin 8) => le16 q.payload (2 * k.val) }
         done t (obsBytes t)) }

/-- OBS_SELECT. -/
def execObsSelect (q : Req) (s : State) : Host.Outcome State Fault Refusal := .next (serve cmdObsSelect q s)

end Sys2Proof.Machine
end

