-- ==== Sys2Proof/Machine/MbxCamera.lean ====
section
/-! DEFINITION. Mboxis commands of the camera ports (17 Table 17.7; 02 R34, R46 to R49, R61 to R63; 03 R82). -/

namespace Sys2Proof.Machine

/-! ### What the commands share -/

/-- The instance that a number names; a number without an instance is out of range (17 R393). -/
def withIx (n k : Nat) (s : State) (f : Fin n → Answer) : Answer :=
  match idx? n k with
  | some i => f i
  | none => refuse .badParam s

/-- Does another session than the issuer hold one of the resources (17 R400)? -/
def foreign (s : State) (session : Nat) (l : List Nat) : Bool := l.any fun r => !s.owns session r

/-- The state byte of R405. -/
def stateByte (u : UnitState) (pending : Bool) : Nat := if pending then 4 else u.code

/-- The answer of an enable or disable: one state byte per resource; PENDING when one is ENABLE_PENDING (17 R405). -/
def enableAnswer (l : List Nat) (s : State) : Answer :=
  { status := if l.contains 4 then .pending else .ok, payload := l.flatMap (bytesOf 1), state := s }

/-- The resources named by a 16-bit mask, for claims of session 0 and notices. -/
def maskWritten (n : Nat) (res : Nat → Nat) (p : List Byte) : List Written :=
  (maskList n (le16 p 0)).map fun k => { resource := res k, payload := [some 1] }

/-- The instances of a 12-bit mask. -/
def mask12 (m : Nat) : List (Fin 12) := (List.finRange 12).filter fun k => m.testBit k.val

/-- A 12-bit mask of the instances for which a test holds. -/
def maskOf (f : Fin 12 → Bool) : Nat := ((List.finRange 12).map fun k => flagAt (f k) k.val).sum

/-- The part of an image that a loading command carries (17 R408). -/
structure ImagePart where
  start : Bool
  last : Bool
  off : Nat
  total : Nat
  data : List Byte

/-- The part in a payload: flag byte and bits; OFFSET and TOTAL stand at byte 4. -/
def imagePart (flags start last : Nat) (p : List Byte) : ImagePart :=
  { start := (byteAt p flags).testBit start, last := (byteAt p flags).testBit last
    off := le32 p 4, total := le32 p 8, data := p.drop 12 }

/-- The byte behind the part. -/
def ImagePart.stop (t : ImagePart) : Nat := t.off + t.data.length

/-- Is the part refused: wrong TOTAL, not at the previous part's end, too long, or LAST before the image's end (17 R408;
04 R101)? -/
def ImagePart.bad (t : ImagePart) (cur : Option LoadState) (size : Nat) : Bool :=
  t.total != size || decide (size < t.stop) || (t.last && t.stop != size)
    || (if t.start then t.off != 0 else match cur with
        | some l => l.bytes.length != t.off
        | none => true)

/-- The transfer with the part taken. -/
def ImagePart.taken (t : ImagePart) (kind bank : Nat) (cur : Option LoadState) : LoadState :=
  { kind := kind, bank := bank, total := t.total
    bytes := if t.start then t.data else (match cur with | some l => l.bytes | none => []) ++ t.data }

/-- One part of an image in use, as QUERY returns it (17 R392): `head` is given START and LAST. -/
def queryPart (head : Bool → Bool → List Byte) (size : Nat) (read : Nat → Nat → List Byte) (q : Req) (s : State) : Answer :=
  let off := le32 q.payload 4
  if size ≤ off then refuse .badParam s
  else
    let n := min (size - off) (maxPayload q.session - 12)
    done s (head (off == 0) (off + n == size) ++ bytesOf 4 off ++ bytesOf 4 size ++ read off n)

/-! ### CAM_PORT_CONFIG (02 R34) -/

/-- The settings in a request. -/
def portConfigOf (p : List Byte) : PortConfig :=
  { cxp := byteAt p 1 == 1, maxMode := byteAt p 2, lanes := byteAt p 3, precode := byteAt p 4, split := byteAt p 5 == 1
    streamMask := byteAt p 6, cxpLatency := byteAt p 7
    cxpStreamId := Vector.ofFn fun (k : Fin 4) => byteAt p (8 + k.val)
    chMask := Vector.ofFn fun (k : Fin 4) => byteAt p (12 + k.val)
    startCol := Vector.ofFn fun (k : Fin 4) => le16 p (16 + 2 * k.val) }

/-- Ranges of CAM_PORT_CONFIG: the maximum mode is one of the protocol (02 Table 2.9); 4 lanes only on an even CoaXPress
port. -/
def portConfigOk (p : List Byte) : Bool :=
  let n := byteAt p 3
  decide (byteAt p 0 < 12)
    && ((byteAt p 1 == 1 && decide (4 ≤ byteAt p 2 ∧ byteAt p 2 ≤ 10))
        || (byteAt p 1 == 2 && decide (1 ≤ byteAt p 2 ∧ byteAt p 2 ≤ 3)))
    && (n == 1 || n == 2 || (n == 4 && byteAt p 0 % 2 == 0 && byteAt p 1 == 1))
    && decide (byteAt p 4 ≤ 2) && decide (byteAt p 5 ≤ 1) && decide (byteAt p 6 < 16) && decide (byteAt p 7 ≤ 7)

/-- The request that reproduces a port's settings; PROTOCOL 0 before any (02 R34; 17 R392). -/
def portConfigBytes (n : Nat) : Option PortConfig → List Byte
  | none => bytesOf 1 n ++ zeros 23
  | some c => bytesOf 1 n ++ bytesOf 1 (if c.cxp then 1 else 2) ++ bytesOf 1 c.maxMode ++ bytesOf 1 c.lanes ++ bytesOf 1 c.precode
      ++ bytesOf 1 (flagAt c.split 0) ++ bytesOf 1 c.streamMask ++ bytesOf 1 c.cxpLatency
      ++ c.cxpStreamId.toList.flatMap (bytesOf 1) ++ c.chMask.toList.flatMap (bytesOf 1) ++ c.startCol.toList.flatMap (bytesOf 2)

/-- Settings that keep protocol and lanes: the link keeps running. -/
def sameLink (old : Option PortConfig) (c : PortConfig) : Bool :=
  match old with
  | some o => o.cxp == c.cxp && o.lanes == c.lanes
  | none => true

/-- The odd port beside port `p` after a change of the pair: it goes down beside a four-connection camera, and an enabled one
that the pair no longer keeps idle starts bring-up (01 R12). -/
def pairChange (p : Fin 12) (s : State) : State :=
  let o : Fin 12 := ⟨p.val / 2 * 2 + 1, by omega⟩
  if p = o then s
  else if pairTaken s p then (endBolts o s).setPort o (portClear .down)
  else if (s.cam.port[o]).unit = .enabled ∧ (s.cam.port[o]).link = .down then portStart o s
  else s

/-- The settings of a port change; a change of protocol, and of the lane count, returns the port to the first bring-up step
(02 R34). -/
def portReconfigure (p : Fin 12) (c : PortConfig) (s : State) : State :=
  let set := fun (s : State) => s.setPort p fun x =>
    { x with config := some c, applyLatency := if c.cxp then c.cxpLatency else x.applyLatency }
  if sameLink (s.cam.port[p]).config c then pairChange p (set s)
  else
    let s := pairChange p (set (portDown p (endBolts p s)))
    if (s.cam.port[p]).unit = .enabled then portStart p s else s

/-- CAM_PORT_CONFIG (17 Table 17.7). -/
def cmdCamPortConfig : Cmd :=
  { opcode := 0x0200, len := lenIs 24, query := true, written := resourceSetting resPort
    body := fun q s => withIx 12 (byteAt q.payload 0) s fun p =>
      if q.query then
        guarded [(foreign s q.session [resPort p.val], .notOwner)] s (done s (portConfigBytes p.val (s.cam.port[p]).config))
      else guarded [(!portConfigOk q.payload, .badParam), (foreign s q.session [resPort p.val], .notOwner)] s
        (done (portReconfigure p (portConfigOf q.payload) s)) }

/-- CAM_PORT_CONFIG. -/
def execCamPortConfig (q : Req) (s : State) : Host.Outcome State Fault Refusal := .next (serve cmdCamPortConfig q s)

/-! ### CAM_PORT_ENABLE, CAM_PORT_DISABLE (02 R34, R46, R49; 17 R405) -/

/-- ENABLE of a port: bring-up starts, or the enable waits for the drain. -/
def portEnable (p : Fin 12) (s : State) : State :=
  match (s.cam.port[p]).unit with
  | .disabled => portStart p (s.setPort p fun c => { c with unit := .enabled })
  | .draining => s.setPort p fun c => { c with enablePending := true }
  | _ => s

/-- DISABLE of a port: in RUN with a bolt open it drains to the end of the bolt, else it ends at once. -/
def portDisable (p : Fin 12) (s : State) : State :=
  match (s.cam.port[p]).unit with
  | .enabled =>
    let s := s.setPort p fun c => { c with unit := .draining }
    if portRuns s p && (s.pipe[p]).bolt.isSome then s else portDrainEnd p s
  | .draining => s.setPort p fun c => { c with enablePending := false }
  | _ => s

/-- State byte of a port. -/
def portByte (s : State) (p : Fin 12) : Nat := stateByte (s.cam.port[p]).unit (s.cam.port[p]).enablePending

/-- Is a state byte one that QUERY of an enable names: ENABLING, ENABLED or ENABLE_PENDING (17 R392)? -/
def enableByte (b : Nat) : Bool := b == 1 || b == 2 || b == 4

/-- CAM_PORT_ENABLE. -/
def cmdCamPortEnable : Cmd :=
  { opcode := 0x0201, len := lenIs 2, query := true, written := maskWritten 12 resPort
    body := fun q s =>
      let m := le16 q.payload 0
      let l := mask12 m
      if q.query then done s (bytesOf 2 (maskOf fun p => enableByte (portByte s p)))
      else guarded [(decide (4096 ≤ m), .badParam), (foreign s q.session (l.map fun p => resPort p.val), .notOwner),
          (l.any (fun p => (s.cam.port[p]).config.isNone), .wrongState)] s
        (let t := forEach l portEnable s
         enableAnswer (l.map (portByte t)) t) }

/-- CAM_PORT_ENABLE. -/
def execCamPortEnable (q : Req) (s : State) : Host.Outcome State Fault Refusal := .next (serve cmdCamPortEnable q s)

/-- CAM_PORT_DISABLE. -/
def cmdCamPortDisable : Cmd :=
  { opcode := 0x0202, len := lenIs 2, query := true, written := maskWritten 12 resPort
    body := fun q s =>
      let m := le16 q.payload 0
      let l := mask12 m
      if q.query then done s (bytesOf 2 (maskOf fun p => !enableByte (portByte s p)))
      else guarded [(decide (4096 ≤ m), .badParam), (foreign s q.session (l.map fun p => resPort p.val), .notOwner)] s
        (let t := forEach l portDisable s
         enableAnswer (l.map (portByte t)) t) }

/-- CAM_PORT_DISABLE. -/
def execCamPortDisable (q : Req) (s : State) : Host.Outcome State Fault Refusal := .next (serve cmdCamPortDisable q s)

/-! ### CAM_LINK_STATUS (02 R61 to R63) -/

/-- LINK_STATE codes (02 Table 2.9). -/
def LinkState.code : LinkState → Nat
  | .down => 0 | .search => 1 | .hello => 2 | .negotiate => 3 | .step10g => 4 | .stepPam4 => 5 | .cxpDiscovery => 6
  | .cxpConfig => 7 | .run => 8 | .runDegraded => 9

/-- INGRESS_NS of modes whose latency the spec does not state. -/
def freeIngress : Nat := 93

/-- INGRESS_NS (02 Table 2.5). -/
def ingressNs (s : State) (p : Fin 12) : Nat :=
  if !portRuns s p then 0
  else match (s.cam.port[p]).mode with
    | 3 => 38
    | 2 => 64
    | 10 => 96
    | m => Config.freeNat freeIngress m % 65536

/-- LANES_UP: lanes or connections in RUN (02 Table 2.9). -/
def lanesUp (s : State) (p : Fin 12) : Nat := (lanesInRun s p).length

/-- LINK_STATE: during Phirvo Link bring-up the state of the least advanced lane of the port (02 Table 2.9; DESIGN CHOICE). -/
def linkStateCode (s : State) (p : Fin 12) : Nat :=
  let k := (s.cam.port[p]).link
  if k = .search then minLen ((portLanes s p).map fun l => (s.cam.lane[l]).state.code) else k.code

/-- PORT_STATE (02 Table 2.9). -/
def portStateWord (s : State) (p : Fin 12) : Nat :=
  let c := s.cam.port[p]
  let proto := match c.config with | none => 0 | some k => if k.cxp then 1 else 2
  linkStateCode s p + proto * 16 + c.mode * 64 + lanesUp s p * 1024 + flagAt c.precode 13 + flagAt c.degraded 14
    + flagAt c.rateLimited 15 + flagAt c.paired 16 + c.streamsActive * 131072 + c.applyLatency % 8 * 2097152

/-- Is a mode one whose receiver has an equaliser figure of merit (02 Table 2.10)? -/
def equalised (mode : Nat) : Bool := mode == 2 || mode == 3 || mode == 9 || mode == 10

/-- LANE_STATE of lane `k` of a port; `e` is the port that the lane serves (02 Table 2.10). -/
def laneStateWord (s : State) (e p : Fin 12) (k : Nat) : Nat :=
  let l := s.cam.lane[laneIx p k]
  let primary := e == p && l.state == .run && (s.cam.port[e]).primary == k
  l.state.code + flagAt l.lock 4 + flagAt l.signal 5 + flagAt primary 6 + (if equalised l.mode then l.eqFom else 0) * 256
    + l.fill * 65536

/-- The port status record of a port (02 Table 2.8); the odd port of a pair copies the even port's state. -/
def portRecord (s : State) (p : Fin 12) : List Byte :=
  let e := laneOwner s (laneIx p 0)
  let c := s.cam.port[p]
  let lane := fun (f : Lane → List Byte) => f s.cam.lane[laneIx p 0] ++ f s.cam.lane[laneIx p 1]
  bytesOf 4 (portStateWord s e) ++ bytesOf 2 (ingressNs s e) ++ bytesOf 2 c.linkChanges
    ++ bytesOf 4 (laneStateWord s e p 0) ++ bytesOf 4 (laneStateWord s e p 1) ++ lane (fun l => bytesOf 4 l.crcErr)
    ++ lane (fun l => bytesOf 4 l.badHeader) ++ lane (fun l => bytesOf 2 l.idleDel ++ bytesOf 2 l.idleIns)
    ++ lane (fun l => bytesOf 2 l.elasticErr) ++ c.crcErrS.toList.flatMap (bytesOf 4) ++ bytesOf 4 c.unmapped

/-- The last event packet behind a CoaXPress record (17 Table 17.7). -/
def eventBytes (s : State) (p : Fin 12) : List Byte :=
  let e := laneOwner s (laneIx p 0)
  if isCxp s e then bytesOf 2 (s.cam.port[e]).cxpLastEvent.length ++ (s.cam.port[e]).cxpLastEvent else []

/-- CLEAR of the counters of a port and its lanes (02 R61). -/
def portCountersClear (p : Fin 12) (s : State) : State :=
  let lane := fun (l : Lane) => { l with crcErr := 0, badHeader := 0, idleDel := 0, idleIns := 0, elasticErr := 0 }
  ((s.setPort p fun c => { c with linkChanges := 0, crcErrS := Vector.replicate 4 0, unmapped := 0 }).setLane
    (laneIx p 0) lane).setLane (laneIx p 1) lane

/-- CAM_LINK_STATUS (17 Table 17.7). -/
def cmdCamLinkStatus : Cmd :=
  { opcode := 0x0203, len := lenIs 4
    body := fun q s =>
      let m := le16 q.payload 0
      let l := mask12 m
      let ev := byteAt q.payload 2 == 1
      guarded [(decide (4096 ≤ m) || decide (1 < byteAt q.payload 2) || !zeroAt q.payload 3 1, .badParam),
          (foreign s q.session (l.map fun p => resPort p.val), .notOwner)] s
        (done (if q.clear then forEach l portCountersClear s else s)
          (l.flatMap fun p => portRecord s p ++ if ev then eventBytes s p else [])) }

/-- CAM_LINK_STATUS. -/
def execCamLinkStatus (q : Req) (s : State) : Host.Outcome State Fault Refusal := .next (serve cmdCamLinkStatus q s)

/-! ### CAM_REG_ACCESS -/

/-- Length of a CAM_REG_ACCESS request. -/
def regAccessLen (p : List Byte) : Bool :=
  p.length == 8 + if byteAt p 1 == 1 then 4 * byteAt p 2 else 0

/-- The access goes to the camera: REG_READ (four bytes of address, one of count: DESIGN CHOICE) or REG_WRITE, or CoaXPress
control commands (02 Tables 2.3, 2.6). -/
def regSend (p : Fin 12) (pl : List Byte) (s : State) : State :=
  let addr := le32 pl 4
  let n := byteAt pl 2
  if isCxp s p then
    if byteAt pl 1 = 0 then cxpSend p (fun tag => .cxpRead p.val tag addr n) s
    else forEach (List.range n) (fun k => cxpSend p fun tag => .cxpWrite p.val tag (addr + 4 * k) (le32 pl (8 + 4 * k))) s
  else
    let lane := (s.cam.port[p]).primary
    if byteAt pl 1 = 0 then sendCtrl p lane 0x07 (msgBytes 4 addr ++ msgBytes 1 n) s
    else sendCtrl p lane 0x08 (msgBytes 4 addr ++ (pl.drop 8).map BitVec.toNat) s

/-- CAM_REG_ACCESS: the answer comes from the camera, or after 100 ms as TIMEOUT (17 Table 17.7). -/
def cmdCamRegAccess : Cmd :=
  { opcode := 0x0204, len := regAccessLen
    body := fun q s => withIx 12 (byteAt q.payload 0) s fun p =>
      let n := byteAt q.payload 2
      guarded [(decide (1 < byteAt q.payload 1) || decide (n < 1) || decide (16 < n) || !zeroAt q.payload 3 1, .badParam),
          (foreign s q.session [resPort p.val], .notOwner), (!portRuns s p, .wrongState),
          ((s.cam.port[p]).regAccess.isSome, .busy)] s
        { status := .ok, payload := [], later := some (.port p)
          state := (regSend p q.payload s).setPort p fun x => { x with regAccess := some { req := q, since := s.now } } } }

/-- CAM_REG_ACCESS. -/
def execCamRegAccess (q : Req) (s : State) : Host.Outcome State Fault Refusal := .next (serve cmdCamRegAccess q s)

/-- 100 ms without an answer of the camera end a register access with TIMEOUT. -/
def regTimeout (p : Fin 12) (s : State) : State :=
  match (s.cam.port[p]).regAccess with
  | some a => if a.since + 100000000 ≤ s.now then regDone p .timeout [] s else s
  | none => s

/-! ### CAM_EXPOSURE_SET (03 R82) -/

/-- CAM_EXPOSURE_SET: the settings wait for the next camera frame boundary; the tag they replace is returned. -/
def cmdCamExposureSet : Cmd :=
  { opcode := 0x0205, len := fun p => 8 ≤ p.length && p.length == 8 + le16 p 4, written := resourceSetting resPort
    body := fun q s => withIx 12 (byteAt q.payload 0) s fun p =>
      let pl := q.payload
      let body := (pl.drop 8).map BitVec.toNat
      guarded [(decide (16 ≤ byteAt pl 1) || le16 pl 2 == 0 || decide (80 < le16 pl 4) || !zeroAt pl 6 2
            || (isCxp s p && le16 pl 4 % 8 != 0), .badParam),
          (foreign s q.session [resPort p.val], .notOwner)] s
        (done (s.setPort p fun c => { c with pendingSettings := some { tag := le16 pl 2, streamMask := byteAt pl 1, body := body } })
          (bytesOf 2 (((s.cam.port[p]).pendingSettings.map (·.tag)).getD 0) ++ zeros 2)) }

/-- CAM_EXPOSURE_SET. -/
def execCamExposureSet (q : Req) (s : State) : Host.Outcome State Fault Refusal := .next (serve cmdCamExposureSet q s)

end Sys2Proof.Machine
end

