-- ==== Sys2Proof/Machine/MbxPipe.lean ====
section
/-! DEFINITION. Mboxis commands of the pipes, Tare and binning (17 Tables 17.7, 17.8; 03 R73 to R79, R491, R492; 04 R101,
R102, R104; 05 R113 to R128; 06 R131, R136, R146). -/

namespace Sys2Proof.Machine

/-! ### PIPE_CONFIG (03 R77, R491; 07 R149) -/

/-- Offsets of the shadow images of PIPE_CONFIG, in order (17 Table 17.7). -/
def configOffsets : List Nat :=
  [0x100, 0x104, 0x108, 0x10C, 0x110, 0x114, 0x118, 0x140, 0x144, 0x148, 0x14C, 0x150, 0x154, 0x158, 0x15C, 0x160, 0x164]

/-- The shadow set in a request. -/
def configSet (p : List Byte) : ShadowSet :=
  (configOffsets.mapIdx fun i off => (i, off)).foldl (fun h x => h.withWord x.2 (w32 (le32 p (8 + 4 * x.1)))) {}

/-- Reserved bits of the images are zero (17 R393). -/
def configReserved (p : List Byte) : Bool :=
  (configOffsets.mapIdx fun i off => (i, off)).all fun x =>
    w32 (le32 p (8 + 4 * x.1)) &&& ~~~((shadowMask x.2).getD 0) == 0#32

/-- Ranges of PIPE_CONFIG: the depths are those of Table 0.1; the images are checked against Table 3.6. -/
def pipeConfigOk (p : List Byte) : Bool :=
  let h := configSet p
  decide (1 ≤ byteAt p 1 ∧ byteAt p 1 ≤ 8) && [8, 10, 12, 14, 16].contains (byteAt p 2) && decide (byteAt p 3 ≤ 7)
    && decide (byteAt p 4 ≤ 3) && decide (byteAt p 5 ≤ 1) && zeroAt p 6 2 && configReserved p
    && shadowInRange h (byteAt p 1) (byteAt p 2) && h.morphSize != 0 && (List.range 4).all fun k => decide (h.splitBits k ≤ 16)

/-- Does a request change channels, depth, position channel or time base? -/
def pipeConfigMoves (x : Pipe) (p : List Byte) : Bool :=
  x.channels != byteAt p 1 || x.depth != byteAt p 2 || x.posCh.val != byteAt p 3 || x.tb.val != byteAt p 4

/-- Would a member pipe differ from the other members in position channel or time base (07 R149)? -/
def memberDiffers (s : State) (p : Fin 12) (posCh tb : Nat) : Bool :=
  isMember s p && (List.finRange 12).any fun m =>
    m != p && isMember s m && ((s.pipe[m]).posCh.val != posCh || (s.pipe[m]).tb.val != tb)

/-- The request that reproduces a pipe's settings: the set in effect, with ARM so that it takes effect again (17 R392). -/
def pipeConfigBytes (p : Nat) (x : Pipe) : List Byte :=
  [p, x.channels, x.depth, x.posCh.val, x.tb.val, 1, 0, 0].flatMap (bytesOf 1)
    ++ configOffsets.flatMap fun off => bytesOf 4 (x.active.word off).toNat

/-- The accepted settings are written, through the shadow set, ARM included (03 R77). -/
def pipeConfigure (p : Fin 12) (pl : List Byte) (s : State) : State :=
  let arm := byteAt pl 5 == 1
  let s := s.setPipe p fun x =>
    { x with channels := byteAt pl 1, depth := byteAt pl 2, posCh := idxMod 7 (byteAt pl 3), tb := idxMod 3 (byteAt pl 4)
             staged := configSet pl, arm := arm }
  if arm then chainTake p (chainNeed s.pipe[p] (configSet pl)) s else s

/-- PIPE_CONFIG (17 Table 17.7). -/
def cmdPipeConfig : Cmd :=
  { opcode := 0x0300, len := lenIs 76, query := true, written := resourceSetting resPipe
    body := fun q s => withIx 12 (byteAt q.payload 0) s fun p =>
      let pl := q.payload
      let x := s.pipe[p]
      let arm := byteAt pl 5 == 1
      let need := chainNeed { x with channels := byteAt pl 1 } (configSet pl)
      let mine := (foreign s q.session [resPipe p.val], Status.notOwner)
      if q.query then guarded [mine] s (done s (pipeConfigBytes p.val x))
      else guarded [(!pipeConfigOk pl, .badParam), mine, (x.arm, .busy),
          (pipeConfigMoves x pl && x.unit != .disabled, .wrongState), (memberDiffers s p (byteAt pl 3) (byteAt pl 4), .badParam),
          (arm && !shadowOk s p (configSet pl) (byteAt pl 1) (byteAt pl 2), .badParam),
          (arm && !chainRoom s p need, .noResource)] s
        (done (pipeConfigure p pl s)) }

/-- PIPE_CONFIG. -/
def execPipeConfig (q : Req) (s : State) : Host.Outcome State Fault Refusal := .next (serve cmdPipeConfig q s)

/-! ### PIPE_TABLE_LOAD (03 R79; 04 R101, R102; 05 R122, R125) -/

/-- Length of a table image (04 Table 4.3). -/
def tableSize (kind : Nat) : Nat := if kind = 2 then 32768 else 131072

/-- Where a table image stands, in its first replica (04 Table 4.3). -/
def tableBase (p kind bank : Nat) : Nat :=
  match kind with
  | 0 => bankBase p bank
  | 1 => bankBase p bank + 0x20000
  | _ => lutAddr p bank 0 0

/-- Bytes of a table image, from its start on. -/
def tableBytes (s : State) (p kind bank off n : Nat) : List Byte := memReadN s.mem (tableBase p kind bank + off) n

/-- Image bytes are written: a LUT into all four replicas (04 R97). -/
def tableStore (p kind bank off : Nat) (bs : List Byte) (s : State) : State :=
  if kind = 2 then forEach (List.range 4) (fun r t => t.store (lutAddr p bank r 0 + off) bs) s
  else s.store (tableBase p kind bank + off) bs

/-- BANK_LOADED of a table's bank. -/
def setLoaded (kind bank : Nat) (v : Bool) (x : Pipe) : Pipe :=
  let put := fun (l : Vector Bool 2) => l.mapIdx fun k o => if k = bank then v else o
  if kind = 2 then { x with loadedLut := put x.loadedLut } else { x with loadedCorr := put x.loadedCorr }

/-- Is a bank in use, or selected by an armed set (03 R79)? -/
def bankTaken (x : Pipe) (sel : ShadowSet → Nat) (bank : Nat) : Bool :=
  sel x.active == bank || (x.arm && sel x.staged == bank)

/-- The bank select of a table kind. -/
def bankSel (kind : Nat) : ShadowSet → Nat := if kind = 2 then ShadowSet.lutBank else ShadowSet.corrBank

/-- A load of the inactive correction bank: Tare's rollback is gone, and a run whose window is open will find a conflict
(05 R122, R125). -/
def tareLoaded (p : Fin 12) (s : State) : State :=
  s.setTare p fun t =>
    let conflict := t.run.map fun r => { r with loadConflict := true }
    { t with rollbackValid := false, run := if t.state = .waitStart then t.run else conflict }

/-- An accepted part is written (17 R408; 03 R79). -/
def tableTake (p : Fin 12) (kind bank : Nat) (cur : Option LoadState) (t : ImagePart) (s : State) : State :=
  let s := if t.start then (tableStore p.val kind bank 0 (zeros (tableSize kind)) s).setPipe p (setLoaded kind bank false) else s
  let s := if kind = 2 then s else tareLoaded p s
  let s := tableStore p.val kind bank t.off t.data s
  s.setPipe p fun x =>
    let others := x.loads.filter fun l => l.kind != kind
    let x := { x with loads := if t.last then others else others ++ [t.taken kind bank cur] }
    if t.last then setLoaded kind bank true x else x

/-- A load writes the part of its image that the request carries. -/
def partWritten (res : List Byte → Nat) (sel : Nat) (p : List Byte) : List Written :=
  [{ resource := res p, selector := p.take sel ++ slice p 4 4, payload := (p.drop 12).map some }]

/-- PIPE_TABLE_LOAD (17 Table 17.7). -/
def cmdPipeTableLoad : Cmd :=
  { opcode := 0x0301, len := fun p => 12 ≤ p.length, query := true, loads := .part 3 0 1
    written := partWritten (fun p => resPipe (byteAt p 0)) 3
    body := fun q s => withIx 12 (byteAt q.payload 0) s fun p =>
      let kind := byteAt q.payload 1
      let bank := byteAt q.payload 2
      let x := s.pipe[p]
      let t := imagePart 3 0 1 q.payload
      let cur := x.loads.find? fun l => l.kind == kind && l.bank == bank
      let mine := (foreign s q.session [resPipe p.val], Status.notOwner)
      if q.query then guarded [(decide (2 < kind), .badParam), mine] s
        (queryPart (fun st la => [p.val, kind, 1, flagAt st 0 + flagAt la 1].flatMap (bytesOf 1)) (tableSize kind)
          (tableBytes s p.val kind (bankSel kind x.active)) q s)
      else guarded [(decide (2 < kind) || decide (1 < bank) || decide (3 < byteAt q.payload 3), .badParam), mine,
          (t.bad cur (tableSize kind), .badParam), (bankTaken x (bankSel kind) bank, .wrongState),
          (kind != 2 && x.tare.state == .write, .busy)] s
        (done (tableTake p kind bank cur t s)) }

/-- PIPE_TABLE_LOAD. -/
def execPipeTableLoad (q : Req) (s : State) : Host.Outcome State Fault Refusal := .next (serve cmdPipeTableLoad q s)

/-! ### PIPE_ENABLE, PIPE_DISABLE (03 R492; 05 R116; 17 R405) -/

/-- ENABLE of a pipe. -/
def pipeEnable (p : Fin 12) (s : State) : State :=
  match (s.pipe[p]).unit with
  | .disabled => pipeOn p s
  | .draining => s.setPipe p fun x => { x with enablePending := true }
  | _ => s

/-- DISABLE of a pipe: a Tare run ends whatever the pipe's state, and the drain ends at once when nothing is on its way. -/
def pipeDisable (p : Fin 12) (s : State) : State :=
  let s := abortTare p s
  match (s.pipe[p]).unit with
  | .enabled =>
    let s := s.setPipe p fun x => { x with unit := .draining }
    if pipeDrained s p then pipeOff p s else s
  | .draining => s.setPipe p fun x => { x with enablePending := false }
  | _ => s

/-- State byte of a pipe. -/
def pipeByte (s : State) (p : Fin 12) : Nat := stateByte (s.pipe[p]).unit (s.pipe[p]).enablePending

/-- PIPE_ENABLE. -/
def cmdPipeEnable : Cmd :=
  { opcode := 0x0302, len := lenIs 2, query := true, written := maskWritten 12 resPipe
    body := fun q s =>
      let m := le16 q.payload 0
      let l := mask12 m
      if q.query then done s (bytesOf 2 (maskOf fun p => enableByte (pipeByte s p)))
      else guarded [(decide (4096 ≤ m), .badParam), (foreign s q.session (l.map fun p => resPipe p.val), .notOwner)] s
        (let t := forEach l pipeEnable s
         enableAnswer (l.map (pipeByte t)) t) }

/-- PIPE_ENABLE. -/
def execPipeEnable (q : Req) (s : State) : Host.Outcome State Fault Refusal := .next (serve cmdPipeEnable q s)

/-- PIPE_DISABLE. -/
def cmdPipeDisable : Cmd :=
  { opcode := 0x0303, len := lenIs 2, query := true, written := maskWritten 12 resPipe
    body := fun q s =>
      let m := le16 q.payload 0
      let l := mask12 m
      if q.query then done s (bytesOf 2 (maskOf fun p => !enableByte (pipeByte s p)))
      else guarded [(decide (4096 ≤ m), .badParam), (foreign s q.session (l.map fun p => resPipe p.val), .notOwner)] s
        (let t := forEach l pipeDisable s
         enableAnswer (l.map (pipeByte t)) t) }

/-- PIPE_DISABLE. -/
def execPipeDisable (q : Req) (s : State) : Host.Outcome State Fault Refusal := .next (serve cmdPipeDisable q s)

/-! ### PIPE_STATS_READ (17 R410; 04 R104; 06 R147) -/

/-- PART 0 of PIPE_STATS_READ: 176 bytes. -/
def statsPart0 (p : Nat) (x : Pipe) : List Byte :=
  statsHeader p x.statsLast ++ counterBytes x.counters ++ binCounterBytes x.bin
    ++ bytesOf 4 x.shortLines ++ bytesOf 4 x.longLines ++ bytesOf 2 x.shortBolts ++ bytesOf 2 x.continuedBolts
    ++ bytesOf 4 x.orphanEnds

/-- CLEAR with PART 0. -/
def statsClear (x : Pipe) : Pipe :=
  { x with statsLast := {}, counters := {}, shortLines := 0, longLines := 0, shortBolts := 0, continuedBolts := 0, orphanEnds := 0
           bin := { x.bin with clampCount := 0, stepRestarts := 0, globalRestarts := 0, coarseSamples := 0, outputSamples := 0 } }

/-- PIPE_STATS_READ. -/
def cmdPipeStatsRead : Cmd :=
  { opcode := 0x0304, len := lenIs 2
    body := fun q s => withIx 12 (byteAt q.payload 0) s fun p =>
      let k := byteAt q.payload 1
      let x := s.pipe[p]
      let mine := (foreign s q.session [resPipe p.val], Status.notOwner)
      if k = 0 then guarded [mine] s
        (done (s.setPipe p fun x => let y := { x with statsCopy := x.statsLast }; if q.clear then statsClear y else y)
          (statsPart0 p.val x))
      else match (statsChannels x.statsCopy)[k - 1]? with
        | some c => guarded [mine] s (done s (chanBlock x.statsCopy.chans[c]))
        | none => refuse .badParam s }

/-- PIPE_STATS_READ. -/
def execPipeStatsRead (q : Req) (s : State) : Host.Outcome State Fault Refusal := .next (serve cmdPipeStatsRead q s)

/-! ### Tare (05 R113 to R128, Table 5.3) -/

/-- The parameters in a request (17 Table 17.8). -/
def tareParamsOf (p : List Byte) : TareParams :=
  { slotMask := byteAt p 1, keep := byteAt p 2 == 1, checkEnable := byteAt p 3, window := le32 p 4, minCount := le32 p 8
    maxBolts := le16 p 12, gainMin := le16 p 14, gainMax := le16 p 16, stepLimit := le16 p 18, darkStepLimit := le16 p 20
    smoothLimit := le16 p 22, clampLimit := le16 p 24, driftLimit := le16 p 26, darkDriftLimit := le16 p 28
    pedestal := le16 p 30, darkEvery := le16 p 32, darkDelay := byteAt p 34, darkMax := le16 p 36, interval := le32 p 40
    target := Vector.ofFn fun (k : Fin 8) => le16 p (44 + 2 * k.val) }

/-- Is a number within a range? -/
def within (lo hi n : Nat) : Bool := decide (lo ≤ n ∧ n ≤ hi)

/-- The ranges of Table 5.3 and the two checks of R128. -/
def TareParams.ok (t : TareParams) : Bool :=
  within 1 0xFF t.slotMask && within 256 65536 t.window && within 1 65535 t.maxBolts && within 64 t.window t.minCount
    && t.target.toList.all (within 1 65535) && within 1 0xFFFF t.gainMin && within t.gainMin 0xFFFF t.gainMax
    && within 10 5000 t.stepLimit && within 16 32767 t.darkStepLimit && within 1 16384 t.smoothLimit
    && within 0 500 t.clampLimit && within 10 2500 t.driftLimit && within 1 4096 t.darkDriftLimit
    && t.checkEnable &&& 0x16 == t.checkEnable && within 0 4095 t.pedestal && within 2 65535 t.darkEvery
    && within 0 15 t.darkDelay && within 256 65535 t.darkMax && within 0 86400 t.interval

/-- The request that reproduces the parameters. -/
def tareParamBytes (p : Nat) (t : TareParams) : List Byte :=
  [p, t.slotMask, flagAt t.keep 0, t.checkEnable].flatMap (bytesOf 1) ++ bytesOf 4 t.window ++ bytesOf 4 t.minCount
    ++ [t.maxBolts, t.gainMin, t.gainMax, t.stepLimit, t.darkStepLimit, t.smoothLimit, t.clampLimit, t.driftLimit,
        t.darkDriftLimit, t.pedestal, t.darkEvery].flatMap (bytesOf 2)
    ++ bytesOf 1 t.darkDelay ++ zeros 1 ++ bytesOf 2 t.darkMax ++ zeros 2 ++ bytesOf 4 t.interval
    ++ t.target.toList.flatMap (bytesOf 2)

/-- TARE_CONFIG. -/
def cmdTareConfig : Cmd :=
  { opcode := 0x0400, len := lenIs 60, query := true, written := resourceSetting resPipe
    body := fun q s => withIx 12 (byteAt q.payload 0) s fun p =>
      let pl := q.payload
      let mine := (foreign s q.session [resPipe p.val], Status.notOwner)
      if q.query then guarded [mine] s (done s (tareParamBytes p.val (s.pipe[p]).tare.params))
      else guarded [(!(tareParamsOf pl).ok || decide (1 < byteAt pl 2) || !zeroAt pl 35 1 || !zeroAt pl 38 2, .badParam), mine] s
        (done (s.setTare p fun t => { t with params := tareParamsOf pl })) }

/-- TARE_CONFIG. -/
def execTareConfig (q : Req) (s : State) : Host.Outcome State Fault Refusal := .next (serve cmdTareConfig q s)

/-- Does an enabled trigger generator serve the port (05 R126)? -/
def portTriggered (s : State) (p : Fin 12) : Bool := s.pos.trig.toList.any fun g => g.enable && g.portMask.testBit p.val

/-- TARE_RUN. -/
def cmdTareRun : Cmd :=
  { opcode := 0x0401, len := lenIs 2
    body := fun q s => withIx 12 (byteAt q.payload 0) s fun p =>
      let k := byteAt q.payload 1
      guarded [(!within 1 2 k, .badParam), (foreign s q.session [resPipe p.val], .notOwner),
          ((s.pipe[p]).tare.run.isSome, .busy), (k == 2 && !portTriggered s p, .wrongState),
          (!tareRoom p s, .noResource)] s
        (done (startTare p (k == 2) s)) }

/-- TARE_RUN. -/
def execTareRun (q : Req) (s : State) : Host.Outcome State Fault Refusal := .next (serve cmdTareRun q s)

/-- The 256 bytes of TARE_STATUS: Table 5.4 with the present TARE_LAST_TIME. -/
def tareStatusBytes (t : TareUnit) : List Byte :=
  let now := [w32 t.lastTime.ns, lo64 t.lastTime.seconds, w32 (t.lastTime.seconds / 2 ^ 32 % 65536)]
  fit 256 (wordsBytes (tareWords { t with snap := now }))

/-- TARE_STATUS. -/
def cmdTareStatus : Cmd :=
  { opcode := 0x0402, len := lenIs 1
    body := fun q s => withIx 12 (byteAt q.payload 0) s fun p =>
      guarded [(foreign s q.session [resPipe p.val], .notOwner)] s (done s (tareStatusBytes (s.pipe[p]).tare)) }

/-- TARE_STATUS. -/
def execTareStatus (q : Req) (s : State) : Host.Outcome State Fault Refusal := .next (serve cmdTareStatus q s)

/-- TARE_ROLLBACK: the pipe returns to the previous bank at its next bolt boundary; a run ends ABORTED (05 R125). -/
def cmdTareRollback : Cmd :=
  { opcode := 0x0403, len := lenIs 1
    body := fun q s => withIx 12 (byteAt q.payload 0) s fun p =>
      guarded [(foreign s q.session [resPipe p.val], .notOwner), (!(s.pipe[p]).tare.rollbackValid, .wrongState)] s
        (done ((abortTare p s).setTare p fun t => { t with rollbackPending := true })) }

/-- TARE_ROLLBACK. -/
def execTareRollback (q : Req) (s : State) : Host.Outcome State Fault Refusal := .next (serve cmdTareRollback q s)

/-! ### Binning (06 R131, R136, R146, Table 6.6) -/

/-- The parameters in a request (17 Table 17.8). -/
def binParamsOf (p : List Byte) : BinParams :=
  { enable := byteAt p 1 == 1, ratio := byteAt p 2, slotMask := byteAt p 3, firEn := byteAt p 4 == 1, speedEn := byteAt p 5 == 1
    speedSlot := byteAt p 6, speedCluster := byteAt p 7, stepThr := le16 p 8, speedX0 := le16 p 10, speedW := le16 p 12
    speedOffset := le32 p 16 }

/-- Ranges of Table 6.6; the window of the speed sum lies on the line (06 R146). -/
def binConfigOk (p : List Byte) (linePixels : Nat) : Bool :=
  let b := binParamsOf p
  decide (byteAt p 1 ≤ 1) && within 1 64 b.ratio && within 1 0xFF b.slotMask && decide (byteAt p 4 ≤ 1) && decide (byteAt p 5 ≤ 1)
    && decide (b.speedSlot ≤ 7) && decide (b.speedCluster ≤ 11) && decide (b.speedX0 ≤ 16383) && within 1 16384 b.speedW
    && zeroAt p 14 2 && decide (b.speedOffset ≤ 0xFE000) && b.speedOffset % 0x2000 == 0
    && decide (b.speedX0 + b.speedW ≤ linePixels)

/-- The request that reproduces the parameters in effect. -/
def binParamBytes (p : Nat) (b : BinParams) : List Byte :=
  [p, flagAt b.enable 0, b.ratio, b.slotMask, flagAt b.firEn 0, flagAt b.speedEn 0, b.speedSlot, b.speedCluster].flatMap (bytesOf 1)
    ++ bytesOf 2 b.stepThr ++ bytesOf 2 b.speedX0 ++ bytesOf 2 b.speedW ++ zeros 2 ++ bytesOf 4 b.speedOffset

/-- Pool blocks that new parameters need: for the larger LINE_PIXELS when another is armed. -/
def binNeed (x : Pipe) (b : BinParams) : Nat :=
  if !b.enable then 0
  else binBlocksFor b x.channels (max x.active.linePixels (if x.arm then x.staged.linePixels else 0))

/-- BIN_CONFIG. -/
def cmdBinConfig : Cmd :=
  { opcode := 0x0500, len := lenIs 20, query := true, written := resourceSetting resPipe
    body := fun q s => withIx 12 (byteAt q.payload 0) s fun p =>
      let x := s.pipe[p]
      let b := binParamsOf q.payload
      let mine := (foreign s q.session [resPipe p.val], Status.notOwner)
      if q.query then guarded [mine] s (done s (binParamBytes p.val x.bin.params))
      else guarded [(!binConfigOk q.payload x.active.linePixels, .badParam), mine,
          (b.firEn && !((x.loadedBin.toList[x.active.binBank]?).getD false), .wrongState),
          (!chainRoom s p (binNeed x b), .noResource)] s
        (done ((chainTake p (binNeed x b) s).setBin p fun c => { c with pending := some b })) }

/-- BIN_CONFIG. -/
def execBinConfig (q : Req) (s : State) : Host.Outcome State Fault Refusal := .next (serve cmdBinConfig q s)

/-- The reserved bytes of a coefficient image are zero (06 Table 6.2). -/
def coefReserved (p : List Byte) : Bool := (List.range 8).all fun k => zeroAt p (4 + 32 * k + 30) 2

/-- BIN_COEF_LOAD. -/
def cmdBinCoefLoad : Cmd :=
  { opcode := 0x0501, len := lenIs 260, query := true, loads := .data 4, written := resourceSetting resPipe
    body := fun q s => withIx 12 (byteAt q.payload 0) s fun p =>
      let x := s.pipe[p]
      let bank := byteAt q.payload 1
      let mine := (foreign s q.session [resPipe p.val], Status.notOwner)
      if q.query then guarded [mine] s
        (done s (bytesOf 1 p.val ++ bytesOf 1 1 ++ zeros 2 ++ fit 256 ((x.coef[x.active.binBank]?).getD [])))
      else guarded [(decide (1 < bank) || !zeroAt q.payload 2 2 || !coefReserved q.payload, .badParam), mine,
          (bankTaken x ShadowSet.binBank bank, .wrongState)] s
        (done (s.setPipe p fun x =>
          { x with coef := x.coef.mapIdx fun k o => if k = bank then q.payload.drop 4 else o
                   loadedBin := x.loadedBin.mapIdx fun k o => if k = bank then true else o })) }

/-- BIN_COEF_LOAD. -/
def execBinCoefLoad (q : Req) (s : State) : Host.Outcome State Fault Refusal := .next (serve cmdBinCoefLoad q s)

end Sys2Proof.Machine
end

