-- ==== Sys2Proof/Machine/MbxStitch.lean ====
section
/-! DEFINITION. Mboxis commands of the stitch group, the segmenter, the Gust rules and the station (17 Tables 17.8, 17.11;
07 R148 to R162, R175, R176; 08 R195 to R197; 13 R307, R324). -/

namespace Sys2Proof.Machine

/-- The member pipes, ascending. -/
def memberList (s : State) : List (Fin 12) := mask12 s.stitch.members

/-- Does another session hold a member pipe (17 R400)? -/
def membersForeign (s : State) (session : Nat) : Bool := foreign s session ((memberList s).map fun p => resPipe p.val)

/-! ### STITCH_CONFIG (07 R148 to R162) -/

/-- A 24-bit coefficient in two's complement. -/
def signed24 (n : Nat) : Int := signed 24 n

/-- The camera block of pipe `p` in a request (17 Table 17.8). -/
def stitchCamOf (pl : List Byte) (p linePixels : Nat) : StitchCam :=
  let b := 16 + 32 * p
  { flip := byteAt pl b == 1, blend := byteAt pl (b + 1) == 1, blendW := le16 pl (b + 2), a0 := le32 pl (b + 4)
    a1 := le32 pl (b + 8), b2 := signed24 (le32 pl (b + 12)), b3 := signed24 (le32 pl (b + 16)), cLo := le32 pl (b + 20)
    cHi := le32 pl (b + 24), delay := le16 pl (b + 28), reserve := byteAt pl (b + 30), linePixels := linePixels }

/-- The reserved bytes of a camera block are zero: those above the coefficients and the last one. -/
def stitchReserved (pl : List Byte) (p : Nat) : Bool :=
  let b := 16 + 32 * p
  zeroAt pl (b + 7) 1 && zeroAt pl (b + 11) 1 && zeroAt pl (b + 15) 1 && zeroAt pl (b + 19) 1 && zeroAt pl (b + 31) 1

/-- Ranges of a member's camera block that need no other block (07 Tables 7.1, 7.2, R154). -/
def stitchCamOk (pl : List Byte) (p : Nat) (m : StitchCam) (webWidth : Nat) : Bool :=
  let b := 16 + 32 * p
  decide (byteAt pl b ≤ 1) && decide (byteAt pl (b + 1) ≤ 1) && within 0x200000 0x800000 m.a1
    && decide (m.cLo ≤ m.cHi ∧ m.cHi < webWidth) && decide (m.delay ≤ 4096) && decide (m.reserve ≤ 64)
    && m.blendW % 2 == 0 && within 2 256 m.blendW && !(decide (0 < m.reserve) && m.delay == 0)

/-- Can the camera supply the columns `lo` to `hi` (07 R154)? -/
def covers (m : StitchCam) (lo hi : Int) : Bool :=
  decide (stitchU m 0 ≤ 64 * lo + 32) && decide (64 * hi - 32 ≤ stitchU m (m.linePixels - 1))

/-- The mapping of a member passes the checks of R154. -/
def mappingOk (m : StitchCam) : Bool :=
  covers m m.cLo m.cHi && (List.range (m.linePixels - 1)).all fun x =>
    let d := stitchU m (x + 1) - stitchU m x
    decide (32 ≤ d ∧ d ≤ 128)

/-- The blend seam between two members passes the checks of R156. -/
def blendOk (a b : StitchCam) : Bool :=
  let lo : Int := (b.cLo : Int) - (a.blendW / 2 : Nat)
  let hi : Int := (b.cLo : Int) + (a.blendW / 2 : Nat) - 1
  a.delay == b.delay && covers a lo hi && covers b lo hi

/-- The checks among the members: no overlap, one position channel and time base, and every blend seam. -/
def membersOk (s : State) (l : List (Fin 12)) (cam : Fin 12 → StitchCam) : Bool :=
  l.all fun a => l.all fun b =>
    a == b || ((decide ((cam a).cHi < (cam b).cLo) || decide ((cam b).cHi < (cam a).cLo))
      && (s.pipe[a]).posCh == (s.pipe[b]).posCh && (s.pipe[a]).tb == (s.pipe[b]).tb
      && (!((cam a).blend && (cam a).cHi + 1 == (cam b).cLo) || blendOk (cam a) (cam b)))

/-- The camera blocks of a request, for the LINE_PIXELS in effect. -/
def stitchCams (s : State) (pl : List Byte) (p : Fin 12) : StitchCam :=
  stitchCamOf pl p.val (s.pipe[p]).active.linePixels

/-- Ranges of the fields that every request is checked for (07 R154). -/
def stitchFormOk (pl : List Byte) : Bool :=
  decide (le16 pl 0 < 4096) && decide (byteAt pl 2 ≤ 11) && zeroAt pl 3 1 && within 1 196608 (le32 pl 4)
    && within 20 65535 (le16 pl 8) && zeroAt pl 10 6 && (List.range 12).all (stitchReserved pl)

/-- The checks of R149, R154 and R156. -/
def stitchMapOk (s : State) (pl : List Byte) : Bool :=
  let l := mask12 (le16 pl 0)
  let cam := stitchCams s pl
  l.all (fun p => stitchCamOk pl p.val (cam p) (le32 pl 4) && mappingOk (cam p))
    && (l.isEmpty || l.any fun p => p.val == byteAt pl 2 && (cam p).delay == 0) && membersOk s l cam

/-- The pool check of R162 fails. -/
def stitchOverBudget (s : State) (pl : List Byte) : Bool :=
  let l := mask12 (le16 pl 0)
  let cam := stitchCams s pl
  l.any (fun p => decide (0 < (cam p).delay) && decide ((cam p).reserve < ceilDiv ((cam p).delay + 1) entriesPerBlock + 1))
    || decide (768 - auxBlocks s < (l.map fun p => (cam p).reserve).sum)

/-- An accepted configuration applies at once; the camera blocks of the members are taken (07 R148, R154). -/
def stitchApply (pl : List Byte) (s : State) : State :=
  let m := le16 pl 0
  let cams := stitchCams s pl
  s.setStitch fun k =>
    { k with members := m, refPipe := idxMod 11 (byteAt pl 2), webWidth := le32 pl 4, rowSkew := le16 pl 8
             cam := Vector.ofFn fun (p : Fin 12) => if m.testBit p.val then cams p else k.cam[p]
             queue := k.queue.map fun q => { q with lines := [], head := 0, tail := 0 } }

/-- The camera block that reproduces a member's settings. -/
def stitchCamBytes (m : StitchCam) : List Byte :=
  bytesOf 1 (flagAt m.flip 0) ++ bytesOf 1 (flagAt m.blend 0) ++ bytesOf 2 m.blendW ++ bytesOf 4 m.a0 ++ bytesOf 4 m.a1
    ++ bytesOfInt 3 m.b2 ++ zeros 1 ++ bytesOfInt 3 m.b3 ++ zeros 1 ++ bytesOf 4 m.cLo ++ bytesOf 4 m.cHi ++ bytesOf 2 m.delay
    ++ bytesOf 1 m.reserve ++ zeros 1

/-- The request that reproduces the stitch group; blocks of other pipes are zero (07 R154). -/
def stitchBytes (k : StitchBlock) : List Byte :=
  bytesOf 2 k.members ++ bytesOf 1 k.refPipe.val ++ zeros 1 ++ bytesOf 4 k.webWidth ++ bytesOf 2 k.rowSkew ++ zeros 6
    ++ (List.finRange 12).flatMap fun p => if k.members.testBit p.val then stitchCamBytes k.cam[p] else zeros 32

/-- STITCH_CONFIG. -/
def cmdStitchConfig : Cmd :=
  { opcode := 0x0600, len := lenIs 400, query := true, written := wholeSetting
    body := fun q s =>
      let pl := q.payload
      let l := mask12 (s.stitch.members ||| le16 pl 0)
      if q.query then done s (stitchBytes s.stitch)
      else guarded [(!stitchFormOk pl, .badParam), (foreign s q.session (l.map fun p => resPipe p.val), .notOwner),
          (l.any (fun p => (s.pipe[p]).unit != .disabled), .wrongState), (!stitchMapOk s pl, .badParam),
          (stitchOverBudget s pl, .budgetExceeded)] s
        (done (stitchApply pl s)) }

/-- STITCH_CONFIG. -/
def execStitchConfig (q : Req) (s : State) : Host.Outcome State Fault Refusal := .next (serve cmdStitchConfig q s)

/-! ### CLASS_LUT_LOAD (07 R176) -/

/-- An accepted part goes to every member pipe. -/
def lutTake (bank : Nat) (t : ImagePart) (s : State) : State :=
  let one := fun (p : Fin 12) (s : State) =>
    let s := if t.start then (tableStore p.val 2 bank 0 (zeros (tableSize 2)) s).setPipe p (setLoaded 2 bank false) else s
    let s := tableStore p.val 2 bank t.off t.data s
    if t.last then s.setPipe p (setLoaded 2 bank true) else s
  let s := forEach (memberList s) one s
  s.setStitch fun k => { k with lutLoad := if t.last then none else some (t.taken 2 bank k.lutLoad) }

/-- CLASS_LUT_LOAD. -/
def cmdClassLutLoad : Cmd :=
  { opcode := 0x0601, len := fun p => 12 ≤ p.length, query := true, loads := .part 1 0 1
    written := partWritten (fun _ => resDevice) 1
    body := fun q s =>
      let bank := byteAt q.payload 0
      let t := imagePart 1 0 1 q.payload
      let cur := s.stitch.lutLoad.filter fun l => l.bank == bank
      if q.query then match (memberList s).head? with
        | none => refuse .wrongState s
        | some p => queryPart (fun st la => [1, flagAt st 0 + flagAt la 1, 0, 0].flatMap (bytesOf 1)) (tableSize 2)
            (tableBytes s p.val 2 (s.pipe[p]).active.lutBank) q s
      else guarded [(decide (1 < bank) || decide (3 < byteAt q.payload 1) || !zeroAt q.payload 2 2, .badParam),
          (membersForeign s q.session, .notOwner), ((memberList s).isEmpty, .wrongState), (t.bad cur (tableSize 2), .badParam),
          ((memberList s).any (fun p => bankTaken s.pipe[p] ShadowSet.lutBank bank), .wrongState)] s
        (done (lutTake bank t s)) }

/-- CLASS_LUT_LOAD. -/
def execClassLutLoad (q : Req) (s : State) : Host.Outcome State Fault Refusal := .next (serve cmdClassLutLoad q s)

/-! ### SEG_CONFIG (07 R175) -/

/-- SEG_CONFIG. -/
def cmdSegConfig : Cmd :=
  { opcode := 0x0602, len := lenIs 4, query := true, written := wholeSetting
    body := fun q s =>
      let a := le16 q.payload 0
      let r := le16 q.payload 2
      if q.query then done s (bytesOf 2 s.seg.minArea ++ bytesOf 2 s.seg.maxRows)
      else guarded [(a == 0 || r == 0, .badParam), (membersForeign s q.session, .notOwner)] s
        (done { s with seg := { s.seg with minArea := a, maxRows := r } }) }

/-- SEG_CONFIG. -/
def execSegConfig (q : Req) (s : State) : Host.Outcome State Fault Refusal := .next (serve cmdSegConfig q s)

/-! ### GUST_RULES_LOAD (08 R195 to R197) -/

/-- A rule of the data (08 Table 8.4). -/
def ruleOf (bs : List Byte) : GustRule :=
  { threshA := le32 bs 0, threshB := le32 bs 4, sel := byteAt bs 8, cmp := byteAt bs 9, verdict := byteAt bs 10
    flags := byteAt bs 11, priority := byteAt bs 12, sel2 := byteAt bs 13, reserved := le16 bs 14 }

/-- The bytes of a rule. -/
def ruleBytes (r : GustRule) : List Byte := (List.range 4).flatMap fun w => bytesOf 4 (ruleWordOf r w).toNat

/-- The checks of one rule that need no neighbour (08 R195). -/
def ruleOk (r : GustRule) : Bool :=
  decide (r.sel ≤ 0x28) && decide (r.sel2 ≤ 0x28) && decide (r.cmp ≤ 0xC) && decide (r.verdict < 16) && decide (r.flags < 4)
    && r.reserved == 0 && (r.cmp == 7 || r.cmp == 8 || r.threshB == 0) && (r.cmp == 0xB || r.cmp == 0xC || r.sel2 == 0)
    && !((r.cmp == 7 || r.cmp == 8) && decide (r.threshB < r.threshA))

/-- The checks of the chains; `within` tells that the rule before has AND_NEXT (08 R189, R195). -/
def chainsOk : Bool → List GustRule → Bool
  | inside, [] => !inside
  | inside, r :: t =>
    !(r.cmp == 0 && (inside || r.andNext)) && (r.andNext || r.cmp == 0 || within 1 4 (r.verdict % 16)) && chainsOk r.andNext t

/-- The check of a whole bank on LAST (08 R195). -/
def bankOk (rules : List GustRule) (default : Nat) : Bool := rules.all ruleOk && chainsOk false rules && within 1 4 default

/-- Rules placed from a first number on. -/
def placeRules (old : List GustRule) (first : Nat) (new : List GustRule) : List GustRule :=
  old.take first ++ new ++ old.drop (first + new.length)

/-- The rules that a request carries. -/
def requestRules (pl : List Byte) : List GustRule := (List.range (byteAt pl 2)).map fun i => ruleOf (slice pl (8 + 16 * i) 16)

/-- A part of a load of bank `b` is taken, its words with fresh codes; on LAST the bank is checked (08 R195, R197, R198). -/
def gustTake (b : Fin 2) (pl : List Byte) (s : State) : Answer :=
  let fl := byteAt pl 3
  let base := if fl.testBit 0 then List.replicate 256 {} else (s.gust.bank[b]).rules
  let rules := placeRules base (byteAt pl 1) (requestRules pl)
  let last := fl.testBit 1
  let fresh := if fl.testBit 0 then clearErr (8 * ruleWord b) 4096 else clearErr (8 * ruleWord b + 16 * byteAt pl 1) (16 * byteAt pl 2)
  if last && !bankOk rules (byteAt pl 4) then
    refuse .badParam (s.setGust fun g => { g with bank := upd g.bank b fun k => { k with loaded := false } })
  else done ((fresh s).setGust fun g =>
    { g with bank := upd g.bank b fun k => { rules := rules, loaded := last, default := if last then byteAt pl 4 else k.default }
             loadOpen := !last, swapPending := g.swapPending || (last && fl.testBit 2) })

/-- Is the request a swap request (08 R197)? -/
def swapRequest (pl : List Byte) : Bool := byteAt pl 2 == 0 && byteAt pl 3 == 4

/-- Does the bank of a swap request become active (08 R197)? -/
def swapAllowed (g : GustBlock) (b : Fin 2) : Bool := b != g.act && (g.bank[b]).loaded && !g.loadOpen && !g.swapPending

/-- QUERY of GUST_RULES_LOAD: rules of the bank in use from the first-rule byte on (17 R392). -/
def gustQuery (q : Req) (s : State) : Answer :=
  let first := byteAt q.payload 1
  let k := s.gust.activeBank
  let n := min (min 254 ((maxPayload q.session - 8) / 16)) (256 - first)
  let last := first + n == 256
  done s ([1, first, n, flagAt (first == 0) 0 + flagAt last 1 + flagAt last 2, if last then k.default else 0, 0, 0, 0].flatMap
    (bytesOf 1) ++ ((k.rules.drop first).take n).flatMap ruleBytes)

/-- GUST_RULES_LOAD. -/
def cmdGustRulesLoad : Cmd :=
  { opcode := 0x0603, len := fun p => 8 ≤ p.length && p.length == 8 + 16 * byteAt p 2, query := true, loads := .flagged 8 3 0 1
    written := fun p => [{ resource := resDevice, selector := p.take 2, payload := (p.drop 8).map some }]
    body := fun q s =>
      let pl := q.payload
      if q.query then gustQuery q s
      else match idx? 2 (byteAt pl 0) with
        | none => refuse .badParam s
        | some b =>
          guarded [(decide (254 < byteAt pl 2) || decide (7 < byteAt pl 3) || !zeroAt pl 5 3
                || decide (256 < byteAt pl 1 + byteAt pl 2), .badParam),
              (membersForeign s q.session, .notOwner),
              (swapRequest pl && !swapAllowed s.gust b, .wrongState),
              (!swapRequest pl && (b == s.gust.act || s.gust.swapPending), .wrongState),
              (!swapRequest pl && !(byteAt pl 3).testBit 0 && !s.gust.loadOpen, .wrongState)] s
            (if swapRequest pl then done (s.setGust fun g => { g with swapPending := true }) else gustTake b pl s) }

/-- GUST_RULES_LOAD. -/
def execGustRulesLoad (q : Req) (s : State) : Host.Outcome State Fault Refusal := .next (serve cmdGustRulesLoad q s)

/-! ### STATION_CONFIG, ELL_STATUS (13 R307, R321, R324) -/

/-- Ranges of Table 13.1. -/
def stationOk (pl : List Byte) : Bool :=
  decide (le16 pl 0 ≤ 4095) && decide (byteAt pl 3 ≤ 15) && decide (le32 pl 4 ≤ 2949120) && decide (byteAt pl 8 < 4)
    && decide (1024 ≤ le16 pl 10) && within 20 10000 (le16 pl 28) && within 6 1000 (le16 pl 30)
    && within 10 100000 (le32 pl 32) && within 1 2 (byteAt pl 36) && zeroAt pl 37 3

/-- A side is set: enabled it starts in HELLO, disabled it goes OFF (13 R321). -/
def sideSet (d : Fin 2) (enable : Bool) (ip : Nat) (s : State) : State :=
  let e := s.station.side[d]
  let s := if !enable && e.state == .up then sideDown d s else s
  s.setSide d fun e =>
    { e with enable := enable, ip := ip, state := if !enable then .off else if e.state = .off then .hello else e.state }

/-- The accepted station settings. -/
def stationApply (pl : List Byte) (s : State) : State :=
  let s := { s with station := { s.station with
    plantDevice := le16 pl 0, stationId := byteAt pl 2, index := byteAt pl 3, colBase := le32 pl 4, rowTol := byteAt pl 9
    udpPort := le16 pl 10, posOffset := signed 64 (le64 pl 20), lossUs := le16 pl 28, mergeTimeoutUs := le16 pl 30
    verdictWaitUs := le32 pl 32, fallback := byteAt pl 36 } }
  sideSet 1 ((byteAt pl 8).testBit 1) (le32 pl 16) (sideSet 0 ((byteAt pl 8).testBit 0) (le32 pl 12) s)

/-- The request that reproduces the station settings. -/
def stationBytes (k : StationBlock) : List Byte :=
  bytesOf 2 k.plantDevice ++ bytesOf 1 k.stationId ++ bytesOf 1 k.index ++ bytesOf 4 k.colBase
    ++ bytesOf 1 (flagAt k.side[0].enable 0 + flagAt k.side[1].enable 1) ++ bytesOf 1 k.rowTol ++ bytesOf 2 k.udpPort
    ++ bytesOf 4 k.side[0].ip ++ bytesOf 4 k.side[1].ip ++ bytesOfInt 8 k.posOffset ++ bytesOf 2 k.lossUs
    ++ bytesOf 2 k.mergeTimeoutUs ++ bytesOf 4 k.verdictWaitUs ++ bytesOf 1 k.fallback ++ zeros 3

/-- STATION_CONFIG. -/
def cmdStationConfig : Cmd :=
  { opcode := 0x0B00, len := lenIs 40, query := true, written := wholeSetting
    body := fun q s =>
      let pl := q.payload
      let off := fun (d : Fin 2) => (byteAt pl 8).testBit d.val && (s.net.port[sidePort d]).mode == .off
      if q.query then done s (stationBytes s.station)
      else guarded [(!stationOk pl || decide (3145728 < le32 pl 4 + s.stitch.webWidth) || off 0 || off 1, .badParam),
          (membersForeign s q.session, .notOwner),
          ((memberList s).any (fun p => (s.pipe[p]).unit != .disabled), .wrongState)] s
        (done (stationApply pl s)) }

/-- STATION_CONFIG. -/
def execStationConfig (q : Req) (s : State) : Host.Outcome State Fault Refusal := .next (serve cmdStationConfig q s)

/-- ELL_STATUS. -/
def cmdEllStatus : Cmd :=
  { opcode := 0x0B01, len := lenIs 0
    body := fun q s => done (if q.clear then clearWords ellWrite 0 0x80 s else s) (blockWords ellRead 0 0x80 s) }

/-- ELL_STATUS. -/
def execEllStatus (q : Req) (s : State) : Host.Outcome State Fault Refusal := .next (serve cmdEllStatus q s)

end Sys2Proof.Machine
end

