-- ==== Sys2Proof/Machine/MbxEngine.lean ====
section
/-! DEFINITION. Mboxis commands of the engines (17 Table 17.9; 09 R213 to R215, R229, R230, R235, R236). -/

namespace Sys2Proof.Machine

/-! ### Program images (09 R213, R214) -/

/-- One bit of a CRC-32C, least significant bit first. -/
def crc32cBit (c : BitVec 32) (_ : Nat) : BitVec 32 := if c.getLsbD 0 then (c >>> 1) ^^^ 0x82F63B78#32 else c >>> 1

/-- CRC-32C of a string (PRESUMED: RFC 3720). -/
def crc32c (bs : List Byte) : BitVec 32 :=
  ~~~(bs.foldl (fun c b => (List.range 8).foldl crc32cBit (c ^^^ b.setWidth 32)) 0xFFFFFFFF#32)

/-- The CRC of an image holds (09 Table 9.6). -/
def imageCrcOk (img : List Byte) : Bool :=
  decide (64 ≤ img.length) && (crc32c (img.take 60 ++ zeros 4 ++ img.drop 64)).toNat == le32 img 60

/-- The length that an image's header states (09 R213). -/
def imageLength (img : List Byte) : Nat := 64 + 16 * imageEntries img + imageCode img + imageData img

/-- An entry is in range (09 Table 9.7). -/
def entryOk (img : List Byte) (i : Nat) : Bool :=
  let b := 64 + 16 * i
  le32 img b % 4 == 0 && decide (le32 img b < imageCode img) && within 1000 100000000 (le32 img (b + 4))
    && within 1 2 (byteAt img (b + 8)) && zeroAt img (b + 9) 7

/-- The fields of an image are in range (09 R214, Tables 9.6, 9.7). -/
def imageFieldsOk (img : List Byte) : Bool :=
  le32 img 0 == 0x4D49444E && le16 img 4 == 1 && zeroAt img 6 2 && within 4 65536 (imageCode img) && imageCode img % 4 == 0
    && decide (1024 ≤ le32 img 28) && le32 img 28 % 64 == 0 && within 1 16 (imageEntries img) && le16 img 34 == 1
    && zeroAt img 40 20 && (List.range (imageEntries img)).all (entryOk img) && img.length == imageLength img
    && decide (0x10000 + imageData img + imageBss img + le32 img 28 ≤ 0x3FF00)

/-- The check of a whole image, the CRC first (09 R214). -/
def imageRefusal (img : List Byte) : Option Status :=
  if !imageCrcOk img then some .checkFail else if !imageFieldsOk img then some .badParam else none

/-- IMAGE_ID of an image, as far as it has come. -/
def imageId (img : List Byte) : Nat := le32 img 8

/-- An accepted image is on its way into every engine of the clusters that is not FENCED (09 R215). -/
def imageInstall (l : List (Fin 12)) (img : List Byte) (s : State) : State :=
  forEach l (fun c t =>
    forEach (enginesOf c) (fun e u => u.setEng e fun x => if x.state = .off then { x with state := .loading } else x)
      (t.setCluster c fun k => { k with installing := some img })) s

/-! ### Background commands (17 R404) -/

/-- A command goes on in the background: BUSY while another one of its session does, else PENDING. -/
def inBackground (q : Req) (s : State) : Answer :=
  match idx? 14 q.session with
  | none => refuse .badParam s
  | some k =>
    if (s.mbx.sess[k]).background.isSome then refuse .busy s
    else { status := .pending, payload := [], state := s.setSess k fun c => { c with background := some q } }

/-! ### ENG_IMAGE_LOAD -/

/-- The clusters that a request's mask names. -/
def maskClusters (pl : List Byte) : List (Fin 12) := mask12 (le16 pl 0)

/-- The transfer with a further part (17 R408); `kind` holds the cluster mask. -/
def engTaken (pl : List Byte) (t : ImagePart) (s : State) : LoadState := t.taken (le16 pl 0) 0 s.eng.load

/-- A part does not fit the transfer under way. -/
def engPartBad (pl : List Byte) (t : ImagePart) (s : State) : Bool :=
  t.bad (s.eng.load.filter fun l => l.kind == le16 pl 0 && l.total == t.total) t.total

/-- A part is taken; on LAST the image is checked and installed (09 R214, R215). -/
def engTake (pl : List Byte) (s : State) : Answer :=
  let t := imagePart 2 0 1 pl
  let l := engTaken pl t s
  if !t.last then done { s with eng := { s.eng with load := some l } } (bytesOf 4 (imageId l.bytes))
  else match imageRefusal l.bytes with
    | some st => refuse st s
    | none => done (imageInstall (maskClusters pl) l.bytes { s with eng := { s.eng with load := none } })
        (bytesOf 4 (imageId l.bytes))

/-- The library slot whose image has the IMAGE_ID installed in every named cluster (17 R392). -/
def librarySlotOf (s : State) (l : List (Fin 12)) : Option (Fin 16) :=
  match l.head?.bind fun c => (s.eng.cluster[c]).image with
  | none => none
  | some img =>
    if l.all fun c => ((s.eng.cluster[c]).image.map imageId) == some (imageId img) then
      (List.finRange 16).find? fun k => ((s.eng.library[k]).map imageId) == some (imageId img)
    else none

/-- What a load writes, for each cluster that it names. -/
def engWritten (p : List Byte) : List Written :=
  (maskClusters p).map fun c =>
    { resource := resCluster c.val, selector := slice p 2 1 ++ slice p 4 4, payload := (slice p 3 1 ++ p.drop 12).map some }

/-- QUERY names LIBRARY and the slot of the installed image (17 R392). -/
def engImageQuery (pl : List Byte) (s : State) : Answer :=
  match librarySlotOf s (maskClusters pl) with
  | some k => done s (pl.take 2 ++ bytesOf 1 4 ++ bytesOf 1 k.val ++ zeros 8)
  | none => refuse .wrongState s

/-- The background part of ENG_IMAGE_LOAD with LIBRARY: the image of the slot is checked and installed (09 R214). -/
def libraryLoad (q : Req) (s : State) : Answer :=
  let l := maskClusters q.payload
  let img := match s.eng.library[idxMod 15 (byteAt q.payload 3)] with
    | some bs => bs.take (imageLength bs)
    | none => []
  if l.any fun c => (s.eng.cluster[c]).state != .disabled then refuse .wrongState s
  else match imageRefusal img with
    | some st => refuse st s
    | none => done (imageInstall l img s) (bytesOf 4 (imageId img))

/-- ENG_IMAGE_LOAD. -/
def cmdEngImageLoad : Cmd :=
  { opcode := 0x0700, len := fun p => 12 ≤ p.length, query := true, loads := .part 2 0 1, written := engWritten
    body := fun q s =>
      let pl := q.payload
      let l := maskClusters pl
      let lib := (byteAt pl 2).testBit 2
      let mine := (foreign s q.session (l.map fun c => resCluster c.val), Status.notOwner)
      if q.query then guarded [(decide (4096 ≤ le16 pl 0), .badParam), mine] s (engImageQuery pl s)
      else guarded [(decide (4096 ≤ le16 pl 0) || decide (7 < byteAt pl 2) || decide (15 < byteAt pl 3)
              || (lib && (!zeroAt pl 4 8 || decide (12 < pl.length))), .badParam),
          mine, (l.any (fun c => (s.eng.cluster[c]).state != .disabled), .wrongState),
          (!lib && engPartBad pl (imagePart 2 0 1 pl) s, .badParam)] s
        (if lib then inBackground q s else engTake pl s) }

/-- ENG_IMAGE_LOAD. -/
def execEngImageLoad (q : Req) (s : State) : Host.Outcome State Fault Refusal := .next (serve cmdEngImageLoad q s)

/-! ### ENG_POOL_CONFIG (09 R230) -/

/-- May the entry of a policy run in an image: an OBJECT entry, in time mode with BUDGET at 0.8 GHz within DEADLINE_US
(09 R229)? -/
def policyFits (y : Policy) (img : Option (List Byte)) : Bool :=
  match img.bind fun i => imageEntry i y.entry with
  | none => false
  | some e => e.kind == 1 && (y.posMode || decide (5 * e.budget ≤ 4000 * y.deadlineUs))

/-- The classes of a mask. -/
def maskClasses (m : Nat) : List (Fin 16) := (List.finRange 16).filter fun k => m.testBit k.val

/-- Ranges of ENG_POOL_CONFIG (09 Table 9.11). -/
def poolOk (s : State) (pl : List Byte) : Bool :=
  let base := le64 pl 8
  let size := le64 pl 16
  [0, 1, 0xFF].contains (byteAt pl 1) && within 800 1500 (le16 pl 4) && le16 pl 4 % 10 == 0 && zeroAt pl 6 2
    && base % 2 ^ 20 == 0 && size % 2 ^ 20 == 0 && decide (size ≤ 2 ^ 32) && (size == 0 || decide (base + size ≤ dramEnd s))
    && (List.range 4).all fun t => (decide (byteAt pl (24 + t) ≤ 15) || byteAt pl (24 + t) == 0xFF)
      && decide (byteAt pl (28 + t) ≤ 15)

/-- Does a request change the spill window or a task-input binding? -/
def poolRebinds (k : Cluster) (pl : List Byte) : Bool :=
  le64 pl 8 != k.spillBase || le64 pl 16 != k.spillSize
    || (List.finRange 4).any fun t => byteAt pl (24 + t.val) != k.tinEntry[t] || byteAt pl (28 + t.val) != (k.tinHome[t]).val

/-- The parameters of a request. -/
def poolApply (pl : List Byte) (k : Cluster) : Cluster :=
  { k with classMask := le16 pl 2, clockMax := le16 pl 4, spillBase := le64 pl 8, spillSize := le64 pl 16
           tinEntry := Vector.ofFn fun (t : Fin 4) => byteAt pl (24 + t.val)
           tinHome := Vector.ofFn fun (t : Fin 4) => idxMod 15 (byteAt pl (28 + t.val)) }

/-- ENABLE of a cluster (17 Table 17.4). -/
def clusterEnable (c : Fin 12) (s : State) : State :=
  match (s.eng.cluster[c]).state with
  | .disabled => s.setCluster c fun k => { k with state := .enabling }
  | .draining => s.setCluster c fun k => { k with enablePending := true }
  | _ => s

/-- DISABLE of a cluster: it drains until no task runs (09 R230; 17 Table 17.4). -/
def clusterDisable (c : Fin 12) (s : State) : State :=
  match (s.eng.cluster[c]).state with
  | .enabling => s.setCluster c fun k => { k with state := .disabled }
  | .enabled => clusterDrainEnd c (s.setCluster c fun k => { k with state := .draining })
  | .draining => s.setCluster c fun k => { k with enablePending := false }
  | _ => s

/-- State byte of a cluster. -/
def clusterByte (s : State) (c : Fin 12) : Nat := stateByte (s.eng.cluster[c]).state (s.eng.cluster[c]).enablePending

/-- The request that reproduces a cluster's settings. -/
def poolBytes (s : State) (c : Fin 12) : List Byte :=
  let k := s.eng.cluster[c]
  bytesOf 1 c.val ++ bytesOf 1 (flagAt (enableByte (clusterByte s c)) 0) ++ bytesOf 2 k.classMask ++ bytesOf 2 k.clockMax ++ zeros 2
    ++ bytesOf 8 k.spillBase ++ bytesOf 8 k.spillSize ++ k.tinEntry.toList.flatMap (bytesOf 1)
    ++ k.tinHome.toList.flatMap fun h => bytesOf 1 h.val

/-- An accepted request takes effect. -/
def poolSet (c : Fin 12) (pl : List Byte) (s : State) : State :=
  let s := s.setCluster c (poolApply pl)
  match byteAt pl 1 with
  | 0 => clusterDisable c s
  | 1 => clusterEnable c s
  | _ => s

/-- Is a cluster without an installed image, or is one on its way (09 R215, R230)? -/
def imageMissing (k : Cluster) : Bool := k.image.isNone || k.installing.isSome

/-- ENG_POOL_CONFIG. -/
def cmdEngPoolConfig : Cmd :=
  { opcode := 0x0701, len := lenIs 32, query := true
    written := fun p => [{ resource := resCluster (byteAt p 0)
                           payload := (if byteAt p 1 = 0xFF then none else some (BitVec.ofNat 8 (byteAt p 1))) :: (p.drop 2).map some }]
    body := fun q s => withIx 12 (byteAt q.payload 0) s fun c =>
      let pl := q.payload
      let k := s.eng.cluster[c]
      let mine := (foreign s q.session [resCluster c.val], Status.notOwner)
      let on := byteAt pl 1 == 1
      if q.query then guarded [mine] s (done s (poolBytes s c))
      else guarded [(!poolOk s pl, .badParam), mine, (poolRebinds k pl && k.state != .disabled, .wrongState),
          (on && imageMissing k, .wrongState),
          (on && (maskClasses (le16 pl 2)).any (fun y => !policyFits s.eng.policy[y] k.image), .budgetExceeded)] s
        (let t := poolSet c pl s
         enableAnswer [clusterByte t c] t) }

/-- ENG_POOL_CONFIG. -/
def execEngPoolConfig (q : Req) (s : State) : Host.Outcome State Fault Refusal := .next (serve cmdEngPoolConfig q s)

/-! ### ENG_STATUS (09 R236) -/

/-- ENG_STATUS. -/
def cmdEngStatus : Cmd :=
  { opcode := 0x0702, len := lenIs 1
    body := fun q s => match byteAt q.payload 0 with
      | 0 => done s (blockWords engRead 0 0x300 s)
      | 1 => done (if q.clear then clearWords engWrite 0x300 0x62C s else s) (blockWords engRead 0x300 0x62C s)
      | _ => refuse .badParam s }

/-- ENG_STATUS. -/
def execEngStatus (q : Req) (s : State) : Host.Outcome State Fault Refusal := .next (serve cmdEngStatus q s)

/-! ### ENG_FENCE_CLEAR (09 R235) -/

/-- The test of an engine starts; FENCED_MAP changes (16 Table 16.4).  The clock sweep goes from 800 MHz to CLOCK_MAX by
the rows ENGINE_CLOCK_STEP, and CLOCK shows it (09 R235). -/
def testStart (e : Fin 192) (q : Req) (s : State) : State :=
  (s.setEng e fun x => { x with state := .testing, clock := 80, test := some { req := q, since := s.now } }).fireVector 60

/-- ENG_FENCE_CLEAR: the answer comes with the end of the test. -/
def cmdEngFenceClear : Cmd :=
  { opcode := 0x0703, len := lenIs 1
    body := fun q s => withIx 192 (byteAt q.payload 0) s fun e =>
      guarded [(foreign s q.session [resCluster (clusterOf e).val], .notOwner),
          ((s.eng.eng[e]).state != .fenced, .wrongState)] s
        { status := .ok, payload := [], later := some (.engine e), state := testStart e q s } }

/-- ENG_FENCE_CLEAR. -/
def execEngFenceClear (q : Req) (s : State) : Host.Outcome State Fault Refusal := .next (serve cmdEngFenceClear q s)

/-- A test passed: the engine receives its cluster's image and returns to service (09 R215, R235). -/
def testPass (e : Fin 192) (s : State) : State :=
  let c := s.eng.cluster[clusterOf e]
  let s := match c.installing.orElse fun _ => c.image with
    | some img => installInto img e s
    | none => s
  s.setEng e fun x =>
    if c.state = .enabled then { x with state := .idle, failCause := .none, clock := max 80 (c.clockMax / 10) }
    else { x with state := .off, failCause := .none, clock := 0 }

/-- The command that started a test is answered with the state after it (17 Table 17.9). -/
def testAnswer (e : Fin 192) (st : Status) (s : State) : State :=
  match (s.eng.eng[e]).test with
  | none => s
  | some a => settleQueue (answerLater a st (bytesOf 1 (s.eng.eng[e]).state.code) (s.setEng e fun x => { x with test := none }))

/-- ENG_SELFTEST_DONE: the self-test of a FENCED engine ends (09 R235). -/
def execEngSelftestDone (e : Fin 192) (pass : Bool) (s : State) : Host.Outcome State Fault Refusal :=
  if (s.eng.eng[e]).state ≠ .testing then .next s
  else if pass then .next (testAnswer e .ok (testPass e s))
  else .next (testAnswer e .checkFail
    ((s.setEng e fun x => { x with state := .fenced, failCause := .selftest, clock := 0 }).fireVector 60))

/-! ### ENG_POLICY_SET (09 R229) -/

/-- The parameters in a request (17 Table 17.9). -/
def policyOf (pl : List Byte) : Policy :=
  { entry := byteAt pl 1, posMode := byteAt pl 2 == 1, fallback := byteAt pl 3, abort := byteAt pl 4 == 1
    deadlineUs := le32 pl 8, deadlineCounts := le32 pl 12, maxWaitUs := le32 pl 16, marginUs := le32 pl 20 }

/-- Ranges of Table 9.10. -/
def policyOk (pl : List Byte) : Bool :=
  decide (byteAt pl 1 ≤ 15) && decide (byteAt pl 2 ≤ 1) && within 1 2 (byteAt pl 3) && decide (byteAt pl 4 ≤ 1) && zeroAt pl 5 3
    && within 20 100000 (le32 pl 8) && within 1 2147483647 (le32 pl 12) && within 20 100000 (le32 pl 16)
    && within 2 100000 (le32 pl 20)

/-- The request that reproduces a class's parameters. -/
def policyBytes (k : Nat) (y : Policy) : List Byte :=
  [k, y.entry, flagAt y.posMode 0, y.fallback, flagAt y.abort 0, 0, 0, 0].flatMap (bytesOf 1) ++ bytesOf 4 y.deadlineUs
    ++ bytesOf 4 y.deadlineCounts ++ bytesOf 4 y.maxWaitUs ++ bytesOf 4 y.marginUs

/-- The clusters whose CLASS_MASK holds a class. -/
def classClusters (s : State) (y : Fin 16) : List (Fin 12) :=
  (List.finRange 12).filter fun c => (s.eng.cluster[c]).classMask.testBit y.val

/-- The session owns none of the clusters of a class (09 R229; 17 R400). -/
def ownsNone (s : State) (session : Nat) (y : Fin 16) : Bool :=
  (classClusters s y).all fun c => !s.owns session (resCluster c.val)

/-- LATE_ACTION applies to the objects of the class that wait; running ones keep theirs (09 R229). -/
def lateHandling (y : Fin 16) (abort : Bool) (s : State) : State :=
  let f := fun (o : RefObj) => if o.cls = y then { o with pol := { o.pol with abort := abort } } else o
  { s with eng := { s.eng with refer := s.eng.refer.map f, again := s.eng.again.map f } }

/-- ENG_POLICY_SET. -/
def cmdEngPolicySet : Cmd :=
  { opcode := 0x0704, len := lenIs 24, query := true, written := selectedSetting 1
    body := fun q s => withIx 16 (byteAt q.payload 0) s fun y =>
      let l := classClusters s y
      let new := policyOf q.payload
      if q.query then done s (policyBytes y.val s.eng.policy[y])
      else guarded [(!policyOk q.payload, .badParam), (!l.isEmpty && ownsNone s q.session y, .notOwner),
          (l.any (fun c => (s.eng.cluster[c]).state == .enabled && !policyFits new (s.eng.cluster[c]).image), .budgetExceeded)] s
        (done (lateHandling y new.abort { s with eng := { s.eng with policy := upd s.eng.policy y fun _ => new } })) }

/-- ENG_POLICY_SET. -/
def execEngPolicySet (q : Req) (s : State) : Host.Outcome State Fault Refusal := .next (serve cmdEngPolicySet q s)

end Sys2Proof.Machine
end

