-- ==== Sys2Proof/Machine/MbxPosition.lean ====
section
/-! DEFINITION. Mboxis commands of position and ejection (17 Table 17.10; 10 R237, R243, R251, R256, R257; 11 R263, R275 to
R281). -/

namespace Sys2Proof.Machine

/-! ### QE_CONFIG, QE_READ, PROBE_CONFIG (10 R237, R240, R243, R257) -/

/-- The pipes that PIPE_CONFIG assigns to a channel. -/
def channelPipes (s : State) (c : Fin 8) : List (Fin 12) := (List.finRange 12).filter fun p => (s.pipe[p]).posCh == c

/-- Ranges of QE_CONFIG (10 Table 10.4). -/
def qeConfigOk (pl : List Byte) : Bool :=
  decide (byteAt pl 1 < 128) && decide (8 ≤ le16 pl 2) && decide (1 ≤ le16 pl 4) && within 1 1000 (le16 pl 6)

/-- The count with a preset value: an edge accepted in the same sample is counted on top of it (10 R243). -/
def presetCount (now v : Nat) (q : QeChan) : Pos64 :=
  let c := BitVec.ofNat 64 v
  if q.lastAccept = some now then (if q.dirDown then c - 1 else c + 1) else c

/-- The channel with the settings of a request; a disabled channel is in the STILL case, and its tracked state is the input of
the last sample, also where the channel is enabled (10 R240). -/
def qeApply (now : Nat) (pl : List Byte) (q : QeChan) : QeChan :=
  let f := byteAt pl 1
  let q := { q with
    enable := f.testBit 0, classA := f.testBit 1, lvds := f.testBit 2, term := f.testBit 3, invert := f.testBit 4
    qualAB11 := f.testBit 5, minSpacing := le16 pl 2, stillT := le16 pl 4, fineWin := le16 pl 6
    count := if f.testBit 6 then presetCount now (le64 pl 8) q else q.count
    tracked := if q.enable && f.testBit 0 then q.tracked else q.sample }
  if q.enable then q else qeStill q

/-- The request that reproduces a channel's settings; PRESET is not a setting in effect. -/
def qeBytes (c : Nat) (q : QeChan) : List Byte :=
  bytesOf 1 c ++ bytesOf 1 (flagAt q.enable 0 + flagAt q.classA 1 + flagAt q.lvds 2 + flagAt q.term 3 + flagAt q.invert 4
    + flagAt q.qualAB11 5) ++ bytesOf 2 q.minSpacing ++ bytesOf 2 q.stillT ++ bytesOf 2 q.fineWin ++ zeros 8

/-- QE_CONFIG writes the preset value only with PRESET. -/
def qeWritten (p : List Byte) : List Written :=
  [{ resource := resDevice, selector := p.take 1
     payload := ((p.drop 1).take 7).map some
       ++ (if (byteAt p 1).testBit 6 then ((p.drop 8).take 8).map some else List.replicate 8 none) }]

/-- A count that PRESET changes is a count that the generators see; their triggers reach the Tare units too (10 R243, R252;
05 R126). -/
def qePreset (c : Fin 8) (old s : State) : State :=
  if (old.pos.qe[c]).count = (s.pos.qe[c]).count then s
  else
    let r := trigOnChannel c s
    darkTriggers r.2 r.1

/-- QE_CONFIG. -/
def cmdQeConfig : Cmd :=
  { opcode := 0x0800, len := lenIs 16, query := true, written := qeWritten
    body := fun q s => withIx 8 (byteAt q.payload 0) s fun c =>
      let pl := q.payload
      let l := channelPipes s c
      let preset := (byteAt pl 1).testBit 6
      if q.query then done s (qeBytes c.val s.pos.qe[c])
      else guarded [(!qeConfigOk pl, .badParam), (foreign s q.session (l.map fun p => resPipe p.val), .notOwner),
          (preset && l.any (fun p => (s.pipe[p]).unit != .disabled), .wrongState)] s
        (done (qePreset c s (s.setQe c (qeApply s.now pl)))) }

/-- QE_CONFIG. -/
def execQeConfig (q : Req) (s : State) : Host.Outcome State Fault Refusal := .next (serve cmdQeConfig q s)

/-- The blocks that QE_READ returns: reading a probe block takes its snapshot (10 R257, R259). -/
def qeReadBlocks (chans probes : List (Fin 8)) (s : State) : List Byte :=
  (chans.flatMap fun c => wordsBytes (qeWords s c)) ++ probes.flatMap fun p => wordsBytes (probeWords s.pos.probe[p])

/-- CLEAR of the counts that QE_READ returns (17 R392; 10 R258). -/
def qeCountersClear (chans : List (Fin 8)) (s : State) : State :=
  forEach chans (fun c t => t.setQe c fun q => { q with indexCount := 0, illegalCount := 0, spacingFaults := 0, reversals := 0 }) s

/-- The numbers that an 8-bit mask names. -/
def mask8 (m : Nat) : List (Fin 8) := (List.finRange 8).filter fun k => m.testBit k.val

/-- QE_READ. -/
def cmdQeRead : Cmd :=
  { opcode := 0x0801, len := lenIs 2
    body := fun q s =>
      let chans := mask8 (byteAt q.payload 0)
      let probes := mask8 (byteAt q.payload 1)
      let t := forEach probes probeSnap s
      done (if q.clear then qeCountersClear chans t else t) (qeReadBlocks chans probes s) }

/-- QE_READ. -/
def execQeRead (q : Req) (s : State) : Host.Outcome State Fault Refusal := .next (serve cmdQeRead q s)

/-- Codes of EDGE of a probe (17 Table 17.10). -/
def EdgeKind.code : EdgeKind → Nat
  | .rise => 0 | .fall => 1 | .both => 2

/-- The edge that a code names. -/
def edgeKindOf (n : Nat) : EdgeKind := match n with
  | 0 => .rise
  | 1 => .fall
  | _ => .both

/-- PROBE_CONFIG. -/
def cmdProbeConfig : Cmd :=
  { opcode := 0x0803, len := lenIs 4, query := true, written := selectedSetting 1
    body := fun q s => withIx 8 (byteAt q.payload 0) s fun p =>
      let pl := q.payload
      let x := s.pos.probe[p]
      if q.query then done s ([p.val, flagAt x.enable 0, x.edge.code, x.filter].flatMap (bytesOf 1))
      else guarded [(decide (1 < byteAt pl 1) || decide (2 < byteAt pl 2), .badParam)] s
        (done (s.setProbe p fun x =>
          { x with enable := byteAt pl 1 == 1, edge := edgeKindOf (byteAt pl 2), filter := byteAt pl 3 })) }

/-- PROBE_CONFIG. -/
def execProbeConfig (q : Req) (s : State) : Host.Outcome State Fault Refusal := .next (serve cmdProbeConfig q s)

/-! ### TRIG_CONFIG (10 R251, R256) -/

/-- The edge that a code names. -/
def trigEdgeOf (n : Nat) : TrigEdge := match n with
  | 0 => .pulse
  | 1 => .rise
  | _ => .fall

/-- Ranges of TRIG_CONFIG (10 Table 10.4). -/
def trigConfigOk (pl : List Byte) : Bool :=
  decide (byteAt pl 1 < 8) && decide (byteAt pl 2 < if (byteAt pl 1).testBit 1 then 4 else 8) && decide (byteAt pl 3 ≤ 2)
    && decide (le16 pl 4 < 4096) && decide (8 ≤ le16 pl 6) && decide (0x10000 ≤ le32 pl 16)
    && within 1000 1000000000 (le32 pl 24) && within 1000 1000000 (le32 pl 28)

/-- A generator with the settings of a request. -/
def trigApply (pl : List Byte) (g : TrigGen) : TrigGen :=
  let f := byteAt pl 1
  { g with enable := f.testBit 0, timeMode := f.testBit 1, outLow := f.testBit 2, source := idxMod 7 (byteAt pl 2)
           edge := trigEdgeOf (byteAt pl 3), portMask := le16 pl 4, outWidth := le16 pl 6
           origin := BitVec.ofNat 64 (le64 pl 8), pitch := le32 pl 16, start := BitVec.ofNat 32 (le32 pl 20)
           period := le32 pl 24, minPeriod := le32 pl 28 }

/-- Does a change re-initialise the generator (10 R252, R256)? -/
def trigRestarts (a b : TrigGen) : Bool :=
  b.enable && (!a.enable || a.timeMode != b.timeMode || a.source != b.source || a.origin != b.origin || a.start != b.start
    || a.pitch != b.pitch)

/-- The request that reproduces a generator's settings. -/
def trigBytes (i : Nat) (g : TrigGen) : List Byte :=
  [i, flagAt g.enable 0 + flagAt g.timeMode 1 + flagAt g.outLow 2, g.source.val, g.edge.code].flatMap (bytesOf 1)
    ++ bytesOf 2 g.portMask ++ bytesOf 2 g.outWidth ++ bytesOf 8 g.origin.toNat ++ bytesOf 4 g.pitch ++ bytesOf 4 g.start.toNat
    ++ bytesOf 4 g.period ++ bytesOf 4 g.minPeriod

/-- The balls of ports outside a pulse take the idle level of the enabled generators (10 R251). -/
def trigIdle (ports : List (Fin 12)) (s : State) : State :=
  forEach ports (fun p t =>
    if t.pos.trigOut[p] then t
    else t.setBall (.trigOut p.val) ((List.finRange 12).any fun i =>
      (t.pos.trig[i]).enable && (t.pos.trig[i]).portMask.testBit p.val && (t.pos.trig[i]).outLow)) s

/-- The accepted settings take effect. -/
def trigSet (i : Fin 12) (pl : List Byte) (s : State) : State :=
  let old := s.pos.trig[i]
  let new := trigApply pl old
  let s := s.setTrig i fun _ => if trigRestarts old new then trigInit s new else new
  trigIdle (mask12 (old.portMask ||| new.portMask)) s

/-- Ports driven by another enabled generator (10 R251). -/
def portsTaken (s : State) (i : Fin 12) (m : Nat) : Bool :=
  (List.finRange 12).any fun j => j != i && (s.pos.trig[j]).enable && decide ((s.pos.trig[j]).portMask &&& m ≠ 0)

/-- TRIG_CONFIG. -/
def cmdTrigConfig : Cmd :=
  { opcode := 0x0802, len := lenIs 32, query := true, written := selectedSetting 1
    body := fun q s => withIx 12 (byteAt q.payload 0) s fun i =>
      let pl := q.payload
      let g := s.pos.trig[i]
      let ports := mask12 (g.portMask ||| le16 pl 4)
      let classA := !(byteAt pl 1).testBit 1 && (s.pos.qe[idxMod 7 (byteAt pl 2)]).classA
      if q.query then done s (trigBytes i.val g)
      else guarded [(!trigConfigOk pl || portsTaken s i (le16 pl 4) || classA, .badParam),
          (foreign s q.session (ports.map fun p => resPort p.val), .notOwner)] s
        (done (trigSet i pl s)) }

/-- TRIG_CONFIG. -/
def execTrigConfig (q : Req) (s : State) : Host.Outcome State Fault Refusal := .next (serve cmdTrigConfig q s)

/-! ### EJ_CONFIG (11 R275, R281) -/

/-- A 4-bit code of a nibble list: class k in byte k div 2, low nibble for even k. -/
def nibble (pl : List Byte) (base k : Nat) : Nat := byteAt pl (base + k / 2) / (if k % 2 = 0 then 1 else 16) % 16

/-- Where row `r` stands in EJ_CONFIG (17 Table 17.10). -/
def rowBase (r : Nat) : Nat := 96 + 48 * r

/-- Ranges of a row (11 Table 11.5). -/
def rowOk (pl : List Byte) (r : Nat) : Bool :=
  let b := rowBase r
  let en := signed 32 (le32 pl (b + 16))
  let ec := signed 32 (le32 pl (b + 36))
  decide (byteAt pl b ≤ 1) && zeroAt pl (b + 1) 3 && decide (le32 pl (b + 4) ≤ 1000000000)
    && decide (le32 pl (b + 8) ≤ le32 pl (b + 4)) && within 0x8000 0x40000 (le32 pl (b + 12))
    && decide (-1000000 ≤ en ∧ en ≤ 1000000) && decide (le64 pl (b + 20) < 2 ^ 40)
    && decide (le64 pl (b + 28) ≤ le64 pl (b + 20)) && decide (-(2 ^ 30) ≤ ec ∧ ec ≤ 2 ^ 30) && zeroAt pl (b + 40) 8

/-- Ranges of a marker zone; the valves of a disabled one are not checked (11 R281). -/
def zoneOk (pl : List Byte) (z : Nat) : Bool :=
  let b := 32 + 8 * z
  decide (byteAt pl b ≤ 1) && zeroAt pl (b + 1) 1 && zeroAt pl (b + 6) 2
    && (byteAt pl b == 0 || decide (le16 pl (b + 2) ≤ le16 pl (b + 4) ∧ le16 pl (b + 4) < 2048))

/-- Ranges of EJ_CONFIG (11 Table 11.5). -/
def ejConfigOk (pl : List Byte) : Bool :=
  let slot := le32 pl 0
  within 10000 1000000 slot && 1000000000 % slot == 0 && decide (le32 pl 4 < slot) && decide (byteAt pl 8 < 16)
    && within 1 16 (byteAt pl 9) && within 500 8000 (le16 pl 10) && decide (le16 pl 10 + 1000 < slot)
    && decide (byteAt pl 12 ≤ 3) && decide (byteAt pl 13 ≤ 3) && decide (byteAt pl 14 ≤ 3) && within 1 64 (byteAt pl 15)
    && within (byteAt pl 15) 4094 (le16 pl 16) && decide (le16 pl 18 ≤ 4095) && within 1 60000 (le32 pl 20)
    && (List.range 16).all (fun k => decide (nibble pl 24 k ≤ 3)) && (List.range 8).all (zoneOk pl)
    && (List.range 4).all (rowOk pl)

/-- A TIME row fires beyond the slot table's reach (11 R281). -/
def ejOverBudget (pl : List Byte) : Bool :=
  let slot := le32 pl 0
  (List.range 4).any fun r =>
    let b := rowBase r
    byteAt pl b == 0 && decide (min (4094 * slot) 2000000000 < le32 pl (b + 4) - le32 pl (b + 8) + le16 pl 16 * slot)

/-- The action that a code names. -/
def ejActionOf (n : Nat) : EjAction := match n with
  | 0 => .none
  | 1 => .valves
  | 2 => .markers
  | _ => .both

/-- Codes of ACTION. -/
def EjAction.code : EjAction → Nat
  | .none => 0 | .valves => 1 | .markers => 2 | .both => 3

/-- A row with the settings of a request. -/
def rowApply (pl : List Byte) (r : Nat) (x : EjRow) : EjRow :=
  let b := rowBase r
  { x with posMode := byteAt pl b == 1, flight := le32 pl (b + 4), lead := le32 pl (b + 8), stretch := le32 pl (b + 12)
           extend := signed 32 (le32 pl (b + 16)), dist := le64 pl (b + 20), leadCounts := le64 pl (b + 28)
           extendCounts := signed 32 (le32 pl (b + 36)) }

/-- The scheduler with the settings of a request. -/
def ejApply (pl : List Byte) (e : EjBlock) : EjBlock :=
  { e with slotNs := le32 pl 0, phaseNs := le32 pl 4, missLimit := byteAt pl 9, ackTimeout := le16 pl 10
           action := [12, 13, 14].map fun i => ejActionOf (byteAt pl i)
           minOn := byteAt pl 15, maxOn := le16 pl 16, margin := le16 pl 18, posMaxWait := le32 pl 20
           rowOfClass := (List.range 16).map (nibble pl 24)
           zone := (List.range 8).map fun z =>
             { enable := byteAt pl (32 + 8 * z) == 1, first := le16 pl (34 + 8 * z), last := le16 pl (36 + 8 * z) }
           row := e.row.mapIdx fun r x => rowApply pl r x }

/-- Does a request change the slot grid? -/
def gridChanges (e : EjBlock) (pl : List Byte) : Bool := e.slotNs != le32 pl 0 || e.phaseNs != le32 pl 4

/-- The accepted settings take effect; on another grid no slot is frozen and pending commands are judged again. -/
def ejSet (pl : List Byte) (s : State) : State :=
  let moved := gridChanges s.ej pl
  let t := { s with ej := ejApply pl s.ej }
  let t := if moved then rejudge { t with ej := { t.ej with frozen := none, slotDue := false, markDue := [] } } else t
  valveIrq s (forEach (List.finRange 4) (fun l u => linkEnable l ((byteAt pl 8).testBit l.val) u) t)

/-- State byte of a link. -/
def linkByte (s : State) (l : Fin 4) : Nat := stateByte (s.ej.link[l]).state (s.ej.link[l]).enablePending

/-- The bytes of a row in EJ_CONFIG. -/
def rowBytes (x : EjRow) : List Byte :=
  bytesOf 1 (flagAt x.posMode 0) ++ zeros 3 ++ bytesOf 4 x.flight ++ bytesOf 4 x.lead ++ bytesOf 4 x.stretch ++ bytesOfInt 4 x.extend
    ++ bytesOf 8 x.dist ++ bytesOf 8 x.leadCounts ++ bytesOfInt 4 x.extendCounts ++ zeros 8

/-- The bytes of a marker zone in EJ_CONFIG. -/
def zoneBytes (z : MarkZone) : List Byte :=
  bytesOf 1 (flagAt z.enable 0) ++ zeros 1 ++ bytesOf 2 z.first ++ bytesOf 2 z.last ++ zeros 2

/-- The request that reproduces the settings of the scheduler. -/
def ejBytes (s : State) : List Byte :=
  let e := s.ej
  bytesOf 4 e.slotNs ++ bytesOf 4 e.phaseNs
    ++ bytesOf 1 (((List.finRange 4).map fun l => flagAt (enableByte (linkByte s l)) l.val).sum) ++ bytesOf 1 e.missLimit
    ++ bytesOf 2 e.ackTimeout ++ (e.action.flatMap fun a => bytesOf 1 a.code) ++ bytesOf 1 e.minOn ++ bytesOf 2 e.maxOn
    ++ bytesOf 2 e.margin ++ bytesOf 4 e.posMaxWait
    ++ ((List.range 8).flatMap fun i => bytesOf 1 (e.rowOfClass[2 * i]?.getD 0 + 16 * e.rowOfClass[2 * i + 1]?.getD 0))
    ++ (e.zone.flatMap zoneBytes) ++ e.row.toList.flatMap rowBytes

/-- Every valve link. -/
def allLinks : List Nat := (List.range 4).map resLink

/-- EJ_CONFIG. -/
def cmdEjConfig : Cmd :=
  { opcode := 0x0900, len := lenIs 288, query := true, written := wholeSetting
    body := fun q s =>
      let pl := q.payload
      if q.query then done s (ejBytes s)
      else guarded [(!ejConfigOk pl, .badParam), (foreign s q.session allLinks, .notOwner),
          (gridChanges s.ej pl && (List.finRange 4).any (fun l => (s.ej.link[l]).state != .disabled), .wrongState),
          (ejOverBudget pl, .budgetExceeded)] s
        (let t := ejSet pl s
         { status := (enableAnswer ((List.finRange 4).map (linkByte t)) t).status, payload := [], state := t }) }

/-- EJ_CONFIG. -/
def execEjConfig (q : Req) (s : State) : Host.Outcome State Fault Refusal := .next (serve cmdEjConfig q s)

/-! ### EJ_MAP_LOAD (11 R263, R279) -/

/-- The bank of a row that is not in use. -/
def otherBank (x : EjRow) : Fin 2 := 1 - x.act

/-- Is an image a row map (11 R263)? -/
def rowMapOk (bs : List Byte) : Bool :=
  let n := le16 bs 2
  let col := fun (i : Nat) => le32 bs (8 + 4 * i)
  within 1 2048 n && bs.length == 8 + 4 * n && decide (le16 bs 0 + n ≤ 2048) && decide (le32 bs 4 < 196608)
    && (List.range n).all (fun i => decide (col i < 2 ^ 18) && (i == 0 || decide (col (i - 1) < col i)))
    && decide (col (n - 1) ≤ le32 bs 4)

/-- The row map of an image. -/
def rowMapOf (bs : List Byte) : RowMap :=
  { vbase := le16 bs 0, endCol := le32 bs 4, firstCols := (List.range (le16 bs 2)).map fun i => le32 bs (8 + 4 * i) }

/-- The image of a row map. -/
def rowMapBytes (m : RowMap) : List Byte :=
  bytesOf 2 m.vbase ++ bytesOf 2 m.firstCols.length ++ bytesOf 4 m.endCol ++ m.firstCols.flatMap (bytesOf 4)

/-- A load of length 0 with SWAP (11 R263). -/
def mapSwapRequest (pl : List Byte) : Bool := byteAt pl 2 == 1 && pl.length == 12 && zeroAt pl 4 8

/-- A part of a row map is taken into the bank not in use; START ends the map it held (11 R263). -/
def rowTake (r : Fin 4) (pl : List Byte) (s : State) : Answer :=
  let t := imagePart 2 1 2 pl
  let x := s.ej.row[r]
  let b := otherBank x
  let l := t.taken 0 b.val x.load
  let cleared := if t.start then upd x.map b fun _ => none else x.map
  if !t.last then done (s.setRow r fun x => { x with map := cleared, load := some l })
  else if !rowMapOk l.bytes then refuse .badParam s
  else done (s.setRow r fun x =>
    { x with map := upd cleared b fun _ => some (rowMapOf l.bytes), load := none, swapPending := (byteAt pl 2).testBit 0 })

/-- EJ_MAP_LOAD of kind ROW_MAP. -/
def rowMapLoad (r : Fin 4) (pl : List Byte) (s : State) : Answer :=
  let t := imagePart 2 1 2 pl
  let x := s.ej.row[r]
  if mapSwapRequest pl then
    guarded [((x.map[otherBank x]).isNone || x.load.isSome || x.swapPending, .wrongState)] s
      (done (s.setRow r fun x => { x with swapPending := true }))
  else guarded [(t.bad (x.load.filter fun l => l.total == t.total) t.total, .badParam), (x.swapPending, .wrongState)] s
    (rowTake r pl s)

/-- EJ_MAP_LOAD of kind SAFE: the pattern applies from the next freeze point (11 R279). -/
def safeLoad (l : Fin 4) (pl : List Byte) (s : State) : Answer :=
  let t := imagePart 2 1 2 pl
  let k := s.ej.link[l]
  let n := t.taken 1 0 k.load
  guarded [(t.bad k.load 64, .badParam), (k.arm != 0 || k.armNext != 0, .wrongState)] s
    (done (s.setLink l fun k =>
      if t.last then { k with load := none, safeNext := some n.bytes } else { k with load := some n }))

/-- QUERY of EJ_MAP_LOAD: one part of the image in use; a bank without a map has none to return. -/
def mapQuery (i : Fin 4) (q : Req) (s : State) : Answer :=
  let kind := byteAt q.payload 0
  let head := fun (st la : Bool) => [kind, i.val, flagAt la 0 + flagAt st 1 + flagAt la 2, 0].flatMap (bytesOf 1)
  if kind = 1 then
    let bs := (s.ej.link[i]).safeNext.getD (s.ej.link[i]).safe
    queryPart head 64 (slice bs) q s
  else
    let x := s.ej.row[i]
    match x.map[x.act] with
    | none => refuse .wrongState s
    | some m => queryPart head (rowMapBytes m).length (slice (rowMapBytes m)) q s

/-- EJ_MAP_LOAD. -/
def cmdEjMapLoad : Cmd :=
  { opcode := 0x0901, len := fun p => 12 ≤ p.length, query := true, loads := .part 2 1 2
    written := partWritten (fun p => if byteAt p 0 = 1 then resLink (byteAt p 1) else resDevice) 2
    body := fun q s => withIx 4 (byteAt q.payload 1) s fun i =>
      let pl := q.payload
      let safe := byteAt pl 0 == 1
      let mine := (safe && foreign s q.session [resLink i.val], Status.notOwner)
      if q.query then guarded [(decide (1 < byteAt pl 0), .badParam), mine] s (mapQuery i q s)
      else guarded [(decide (1 < byteAt pl 0) || decide (7 < byteAt pl 2) || !zeroAt pl 3 1, .badParam), mine] s
        (if safe then safeLoad i pl s else rowMapLoad i pl s) }

/-- EJ_MAP_LOAD. -/
def execEjMapLoad (q : Req) (s : State) : Host.Outcome State Fault Refusal := .next (serve cmdEjMapLoad q s)

/-! ### EJ_ARM, EJ_DISARM (11 R276, R277) -/

/-- The links that a mask names. -/
def maskLinks (m : Nat) : List (Fin 4) := (List.finRange 4).filter fun l => m.testBit l.val

/-- The ARM code of each link from the next freeze point on. -/
def armCodes (s : State) : List Byte := (List.finRange 4).flatMap fun l => bytesOf 1 (s.ej.link[l]).armNext

/-- RUN arming is denied in the life-cycle states of test operation (20 Table 20.8). -/
def runDenied (s : State) : Bool := s.mgmt.lifeCycle == .blank || s.mgmt.lifeCycle == .decommissioned

/-- A state that forbids arming the named links in MODE `m` (11 R276). -/
def armForbidden (s : State) (l : List (Fin 4)) (m : Nat) : Bool :=
  s.ej.galeSafe || s.power.state != .active || (m == 1 && s.mgmt.dev == .test)
    || l.any fun k => (s.ej.link[k]).state != .enabled || !(s.ej.link[k]).up || (s.ej.link[k]).faulted

/-- EJ_ARM. -/
def cmdEjArm : Cmd :=
  { opcode := 0x0902, len := lenIs 2
    written := fun p => (maskList 4 (byteAt p 0)).map fun k => { resource := resLink k, payload := [p[1]?] }
    body := fun q s =>
      let l := maskLinks (byteAt q.payload 0)
      let m := byteAt q.payload 1
      guarded [(decide (16 ≤ byteAt q.payload 0) || !within 1 2 m, .badParam), (m == 1 && runDenied s, .denied),
          (foreign s q.session (l.map fun k => resLink k.val), .notOwner), (armForbidden s l m, .wrongState)] s
        (let t := forEach l (fun k u => u.setLink k fun x => { x with armNext := m }) s
         done t (armCodes t)) }

/-- EJ_ARM. -/
def execEjArm (q : Req) (s : State) : Host.Outcome State Fault Refusal := .next (serve cmdEjArm q s)

/-- EJ_DISARM. -/
def cmdEjDisarm : Cmd :=
  { opcode := 0x0903, len := lenIs 1
    written := fun p => (maskList 4 (byteAt p 0)).map fun k => { resource := resLink k, payload := [some 1] }
    body := fun q s =>
      let l := maskLinks (byteAt q.payload 0)
      guarded [(decide (16 ≤ byteAt q.payload 0), .badParam), (foreign s q.session (l.map fun k => resLink k.val), .notOwner)] s
        (let t := forEach l disarm s
         done t (armCodes t)) }

/-- EJ_DISARM. -/
def execEjDisarm (q : Req) (s : State) : Host.Outcome State Fault Refusal := .next (serve cmdEjDisarm q s)

/-! ### EJ_TEST_PULSE (11 R280) -/

/-- Ranges of EJ_TEST_PULSE. -/
def testPulseOk (s : State) (pl : List Byte) : Bool :=
  decide (le16 pl 0 ≤ le16 pl 2 ∧ le16 pl 2 < 2048) && within 1 s.ej.maxOn (le16 pl 4) && within (le16 pl 4) 4094 (le16 pl 6)
    && decide (1 ≤ le16 pl 8) && zeroAt pl 10 2

/-- The slot in which the first pulse starts: nearest START, or the first unfrozen one for START 0. -/
def testStartSlot (s : State) (start : Nat) : Int :=
  if start = 0 then buildSlot s else nearestSlot s.ej (fullNs s + tsDiff (BitVec.ofNat 32 start) s.ts0)

/-- EJ_TEST_PULSE: the first pulse enters the slot table. -/
def cmdEjTestPulse : Cmd :=
  { opcode := 0x0904, len := lenIs 16, written := selectedSetting 4
    body := fun q s =>
      let pl := q.payload
      let l := linksOf (le16 pl 0) (le16 pl 2)
      guarded [(!testPulseOk s pl, .badParam), (foreign s q.session (l.map fun k => resLink k.val), .notOwner),
          (!gridRuns s || l.any (fun k => (s.ej.link[k]).arm == 0), .wrongState), (s.ej.test.isSome, .busy)] s
        (let start := testStartSlot s (le32 pl 12)
         let t : TestPulse := { first := le16 pl 0, last := le16 pl 2, slots := le16 pl 4, gap := le16 pl 6, left := le16 pl 8
                                next := start, until_ := start }
         done (testSettle (testPulse { s with ej := { s.ej with test := some t } }))) }

/-- EJ_TEST_PULSE. -/
def execEjTestPulse (q : Req) (s : State) : Host.Outcome State Fault Refusal := .next (serve cmdEjTestPulse q s)

end Sys2Proof.Machine
end

