-- ==== Sys2Proof/Machine/MbxNet.lean ====
section
/-! DEFINITION. Mboxis commands of the Ethernet ports, PTP and the time bases (17 Table 17.11, R411; 12 R283 to R298, R303). -/

namespace Sys2Proof.Machine

/-! ### ETH_PORT_CONFIG (12 R283 to R285) -/

/-- The mode that a code names. -/
def ethModeOf (n : Nat) : EthMode := match n with
  | 0 => .off
  | 1 => .x1000
  | 2 => .r10g
  | _ => .r25g

/-- Codes of MODE (12 Table 12.2). -/
def EthMode.code : EthMode → Nat
  | .off => 0 | .x1000 => 1 | .r10g => 2 | .r25g => 3

/-- Ranges of ETH_PORT_CONFIG; 1000BASE-X is E0's only (12 Table 12.1). -/
def ethConfigOk (pl : List Byte) : Bool :=
  decide (byteAt pl 1 ≤ 3) && (byteAt pl 1 != 1 || byteAt pl 0 == 0) && decide (byteAt pl 2 ≤ 3) && zeroAt pl 3 1
    && decide (le16 pl 10 ≤ 4094) && decide (byteAt pl 24 ≤ 16) && zeroAt pl 25 3

/-- The port with the settings of a request; another mode, FEC or negotiation starts the link anew. -/
def ethApply (pl : List Byte) (p : EthPort) : EthPort :=
  let m := ethModeOf (byteAt pl 1)
  let fec := (byteAt pl 2).testBit 0
  let neg := (byteAt pl 2).testBit 1
  let same := p.mode == m && p.fec == fec && p.autoNeg == neg
  let p := if same then p else p.down
  { p with mode := m, fec := fec, autoNeg := neg, mac := leAt pl 4 6, vlan := le16 pl 10, ip := le32 pl 12
           netmask := le32 pl 16, gateway := le32 pl 20
           groups := (List.range (byteAt pl 24)).map fun g => le32 pl (28 + 4 * g) }

/-- The request that reproduces a port's settings. -/
def ethBytes (n : Nat) (p : EthPort) : List Byte :=
  [n, p.mode.code, flagAt p.fec 0 + flagAt p.autoNeg 1, 0].flatMap (bytesOf 1) ++ bytesOf 6 p.mac ++ bytesOf 2 p.vlan
    ++ bytesOf 4 p.ip ++ bytesOf 4 p.netmask ++ bytesOf 4 p.gateway ++ bytesOf 1 p.groups.length ++ zeros 3
    ++ p.groups.flatMap (bytesOf 4)

/-- ETH_PORT_CONFIG. -/
def cmdEthPortConfig : Cmd :=
  { opcode := 0x0A00, len := fun p => 28 ≤ p.length && p.length == 28 + 4 * byteAt p 24, query := true
    written := selectedSetting 1
    body := fun q s => withIx 4 (byteAt q.payload 0) s fun n =>
      if q.query then done s (ethBytes n.val s.net.port[n])
      else guarded [(q.net && n == 0, .denied), (!ethConfigOk q.payload, .badParam)] s
        (done (s.setEth n (ethApply q.payload))) }

/-- ETH_PORT_CONFIG. -/
def execEthPortConfig (q : Req) (s : State) : Host.Outcome State Fault Refusal := .next (serve cmdEthPortConfig q s)

/-! ### PTP_CONFIG (12 R297, R298, R300; 17 R411) -/

/-- PTP_CONFIG carries the port and transparent-clock settings. -/
def hasPortsTc (pl : List Byte) : Bool := (byteAt pl 1).testBit 7

/-- A signed byte. -/
def sByte (pl : List Byte) (i : Nat) : Int := signed 8 (byteAt pl i)

/-- A signed byte lies in a range. -/
def sWithin (lo hi : Int) (pl : List Byte) (i : Nat) : Bool := decide (lo ≤ sByte pl i ∧ sByte pl i ≤ hi)

/-- A delay in signed 16.16 ns is at most +32,767 ns (12 R297). -/
def delayOk (pl : List Byte) (i : Nat) : Bool := decide (signed 32 (le32 pl i) ≤ 32767 * 65536)

/-- Ranges of PTP_CONFIG (12 Table 12.6, R297). -/
def ptpConfigOk (pl : List Byte) : Bool :=
  decide (byteAt pl 1 % 128 < 32) && decide (byteAt pl 2 ≤ 127) && decide (byteAt pl 3 < 16) && sWithin (-7) 1 pl 7
    && sWithin 0 4 pl 8 && sWithin 2 10 pl 9 && sWithin 0 5 pl 10 && sWithin 0 5 pl 11 && zeroAt pl 12 4
    && (!hasPortsTc pl || ((List.range 12).all (fun k => delayOk pl (16 + 4 * k)) && decide (byteAt pl 64 < 16)
      && decide (byteAt pl 65 < 16) && zeroAt pl 66 2))

/-- An instance with the settings of a request. -/
def instApply (pl : List Byte) (x : PtpInst) : PtpInst :=
  let f := byteAt pl 1
  { x with enable := f.testBit 0, boundary := f.testBit 1, p2p := f.testBit 2, udp := f.testBit 3, slaveOnly := f.testBit 4
           domain := byteAt pl 2, ports := byteAt pl 3, priority1 := byteAt pl 4, priority2 := byteAt pl 5
           clockClass := byteAt pl 6, logSync := sByte pl 7, logAnnounce := sByte pl 8, receiptTimeout := sByte pl 9
           logDelayReq := sByte pl 10, logPdelayReq := sByte pl 11 }

/-- Do two settings of an instance follow different masters or exchange different messages? -/
def instRestarts (a b : PtpInst) : Bool :=
  a.enable != b.enable || a.boundary != b.boundary || a.p2p != b.p2p || a.udp != b.udp || a.slaveOnly != b.slaveOnly
    || a.domain != b.domain || a.ports != b.ports

/-- An instance that starts anew: nothing received, nothing under way. -/
def instClear (x : PtpInst) : PtpInst :=
  { x with portState := Vector.replicate 4 3, foreign := Vector.replicate 4 [], parent := none, slavePort := none, sync := none
           syncWait := none, delayReq := none, pdelayReq := Vector.replicate 4 none, pdelayWait := Vector.replicate 4 none
           lastSample := none }

/-- The settings of an instance take effect; the port states are decided anew. -/
def instSet (i : Fin 4) (pl : List Byte) (s : State) : State :=
  let old := s.net.inst[i]
  let new := instApply pl old
  let s := s.setInst i fun _ => if instRestarts old new then instClear new else new
  let s := s.setTb i fun t => { t with domain := new.domain }
  if new.enable then bmca i s else s

/-- The delays of a port (12 R297). -/
def portDelays (pl : List Byte) (n : Nat) (p : EthPort) : EthPort :=
  let d := fun (k : Nat) => signed 32 (le32 pl (16 + 12 * n + 4 * k))
  { p with userTx := d 0, userRx := d 1, asym := d 2 }

/-- A transparent-clock pair (12 R300). -/
def tcOf (pl : List Byte) (k : Nat) : TcPair :=
  { enable := (byteAt pl 64).testBit (2 * k), p2p := (byteAt pl 64).testBit (2 * k + 1), tb := idxMod 3 (byteAt pl 65 / 4 ^ k) }

/-- The port and transparent-clock settings take effect. -/
def portsTcSet (pl : List Byte) (s : State) : State :=
  if hasPortsTc pl then
    { s with net := { s.net with port := s.net.port.mapIdx fun n p => portDelays pl n p
                                 tc := Vector.ofFn fun (k : Fin 2) => tcOf pl k.val } }
  else s

/-- The request that reproduces the settings of an instance, of the ports and of the pairs. -/
def ptpBytes (s : State) (i : Fin 4) : List Byte :=
  let x := s.net.inst[i]
  let t := s.net.tc
  [i.val, flagAt x.enable 0 + flagAt x.boundary 1 + flagAt x.p2p 2 + flagAt x.udp 3 + flagAt x.slaveOnly 4 + 128, x.domain,
      x.ports, x.priority1, x.priority2, x.clockClass].flatMap (bytesOf 1)
    ++ [x.logSync, x.logAnnounce, x.receiptTimeout, x.logDelayReq, x.logPdelayReq].flatMap (bytesOfInt 1) ++ zeros 4
    ++ (s.net.port.toList.flatMap fun p => bytesOfInt 4 p.userTx ++ bytesOfInt 4 p.userRx ++ bytesOfInt 4 p.asym)
    ++ bytesOf 1 (flagAt t[0].enable 0 + flagAt t[0].p2p 1 + flagAt t[1].enable 2 + flagAt t[1].p2p 3)
    ++ bytesOf 1 (t[0].tb.val + 4 * t[1].tb.val) ++ zeros 2

/-- PTP_CONFIG. -/
def cmdPtpConfig : Cmd :=
  { opcode := 0x0A01, len := fun p => p.length == if hasPortsTc p then 68 else 16, query := true, written := selectedSetting 1
    body := fun q s => withIx 4 (byteAt q.payload 0) s fun i =>
      if q.query then done s (ptpBytes s i)
      else guarded [(!ptpConfigOk q.payload, .badParam)] s (done (instSet i q.payload (portsTcSet q.payload s))) }

/-- PTP_CONFIG. -/
def execPtpConfig (q : Req) (s : State) : Host.Outcome State Fault Refusal := .next (serve cmdPtpConfig q s)

/-! ### PTP_STATUS -/

/-- The status of an instance (17 Table 17.11); without a master it is its own grandmaster. -/
def ptpStatusBytes (s : State) (i : Fin 4) : List Byte :=
  let x := s.net.inst[i]
  let a := x.parent
  (x.portState.toList.flatMap (bytesOf 1)) ++ bytesOf 1 (s.time.tb[i]).state.code ++ zeros 1
    ++ bytesOf 2 ((a.map fun m => m.stepsRemoved + 1).getD 0) ++ bytesOf 8 ((a.map (·.gmIdentity)).getD (clockIdentity s i))
    ++ bytesOfInt 8 x.offset ++ bytesOfInt 8 x.meanPathDelay ++ bytesOfInt 2 ((a.map (·.utcOffset)).getD 0)
    ++ bytesOf 1 (flagAt ((a.map (·.utcValid)).getD false) 0) ++ bytesOf 1 ((a.map (·.gmClass)).getD x.clockClass) ++ zeros 4

/-- PTP_STATUS. -/
def cmdPtpStatus : Cmd :=
  { opcode := 0x0A02, len := lenIs 1
    body := fun q s => withIx 4 (byteAt q.payload 0) s fun i => done s (ptpStatusBytes s i) }

/-- PTP_STATUS. -/
def execPtpStatus (q : Req) (s : State) : Host.Outcome State Fault Refusal := .next (serve cmdPtpStatus q s)

/-! ### TIME_BASE_CONFIG (12 R288 to R290, R303, Table 12.4) -/

/-- The source that a code names. -/
def tbSourceOf (n : Nat) : TbSource := match n with
  | 0 => .none
  | 1 => .ptp
  | _ => .ppsIn

/-- The step mode that a code names. -/
def stepModeOf (n : Nat) : StepMode := match n with
  | 0 => .never
  | 1 => .first
  | _ => .always

/-- Codes of STEP_MODE. -/
def StepMode.code : StepMode → Nat
  | .never => 0 | .first => 1 | .always => 2

/-- A PPS output's fields are in range; those of a disabled one are not checked but for the reserved bytes (17 R393). -/
def ppsOutOk (pl : List Byte) (k : Nat) : Bool :=
  let b := 44 + 12 * k
  decide (byteAt pl b ≤ 1) && zeroAt pl (b + 2) 2
    && (byteAt pl b == 0 || (decide (byteAt pl (b + 1) ≤ 3) && decide (le32 pl (b + 4) ≤ 999999999)
      && within 1000 500000000 (le32 pl (b + 8))))

/-- Ranges of TIME_BASE_CONFIG (12 Table 12.4). -/
def tbConfigOk (pl : List Byte) : Bool :=
  decide (byteAt pl 1 ≤ 3) && decide (byteAt pl 2 ≤ 2) && decide (byteAt pl 3 ≤ 2)
    && decide ((signed 32 (le32 pl 4)).natAbs ≤ 1099511627) && decide (1 ≤ le16 pl 8) && within 1000 1000000000 (le32 pl 12)
    && within 1 1000000 (le32 pl 16) && decide (1 ≤ byteAt pl 20) && zeroAt pl 21 3 && within 10 60000 (le32 pl 24)
    && delayOk pl 28 && decide (le32 pl 38 < 1000000000) && ppsOutOk pl 0 && ppsOutOk pl 1

/-- The parameters of a request; FREQ_ADJ is written with SOURCE NONE only. -/
def tbApply (pl : List Byte) (domain : Nat) (t : TimeBase) : TimeBase :=
  let src := tbSourceOf (byteAt pl 2)
  { t with enable := (byteAt pl 1).testBit 0, source := src, domain := domain
           stepMode := stepModeOf (byteAt pl 3), freqAdj := if src = .none then signed 32 (le32 pl 4) else t.freqAdj
           kp := le16 pl 8, ki := le16 pl 10, stepThr := le32 pl 12, lockNs := le32 pl 16, lockCount := byteAt pl 20
           holdoverMs := le32 pl 24, ppsInDelay := signed 32 (le32 pl 28)
           goodRun := if src = t.source then t.goodRun else 0, badRun := if src = t.source then t.badRun else 0
           sample := if src = t.source then t.sample else none }

/-- The state after a configuration (12 R289, Table 12.3). -/
def tbMove (b : Fin 4) (old : TimeBase) (s : State) : State :=
  let t := s.time.tb[b]
  let start := if t.source = .none then TbState.free else TbState.acquiring
  if !t.enable then tbOff b s
  else if old.state = .off then tbLeaveOff b start s
  else if old.source = t.source then s
  else tbSetState b start s

/-- The 80-bit value of a SET. -/
def setStamp (pl : List Byte) : Stamp := { seconds := leAt pl 32 6, ns := le32 pl 38, frac := le16 pl 42 }

/-- A PPS output is set; an instant that has passed is not produced (12 R303). -/
def ppsOutSet (pl : List Byte) (k : Fin 2) (s : State) : State :=
  let b := 44 + 12 * k.val
  let o := s.time.pps.out[k]
  let n : PpsOut := { o with enable := byteAt pl b == 1, tbAsGiven := byteAt pl (b + 1), offset := le32 pl (b + 4)
                             width := le32 pl (b + 8) }
  let same := o.enable == n.enable && o.tbAsGiven == n.tbAsGiven && o.offset == n.offset
  s.setPpsOut k fun _ => if same then n else { n with lastSecond := ppsDue (s.tbTime n.tb) n.offset }

/-- An accepted configuration takes effect; a stopped TB0 leaves the channels still, and a changed grid has the pending
commands judged again (10 R238; 11 R268). -/
def tbConfigure (b : Fin 4) (pl : List Byte) (s : State) : State :=
  let old := s.time.tb[b]
  let t := tbMove b old (s.setTb b (tbApply pl (s.net.inst[b]).domain))
  let t := if (byteAt pl 1).testBit 1 && (t.time.tb[b]).enable then tbSet b (setStamp pl) t else t
  let t := ppsSettle (forEach (List.finRange 2) (ppsOutSet pl) t)
  if b = 0 then
    let t := if s.tbCounts 0 && !t.tbCounts 0 then posTimeStops t else t
    if old.state == .off && t.tbCounts 0 then rejudge t else t
  else t

/-- The bytes of a PPS output. -/
def ppsOutBytes (o : PpsOut) : List Byte :=
  bytesOf 1 (flagAt o.enable 0) ++ bytesOf 1 o.tbAsGiven ++ zeros 2 ++ bytesOf 4 o.offset ++ bytesOf 4 o.width

/-- The request that reproduces a time base's settings; SET is not a setting in effect. -/
def tbBytes (s : State) (b : Fin 4) : List Byte :=
  let t := s.time.tb[b]
  [b.val, flagAt t.enable 0, t.source.code, t.stepMode.code].flatMap (bytesOf 1) ++ bytesOfInt 4 t.freqAdj ++ bytesOf 2 t.kp
    ++ bytesOf 2 t.ki ++ bytesOf 4 t.stepThr ++ bytesOf 4 t.lockNs ++ bytesOf 1 t.lockCount ++ zeros 3 ++ bytesOf 4 t.holdoverMs
    ++ bytesOfInt 4 t.ppsInDelay ++ zeros 12 ++ s.time.pps.out.toList.flatMap ppsOutBytes

/-- What TIME_BASE_CONFIG writes: the base's fields, and the PPS outputs as device-wide settings. -/
def tbWritten (p : List Byte) : List Written :=
  [{ resource := resTb (byteAt p 0)
     payload := ((p.drop 1).take 31).map some
       ++ (if (byteAt p 1).testBit 1 then ((p.drop 32).take 12).map some else List.replicate 12 none) },
   { resource := resDevice, payload := (p.drop 44).map some }]

/-- TIME_BASE_CONFIG. -/
def cmdTimeBaseConfig : Cmd :=
  { opcode := 0x0A03, len := lenIs 68, query := true, written := tbWritten
    body := fun q s => withIx 4 (byteAt q.payload 0) s fun b =>
      let mine := (foreign s q.session [resTb b.val], Status.notOwner)
      if q.query then guarded [mine] s (done s (tbBytes s b))
      else guarded [(!tbConfigOk q.payload, .badParam), mine,
          (byteAt q.payload 2 == 1 && !(s.net.inst[b]).enable, .badParam)] s
        (done (tbConfigure b q.payload s)) }

/-- TIME_BASE_CONFIG. -/
def execTimeBaseConfig (q : Req) (s : State) : Host.Outcome State Fault Refusal := .next (serve cmdTimeBaseConfig q s)

end Sys2Proof.Machine
end

