-- ==== Sys2Proof/Machine/MbxOutput.lean ====
section
/-! DEFINITION. Mboxis commands of the Fathom rings, the output rings, the coder, the display strips and the DRAM (17
Tables 17.12, 17.13; 14 R325 to R344; 15 R358, R366). -/

namespace Sys2Proof.Machine

/-- Two byte ranges (base, size) meet. -/
def meets (a b : Nat × Nat) : Bool := decide (a.1 < b.1 + b.2) && decide (b.1 < a.1 + a.2)

/-! ### FATHOM_CONFIG (14 R325 to R329) -/

/-- A request applies the device-wide parameters (17 Table 17.12). -/
def hasDevice (pl : List Byte) : Bool := byteAt pl 33 == 1

/-- Ranges of the pipe's parameters (14 Table 14.1). -/
def fathomPipeOk (pl : List Byte) : Bool :=
  decide (byteAt pl 1 ≤ 1) && [8, 10, 12, 16].contains (byteAt pl 2) && within 1 0xFF (byteAt pl 3)
    && le64 pl 4 % 0x100000 == 0 && within 1024 16777216 (le32 pl 12) && within 1 200000 (le32 pl 16)

/-- Ranges of the device-wide parameters (14 Table 14.1). -/
def fathomDeviceOk (pl : List Byte) : Bool :=
  decide (le16 pl 20 ≤ 1024) && decide (le16 pl 22 ≤ 1024) && within 1 16384 (le16 pl 24) && within 1 16384 (le16 pl 26)
    && decide (le32 pl 28 ≤ 100000) && decide (byteAt pl 32 ≤ 2)

/-- Ranges of FATHOM_CONFIG. -/
def fathomOk (pl : List Byte) : Bool :=
  fathomPipeOk pl && decide (byteAt pl 33 ≤ 1) && zeroAt pl 34 2 && fathomDeviceOk pl

/-- The ring of a pipe with the settings of a request; P follows from LINE_PIXELS now (14 R326). -/
def fathomApply (pl : List Byte) (x : Pipe) (f : FathomPipe) : FathomPipe :=
  let n := { f with enable := byteAt pl 1 == 1, depth := byteAt pl 2, chMask := byteAt pl 3, base := le64 pl 4
                    lines := le32 pl 12, maxLineHz := le32 pl 16, linePixels := x.active.linePixels }
  { n with stride := fathomStride x.active.linePixels (storedSlots n x.channels).length n.depth }

/-- Does a request change the parameters of the pipe's ring? -/
def fathomChanges (pl : List Byte) (f : FathomPipe) : Bool :=
  f.enable != (byteAt pl 1 == 1) || f.depth != byteAt pl 2 || f.chMask != byteAt pl 3 || f.base != le64 pl 4
    || f.lines != le32 pl 12 || f.maxLineHz != le32 pl 16

/-- The region of a ring, (base, size) (14 R326). -/
def fathomRegion (f : FathomPipe) : Nat × Nat := (f.base, indexBytes f.lines + f.lines * f.stride)

/-- A region reaches beyond addressable DRAM, or meets another pipe's region or a spill window (14 R325). -/
def fathomRegionBad (s : State) (p : Fin 12) (f : FathomPipe) : Bool :=
  let r := fathomRegion f
  decide (dramEnd s < r.1 + r.2)
    || ((List.finRange 12).any fun k => k != p && (s.outp.fathom[k]).enable && meets r (fathomRegion s.outp.fathom[k]))
    || s.eng.cluster.toList.any fun c => decide (0 < c.spillSize) && meets r (c.spillBase, c.spillSize)

/-- B of R329 in bytes per second. -/
def fathomBudget (l : Vector FathomPipe 12) : Nat :=
  ((l.toList.filter (·.enable)).map fun f => f.maxLineHz * (f.stride + 64)).sum

/-- B in MB/s. -/
def fathomMb (s : State) (b : Nat) : List Byte := bytesOf 4 (s.freeDiv b 1000000).toNat

/-- The device-wide parameters take effect. -/
def fathomDevice (pl : List Byte) (o : OutBlock) : OutBlock :=
  if hasDevice pl then
    { o with marginRows := le16 pl 20, marginCols := le16 pl 22, cropMaxRows := le16 pl 24, cropMaxCols := le16 pl 26
             cropWaitUs := le32 pl 28, cropCode := byteAt pl 32 }
  else o

/-- The request that reproduces the settings of a pipe's ring and of the crops. -/
def fathomBytes (s : State) (p : Fin 12) : List Byte :=
  let f := s.outp.fathom[p]
  let o := s.outp
  [p.val, flagAt f.enable 0, f.depth, f.chMask].flatMap (bytesOf 1) ++ bytesOf 8 f.base ++ bytesOf 4 f.lines
    ++ bytesOf 4 f.maxLineHz ++ bytesOf 2 o.marginRows ++ bytesOf 2 o.marginCols ++ bytesOf 2 o.cropMaxRows
    ++ bytesOf 2 o.cropMaxCols ++ bytesOf 4 o.cropWaitUs ++ bytesOf 1 o.cropCode ++ bytesOf 1 1 ++ zeros 2

/-- The settings of a request are taken when B fits the budget; the response carries B as accepted or as refused (14
R329). -/
def fathomSet (p : Fin 12) (pl : List Byte) (s : State) : Answer :=
  let old := s.outp.fathom[p]
  let keep := (s.pipe[p]).unit != .disabled
  let new := if keep && !fathomChanges pl old then old else fathomApply pl s.pipe[p] old
  let rings := upd s.outp.fathom p fun _ => new
  let b := fathomBudget rings
  let r := fathomMb s b
  if fathomRegionBad s p new then refuse .badParam s
  else if 100000000000 < b then { status := .budgetExceeded, payload := r, state := s.drawn }
  else done { s with outp := fathomDevice pl { s.outp with fathom := rings, budget := b } }.drawn r

/-- What FATHOM_CONFIG writes: the ring's fields, and the device-wide parameters when they apply. -/
def fathomWritten (p : List Byte) : List Written :=
  { resource := resPipe (byteAt p 0), payload := ((p.drop 1).take 19).map some }
    :: if hasDevice p then [{ resource := resDevice, payload := ((p.drop 20).take 13).map some }] else []

/-- FATHOM_CONFIG. -/
def cmdFathomConfig : Cmd :=
  { opcode := 0x0C00, len := lenIs 36, query := true, written := fathomWritten
    body := fun q s => withIx 12 (byteAt q.payload 0) s fun p =>
      let pl := q.payload
      let mine := (foreign s q.session [resPipe p.val], Status.notOwner)
      if q.query then guarded [mine] s (done s (fathomBytes s p))
      else guarded [(!fathomOk pl, .badParam), mine, (hasDevice pl && membersForeign s q.session, .notOwner),
          (fathomChanges pl s.outp.fathom[p] && (s.pipe[p]).unit != .disabled, .wrongState)] s (fathomSet p pl s) }

/-- FATHOM_CONFIG. -/
def execFathomConfig (q : Req) (s : State) : Host.Outcome State Fault Refusal := .next (serve cmdFathomConfig q s)

/-! ### OUTPUT_RING_CONFIG (14 R340, R344) -/

/-- SIZE of a HOST ring: a power of two from 64 KiB to 1 GiB. -/
def ringSizeOk (n : Nat) : Bool := (List.range 15).any fun k => n == 65536 * 2 ^ k

/-- Ranges of OUTPUT_RING_CONFIG (14 Table 14.6). -/
def ringOk (pl : List Byte) : Bool :=
  [0, 1, 0xFF].contains (byteAt pl 1) && decide (byteAt pl 2 ≤ 1) && decide (byteAt pl 3 ≤ 3) && decide (le16 pl 4 ≤ 0x1FF)
    && decide (le16 pl 6 ≤ 0xFFF) && le64 pl 8 % 4096 == 0 && ringSizeOk (le32 pl 16) && le64 pl 20 % 8 == 0
    && decide (1 ≤ le16 pl 28) && decide (le16 pl 30 ≤ 10000) && decide (1 ≤ le16 pl 36) && decide (1024 ≤ le16 pl 38)
    && decide (byteAt pl 40 ≤ 63) && within 1 63 (byteAt pl 41) && within 576 9000 (le16 pl 42) && within 1 14000 (le16 pl 44)
    && within 1 1000 (le16 pl 46) && [12, 16].contains (byteAt pl 48) && within 1 0xFF (byteAt pl 49)
    && within 1 1024 (le16 pl 50)

/-- The parameters in a request. -/
def ringOf (pl : List Byte) : RingCfg :=
  { udp := byteAt pl 2 == 1, port := idxMod 3 (byteAt pl 3), kinds := le16 pl 4, sources := le16 pl 6, base := le64 pl 8
    size := le32 pl 16, prodAddr := le64 pl 20, intCount := le16 pl 28, intUs := le16 pl 30, destIp := le32 pl 32
    destUdp := le16 pl 36, srcUdp := le16 pl 38, dscp := byteAt pl 40, batch := byteAt pl 41, dgramMax := le16 pl 42
    rate := le16 pl 44, flushUs := le16 pl 46
    mv := { depth := byteAt pl 48, chMask := byteAt pl 49, stripRows := le16 pl 50 } }

/-- State byte of a ring. -/
def ringByte (g : OutRing) : Nat := stateByte g.state g.enablePending

/-- A ring counts as enabled: ENABLED, on its way there, or waiting to be enabled again. -/
def ringOn (g : OutRing) : Bool := enableByte (ringByte g)

/-- The request that reproduces a ring's settings. -/
def ringBytes (r : Nat) (g : OutRing) : List Byte :=
  let c := g.cfg
  [r, flagAt (ringOn g) 0, flagAt c.udp 0, c.port.val].flatMap (bytesOf 1) ++ bytesOf 2 c.kinds ++ bytesOf 2 c.sources
    ++ bytesOf 8 c.base ++ bytesOf 4 c.size ++ bytesOf 8 c.prodAddr ++ bytesOf 2 c.intCount ++ bytesOf 2 c.intUs
    ++ bytesOf 4 c.destIp ++ bytesOf 2 c.destUdp ++ bytesOf 2 c.srcUdp ++ bytesOf 1 c.dscp ++ bytesOf 1 c.batch
    ++ bytesOf 2 c.dgramMax ++ bytesOf 2 c.rate ++ bytesOf 2 c.flushUs ++ bytesOf 1 c.mv.depth ++ bytesOf 1 c.mv.chMask
    ++ bytesOf 2 c.mv.stripRows

/-- Host budget per lane in MB/s at a PCI Express generation (14 R344). -/
def laneBudget (gen : Nat) : Nat := match gen with
  | 1 => 220
  | 2 => 440
  | 3 => 875
  | 4 => 1750
  | _ => 0

/-- Budget of a UDP port in MB/s; a port that is OFF carries nothing (14 R344). -/
def portBudget : EthMode → Nat
  | .off => 0 | .x1000 => 112 | .r10g => 1125 | .r25g => 2812

/-- The budget of a ring's destination now. -/
def destBudget (s : State) (c : RingCfg) : Nat :=
  if c.udp then portBudget (s.net.port[c.port]).mode else laneBudget s.host.linkGen * s.host.linkWidth

/-- Do two rings share a destination: the host link, or one port? -/
def sameDest (a b : RingCfg) : Bool := a.udp == b.udp && (!a.udp || a.port == b.port)

/-- Declared MB/s of the enabled rings on a ring's destination. -/
def destRate (s : State) (c : RingCfg) : Nat :=
  ((s.outp.ring.toList.filter fun g => ringOn g && sameDest g.cfg c).map fun g => g.cfg.rate).sum

/-- Would an ENABLE exceed the budget of its destination (14 R344)? -/
def ringOverBudget (s : State) (r : Fin 16) (c : RingCfg) : Bool :=
  let others := if ringOn s.outp.ring[r] && sameDest (s.outp.ring[r]).cfg c then (s.outp.ring[r]).cfg.rate else 0
  decide (destBudget s c < destRate s c - others + c.rate)

/-- Machine-vision strip settings of a ring wait for the next bolt boundary of each pipe (04 R110). -/
def mvWait (r : Fin 16) (m : MvCfg) (s : State) : State :=
  if (s.outp.ring[r]).cfg.mv == m then s
  else
    { s with outp := { s.outp with strip := s.outp.strip.map fun u =>
                         { u with mvNext := upd u.mvNext r fun _ => some m } } }

/-- An accepted request takes effect. -/
def ringSet (r : Fin 16) (session : Nat) (pl : List Byte) (s : State) : State :=
  let c := ringOf pl
  let s := (mvWait r c.mv s).setRing r fun g => { g with cfg := c, owner := some session }
  match byteAt pl 1 with
  | 0 => ringEnable r false s
  | 1 => ringEnable r true s
  | _ => s

/-- The response to an accepted request: state byte, declared rate and budget of the destination (17 Table 17.12). -/
def ringAnswer (r : Fin 16) (s : State) : Answer :=
  let g := s.outp.ring[r]
  { status := if ringByte g = 4 then .pending else .ok
    payload := bytesOf 1 (ringByte g) ++ zeros 3 ++ bytesOf 4 (destRate s g.cfg) ++ bytesOf 4 (destBudget s g.cfg)
    state := s }

/-- OUTPUT_RING_CONFIG; after a failed DRAM training no ring takes CROP or CODED (20 R440). -/
def cmdOutputRingConfig : Cmd :=
  { opcode := 0x0C01, len := lenIs 52, query := true
    written := fun p => [{ resource := resDevice, selector := p.take 1
                           payload := (if byteAt p 1 = 0xFF then none else some (BitVec.ofNat 8 (byteAt p 1))) :: (p.drop 2).map some }]
    body := fun q s => withIx 16 (byteAt q.payload 0) s fun r =>
      let pl := q.payload
      let g := s.outp.ring[r]
      let c := ringOf pl
      let other := match g.owner with
        | some k => k != q.session && ((idx? 14 k).map fun i => k == 0 || (s.mbx.sess[i]).isOpen).getD false
        | none => false
      if q.query then done s (ringBytes r.val g)
      else guarded [(!ringOk pl, .badParam), (ringOn g && other, .notOwner),
          (c != g.cfg && g.state != .disabled, .wrongState),
          (s.dram.state == .failed && (c.kinds.testBit 5 || c.kinds.testBit 6), .wrongState),
          (byteAt pl 1 == 1 && ringOverBudget s r c, .budgetExceeded)] s
        (ringAnswer r (ringSet r q.session pl s)) }

/-- OUTPUT_RING_CONFIG. -/
def execOutputRingConfig (q : Req) (s : State) : Host.Outcome State Fault Refusal :=
  .next (serve cmdOutputRingConfig q s)

/-! ### CODER_CONFIG (14 R337 to R339; 04 R109, R110) -/

/-- The settings in a request. -/
def coderOf (pl : List Byte) : CoderCfg :=
  { enable := byteAt pl 1 == 1, depth := byteAt pl 2, chMask := byteAt pl 3, near := byteAt pl 4, ilv := byteAt pl 5
    restart := le16 pl 6, stripRows := le16 pl 8 }

/-- Coder settings of a pipe that hold from the next bolt boundary on. -/
def coderDue (u : StripUnit) : CoderCfg := u.coderNext.getD u.coder

/-- Channels that a mask of a pipe codes. -/
def codedSlots (x : Pipe) (c : CoderCfg) : Nat := (maskList x.channels c.chMask).length

/-- Ranges of CODER_CONFIG (14 Table 14.5, R337, R339); ILV 2 codes 2 to 4 components. -/
def coderOk (pl : List Byte) (x : Pipe) : Bool :=
  let c := coderOf pl
  decide (byteAt pl 1 ≤ 1) && [8, 10, 12, 16].contains c.depth && within 1 0xFF c.chMask && decide (c.near ≤ 7)
    && (c.ilv == 0 || (c.ilv == 2 && within 2 4 (codedSlots x c))) && within 1 1024 c.stripRows && zeroAt pl 10 2
    && decide (le32 pl 12 ≤ 3200)

/-- RATIO of a pipe's chain, as it will be. -/
def ratioDue (x : Pipe) : Nat := max 1 (x.bin.pending.getD x.bin.params).ratio

/-- The declared coded strip rate of a pipe as a fraction: samples per second, and the RATIO that divides it. -/
def codedRate (s : State) (p : Fin 12) (c : CoderCfg) : Nat × Nat :=
  let x := s.pipe[p]
  (if c.enable then (s.outp.fathom[p]).maxLineHz * x.active.linePixels * codedSlots x c else 0, ratioDue x)

/-- A sum of fractions, as a fraction. -/
def sumRates (l : List (Nat × Nat)) : Nat × Nat := l.foldl (fun a b => (a.1 * b.2 + b.1 * a.2, a.2 * b.2)) (0, 1)

/-- The declared total in samples per second with the settings of a request for pipe `p` (14 R339). -/
def coderTotal (s : State) (p : Fin 12) (c : CoderCfg) (msps : Nat) : Nat × Nat :=
  sumRates ((msps * 1000000, 1) :: (List.finRange 12).map fun k =>
    codedRate s k (if k = p then c else coderDue s.outp.strip[k]))

/-- The request that reproduces a pipe's coder settings. -/
def coderBytes (s : State) (p : Fin 12) : List Byte :=
  let c := coderDue s.outp.strip[p]
  [p.val, flagAt c.enable 0, c.depth, c.chMask, c.near, c.ilv].flatMap (bytesOf 1) ++ bytesOf 2 c.restart
    ++ bytesOf 2 c.stripRows ++ zeros 2 ++ bytesOf 4 s.outp.cropCodedMsps

/-- Coder settings wait for the next bolt boundary. -/
def coderSet (p : Fin 12) (pl : List Byte) (s : State) : State :=
  let s := s.setStrip p fun u => { u with coderNext := some (coderOf pl) }
  { s with outp := { s.outp with cropCodedMsps := le32 pl 12 } }

/-- CODER_CONFIG. -/
def cmdCoderConfig : Cmd :=
  { opcode := 0x0C02, len := lenIs 16, query := true
    written := fun p => [{ resource := resPipe (byteAt p 0), payload := ((p.drop 1).take 9).map some },
                         { resource := resDevice, payload := (p.drop 12).map some }]
    body := fun q s => withIx 12 (byteAt q.payload 0) s fun p =>
      let pl := q.payload
      let mine := (foreign s q.session [resPipe p.val], Status.notOwner)
      let n := coderTotal s p (coderOf pl) (le32 pl 12)
      if q.query then guarded [mine] s (done s (coderBytes s p))
      else guarded [(!coderOk pl s.pipe[p], .badParam), mine, (decide (3200000000 * n.2 < n.1), .budgetExceeded)] s
        (done (coderSet p pl s).drawn (bytesOf 4 (s.freeDiv n.1 (n.2 * 1000000)).toNat)) }

/-- CODER_CONFIG. -/
def execCoderConfig (q : Req) (s : State) : Host.Outcome State Fault Refusal := .next (serve cmdCoderConfig q s)

/-! ### PREVIEW_CONFIG (04 R107, R110) -/

/-- The settings in a request. -/
def previewOf (pl : List Byte) : PreviewCfg :=
  { enable := byteAt pl 1 == 1, format := byteAt pl 2, mono := byteAt pl 3 == 1
    src := [byteAt pl 4, byteAt pl 5, byteAt pl 6], xscale := byteAt pl 7, k := le16 pl 8, linear := byteAt pl 10 == 1
    stripRows := le16 pl 12 }

/-- Ranges of PREVIEW_CONFIG. -/
def previewOk (pl : List Byte) : Bool :=
  decide (byteAt pl 1 ≤ 1) && within 2 3 (byteAt pl 2) && decide (byteAt pl 3 ≤ 1)
    && [byteAt pl 4, byteAt pl 5, byteAt pl 6].all (fun n => decide (n ≤ 7)) && [1, 2, 4, 8, 16].contains (byteAt pl 7)
    && within 1 0xFFFF (le16 pl 8) && decide (byteAt pl 10 ≤ 1) && zeroAt pl 11 1 && within 1 1024 (le16 pl 12)

/-- The request that reproduces a pipe's display strips. -/
def previewBytes (s : State) (p : Fin 12) : List Byte :=
  let u := s.outp.strip[p]
  let v := u.previewNext.getD u.preview
  [p.val, flagAt v.enable 0, v.format, flagAt v.mono 0].flatMap (bytesOf 1) ++ v.src.flatMap (bytesOf 1) ++ bytesOf 1 v.xscale
    ++ bytesOf 2 v.k ++ bytesOf 1 (flagAt v.linear 0) ++ zeros 1 ++ bytesOf 2 v.stripRows

/-- PREVIEW_CONFIG. -/
def cmdPreviewConfig : Cmd :=
  { opcode := 0x0C03, len := lenIs 14, query := true, written := resourceSetting resPipe
    body := fun q s => withIx 12 (byteAt q.payload 0) s fun p =>
      let mine := (foreign s q.session [resPipe p.val], Status.notOwner)
      if q.query then guarded [mine] s (done s (previewBytes s p))
      else guarded [(!previewOk q.payload, .badParam), mine] s
        (done (s.setStrip p fun u => { u with previewNext := some (previewOf q.payload) })) }

/-- PREVIEW_CONFIG. -/
def execPreviewConfig (q : Req) (s : State) : Host.Outcome State Fault Refusal := .next (serve cmdPreviewConfig q s)

/-! ### DRAM_STATUS and DRAM_QOS_SET (15 R358, R366) -/

/-- Apply to the register ranges that DRAM_STATUS returns, (first, end) in order (17 Table 17.13). -/
def dramRanges : List (Nat × Nat) :=
  (0, 0x0C) :: (List.range 8).map (fun c => (0x100 + 0x40 * c, 0x11C + 0x40 * c))
    ++ (List.range 5).map (fun k => (0x800 + 0x10 * k, 0x80C + 0x10 * k)) ++ [(0xA00, 0xA14)]

/-- DRAM_STATUS. -/
def cmdDramStatus : Cmd :=
  { opcode := 0x0D00, len := lenIs 0
    body := fun q s => done (if q.clear then forEach dramRanges (fun r t => clearWords dramWriteReg r.1 r.2 t) s else s)
      (dramRanges.flatMap fun r => blockWords dramReadReg r.1 r.2 s) }

/-- DRAM_STATUS. -/
def execDramStatus (q : Req) (s : State) : Host.Outcome State Fault Refusal := .next (serve cmdDramStatus q s)

/-- Lowest and highest target of port `k` in ns (15 Table 15.3). -/
def targetRange (k : Nat) : Nat × Nat := match k with
  | 0 => (500, 20000)
  | 1 => (2000, 1000000)
  | 2 => (500, 100000)
  | 3 => (1000, 1000000)
  | _ => (5000, 1000000)

/-- Ranges of DRAM_QOS_SET (15 Table 15.3, R359). -/
def qosOk (pl : List Byte) : Bool :=
  ((List.range 5).all fun k => within (targetRange k).1 (targetRange k).2 (le32 pl (4 * k)))
    && (le32 pl 20 == 0 || within 1000 1000000 (le32 pl 20))

/-- New targets and idle time; they apply to waiting requests too. -/
def qosSet (pl : List Byte) (s : State) : State :=
  { s with dram := { s.dram with idleSr := le32 pl 20
                                 port := s.dram.port.mapIdx fun k x => { x with target := le32 pl (4 * k) } } }

/-- DRAM_QOS_SET. -/
def cmdDramQosSet : Cmd :=
  { opcode := 0x0D01, len := lenIs 24, query := true, written := wholeSetting
    body := fun q s =>
      if q.query then done s ((s.dram.port.toList.flatMap fun k => bytesOf 4 k.target) ++ bytesOf 4 s.dram.idleSr)
      else guarded [(!qosOk q.payload, .badParam)] s (done (qosSet q.payload s)) }

/-- DRAM_QOS_SET. -/
def execDramQosSet (q : Req) (s : State) : Host.Outcome State Fault Refusal := .next (serve cmdDramQosSet q s)

end Sys2Proof.Machine
end

