-- ==== Sys2Proof/Machine/MbxMgmt.lean ====
section
/-! DEFINITION. Mboxis commands of the settings store and of the firmware update, the end of background commands, and
arming at boot (17 Table 17.14, R404, R413, R414; 20 R441, R449 to R458). -/

namespace Sys2Proof.Machine

/-! ### What SETTINGS_SAVE writes (20 R450) -/

/-- A COMMAND record for each instance whose settings are not those of reset. -/
def savedEach (n o : Nat) (f : Fin n → State → List Byte) (s : State) : List (Nat × List Byte) :=
  (List.finRange n).flatMap fun k => if f k s = f k State.reset then [] else [(o, f k s)]

/-- A COMMAND record for a device-wide setting that is not the one of reset. -/
def savedOne (o : Nat) (f : State → List Byte) (s : State) : List (Nat × List Byte) := savedEach 1 o (fun _ => f) s

/-- The consecutive parts of an image: each request starts where the part before ended (17 R392). -/
def imageParts (ask : Req → Answer) (sel : List Byte) : Nat → Nat → List (List Byte)
  | 0, _ => []
  | n + 1, off =>
    let a := ask { session := 0, flags := 2, payload := sel ++ bytesOf 4 off ++ zeros 4 }
    let next := off + (a.payload.length - 12)
    if a.status ≠ .ok then []
    else if le32 a.payload 8 ≤ next then [a.payload]
    else a.payload :: imageParts ask sel n next

/-- COMMAND records of an image. -/
def savedImage (o : Nat) (ask : Req → Answer) (sel : List Byte) : List (Nat × List Byte) :=
  (imageParts ask sel 16 0).map fun p => (o, p)

/-- Ports, pipes and what serves them: groups 1 to 3. -/
def savedFront (s : State) : List (Nat × List Byte) :=
  savedEach 4 0x0A00 (fun n t => ethBytes n.val t.net.port[n]) s ++ savedEach 4 0x0A03 (fun b t => tbBytes t b) s
    ++ savedEach 4 0x0A01 (fun i t => ptpBytes t i) s ++ savedOne 0x0B00 (fun t => stationBytes t.station) s
    ++ savedEach 8 0x0800 (fun c t => qeBytes c.val t.pos.qe[c]) s
    ++ savedEach 8 0x0803 (fun p t => let x := t.pos.probe[p]
        [p.val, flagAt x.enable 0, x.edge.code, x.filter].flatMap (bytesOf 1)) s
    ++ savedEach 12 0x0200 (fun p t => portConfigBytes p.val (t.cam.port[p]).config) s
    ++ savedEach 12 0x0300 (fun p t => pipeConfigBytes p.val t.pipe[p]) s
    ++ savedEach 12 0x0501 (fun p t => let x := t.pipe[p]
        if (x.loadedBin.toList[x.active.binBank]?).getD false then
          bytesOf 1 p.val ++ bytesOf 1 1 ++ zeros 2 ++ fit 256 ((x.coef[x.active.binBank]?).getD []) else []) s
    ++ savedEach 12 0x0500 (fun p t => binParamBytes p.val (t.pipe[p]).bin.params) s
    ++ savedEach 12 0x0400 (fun p t => tareParamBytes p.val (t.pipe[p]).tare.params) s

/-- The class LUT of the stitch group, when a bank with one is in use. -/
def savedClassLut (s : State) : List (Nat × List Byte) :=
  match (memberList s).head? with
  | none => []
  | some p =>
    let x := s.pipe[p]
    if (x.loadedLut.toList[x.active.lutBank]?).getD false then savedImage 0x0601 (fun q => cmdClassLutLoad.body q s) (zeros 4) else []

/-- The rules of the bank in use, in two requests. -/
def savedRules (s : State) : List (Nat × List Byte) :=
  let ask := fun (first : Nat) => (gustQuery { session := 0, flags := 2, payload := [0, first, 0, 0].flatMap (bytesOf 1) } s).payload
  if (s.gust.activeBank).loaded then [(0x0603, ask 0), (0x0603, ask 254)] else []

/-- Stitching, segmentation and rules: group 4. -/
def savedMiddle (s : State) : List (Nat × List Byte) :=
  savedOne 0x0600 (fun t => stitchBytes t.stitch) s ++ savedClassLut s
    ++ savedOne 0x0602 (fun t => bytesOf 2 t.seg.minArea ++ bytesOf 2 t.seg.maxRows) s ++ savedRules s

/-- Is the image of a cluster in the library? -/
def clusterSaved (s : State) (c : Fin 12) : Bool := (s.eng.cluster[c]).image.isNone || (librarySlotOf s [c]).isSome

/-- The record of a cluster: one whose image is not in the library is saved DISABLED. -/
def savedPool (c : Fin 12) (s : State) : List Byte :=
  if clusterSaved s c then poolBytes s c else (poolBytes s c).set 1 0

/-- Engines: group 5. -/
def savedEngines (s : State) : List (Nat × List Byte) :=
  ((List.finRange 12).flatMap fun c => match librarySlotOf s [c] with
      | some k => [(0x0700, bytesOf 2 (2 ^ c.val) ++ bytesOf 1 4 ++ bytesOf 1 k.val ++ zeros 8)]
      | none => [])
    ++ savedEach 16 0x0704 (fun y t => policyBytes y.val t.eng.policy[y]) s ++ savedEach 12 0x0701 savedPool s

/-- Ejection: group 6. -/
def savedEject (s : State) : List (Nat × List Byte) :=
  ((List.finRange 4).flatMap fun r => savedImage 0x0901 (fun q => mapQuery r q s) ([0, r.val, 0, 0].flatMap (bytesOf 1)))
    ++ ((List.finRange 4).flatMap fun l =>
      if (s.ej.link[l]).safeNext.getD (s.ej.link[l]).safe = (State.reset.ej.link[l]).safe then []
      else savedImage 0x0901 (fun q => mapQuery l q s) ([1, l.val, 0, 0].flatMap (bytesOf 1)))
    ++ savedOne 0x0900 ejBytes s

/-- Outputs and events: groups 7 and 8. -/
def savedBack (s : State) : List (Nat × List Byte) :=
  savedEach 12 0x0C00 (fun p t => fathomBytes t p) s ++ savedEach 12 0x0C02 (fun p t => coderBytes t p) s
    ++ savedEach 12 0x0C03 (fun p t => previewBytes t p) s ++ savedEach 16 0x0C01 (fun r t => ringBytes r.val t.outp.ring[r]) s
    ++ savedOne 0x0D01 (fun t => (t.dram.port.toList.flatMap fun k => bytesOf 4 k.target) ++ bytesOf 4 t.dram.idleSr) s
    ++ savedEach 64 0x0E00 (fun n t => evtRequest n.val t.evt.chan[n]) s ++ savedOne 0x1021 obsBytes s
    ++ savedEach 12 0x0802 (fun i t => trigBytes i.val t.pos.trig[i]) s

/-- The enables: group 9. -/
def savedEnables (s : State) : List (Nat × List Byte) :=
  savedOne 0x0201 (fun t => bytesOf 2 (maskOf fun p => enableByte (portByte t p))) s
    ++ savedOne 0x0302 (fun t => bytesOf 2 (maskOf fun p => enableByte (pipeByte t p))) s
    ++ ((List.finRange 12).flatMap fun c =>
      if enableByte (clusterByte s c) && clusterSaved s c then [(0x0701, poolBytes s c)] else [])
    ++ ((List.finRange 16).flatMap fun r =>
      if ringOn s.outp.ring[r] then [(0x0C01, ringBytes r.val s.outp.ring[r])] else [])

/-- The device records: DEVICE and ALLOW in effect, and the ARM record of the committed store. -/
def savedDevice (m : MgmtBlock) : List SettingsRecord :=
  let old := (((committedStore m).map (·.2)).map (·.records)).getD []
  [.device m.hostIndependent m.inlineEcc m.scrubH m.idleSMax, .allow m.allow, .reserve m.reserveValue]
    ++ old.filter fun r => match r with
      | .arm _ _ _ _ => true
      | _ => false

/-- Every record of a save. -/
def savedRecords (s : State) : List SettingsRecord :=
  savedDevice s.mgmt ++ (savedFront s ++ savedMiddle s ++ savedEngines s ++ savedEject s ++ savedBack s ++ savedEnables s).map
    fun x => .command x.1 x.2

/-- DARK and FLAT of each active bank that is loaded, on flash of 64 MiB or more (20 R450). -/
def savedTables (s : State) : List TableImage :=
  if s.mgmt.bigFlash then
    (List.finRange 12).flatMap fun p =>
      let x := s.pipe[p]
      let b := x.active.corrBank
      let base := bankBase p.val b
      if (x.loadedCorr.toList[b]?).getD false then
        [{ pipe := p.val, bank := b, cells := s.mem.filter fun c => decide (base ≤ c.1 ∧ c.1 < base + 0x40000) }]
      else []
  else []

/-- The clusters whose image is not in the library are logged (20 R450). -/
def omittedLog (s : State) : State :=
  forEach (List.finRange 12) (fun c t => if clusterSaved s c then t else recordRefused 0x0700 .wrongState t) s

/-- A background command holds the settings it works on. -/
def State.addWork (s : State) (w : SettingsWork) : State :=
  s.setMgmt fun m => { m with settingsWork := m.settingsWork ++ [w] }

/-- The settings a session's background command works on. -/
def State.workOf (s : State) (session : Nat) : SettingsWork :=
  (s.mgmt.settingsWork.find? fun w => w.session == session).getD { session := session }

/-- SETTINGS_SAVE captures every setting in effect when it is taken (20 R451). -/
def cmdSettingsSave : Cmd :=
  { opcode := 0x1003, len := lenIs 0
    body := fun q s =>
      let a := inBackground q s
      if a.status = .pending then
        { a with state := omittedLog (a.state.addWork
            { session := q.session, records := savedRecords s, tables := savedTables s }) }
      else a }

/-- SETTINGS_SAVE. -/
def execSettingsSave (q : Req) (s : State) : Host.Outcome State Fault Refusal := .next (serve cmdSettingsSave q s)

/-! ### SETTINGS_LOAD and SETTINGS_ACCEPT_DEFAULTS (20 R451, R452, R457) -/

/-- The committed store when the running image reads its schema. -/
def readableStore (m : MgmtBlock) : Option (Nat × SettingsStore) :=
  (committedStore m).filter fun x =>
    decide ((runningImage m).minSchema ≤ x.2.schema) && decide (x.2.schema ≤ (runningImage m).schema)

/-- A table image of the store returns, unless its pipe is another session's or uses the bank: then it is logged. -/
def tableReturn (x : TableImage) (s : State) : State :=
  match idx? 12 x.pipe with
  | none => s
  | some p =>
    if foreign s 0 [resPipe p.val] then recordRefused 0x0301 .notOwner s
    else if (s.pipe[p]).unit != .disabled && bankTaken s.pipe[p] ShadowSet.corrBank x.bank then recordRefused 0x0301 .wrongState s
    else
      let base := bankBase p.val x.bank
      restoreTables [x] { s with mem := memWipe s.mem base (base + 0x40000) }

/-- The device records take effect; an ARM record serves arming at boot only (20 R441). -/
def deviceReturn (l : List SettingsRecord) (m : MgmtBlock) : MgmtBlock :=
  l.foldl (fun x r => match r with
    | .arm _ _ _ _ => x
    | _ => deviceRecord r x) m

/-- The committed store is applied as session 0: device records and tables at once, the commands through the queue. -/
def loadStart (session : Nat) (k : Nat) (st : SettingsStore) (s : State) : State :=
  let s := s.addWork { session := session, generation := st.generation }
  let s := s.setMgmt (deviceReturn st.records)
  let s := if s.mgmt.bigFlash then forEach (s.mgmt.tableStores[idxMod 1 k]) tableReturn s else s
  queueRecords (commandRecords st.records) s

/-- SETTINGS_LOAD. -/
def cmdSettingsLoad : Cmd :=
  { opcode := 0x1004, len := lenIs 0
    body := fun q s => match readableStore s.mgmt with
      | none => refuse .wrongState s
      | some (k, st) =>
        let a := inBackground q s
        if a.status = .pending then { a with state := loadStart q.session k st a.state } else a }

/-- SETTINGS_LOAD. -/
def execSettingsLoad (q : Req) (s : State) : Host.Outcome State Fault Refusal := .next (serve cmdSettingsLoad q s)

/-- SETTINGS_ACCEPT_DEFAULTS: the image confirms with a store that holds no records (17 R414; 20 R457). -/
def cmdSettingsAcceptDefaults : Cmd :=
  { opcode := 0x1005, len := lenIs 0
    body := fun _ s =>
      guarded [(!s.mgmt.trial || s.mgmt.settingsResult != .unreadable, .wrongState)] s
        (done (stateIrq s (confirmTrial (s.setMgmt fun m => { m with acceptDefaults := true })))) }

/-- SETTINGS_ACCEPT_DEFAULTS. -/
def execSettingsAcceptDefaults (q : Req) (s : State) : Host.Outcome State Fault Refusal :=
  .next (serve cmdSettingsAcceptDefaults q s)

/-! ### Firmware update (17 R413; 20 R454 to R456) -/

/-- Change the update. -/
def State.setUpdate (s : State) (f : Update → Update) : State := s.setMgmt fun m => { m with update := f m.update }

/-- Does the fuse policy allow a session to update (20 Table 20.9)? -/
def mayUpdate (s : State) (session : Nat) : Bool :=
  (policyWord s).testBit (if session ≤ 4 then 0 else if session ≤ 12 then 1 else 2)

/-- UPDATE_STATUS shows the status of each update command; the idle time of its holder starts again (17 Table 17.14; 20
R454). -/
def updateTaken (q : Req) (a : Answer) : Answer :=
  { a with state := a.state.setUpdate fun u =>
      { u with lastStatus := a.status.code, lastAt := if u.holder = some q.session then a.state.now else u.lastAt } }

/-- Blocks of an image. -/
def updateBlocks (size : Nat) : Nat := ceilDiv size 4096

/-- The session holds the update lock. -/
def holdsUpdate (s : State) (q : Req) : Bool := s.mgmt.update.holder == some q.session

/-- The transfer starts, or starts anew for its holder. -/
def updateStart (q : Req) (s : State) : State :=
  let pl := q.payload
  let w := le32 pl 8
  let s := s.setUpdate fun u =>
    { state := .receiving, holder := some q.session, target := 1 - s.mgmt.imageSlot % 2, size := le32 pl 0, version := le32 pl 4
      trialS := if w = 0 then 120 else w, lastStatus := u.lastStatus, lastAt := s.now }
  updateLog 0 q.session s

/-- UPDATE_BEGIN. -/
def cmdUpdateBegin : Cmd :=
  { opcode := 0x1010, len := fun _ => true
    body := fun q s => updateTaken q
      (let u := s.mgmt.update
       let size := le32 q.payload 0
       let w := le32 q.payload 8
       guarded [(q.payload.length != 12 || !(w == 0 || within 5 600 w), .badParam), (!mayUpdate s q.session, .denied),
           ((u.holder.isSome && !holdsUpdate s q) || u.activating || u.state == .verifying, .busy),
           (s.mgmt.trial || size == 0 || decide (0x800000 < size), .wrongState)] s
         (done (updateStart q s) (bytesOf 4 (updateBlocks size)))) }

/-- UPDATE_BEGIN. -/
def execUpdateBegin (q : Req) (s : State) : Host.Outcome State Fault Refusal := .next (serve cmdUpdateBegin q s)

/-- Bytes of a block: the last one holds the rest. -/
def blockSize (u : Update) (b : Nat) : Nat := min 4096 (u.size - 4096 * b)

/-- Has every byte of a block arrived? -/
def blockWhole (u : Update) (b : Nat) : Bool :=
  (List.range (blockSize u b)).all fun i => u.parts.any fun p => p.1 == b && decide (p.2.1 ≤ i ∧ i < p.2.1 + p.2.2)

/-- A part of a block is taken. -/
def partTaken (pl : List Byte) (u : Update) : Update :=
  let b := le32 pl 0
  { u with data := memWriteN u.data (4096 * b + le16 pl 8) (pl.drop 12), parts := u.parts ++ [(b, le16 pl 8, le16 pl 10)] }

/-- A block leaves the list of those under way. -/
def blockClosed (b : Nat) (u : Update) : Update := { u with parts := u.parts.filter fun p => p.1 != b }

/-- The block is written; its sector is erased before its first block, and then the slot's old image is gone (20 R454). -/
def blockWritten (b : Nat) (s : State) : State :=
  let u := s.mgmt.update
  let s := if u.erased.contains (b / 16) then s
    else s.setMgmt fun m => { m with slots := upd m.slots (idxMod 1 u.target) fun _ => none }
  s.setUpdate fun u =>
    { blockClosed b u with blocksDone := u.blocksDone ++ [b]
                           erased := if u.erased.contains (b / 16) then u.erased else u.erased ++ [b / 16] }

/-- A block is checked when its bytes are complete; a wrong CRC discards it (17 R413). -/
def blockTake (pl : List Byte) (s : State) : Answer :=
  let b := le32 pl 0
  if s.mgmt.update.blocksDone.contains b then done s (bytesOf 4 s.mgmt.update.blocksDone.length)
  else
    let t := s.setUpdate (partTaken pl)
    let u := t.mgmt.update
    if !blockWhole u b then done t (bytesOf 4 u.blocksDone.length)
    else if (crc32c (memReadN u.data (4096 * b) (blockSize u b))).toNat = le32 pl 4 then
      done (blockWritten b t) (bytesOf 4 (u.blocksDone.length + 1))
    else refuse .checkFail (t.setUpdate fun u => { blockClosed b u with data := memWipe u.data (4096 * b) (4096 * b + 4096) })

/-- UPDATE_BLOCK. -/
def cmdUpdateBlock : Cmd :=
  { opcode := 0x1011, len := fun _ => true, loads := .data 12
    body := fun q s => updateTaken q
      (let pl := q.payload
       let u := s.mgmt.update
       let short := pl.length < 12 || pl.length != 12 + le16 pl 10
       guarded [(decide short, .badParam), (!holdsUpdate s q, .notOwner), (u.state != .receiving, .wrongState),
           (decide (updateBlocks u.size ≤ le32 pl 0) || le16 pl 10 == 0
             || decide (blockSize u (le32 pl 0) < le16 pl 8 + le16 pl 10), .badParam)] s
         (blockTake pl s)) }

/-- UPDATE_BLOCK. -/
def execUpdateBlock (q : Req) (s : State) : Host.Outcome State Fault Refusal := .next (serve cmdUpdateBlock q s)

/-- Every block of the image is complete. -/
def blocksWhole (u : Update) : Bool :=
  (u.state == .receiving || u.state == .verified) && !u.activating && u.blocksDone.length == updateBlocks u.size

/-- UPDATE_VERIFY goes on in the background. -/
def cmdUpdateVerify : Cmd :=
  { opcode := 0x1012, len := fun _ => true
    body := fun q s => updateTaken q
      (guarded [(!q.payload.isEmpty, .badParam), (!holdsUpdate s q, .notOwner), (!blocksWhole s.mgmt.update, .wrongState)] s
        (let a := inBackground q s
         if a.status = .pending then { a with state := a.state.setUpdate fun u => { u with state := .verifying } } else a)) }

/-- UPDATE_VERIFY. -/
def execUpdateVerify (q : Req) (s : State) : Host.Outcome State Fault Refusal := .next (serve cmdUpdateVerify q s)

/-- The lock ends with an accepted UPDATE_ACTIVATE, and the image takes its way (20 R439, R456): a LIBRARY image into its
slot, a FIRMWARE image into a trial after a pause, and in HALTED into the active slot after a warm reset. -/
def updateGo (q : Req) (s : State) : State :=
  let s := updateLog 4 q.session s
  let u := s.mgmt.update
  if u.isLibrary then s.setUpdate fun u => { u with holder := none, activating := true }
  else
    let s := s.setUpdate fun u => { lastStatus := u.lastStatus }
    if s.mgmt.dev = .halted then
      let s := s.setMgmt (writeHeader fun h => { h with activeSlot := u.target, trialSlot := none })
      { s with mbx := { s.mbx with resetAsked := true } }
    else
      s.setMgmt fun m =>
        { writeHeader (fun h => { h with trialSlot := some u.target, trialS := u.trialS, attempts := 0 }) m with
          pauseAsked := some .activation }

/-- A background command of any session runs. -/
def anyBackground (s : State) : Bool := s.mbx.sess.toList.any fun c => c.background.isSome

/-- UPDATE_ACTIVATE. -/
def cmdUpdateActivate : Cmd :=
  { opcode := 0x1013, len := fun _ => true
    body := fun q s => updateTaken q
      (guarded [(q.payload.length != 4 || le32 q.payload 0 != 0x54414341, .badParam), (!holdsUpdate s q, .notOwner),
          (s.mgmt.update.state != .verified, .wrongState), (anyBackground s, .busy)] s
        (done (updateGo q s))) }

/-- The pause that a command asked for begins after its response (20 R456, R458). -/
def askedPause (s : State) : State :=
  match s.mgmt.pauseAsked with
  | none => s
  | some .fallback => fallbackStart s
  | some k => beginPause k s

/-- UPDATE_ACTIVATE: the response is sent, then the pause begins in the same management cycle. -/
def execUpdateActivate (q : Req) (s : State) : Host.Outcome State Fault Refusal :=
  .next (askedPause (serve cmdUpdateActivate q s))

/-- UPDATE_ABORT ends an update of its holder; in a trial it starts the fallback (20 R454, R458). -/
def cmdUpdateAbort : Cmd :=
  { opcode := 0x1014, len := fun _ => true
    body := fun q s => updateTaken q
      (let u := s.mgmt.update
       guarded [(!q.payload.isEmpty, .badParam), (s.mgmt.trial && !mayUpdate s q.session, .denied),
           (!s.mgmt.trial && u.holder.isSome && !holdsUpdate s q, .notOwner),
           (!s.mgmt.trial && u.holder.isNone, .wrongState)] s
         (if s.mgmt.trial then done (s.setMgmt fun m => { m with pauseAsked := some .fallback })
          else done (updateEnds (updateLog 1 q.session s)))) }

/-- UPDATE_ABORT. -/
def execUpdateAbort (q : Req) (s : State) : Host.Outcome State Fault Refusal := .next (askedPause (serve cmdUpdateAbort q s))

/-- Codes of the update STATE (17 Table 17.14). -/
def UpdateState.code : UpdateState → Nat
  | .idle => 0 | .receiving => 1 | .verifying => 2 | .verified => 3

/-- What is left of a time in a unit of `unit` ns; the rounding is not stated. -/
def timeLeft (s : State) (total since unit : Nat) : Nat := (s.freeDiv (total * unit - (s.now - since) : Nat) unit).toNat

/-- UPDATE_STATUS. -/
def cmdUpdateStatus : Cmd :=
  { opcode := 0x1015, len := lenIs 0
    body := fun _ s =>
      let u := s.mgmt.update
      let idle := if u.holder.isSome then timeLeft s 60000 u.lastAt 1000000 else 0
      let trial := if s.mgmt.trial then timeLeft s s.mgmt.trialS s.mgmt.trialAt 1000000000 else 0
      done s.drawn (bytesOf 1 (if s.mgmt.trial then 4 else u.state.code) ++ bytesOf 1 (u.holder.getD 0xFF) ++ bytesOf 2 u.lastStatus
        ++ bytesOf 4 u.blocksDone.length ++ bytesOf 4 (updateBlocks u.size) ++ bytesOf 4 idle ++ bytesOf 4 trial) }

/-- UPDATE_STATUS. -/
def execUpdateStatus (q : Req) (s : State) : Host.Outcome State Fault Refusal := .next (serve cmdUpdateStatus q s)

/-! ### The end of a background command (17 R404) -/

/-- A background command ends: its final status and payload answer a repeat. -/
def backgroundEnd (k : Fin 14) (q : Req) (st : Status) (payload : List Byte) (s : State) : State :=
  s.setSess k fun c =>
    { c with background := none
             last := c.last.map fun x => if sameRequest x.1 q then (x.1, { x.2 with status := st, payload := payload }) else x }

/-- A save is written, logged and answered with its generation (20 R449, R451, R457). -/
def saveDone (k : Fin 14) (q : Req) (s : State) : State :=
  let w := s.workOf k.val
  let gen := nextGeneration s.mgmt
  let records := w.records.map fun r => match r with
    | .reserve _ => .reserve s.mgmt.reserveValue
    | r => r
  let s := s.setMgmt fun m =>
    writeStore records w.tables m.trial { m with settingsWork := m.settingsWork.filter fun x => x.session != k.val }
  let s := s.log 2 k.val ([4] ++ (bytesOf 4 gen ++ bytesOf 4 (runningImage s.mgmt).schema).map BitVec.toNat)
  backgroundEnd k q .ok (bytesOf 4 gen) s

/-- A load is done when session 0 has no command left. -/
def loadDone (k : Fin 14) (q : Req) (s : State) : State :=
  if firmwareIdle s && recordsGoOn s then
    let gen := (s.workOf k.val).generation
    backgroundEnd k q .ok (bytesOf 4 gen)
      (s.setMgmt fun m => { m with settingsWork := m.settingsWork.filter fun x => x.session != k.val })
  else s

/-- A verified image: the target slot holds it when it is FIRMWARE (20 R455). -/
def updateVerified (i : ImageInfo) (s : State) : State :=
  let s := s.setUpdate fun u =>
    { u with state := .verified, isLibrary := i.isLibrary, librarySlot := i.librarySlot, version := i.version, image := some i
             lastStatus := Status.code .ok }
  if i.isLibrary then s else s.setMgmt fun m => { m with slots := upd m.slots (idxMod 1 m.update.target) fun _ => some i }

/-- A verify that failed: RECEIVING with no blocks, and the lock stays (20 R455). -/
def updateFailed (session : Nat) (s : State) : State :=
  updateLog 3 session (s.setUpdate fun u =>
    { u with state := .receiving, blocksDone := [], parts := [], data := [], erased := [], lastStatus := Status.code .checkFail })

/-- A verify ends, with what the image's header and checks yield (20 R453, R455). -/
def verifyDone (k : Fin 14) (q : Req) (i : ImageInfo) (s : State) : State :=
  if s.mgmt.update.state ≠ .verifying then backgroundEnd k q .checkFail [] s
  else if imageValid s.mgmt i && decide (i.librarySlot < 16) then
    backgroundEnd k q .ok (bytesOf 4 i.rollback ++ bytesOf 4 i.version) (updateVerified i s)
  else backgroundEnd k q .checkFail [] (updateFailed k.val s)

/-- The image of a library slot has been installed, or refused (09 R214). -/
def libraryDone (k : Fin 14) (q : Req) (s : State) : State :=
  let a := libraryLoad q s
  backgroundEnd k q a.status a.payload a.state

/-- BACKGROUND_COMMAND_DONE: the background command of session `k` ends; `info` is what the image that a verify checks
declares. -/
def execBackgroundCommandDone (k : Fin 14) (info : ImageInfo) (s : State) : Host.Outcome State Fault Refusal :=
  match (s.mbx.sess[k]).background with
  | none => .next s
  | some q =>
    if !s.firmwareRuns then .next s
    else .next (settleQueue (match q.opcode with
      | 0x1003 => saveDone k q s
      | 0x1004 => loadDone k q s
      | 0x1012 => verifyDone k q info s
      | _ => libraryDone k q s))

/-! ### Arming at boot (20 R441) -/

/-- A link leaves the ARM record. -/
def armRecordDrop (l : Fin 4) (m : MgmtBlock) : MgmtBlock :=
  { m with armRecord := m.armRecord.bind fun r =>
      let mask := maskList 4 r.1 |>.filter (· != l.val) |>.map (2 ^ ·) |>.sum
      if mask = 0 then none else some (mask, r.2) }

/-- Does a link meet the conditions of the ARM record? -/
def armReady (s : State) (l : Fin 4) (r : Nat × Bool × Bool × Nat) : Bool :=
  r.1.testBit l.val && decide (9 ≤ s.mgmt.step) && s.firmwareRuns && s.power.state != .deepSleep
    && (s.ej.link[l]).state == .enabled && (s.ej.link[l]).up && (!r.2.2.1 || (s.time.tb[0]).state == .locked)

/-- BOOT_ARM_APPLY: session 0 issues EJ_ARM for a link of the ARM record that meets its conditions, holds it, and logs the
arming. -/
def execBootArmApply (l : Fin 4) (s : State) : Host.Outcome State Fault Refusal :=
  match s.mgmt.armRecord with
  | none => .next s
  | some r =>
    if armReady s l r then
      let q : Req := { opcode := 0x0902, session := 0
                       payload := bytesOf 1 (2 ^ l.val) ++ bytesOf 1 (if r.2.1 then 2 else 1) }
      let a := cmdEjArm.body q s
      let t := (firmwareRecord q a.status [resLink l.val] a.state).setMgmt (armRecordDrop l)
      .next (if a.status = .ok then t.log 8 0 [l.val, 0] else t)
    else .next s

end Sys2Proof.Machine
end

