-- ==== Sys2Proof/Machine/Dispatch.lean ====
section
/-! DEFINITION. One arm per command of the opcode table: the direct call of its meaning. -/

namespace Sys2Proof.Machine

def exec (i : Instr) (s : State) : Host.Outcome State Fault Refusal :=
  match i with
  | .dataBlockRx l blk fill => Sys2Proof.Machine.execDataBlockRx l blk fill s
  | .invalidBlockRx l blk => Sys2Proof.Machine.execInvalidBlockRx l blk s
  | .idleBlockRx l blk fill => Sys2Proof.Machine.execIdleBlockRx l blk fill s
  | .lineStartRx l blk skew => Sys2Proof.Machine.execLineStartRx l blk skew s
  | .lineEndRx l blk => Sys2Proof.Machine.execLineEndRx l blk s
  | .frameStartRx l blk => Sys2Proof.Machine.execFrameStartRx l blk s
  | .frameEndRx l blk => Sys2Proof.Machine.execFrameEndRx l blk s
  | .ctrlFragmentRx l blk => Sys2Proof.Machine.execCtrlFragmentRx l blk s
  | .plHelloRx l => Sys2Proof.Machine.execPlHelloRx l s
  | .capsRx l => Sys2Proof.Machine.execCapsRx l s
  | .rateAckRx l => Sys2Proof.Machine.execRateAckRx l s
  | .rateNakRx l => Sys2Proof.Machine.execRateNakRx l s
  | .checkResultRx l => Sys2Proof.Machine.execCheckResultRx l s
  | .regRespRx l => Sys2Proof.Machine.execRegRespRx l s
  | .settingsAppliedRx l => Sys2Proof.Machine.execSettingsAppliedRx l s
  | .keepaliveRx l => Sys2Proof.Machine.execKeepaliveRx l s
  | .ctrlAckRx l => Sys2Proof.Machine.execCtrlAckRx l s
  | .ctrlAckTimeout p seq => Sys2Proof.Machine.execCtrlAckTimeout p seq s
  | .keepaliveTimer p => Sys2Proof.Machine.execKeepaliveTimer p s
  | .primarySilenceTimeout p => Sys2Proof.Machine.execPrimarySilenceTimeout p s
  | .blockLock l fom => Sys2Proof.Machine.execBlockLock l fom s
  | .bringupStepTimeout l => Sys2Proof.Machine.execBringupStepTimeout l s
  | .checkWindowEnd l => Sys2Proof.Machine.execCheckWindowEnd l s
  | .laneHelloWaitExpiry p => Sys2Proof.Machine.execLaneHelloWaitExpiry p s
  | .laneLoss l => Sys2Proof.Machine.execLaneLoss l s
  | .portLoss p => Sys2Proof.Machine.execPortLoss p s
  | .cxpDiscoveryRetry p => Sys2Proof.Machine.execCxpDiscoveryRetry p s
  | .cxpControlResponse p r => Sys2Proof.Machine.execCxpControlResponse p r s
  | .cxpEventPacket p data => Sys2Proof.Machine.execCxpEventPacket p data s
  | .cxpStreamPacket p conn pk => Sys2Proof.Machine.execCxpStreamPacket p conn pk s
  | .cxpConnectionLoss p k => Sys2Proof.Machine.execCxpConnectionLoss p k s
  | .lineAtStitcher p => Sys2Proof.Machine.execLineAtStitcher p s
  | .rowWindowEnd => Sys2Proof.Machine.execRowWindowEnd s
  | .unionRowStart => Sys2Proof.Machine.execUnionRowStart s
  | .finalise => Sys2Proof.Machine.execFinalise s
  | .ejCommandEntry n => Sys2Proof.Machine.execEjCommandEntry n s
  | .dispatch => Sys2Proof.Machine.execDispatch s
  | .objectTaskStart e => Sys2Proof.Machine.execObjectTaskStart e s
  | .eventTaskStart j => Sys2Proof.Machine.execEventTaskStart j s
  | .deadlineReached id => Sys2Proof.Machine.execDeadlineReached id s
  | .budgetExpiry e => Sys2Proof.Machine.execBudgetExpiry e s
  | .clockAdaptFault e => Sys2Proof.Machine.execClockAdaptFault e s
  | .engineDmaComplete e q => Sys2Proof.Machine.execEngineDmaComplete e q s
  | .imageInstallDone c => Sys2Proof.Machine.execImageInstallDone c s
  | .clusterEnableDone c => Sys2Proof.Machine.execClusterEnableDone c s
  | .clusterDrainEnd c => Sys2Proof.Machine.execClusterDrainEnd c s
  | .engSelftestDone e pass => Sys2Proof.Machine.execEngSelftestDone e pass s
  | .add e => Sys2Proof.Machine.execAdd e s
  | .sub e => Sys2Proof.Machine.execSub e s
  | .andS e => Sys2Proof.Machine.execAndS e s
  | .orS e => Sys2Proof.Machine.execOrS e s
  | .xorS e => Sys2Proof.Machine.execXorS e s
  | .shl e => Sys2Proof.Machine.execShl e s
  | .shr e => Sys2Proof.Machine.execShr e s
  | .sra e => Sys2Proof.Machine.execSra e s
  | .slt e => Sys2Proof.Machine.execSlt e s
  | .sltu e => Sys2Proof.Machine.execSltu e s
  | .minS e => Sys2Proof.Machine.execMinS e s
  | .maxS e => Sys2Proof.Machine.execMaxS e s
  | .movhi e => Sys2Proof.Machine.execMovhi e s
  | .mul e => Sys2Proof.Machine.execMul e s
  | .mulh e => Sys2Proof.Machine.execMulh e s
  | .mulhu e => Sys2Proof.Machine.execMulhu e s
  | .div e => Sys2Proof.Machine.execDiv e s
  | .divu e => Sys2Proof.Machine.execDivu e s
  | .rem e => Sys2Proof.Machine.execRem e s
  | .remu e => Sys2Proof.Machine.execRemu e s
  | .vadd e => Sys2Proof.Machine.execVadd e s
  | .vsub e => Sys2Proof.Machine.execVsub e s
  | .vmul e => Sys2Proof.Machine.execVmul e s
  | .vmin e => Sys2Proof.Machine.execVmin e s
  | .vmax e => Sys2Proof.Machine.execVmax e s
  | .vand e => Sys2Proof.Machine.execVand e s
  | .vor e => Sys2Proof.Machine.execVor e s
  | .vxor e => Sys2Proof.Machine.execVxor e s
  | .vshl e => Sys2Proof.Machine.execVshl e s
  | .vshr e => Sys2Proof.Machine.execVshr e s
  | .vsra e => Sys2Proof.Machine.execVsra e s
  | .vabsd e => Sys2Proof.Machine.execVabsd e s
  | .vcmpeq e => Sys2Proof.Machine.execVcmpeq e s
  | .vcmplt e => Sys2Proof.Machine.execVcmplt e s
  | .vcmpltu e => Sys2Proof.Machine.execVcmpltu e s
  | .vsel e => Sys2Proof.Machine.execVsel e s
  | .vbcast e => Sys2Proof.Machine.execVbcast e s
  | .vmacp e => Sys2Proof.Machine.execVmacp e s
  | .vmacs e => Sys2Proof.Machine.execVmacs e s
  | .vaccclr e => Sys2Proof.Machine.execVaccclr e s
  | .vaccrd e => Sys2Proof.Machine.execVaccrd e s
  | .vsum e => Sys2Proof.Machine.execVsum e s
  | .ldW e => Sys2Proof.Machine.execLdW e s
  | .ldH e => Sys2Proof.Machine.execLdH e s
  | .ldHu e => Sys2Proof.Machine.execLdHu e s
  | .ldB e => Sys2Proof.Machine.execLdB e s
  | .ldBu e => Sys2Proof.Machine.execLdBu e s
  | .stW e => Sys2Proof.Machine.execStW e s
  | .stH e => Sys2Proof.Machine.execStH e s
  | .stB e => Sys2Proof.Machine.execStB e s
  | .vld e => Sys2Proof.Machine.execVld e s
  | .vst e => Sys2Proof.Machine.execVst e s
  | .vldB e => Sys2Proof.Machine.execVldB e s
  | .atomAdd e => Sys2Proof.Machine.execAtomAdd e s
  | .illegalInstruction e => Sys2Proof.Machine.execIllegalInstruction e s
  | .branch e => Sys2Proof.Machine.execBranch e s
  | .bz e => Sys2Proof.Machine.execBz e s
  | .bnz e => Sys2Proof.Machine.execBnz e s
  | .bltz e => Sys2Proof.Machine.execBltz e s
  | .call e => Sys2Proof.Machine.execCall e s
  | .ret e => Sys2Proof.Machine.execRet e s
  | .verdict e => Sys2Proof.Machine.execVerdict e s
  | .endTask e => Sys2Proof.Machine.execEndTask e s
  | .getDma e => Sys2Proof.Machine.execGetDma e s
  | .putDma e => Sys2Proof.Machine.execPutDma e s
  | .waitDma e => Sys2Proof.Machine.execWaitDma e s
  | .poll e => Sys2Proof.Machine.execPoll e s
  | .fence e => Sys2Proof.Machine.execFence e s
  | .timeRead e => Sys2Proof.Machine.execTimeRead e s
  | .budgetRead e => Sys2Proof.Machine.execBudgetRead e s
  | .signal e => Sys2Proof.Machine.execSignal e s
  | .nop e => Sys2Proof.Machine.execNop e s
  | .tareEvaluate p => Sys2Proof.Machine.execTareEvaluate p s
  | .tareIntervalExpiry p => Sys2Proof.Machine.execTareIntervalExpiry p s
  | .boltHeaderEmit p => Sys2Proof.Machine.execBoltHeaderEmit p s
  | .statsComplete p => Sys2Proof.Machine.execStatsComplete p s
  | .pipeDrainEnd p => Sys2Proof.Machine.execPipeDrainEnd p s
  | .fathomLineStored p => Sys2Proof.Machine.execFathomLineStored p s
  | .cropCutStart id => Sys2Proof.Machine.execCropCutStart id s
  | .cropWaitExpiry id => Sys2Proof.Machine.execCropWaitExpiry id s
  | .cropReadDone id => Sys2Proof.Machine.execCropReadDone id s
  | .outputMessageEnqueue => Sys2Proof.Machine.execOutputMessageEnqueue s
  | .outputFlushTimeout r kind => Sys2Proof.Machine.execOutputFlushTimeout r kind s
  | .outputIrqTimeout r => Sys2Proof.Machine.execOutputIrqTimeout r s
  | .udpDatagramSend r => Sys2Proof.Machine.execUdpDatagramSend r s
  | .outputRingDrainEnd r => Sys2Proof.Machine.execOutputRingDrainEnd r s
  | .slotFreeze => Sys2Proof.Machine.execSlotFreeze s
  | .slotStart => Sys2Proof.Machine.execSlotStart s
  | .posCmdWaitExpiry => Sys2Proof.Machine.execPosCmdWaitExpiry s
  | .valveAckRx l head seq status tail => Sys2Proof.Machine.execValveAckRx l head seq status tail s
  | .valveAckTimeout l => Sys2Proof.Machine.execValveAckTimeout l s
  | .linkDrainEnd l => Sys2Proof.Machine.execLinkDrainEnd l s
  | .testPulseDue => Sys2Proof.Machine.execTestPulseDue s
  | .qeEdge c a b => Sys2Proof.Machine.execQeEdge c a b s
  | .trigTimeDue g => Sys2Proof.Machine.execTrigTimeDue g s
  | .trigOutPulseEnd p => Sys2Proof.Machine.execTrigOutPulseEnd p s
  | .qeIndex c z => Sys2Proof.Machine.execQeIndex c z s
  | .qeStillTimeout c => Sys2Proof.Machine.execQeStillTimeout c s
  | .probeLatch p level => Sys2Proof.Machine.execProbeLatch p level s
  | .probeSnapshotRead p => Sys2Proof.Machine.execProbeSnapshotRead p s
  | .ethFrameRx n f => Sys2Proof.Machine.execEthFrameRx n f s
  | .ethLinkChange n up => Sys2Proof.Machine.execEthLinkChange n up s
  | .ptpEventRx n e => Sys2Proof.Machine.execPtpEventRx n e s
  | .ptpGeneralRx n m => Sys2Proof.Machine.execPtpGeneralRx n m s
  | .ptpMessageTimer inst n k sub align => Sys2Proof.Machine.execPtpMessageTimer inst n k sub align s
  | .servoSample b => Sys2Proof.Machine.execServoSample b s
  | .holdoverTimeout b => Sys2Proof.Machine.execHoldoverTimeout b s
  | .ppsInEdge frac => Sys2Proof.Machine.execPpsInEdge frac s
  | .ppsOutRise k => Sys2Proof.Machine.execPpsOutRise k s
  | .ppsOutFall k => Sys2Proof.Machine.execPpsOutFall k s
  | .cmpFire k => Sys2Proof.Machine.execCmpFire k s
  | .cmpArmWrite k v ses => Sys2Proof.Machine.execCmpArmWrite k v ses s
  | .capSwTrig k v ses => Sys2Proof.Machine.execCapSwTrig k v ses s
  | .captureEvent k => Sys2Proof.Machine.execCaptureEvent k s
  | .timeSnapshotRead blk => Sys2Proof.Machine.execTimeSnapshotRead blk s
  | .ellHelloRx d m => Sys2Proof.Machine.execEllHelloRx d m s
  | .ellRowsRx d m => Sys2Proof.Machine.execEllRowsRx d m s
  | .ellPartRx d m => Sys2Proof.Machine.execEllPartRx d m s
  | .ellVerdictRx d m => Sys2Proof.Machine.execEllVerdictRx d m s
  | .ellHelloTimer d => Sys2Proof.Machine.execEllHelloTimer d s
  | .ellLossTimeout d => Sys2Proof.Machine.execEllLossTimeout d s
  | .ellMergeTimeout d part => Sys2Proof.Machine.execEllMergeTimeout d part s
  | .ellVerdictTimeout d part => Sys2Proof.Machine.execEllVerdictTimeout d part s
  | .dramRequest r => Sys2Proof.Machine.execDramRequest r s
  | .dramRequestComplete c write => Sys2Proof.Machine.execDramRequestComplete c write s
  | .dramRefreshDue c b => Sys2Proof.Machine.execDramRefreshDue c b s
  | .dramMrPoll c rate tooHot => Sys2Proof.Machine.execDramMrPoll c rate tooHot s
  | .dramDqsTrack c => Sys2Proof.Machine.execDramDqsTrack c s
  | .dramIdleSrEntry c => Sys2Proof.Machine.execDramIdleSrEntry c s
  | .dramScrubDue => Sys2Proof.Machine.execDramScrubDue s
  | .dramTrainingDone t => Sys2Proof.Machine.execDramTrainingDone t s
  | .dramWipeDone => Sys2Proof.Machine.execDramWipeDone s
  | .mbxDoorbell k v bulk => Sys2Proof.Machine.execMbxDoorbell k v bulk s
  | .mbxRequestWrite k off bs => Sys2Proof.Machine.execMbxRequestWrite k off bs s
  | .netRequestRx ip port bs => Sys2Proof.Machine.execNetRequestRx ip port bs s
  | .sbWriteRequest bs => Sys2Proof.Machine.execSbWriteRequest bs s
  | .sbReadResponse n => Sys2Proof.Machine.execSbReadResponse n s
  | .sbReadStatus => Sys2Proof.Machine.execSbReadStatus s
  | .sessionIdleTimeout n => Sys2Proof.Machine.execSessionIdleTimeout n s
  | .backgroundCommandDone k info => Sys2Proof.Machine.execBackgroundCommandDone k info s
  | .slidingWindowAccess off len data ses => Sys2Proof.Machine.execSlidingWindowAccess off len data ses s
  | .counterLowRead read => Sys2Proof.Machine.execCounterLowRead read s
  | .reservedAddressAccess a acc => Sys2Proof.Machine.execReservedAddressAccess a acc s
  | .shArm p v => Sys2Proof.Machine.execShArm p v s
  | .shDisarm p v => Sys2Proof.Machine.execShDisarm p v s
  | .shRegWrite p off v => Sys2Proof.Machine.execShRegWrite p off v s
  | .dmaEnable k v => Sys2Proof.Machine.execDmaEnable k v s
  | .dmaEnableDone k => Sys2Proof.Machine.execDmaEnableDone k s
  | .dmaDisable k v => Sys2Proof.Machine.execDmaDisable k v s
  | .dmaClear k v => Sys2Proof.Machine.execDmaClear k v s
  | .dmaDoorbell k v => Sys2Proof.Machine.execDmaDoorbell k v s
  | .dmaDescriptorFetched k r => Sys2Proof.Machine.execDmaDescriptorFetched k r s
  | .dmaReadCompletion h2d r => Sys2Proof.Machine.execDmaReadCompletion h2d r s
  | .dmaDescriptorComplete h2d => Sys2Proof.Machine.execDmaDescriptorComplete h2d s
  | .dmaReadbackDone h2d r => Sys2Proof.Machine.execDmaReadbackDone h2d r s
  | .dmaCompletionTimeout k => Sys2Proof.Machine.execDmaCompletionTimeout k s
  | .outConsWrite r v => Sys2Proof.Machine.execOutConsWrite r v s
  | .msixVectorUnmask v => Sys2Proof.Machine.execMsixVectorUnmask v s
  | .registerWrite place d ses => Sys2Proof.Machine.execRegisterWrite place d ses s
  | .perstAssert => Sys2Proof.Machine.execPerstAssert s
  | .perstDeassert => Sys2Proof.Machine.execPerstDeassert s
  | .d3hotEntry => Sys2Proof.Machine.execD3hotEntry s
  | .mailboxReopen => Sys2Proof.Machine.execMailboxReopen s
  | .gpioEdge pin level => Sys2Proof.Machine.execGpioEdge pin level s
  | .consumerBusyEnd j => Sys2Proof.Machine.execConsumerBusyEnd j s
  | .evtLockoutEnd n => Sys2Proof.Machine.execEvtLockoutEnd n s
  | .evtSwFire n ses => Sys2Proof.Machine.execEvtSwFire n ses s
  | .gpioPulseEnd k => Sys2Proof.Machine.execGpioPulseEnd k s
  | .strobeInhibitEnd k => Sys2Proof.Machine.execStrobeInhibitEnd k s
  | .faultReport rs => Sys2Proof.Machine.execFaultReport rs s
  | .referenceLost k => Sys2Proof.Machine.execReferenceLost k s
  | .clockLoss k => Sys2Proof.Machine.execClockLoss k s
  | .sensorSample thermal voltage => Sys2Proof.Machine.execSensorSample thermal voltage s
  | .logFlush => Sys2Proof.Machine.execLogFlush s
  | .watchdogExpiry => Sys2Proof.Machine.execWatchdogExpiry s
  | .startupBegin => Sys2Proof.Machine.execStartupBegin s
  | .mailboxesOpen => Sys2Proof.Machine.execMailboxesOpen s
  | .bootArmApply l => Sys2Proof.Machine.execBootArmApply l s
  | .armWaitExpiry => Sys2Proof.Machine.execArmWaitExpiry s
  | .updateIdleTimeout => Sys2Proof.Machine.execUpdateIdleTimeout s
  | .activationRestartDone => Sys2Proof.Machine.execActivationRestartDone s
  | .trialConfirm => Sys2Proof.Machine.execTrialConfirm s
  | .trialWindowEnd => Sys2Proof.Machine.execTrialWindowEnd s
  | .powerTransitionDone => Sys2Proof.Machine.execPowerTransitionDone s
  | .wake => Sys2Proof.Machine.execWake s
  | .warmReset pin => Sys2Proof.Machine.execWarmReset pin s
  | .porFall => Sys2Proof.Machine.execPorFall s
  | .brownOut => Sys2Proof.Machine.execBrownOut s
  | .jtagLifecycleProgram target keyHash policy => Sys2Proof.Machine.execJtagLifecycleProgram target keyHash policy s
  | .bypass => Sys2Proof.Machine.execBypass s
  | .idcode => Sys2Proof.Machine.execIdcode s
  | .samplePreload => Sys2Proof.Machine.execSamplePreload s
  | .extest => Sys2Proof.Machine.execExtest s
  | .extestPulse => Sys2Proof.Machine.execExtestPulse s
  | .extestTrain => Sys2Proof.Machine.execExtestTrain s
  | .clamp => Sys2Proof.Machine.execClamp s
  | .highz => Sys2Proof.Machine.execHighz s
  | .devIdentify q => Sys2Proof.Machine.execDevIdentify q s
  | .sessionOpen q => Sys2Proof.Machine.execSessionOpen q s
  | .sessionClose q => Sys2Proof.Machine.execSessionClose q s
  | .sessionClaim q => Sys2Proof.Machine.execSessionClaim q s
  | .sessionRelease q => Sys2Proof.Machine.execSessionRelease q s
  | .devStateSet q => Sys2Proof.Machine.execDevStateSet q s
  | .devReset q => Sys2Proof.Machine.execDevReset q s
  | .devHealth q => Sys2Proof.Machine.execDevHealth q s
  | .camPortConfig q => Sys2Proof.Machine.execCamPortConfig q s
  | .camPortEnable q => Sys2Proof.Machine.execCamPortEnable q s
  | .camPortDisable q => Sys2Proof.Machine.execCamPortDisable q s
  | .camLinkStatus q => Sys2Proof.Machine.execCamLinkStatus q s
  | .camRegAccess q => Sys2Proof.Machine.execCamRegAccess q s
  | .camExposureSet q => Sys2Proof.Machine.execCamExposureSet q s
  | .pipeConfig q => Sys2Proof.Machine.execPipeConfig q s
  | .pipeTableLoad q => Sys2Proof.Machine.execPipeTableLoad q s
  | .pipeEnable q => Sys2Proof.Machine.execPipeEnable q s
  | .pipeDisable q => Sys2Proof.Machine.execPipeDisable q s
  | .pipeStatsRead q => Sys2Proof.Machine.execPipeStatsRead q s
  | .tareConfig q => Sys2Proof.Machine.execTareConfig q s
  | .tareRun q => Sys2Proof.Machine.execTareRun q s
  | .tareStatus q => Sys2Proof.Machine.execTareStatus q s
  | .tareRollback q => Sys2Proof.Machine.execTareRollback q s
  | .binConfig q => Sys2Proof.Machine.execBinConfig q s
  | .binCoefLoad q => Sys2Proof.Machine.execBinCoefLoad q s
  | .stitchConfig q => Sys2Proof.Machine.execStitchConfig q s
  | .classLutLoad q => Sys2Proof.Machine.execClassLutLoad q s
  | .segConfig q => Sys2Proof.Machine.execSegConfig q s
  | .gustRulesLoad q => Sys2Proof.Machine.execGustRulesLoad q s
  | .engImageLoad q => Sys2Proof.Machine.execEngImageLoad q s
  | .engPoolConfig q => Sys2Proof.Machine.execEngPoolConfig q s
  | .engStatus q => Sys2Proof.Machine.execEngStatus q s
  | .engFenceClear q => Sys2Proof.Machine.execEngFenceClear q s
  | .engPolicySet q => Sys2Proof.Machine.execEngPolicySet q s
  | .qeConfig q => Sys2Proof.Machine.execQeConfig q s
  | .qeRead q => Sys2Proof.Machine.execQeRead q s
  | .trigConfig q => Sys2Proof.Machine.execTrigConfig q s
  | .probeConfig q => Sys2Proof.Machine.execProbeConfig q s
  | .ejConfig q => Sys2Proof.Machine.execEjConfig q s
  | .ejMapLoad q => Sys2Proof.Machine.execEjMapLoad q s
  | .ejArm q => Sys2Proof.Machine.execEjArm q s
  | .ejDisarm q => Sys2Proof.Machine.execEjDisarm q s
  | .ejTestPulse q => Sys2Proof.Machine.execEjTestPulse q s
  | .ethPortConfig q => Sys2Proof.Machine.execEthPortConfig q s
  | .ptpConfig q => Sys2Proof.Machine.execPtpConfig q s
  | .ptpStatus q => Sys2Proof.Machine.execPtpStatus q s
  | .timeBaseConfig q => Sys2Proof.Machine.execTimeBaseConfig q s
  | .stationConfig q => Sys2Proof.Machine.execStationConfig q s
  | .ellStatus q => Sys2Proof.Machine.execEllStatus q s
  | .fathomConfig q => Sys2Proof.Machine.execFathomConfig q s
  | .outputRingConfig q => Sys2Proof.Machine.execOutputRingConfig q s
  | .coderConfig q => Sys2Proof.Machine.execCoderConfig q s
  | .previewConfig q => Sys2Proof.Machine.execPreviewConfig q s
  | .dramStatus q => Sys2Proof.Machine.execDramStatus q s
  | .dramQosSet q => Sys2Proof.Machine.execDramQosSet q s
  | .evtChannelConfig q => Sys2Proof.Machine.execEvtChannelConfig q s
  | .evtChannelStatus q => Sys2Proof.Machine.execEvtChannelStatus q s
  | .fltRead q => Sys2Proof.Machine.execFltRead q s
  | .fltAck q => Sys2Proof.Machine.execFltAck q s
  | .mgtSensorsRead q => Sys2Proof.Machine.execMgtSensorsRead q s
  | .logRead q => Sys2Proof.Machine.execLogRead q s
  | .settingsSave q => Sys2Proof.Machine.execSettingsSave q s
  | .settingsLoad q => Sys2Proof.Machine.execSettingsLoad q s
  | .settingsAcceptDefaults q => Sys2Proof.Machine.execSettingsAcceptDefaults q s
  | .updateBegin q => Sys2Proof.Machine.execUpdateBegin q s
  | .updateBlock q => Sys2Proof.Machine.execUpdateBlock q s
  | .updateVerify q => Sys2Proof.Machine.execUpdateVerify q s
  | .updateActivate q => Sys2Proof.Machine.execUpdateActivate q s
  | .updateAbort q => Sys2Proof.Machine.execUpdateAbort q s
  | .updateStatus q => Sys2Proof.Machine.execUpdateStatus q s
  | .lcsRead q => Sys2Proof.Machine.execLcsRead q s
  | .obsSelect q => Sys2Proof.Machine.execObsSelect q s
  | .qeSpacingEnd c => Sys2Proof.Machine.execQeSpacingEnd c s
  | .engineClockStep e up => Sys2Proof.Machine.execEngineClockStep e up s
  | .clockRestored k => Sys2Proof.Machine.execClockRestored k s
  | .pcieLinkChange gen width => Sys2Proof.Machine.execPcieLinkChange gen width s
  | .mgtRestartDone => Sys2Proof.Machine.execMgtRestartDone s
  | .ptpAnnounceTimeout inst n => Sys2Proof.Machine.execPtpAnnounceTimeout inst n s
  | .libraryActivationDone => Sys2Proof.Machine.execLibraryActivationDone s

end Sys2Proof.Machine
end

