-- ==== Sys2Proof/Machine/Idle.lean ====
section
/-! DEFINITION. What happens when no command waits: 4 ns of time pass. -/

namespace Sys2Proof.Machine

/-- 4 ns on the Ethernet ports: the next queued frames start, and those in transmission go on (12 R286). -/
def ethTick (s : State) : State := forEach (List.finRange 4) txDrain (forEach (List.finRange 4) txStart s)

/-- The level of `OBS[k]` at the end of a tick: low with signal 0x000 and in DEEP SLEEP, IN_BOLT of a pipe as it is, and a pulse
for its 16 ns (20 R463). A signal of the full set shows no level in the model. -/
def obsTick (k : Fin 8) (s : State) : State :=
  let sig := s.mgmt.obsSel[k]
  let inBolt := match idx? 12 (sig - 0x4D) with
    | some p => decide (0x4D ≤ sig) && (s.pipe[p]).bolt.isSome
    | none => false
  s.setObs k (s.power.state != .deepSleep && sig != 0
    && (inBolt || (!(decide (0x4D ≤ sig ∧ sig ≤ 0x58)) && s.evt.obsHigh[k] && decide (s.now < s.evt.obsUntil[k]))))

/-- One tick of the 250 MHz clock of the time bases (12 R288): the sample of the position block ends (10 R238), the Ethernet
ports send (12 R286), the running time bases advance, the downlinks of the camera lanes send their blocks (02 R42), and a
register access to a camera that has waited for 100 ms ends (17 Table 17.7). A neighbour whose silence has been declared is
LOST once the messages of the tick have been used (13 R322), and an output ring that is ENABLING is ENABLED (14 R340); a change of HOST_INDEPENDENT counts from here on (16
R388). The level conditions repeat their reports (19 R428), and the
`OBS` balls follow their signals (20 R463). -/
def idle (s : State) : State :=
  let s := levelRepeats s
  let s := forEach (List.finRange 2) sideLost (posSample s)
  let s := forEach (List.finRange 16) ringEnabled { s with mgmt := { s.mgmt with hostIndependentWas := s.mgmt.hostIndependent } }
  forEach (List.finRange 8) obsTick
    (forEach (List.finRange 12) regTimeout (forEach (List.finRange 24) downlinkTick (tickPasses (ethTick s))))

end Sys2Proof.Machine
end

