-- ==== Sys2Proof/Machine/Step.lean ====
section
/-! DEFINITION. The step: the command at the front of the queue, or 4 ns of time on an empty one. -/

namespace Sys2Proof.Machine

/-- One step: the front command is carried out on the state with the queue's rest; on an empty queue the block idles, and
its clocks advance (a log entry says so). Commands of one cycle stand in the queue in the order that the rules of the spec for one
cycle give them, such as a PCIe access before one of the management core (01 R11; DESIGN CHOICE). -/
def step (s : State) : Host.Outcome State Fault Refusal :=
  match s.pending with
  | [] => .next (idle s)
  | c :: rest => exec c { s with pending := rest }

/-- The command that a word spells, put at the front of the queue; the table gives no row any bits. -/
def State.withFetchWord (s : State) (nbits w : Nat) : State :=
  match decodeTableWord nbits w with
  | some c => { s with pending := c :: s.pending }
  | none => s

end Sys2Proof.Machine
end

