-- ==== Sys2Proof/Safety.lean ====
section
/-! DEFINITION. The terms of the claims: what stays the same, what is well formed, and when a row's event can take place. -/

namespace Sys2Proof.Machine

/-! ### What a command leaves unchanged -/

/-- The parts of the state. -/
inductive Part where
  | time | pos | evt | flt | mgmt | power | host | mbx | cam | pipe | stitch | seg | gust | ej | eng | outp | net | station | dram
  | mem | ecc | out | read
  deriving DecidableEq, Repr

/-- Every part of the state but the listed ones is the same; memory is compared by its bytes, and neither the queue of
commands nor the clock changes. -/
def SameBut (l : List Part) (s t : State) : Prop :=
  (.time ∈ l ∨ t.time = s.time) ∧ (.pos ∈ l ∨ t.pos = s.pos) ∧ (.evt ∈ l ∨ t.evt = s.evt) ∧ (.flt ∈ l ∨ t.flt = s.flt)
    ∧ (.mgmt ∈ l ∨ t.mgmt = s.mgmt) ∧ (.power ∈ l ∨ t.power = s.power) ∧ (.host ∈ l ∨ t.host = s.host)
    ∧ (.mbx ∈ l ∨ t.mbx = s.mbx) ∧ (.cam ∈ l ∨ t.cam = s.cam) ∧ (.pipe ∈ l ∨ t.pipe = s.pipe)
    ∧ (.stitch ∈ l ∨ t.stitch = s.stitch) ∧ (.seg ∈ l ∨ t.seg = s.seg) ∧ (.gust ∈ l ∨ t.gust = s.gust)
    ∧ (.ej ∈ l ∨ t.ej = s.ej) ∧ (.eng ∈ l ∨ t.eng = s.eng) ∧ (.outp ∈ l ∨ t.outp = s.outp) ∧ (.net ∈ l ∨ t.net = s.net)
    ∧ (.station ∈ l ∨ t.station = s.station) ∧ (.dram ∈ l ∨ t.dram = s.dram)
    ∧ (.mem ∈ l ∨ ∀ a, memRead t.mem a = memRead s.mem a) ∧ (.ecc ∈ l ∨ (t.eccBad = s.eccBad ∧ t.eccSoft = s.eccSoft))
    ∧ (.out ∈ l ∨ t.out = s.out) ∧ (.read ∈ l ∨ (t.readData = s.readData ∧ t.readBytes = s.readBytes))
    ∧ t.pending = s.pending ∧ t.now = s.now

/-- Every instance of a bank but one is the same. -/
def OthersSame {α : Type} {n : Nat} (a b : Vector α n) (i : Fin n) : Prop := ∀ k : Fin n, k ≠ i → b[k] = a[k]

/-- Outside `n` bytes from an address up, every byte of memory is the same. -/
def BytesSame (s t : State) (a n : Nat) : Prop := ∀ b, b < a ∨ a + n ≤ b → memRead t.mem b = memRead s.mem b

/-- `bs` stands in memory from an address up. -/
def Holds (s : State) (a : Nat) (bs : List Byte) : Prop := ∀ i (h : i < bs.length), memRead s.mem (a + i) = bs[i]

/-! ### Memory and queue -/

/-- The memory is in its canonical form. -/
def MemCanonical (s : State) : Prop := memWf s.mem = true

/-! ### Engines (09 R206 to R209) -/

/-- Engine `e` may issue, and its program counter is at a readable, whole, legal instruction of format `f` and OP `op`. -/
def At (s : State) (e : Fin 192) (f op : Nat) : Bool :=
  mayIssue s e && !s.bad (localAddr e (s.eng.eng[e]).pc.toNat) && legal (fetchWord s e) && opOf (fetchWord s e) == (f, op)

/-- The cycles of the next instruction of format `f` and OP `op` of engine `e` do not outlast its budget; a VERDICT or END has a
cycle to spare (09 R231, R233). A budget of 49 cycles or more is enough for any instruction. -/
def InBudget (s : State) (e : Fin 192) (f op : Nat) : Bool :=
  decide (instrCycles s < (s.eng.eng[e]).budget) || (instrCycles s == (s.eng.eng[e]).budget && !(f == 3 && decide (6 ≤ op)))

/-- Engine `e` stands at an instruction of format `f` and OP `op` that retires. -/
def Stands (s : State) (e : Fin 192) (f op : Nat) : Bool := At s e f op && InBudget s e f op

/-- The program counter may move on: the next instruction lies in the code region (09 R208). -/
def HasNext (s : State) (e : Fin 192) : Bool :=
  decide ((s.eng.eng[e]).pc.toNat + 4 < 0x10000) && (s.eng.eng[e]).pc.toNat % 4 == 0

/-- The state once engine `e` has fetched: corrected errors of the fetched word are counted and reported (09 R209). -/
def fetched (s : State) (e : Fin 192) : State := localSoft e (s.eng.eng[e]).pc.toNat 4 s

/-- From `s` to `t` only engine `e` has changed, to `y` with a budget smaller by at least one cycle. -/
def EngineIs (e : Fin 192) (s t : State) (y : Engine) : Prop :=
  t.eng = { s.eng with eng := t.eng.eng } ∧ OthersSame s.eng.eng t.eng.eng e
    ∧ ∃ b, b ≤ (s.eng.eng[e]).budget - 1 ∧ t.eng.eng[e] = { y with budget := b }

/-- Lane `i` of a register, lanes of `b` bits. -/
def laneOf (b v i : Nat) : Nat := v / 2 ^ (b * i) % 2 ^ b

/-- Register `d` of `y` has the lanes `f` where predicate `p` is 1, and those of `x` elsewhere (09 R203). -/
def LanesAre (x y : Engine) (w : Word) (p : Word) (d : Nat) (f : Nat → Nat) : Prop :=
  ∀ i, i < laneCount w → laneOf (laneBits w) (vreg y d).toNat i =
    if p.getLsbD i then f i else laneOf (laneBits w) (vreg x d).toNat i

/-- `y` is `x` at the next instruction, but for vector register `d`. -/
def OnlyVreg (x y : Engine) (d : Nat) : Prop :=
  y = { x with pc := x.pc + 4, vreg := y.vreg } ∧ ∀ k, k < 16 → k ≠ d → vreg y k = vreg x k

/-- Accumulator `d` of `y` has the lanes `f` of four times the lane width where predicate `p` is 1, and those of `x` elsewhere;
else `y` is `x` at the next instruction (09 R205). -/
def AccIs (x y : Engine) (w : Word) (p : Word) (d : Nat) (f : Nat → Nat) : Prop :=
  y = { x with pc := x.pc + 4, acc := y.acc } ∧ (∀ k, k < 4 → k ≠ d → accOf y k = accOf x k)
    ∧ ∀ i, i < laneCount w → laneOf (4 * laneBits w) (accOf y d).toNat i =
      if p.getLsbD i then f i else laneOf (4 * laneBits w) (accOf x d).toNat i

/-- The internal address of an engine address: code and data of the engine, shared memory of its cluster (09 Table 9.4). -/
def engAddr (e : Fin 192) (a : Nat) : Option Nat :=
  if a < 0x40000 then some (localAddr e a)
  else if 0x100000 ≤ a ∧ a < 0x200000 then some (sharedAddr (clusterOf e) (a - 0x100000)) else none

/-- `n` bytes at an engine address can be read: they are aligned, exist, and none of their words is uncorrectable. -/
def CanRead (s : State) (e : Fin 192) (a n : Nat) : Bool :=
  a % n == 0 && (match engAddr e a with | some m => (errWords s.eccBad m n).isEmpty | none => false)

/-- `n` bytes at an engine address can be written: they are aligned and lie in data or shared memory. -/
def CanWrite (e : Fin 192) (a n : Nat) : Bool := a % n == 0 && decide (0x10000 ≤ a) && (engAddr e a).isSome

/-- The state once a load has read `n` bytes: corrected errors of local memory are counted and reported (09 R209). -/
def loaded (s : State) (e : Fin 192) (a n : Nat) : State := if a < 0x40000 then localSoft e a n s else s

/-- Of the transfers that engine `e` had in its queues only those already on the fabric are left, the head of each queue, and they
belong to no task any more (09 R219, R231, R234). -/
def LeavesTransfers (s u : State) (e : Fin 192) : Prop :=
  ∀ q : Fin 4, (u.eng.eng[e]).dma[q] = (((s.eng.eng[e]).dma[q]).take 1).map fun t => { t with stale := true }

/-- The state `u` in which a program fault has ended the task of engine `e`: the engine is IDLE without a task, transfers that
wait in its queues are discarded, PROG_FAULTS counts, and the report names engine and program counter (09 R219; 19 Table 19.5). -/
def FaultEnded (e : Fin 192) (pc : Word) (s u : State) : Prop :=
  SameBut [.eng, .flt, .evt] s u
    ∧ u.flt = { s.flt with inFlight := s.flt.inFlight
        ++ [{ group := 10, cls := .squall, inst := e.val, cause := 0, valueA := pc.toNat }] }
    ∧ u.eng = { s.eng with eng := u.eng.eng, progFaults := s.eng.progFaults + 1 } ∧ OthersSame s.eng.eng u.eng.eng e
    ∧ (u.eng.eng[e]).state = .idle ∧ (u.eng.eng[e]).task = .none ∧ LeavesTransfers s u e

/-- Command `c` is a program fault of engine `e`: the task ends, and an object task's object takes its class's fallback. -/
def Faults (c : Instr) (e : Fin 192) (pc : Word) (s : State) : Prop :=
  ∃ u, FaultEnded e pc (fetched s e) u
    ∧ exec c s = .next (match (s.eng.eng[e]).task with | .object o _ => faultFallback o u | _ => u)

/-- The state `u` in which engine `e` has failed: it is FENCED with its clock stopped, FENCE_COUNT, FAIL_CAUSE and
ENGINE_FAILURES follow, and a Squall report names it (09 R231). -/
def FailEnded (e : Fin 192) (cause : FailCause) (s u : State) : Prop :=
  SameBut [.eng, .flt, .evt, .host, .out] s u
    ∧ (u.eng.eng[e]).state = .fenced ∧ (u.eng.eng[e]).clock = 0 ∧ (u.eng.eng[e]).failCause = cause
    ∧ (u.eng.eng[e]).fenceCount = min 255 ((s.eng.eng[e]).fenceCount + 1) ∧ (u.eng.eng[e]).task = .none
    ∧ LeavesTransfers s u e
    ∧ u.eng = { s.eng with eng := u.eng.eng, failures := s.eng.failures + 1 } ∧ OthersSame s.eng.eng u.eng.eng e
    ∧ ∃ r, u.flt = { s.flt with inFlight := s.flt.inFlight ++ [r] } ∧ r.group = 9 ∧ r.cls = .squall ∧ r.inst = e.val
      ∧ r.cause = cause.code

/-- Command `c` is a failure of engine `e` (09 R231, R232). -/
def Fails (c : Instr) (e : Fin 192) (cause : FailCause) (s : State) : Prop :=
  ∃ u, FailEnded e cause s u
    ∧ exec c s = .next (match (s.eng.eng[e]).task with | .object o _ => redispatch o u | _ => u)

/-! ### DMA channels (16 R383) -/

/-- Channel `k` has stopped with a cause: RUN, STOP_CAUSE, BYTES_DONE and ERRORS follow, nothing waits for its engine, and causes 3
to 6 are reported. -/
def StopsWith (k : DmaSel) (cause : StopCause) (bytes : Nat) (s u : State) : Prop :=
  SameBut [.host, .flt, .out] s u ∧ (u.chan k).run = .stopped ∧ (u.chan k).stop = cause ∧ (u.chan k).bytesDone = bytes
    ∧ (u.chan k).errors = (s.chan k).errors + 1 ∧ (u.chan k).fetchAt = none ∧ (u.chan k).ready = none
    ∧ (u.chan k).completed = (s.chan k).completed
    ∧ u.flt = (if 3 ≤ cause.code ∧ cause.code ≤ 6 then { s.flt with inFlight := s.flt.inFlight
        ++ [{ group := 25, cls := .squall, inst := k.inst, cause := cause.code, valueA := (s.chan k).curDesc }] } else s.flt)

/-! ### Mailbox commands (17) -/

/-- A request from an open session, other than a settings record of session 0, that firmware takes and serves: nothing else waits
(17 R395 to R402; 20 R439). -/
def Served (q : Req) (s : State) : Prop :=
  (q.session ≠ 0 ∨ q.net = true) ∧ q.noSession = false ∧ q.session < 14 ∧ firmwareActs s q = true ∧ s.mbx.queue = [] ∧ sessionOpen s q = true
    ∧ (s.mgmt.dev ≠ .halted ∨ recoveryServes s q = true) ∧ s.mgmt.pauseAsked = none

/-- Such a request with an opcode and FLAGS, well formed and no repeat of the session's last one (17 R391 to R394). -/
def Taken (op flags : Nat) (q : Req) (s : State) : Prop :=
  q.opcode = op ∧ q.flags = flags ∧ q.bad = false ∧ Served q s ∧ storedResponse q s = none

/-- Command `i` answers request `q` with a status, SUPERSEDED in place of OK where a notice waits; besides the mailboxes, the host
interface, the network counts and the outputs only the listed parts change, and what it does is `p` of the state after it and the
response's payload (17 R391, R394, R403). -/
def Answers (i : Instr) (q : Req) (s : State) (st : Status) (l : List Part) (p : State → List Byte → Prop) : Prop :=
  ∃ t pay, exec i s = .next t ∧ SameBut ([.mbx, .host, .net, .out] ++ l) s t
    ∧ (∀ k, q.slot = some k → ∃ r : Resp, (t.mbx.sess[k]).last = some (q, r) ∧ r.opcode = q.opcode ∧ r.session = q.session
      ∧ r.sequence = q.sequence ∧ r.status = noticed s q st ∧ r.payload = pay)
    ∧ p t pay

/-- Command `i` refuses request `q`: nothing changes and the payload is empty (17 R393). -/
def Refuses (i : Instr) (q : Req) (s : State) (st : Status) : Prop :=
  Answers i q s st [] fun t pay => pay = [] ∧ t.mbx.claims = s.mbx.claims ∧ t.mbx.writers = s.mbx.writers

/-- The session may use a resource: it is unowned or the session's own (17 R400). -/
def Free (s : State) (q : Req) (res : Nat) : Prop := s.holder res = none ∨ s.holder res = some q.session

end Sys2Proof.Machine
end

