-- ==== Sys2Proof/Certificates/Slice0/Obligations.lean ====
section
/-! DEFINITION. The statements for the provers. -/

open Sys2Proof Sys2Proof.Machine

/-! ### Engines: instructions (09) -/

/-- Scalar instructions with two operands: OP, command, and the result of RS1 and the second operand (09 Table 9.3). -/
def Sys2Proof.scalarRows (e : Fin 192) : List (Nat × Instr × (Word → Word → Word)) :=
  [(0, .add e, fun a b => a + b), (1, .sub e, fun a b => a - b), (2, .andS e, fun a b => a &&& b), (3, .orS e, fun a b => a ||| b),
   (4, .xorS e, fun a b => a ^^^ b), (5, .shl e, fun a b => a <<< (b.toNat % 32)), (6, .shr e, fun a b => a >>> (b.toNat % 32)),
   (7, .sra e, fun a b => a.sshiftRight (b.toNat % 32)), (8, .slt e, fun a b => if a.toInt < b.toInt then 1 else 0),
   (9, .sltu e, fun a b => if a.toNat < b.toNat then 1 else 0), (10, .minS e, fun a b => if a.toInt ≤ b.toInt then a else b),
   (11, .maxS e, fun a b => if a.toInt ≤ b.toInt then b else a), (13, .mul e, fun a b => a * b),
   (14, .mulh e, fun a b => BitVec.ofInt 32 ((a.toInt * b.toInt) / (2 ^ 32 : Nat))),
   (15, .mulhu e, fun a b => BitVec.ofNat 32 (a.toNat * b.toNat / 2 ^ 32)),
   (16, .div e, fun a b => if b = 0 then 0xFFFFFFFF#32 else BitVec.ofInt 32 (a.toInt.tdiv b.toInt)),
   (17, .divu e, fun a b => if b = 0 then 0xFFFFFFFF#32 else BitVec.ofNat 32 (a.toNat / b.toNat)),
   (18, .rem e, fun a b => if b = 0 then a else BitVec.ofInt 32 (a.toInt.tmod b.toInt)),
   (19, .remu e, fun a b => if b = 0 then a else BitVec.ofNat 32 (a.toNat % b.toNat))]

/-- The second operand of a scalar instruction: RS2 when bit 13 is 0, else IMM13: zero-extended for AND, OR and XOR, its low
five bits for shifts, sign-extended for the rest (09 R207). -/
def Sys2Proof.secondOperand (x : Engine) (w : Word) (op : Nat) : Word :=
  if fld w 13 13 = 1 then
    if op = 2 ∨ op = 3 ∨ op = 4 then BitVec.ofNat 32 (fld w 12 0)
    else if op = 5 ∨ op = 6 ∨ op = 7 then BitVec.ofNat 32 (fld w 4 0)
    else BitVec.ofInt 32 (if fld w 12 0 < 4096 then (fld w 12 0 : Int) else (fld w 12 0 : Int) - 8192)
  else sreg x (fld w 4 0)

/-- An engine that stands on a two-operand scalar instruction retires it: RD holds the result, everything else of the engine
and of the device is as the fetch left it, and the program counter goes to the next word (09 R207). So ADD, SUB, AND, OR, XOR, SHL, SHR, SRA, SLT, SLTU, MIN, MAX, MUL, MULH,
MULHU, DIV, DIVU, REM and REMU complete. -/
def Sys2Proof.ScalarResults : Prop :=
  ∀ (e : Fin 192) (s : State) (op : Nat) (c : Instr) (f : Word → Word → Word), (op, c, f) ∈ scalarRows e →
    Stands s e 0 op → HasNext s e →
    let x := (fetched s e).eng.eng[e]
    let w := fetchWord s e
    ∃ t, exec c s = .next t ∧ SameBut [.eng] (fetched s e) t
      ∧ EngineIs e (fetched s e) t
        { setSreg (fld w 23 19) (f (sreg x (fld w 18 14)) (secondOperand x w op)) x with pc := x.pc + 4 }

/-- The scalar register file: a write to s1 to s31 is what the register then reads, and no other register changes; s0 reads 0
and a write to it is ignored (09 Table 9.1). -/
def Sys2Proof.ScalarRegisters : Prop :=
  ∀ (x : Engine) (d k : Nat) (v : Word), d < 32 → k < 32 →
    sreg (setSreg d v x) k = if k = 0 then 0 else if k = d then v else sreg x k

/-- `ScalarResults` and `ScalarRegisters`, each with the frame it states. -/
def Obligations.ScalarInstructions : Prop := Sys2Proof.ScalarResults ∧ Sys2Proof.ScalarRegisters

/-- MOVHI, TIME, BUDGET and POLL write one scalar register: IMM19 shifted left by 13, TS32 of TB0, the budget counter, and a
value that the spec leaves open. NOP writes nothing, SIGNAL fires the cluster's producer (09 Table 9.3). -/
def Sys2Proof.SingleRegisterInstructions : Prop :=
  ∀ (e : Fin 192) (s : State), HasNext s e →
    let s1 := fetched s e
    let x := s1.eng.eng[e]
    let w := fetchWord s e
    (Stands s e 0 12 → ∃ t, exec (.movhi e) s = .next t ∧ SameBut [.eng] s1 t
      ∧ EngineIs e s1 t { setSreg (fld w 23 19) (BitVec.ofNat 32 (fld w 18 0 * 8192)) x with pc := x.pc + 4 })
    ∧ (Stands s e 5 1 → ∃ t, exec (.timeRead e) s = .next t ∧ SameBut [.eng] s1 t
      ∧ EngineIs e s1 t { setSreg (fld w 25 21) (s.tbTs 0) x with pc := x.pc + 4 })
    ∧ (Stands s e 5 2 → ∃ t b, exec (.budgetRead e) s = .next t ∧ SameBut [.eng] s1 t ∧ b ≤ x.budget - 1
      ∧ EngineIs e s1 t { setSreg (fld w 25 21) (BitVec.ofNat 32 b) x with pc := x.pc + 4 } ∧ (t.eng.eng[e]).budget = b)
    ∧ (Stands s e 4 3 → ∃ t v, exec (.poll e) s = .next t ∧ SameBut [.eng] s1 t
      ∧ EngineIs e s1 t { setSreg (fld w 25 21) v x with pc := x.pc + 4 })
    ∧ (Stands s e 5 3 → ∃ u, SameBut [.eng] s1 u ∧ EngineIs e s1 u x
      ∧ exec (.signal e) s = .next ((produce (61 + e.val / 16) u).setEng e fun y => { y with pc := x.pc + 4 }))
    ∧ (Stands s e 5 4 → ∃ t, exec (.nop e) s = .next t ∧ SameBut [.eng] s1 t ∧ EngineIs e s1 t { x with pc := x.pc + 4 })

/-- FENCE and WAIT retire when every DMA queue of the engine, or the queue they name, is empty; until then they change nothing
but the cycles spent (01 R25, 09 R212). -/
def Sys2Proof.WaitingInstructions : Prop :=
  ∀ (e : Fin 192) (s : State), HasNext s e →
    let s1 := fetched s e
    let x := s1.eng.eng[e]
    let q : Fin 4 := ⟨fld (fetchWord s e) 20 19 % 4, by omega⟩
    (Stands s e 5 0 → ∃ t, exec (.fence e) s = .next t ∧ SameBut [.eng] s1 t
      ∧ EngineIs e s1 t (if ∀ k : Fin 4, x.dma[k] = [] then { x with pc := x.pc + 4 } else x))
    ∧ (Stands s e 4 2 → ∃ t, exec (.waitDma e) s = .next t ∧ SameBut [.eng] s1 t
      ∧ EngineIs e s1 t (if x.dma[q] = [] then { x with pc := x.pc + 4 } else x))

/-- `SingleRegisterInstructions` and `WaitingInstructions`, each with the frame it states. -/
def Obligations.ControlInstructions : Prop := Sys2Proof.SingleRegisterInstructions ∧ Sys2Proof.WaitingInstructions

/-- An arithmetic lane result, wrapped or clamped to the lane range by SAT and UNS. -/
def Sys2Proof.laneOut (g : Nat → Int → Int → Int) (sat uns : Bool) (n sh a b : Nat) : Nat :=
  laneFit sat uns n (g sh (laneVal uns n a) (laneVal uns n b))

/-- A shift right by `sh` with rounding half up. -/
def Sys2Proof.halfUp (r : Int) (sh : Nat) : Int := if sh = 0 then r else (r + (2 ^ (sh - 1) : Nat)) / (2 ^ sh : Nat)

/-- Lane-by-lane vector instructions: OP, command, and a lane's result from SAT, UNS, the lane width, SHIFT and the lanes of
VS1 and VS2 (09 Table 9.3). -/
def Sys2Proof.laneRows (e : Fin 192) : List (Nat × Instr × (Bool → Bool → Nat → Nat → Nat → Nat → Nat)) :=
  [(0, .vadd e, laneOut fun _ a b => a + b), (1, .vsub e, laneOut fun _ a b => a - b),
   (2, .vmul e, laneOut fun sh a b => halfUp (a * b) sh), (3, .vmin e, laneOut fun _ a b => if a ≤ b then a else b),
   (4, .vmax e, laneOut fun _ a b => if a ≤ b then b else a), (5, .vand e, fun _ _ _ _ a b => a &&& b),
   (6, .vor e, fun _ _ _ _ a b => a ||| b), (7, .vxor e, fun _ _ _ _ a b => a ^^^ b),
   (8, .vshl e, laneOut fun sh a _ => a * (2 ^ sh : Nat)),
   (9, .vshr e, fun sat uns n sh a _ => laneFit sat uns n (halfUp a sh)),
   (10, .vsra e, fun sat uns n sh a _ => laneFit sat uns n (halfUp (signed n a) sh)),
   (11, .vabsd e, laneOut fun _ a b => if a ≤ b then b - a else a - b)]

/-- A lane-by-lane vector instruction writes VD in the lanes whose predicate bit is 1, and nothing else (09 R203, R204). So VADD,
VSUB, VMUL, VMIN, VMAX, VAND, VOR, VXOR, VSHL, VSHR, VSRA and VABSD complete. -/
def Sys2Proof.LaneResults : Prop :=
  ∀ (e : Fin 192) (s : State) (op : Nat) (c : Instr) (f : Bool → Bool → Nat → Nat → Nat → Nat → Nat), (op, c, f) ∈ laneRows e →
    Stands s e 1 op → HasNext s e →
    let x := (fetched s e).eng.eng[e]
    let w := fetchWord s e
    ∃ t y, exec c s = .next t ∧ SameBut [.eng] (fetched s e) t ∧ EngineIs e (fetched s e) t y ∧ OnlyVreg x y (fld w 21 18)
      ∧ LanesAre x y w (predOf x (fld w 9 7)) (fld w 21 18) fun i =>
        f (satOf w) (unsOf w) (laneBits w) (fld w 4 0) (laneOf (laneBits w) (vreg x (fld w 17 14)).toNat i)
          (laneOf (laneBits w) (vreg x (fld w 13 10)).toNat i)

/-- A lane result of `b` bits wraps modulo 2^b with SAT = 0, and with SAT = 1 is clamped to the lane range, signed or unsigned
by UNS (09 R204). -/
def Sys2Proof.LaneRange : Prop :=
  ∀ (uns : Bool) (b : Nat) (r : Int), 0 < b →
    (laneFit false uns b r : Int) = r % (2 ^ b : Nat)
    ∧ laneVal uns b (laneFit true uns b r) =
      max (if uns then 0 else -((2 ^ (b - 1) : Nat) : Int)) (min (if uns then ((2 ^ b : Nat) : Int) - 1 else ((2 ^ (b - 1) : Nat) : Int) - 1) r)

/-- Vector compares: OP, command, and the test on two lanes of `n` bits. -/
def Sys2Proof.compareRows (e : Fin 192) : List (Nat × Instr × (Nat → Nat → Nat → Bool)) :=
  [(12, .vcmpeq e, fun _ a b => a == b), (13, .vcmplt e, fun n a b => decide (signed n a < signed n b)),
   (14, .vcmpltu e, fun _ a b => decide (a < b))]

/-- A vector compare writes the predicate that VD names in the lanes whose predicate bit is 1; the other bits and all other
registers stay, and p0 always reads all ones (09 R203, R207). So VCMPEQ, VCMPLT and VCMPLTU complete. -/
def Sys2Proof.CompareResults : Prop :=
  ∀ (e : Fin 192) (s : State) (op : Nat) (c : Instr) (f : Nat → Nat → Nat → Bool), (op, c, f) ∈ compareRows e →
    Stands s e 1 op → HasNext s e →
    let x := (fetched s e).eng.eng[e]
    let w := fetchWord s e
    let p := predOf x (fld w 9 7)
    let d := fld w 21 18
    ∃ t y, exec c s = .next t ∧ SameBut [.eng] (fetched s e) t ∧ EngineIs e (fetched s e) t y
      ∧ y = { x with pc := x.pc + 4, pred := y.pred } ∧ (∀ k, k < 8 → k ≠ d ∨ d = 0 → predOf y k = predOf x k)
      ∧ (0 < d → ∀ i, i < 32 → (predOf y d).getLsbD i =
        if i < laneCount w && p.getLsbD i then
          f (laneBits w) (laneOf (laneBits w) (vreg x (fld w 17 14)).toNat i) (laneOf (laneBits w) (vreg x (fld w 13 10)).toNat i)
        else (predOf x d).getLsbD i)

/-- `LaneResults` and `LaneRange` and `CompareResults`, each with the frame it states. -/
def Obligations.VectorLanes : Prop := Sys2Proof.LaneResults ∧ Sys2Proof.LaneRange ∧ Sys2Proof.CompareResults

/-- VSEL, VBCAST and VACCRD write a vector register: the lane that the predicate selects, the scalar's low bits, an accumulator
lane shifted right with rounding and wrapped or clamped. VSUM writes the sum of the predicated lanes to a scalar register
(09 R203, R205, R207). -/
def Sys2Proof.VectorMoves : Prop :=
  ∀ (e : Fin 192) (s : State), HasNext s e →
    let s1 := fetched s e
    let x := s1.eng.eng[e]
    let w := fetchWord s e
    let n := laneBits w
    let p := predOf x (fld w 9 7)
    let d := fld w 21 18
    let a := fun i => laneOf n (vreg x (fld w 17 14)).toNat i
    let b := fun i => laneOf n (vreg x (fld w 13 10)).toNat i
    (Stands s e 1 15 → ∃ t y, exec (.vsel e) s = .next t ∧ SameBut [.eng] s1 t ∧ EngineIs e s1 t y ∧ OnlyVreg x y d
      ∧ ∀ i, i < laneCount w → laneOf n (vreg y d).toNat i = if p.getLsbD i then a i else b i)
    ∧ (Stands s e 1 16 → ∃ t y, exec (.vbcast e) s = .next t ∧ SameBut [.eng] s1 t ∧ EngineIs e s1 t y ∧ OnlyVreg x y d
      ∧ LanesAre x y w p d fun _ => (sreg x (fld w 4 0)).toNat % 2 ^ n)
    ∧ (Stands s e 1 20 → ∃ t y, exec (.vaccrd e) s = .next t ∧ SameBut [.eng] s1 t ∧ EngineIs e s1 t y ∧ OnlyVreg x y d
      ∧ LanesAre x y w p d fun i => laneFit (satOf w) (unsOf w) n
          (halfUp (laneVal (unsOf w) (4 * n) (laneOf (4 * n) (accOf x (fld w 17 14)).toNat i)) (fld w 4 0)))
    ∧ (Stands s e 1 21 → ∃ t, exec (.vsum e) s = .next t ∧ SameBut [.eng] s1 t
      ∧ EngineIs e s1 t { setSreg (fld w 4 0) (BitVec.ofInt 32 (((List.range (laneCount w)).map fun i =>
          if p.getLsbD i then laneVal (unsOf w) n (a i) else 0).sum)) x with pc := x.pc + 4 })

/-- VMACP adds two products per lane, VMACS one product with a broadcast scalar, VACCCLR writes zero, each in the lanes of one
accumulator whose predicate bit is 1, modulo the accumulator lane's width (09 R205). -/
def Sys2Proof.Accumulators : Prop :=
  ∀ (e : Fin 192) (s : State), HasNext s e →
    let s1 := fetched s e
    let x := s1.eng.eng[e]
    let w := fetchWord s e
    let n := laneBits w
    let p := predOf x (fld w 9 7)
    let d := fld w 21 18 % 4
    let a := fun r i => laneVal (unsOf w) n (laneOf n (vreg x r).toNat i)
    let b := fun r i => signed n (laneOf n (vreg x r).toNat i)
    let old := fun i => (laneOf (4 * n) (accOf x d).toNat i : Int)
    (Stands s e 1 17 → ∃ t y, exec (.vmacp e) s = .next t ∧ SameBut [.eng] s1 t ∧ EngineIs e s1 t y
      ∧ AccIs x y w p d fun i => ((old i + a (fld w 17 14) i * b (fld w 13 10) i
          + a (fld w 17 14 + 1) i * b (fld w 13 10 + 1) i) % (2 ^ (4 * n) : Nat)).toNat)
    ∧ (Stands s e 1 18 → ∃ t y, exec (.vmacs e) s = .next t ∧ SameBut [.eng] s1 t ∧ EngineIs e s1 t y
      ∧ AccIs x y w p d fun i => ((old i + a (fld w 17 14) i * signed n ((sreg x (fld w 13 10)).toNat % 2 ^ n))
          % (2 ^ (4 * n) : Nat)).toNat)
    ∧ (Stands s e 1 19 → ∃ t y, exec (.vaccclr e) s = .next t ∧ SameBut [.eng] s1 t ∧ EngineIs e s1 t y
      ∧ AccIs x y w p d fun _ => 0)

/-- `VectorMoves` and `Accumulators`, each with the frame it states. -/
def Obligations.VectorMovesAndAccumulators : Prop := Sys2Proof.VectorMoves ∧ Sys2Proof.Accumulators

/-- Loads of a scalar register: OP, command, bytes, and the extension of the little-endian value (09 Table 9.3). -/
def Sys2Proof.loadRows (e : Fin 192) : List (Nat × Instr × Nat × (Nat → Word)) :=
  [(0, .ldW e, 4, fun v => BitVec.ofNat 32 v), (1, .ldH e, 2, fun v => (BitVec.ofNat 16 v).signExtend 32),
   (2, .ldHu e, 2, fun v => BitVec.ofNat 32 v), (3, .ldB e, 1, fun v => (BitVec.ofNat 8 v).signExtend 32),
   (4, .ldBu e, 1, fun v => BitVec.ofNat 32 v)]

/-- A load of an aligned, existing, correctable place writes RD with the extended little-endian value; VLD writes a vector
register with 32 bytes, VLD.B fills one with a byte. Memory does not change (09 R208, R209). So LD_W, LD_H, LD_HU, LD_B, LD_BU, VLD
and VLD_B complete. -/
def Sys2Proof.Loads : Prop :=
  ∀ (e : Fin 192) (s : State), HasNext s e →
    let w := fetchWord s e
    let a := (effAddr (s.eng.eng[e]) w).toNat
    let get := fun n => leAt (memReadN s.mem ((engAddr e a).getD 0) n) 0 n
    (∀ (op n : Nat) (c : Instr) (f : Nat → Word), (op, c, n, f) ∈ loadRows e → Stands s e 2 op → CanRead s e a n →
      let s2 := loaded (fetched s e) e a n
      ∃ t, exec c s = .next t ∧ SameBut [.eng] s2 t
        ∧ EngineIs e s2 t { setSreg (fld w 24 20) (f (get n)) s2.eng.eng[e] with pc := (s.eng.eng[e]).pc + 4 })
    ∧ (Stands s e 2 8 → CanRead s e a 32 →
      let s2 := loaded (fetched s e) e a 32
      ∃ t y, exec (.vld e) s = .next t ∧ SameBut [.eng] s2 t ∧ EngineIs e s2 t y ∧ OnlyVreg s2.eng.eng[e] y (fld w 24 20)
        ∧ (vreg y (fld w 24 20)).toNat = get 32)
    ∧ (Stands s e 2 10 → CanRead s e a 1 →
      let s2 := loaded (fetched s e) e a 1
      ∃ t y, exec (.vldB e) s = .next t ∧ SameBut [.eng] s2 t ∧ EngineIs e s2 t y ∧ OnlyVreg s2.eng.eng[e] y (fld w 24 20)
        ∧ ∀ i, i < 32 → laneOf 8 (vreg y (fld w 24 20)).toNat i = get 1)

/-- A store to an aligned place of data or shared memory writes the low bytes of RD, VST all 32 bytes of a vector register,
lowest byte first; no other byte of memory and no register changes. ATOM.ADD adds RD to a word of shared memory and RD takes
the old value (09 R208, Table 9.3). So ST_W, ST_H, ST_B, VST and ATOM_ADD complete. -/
def Sys2Proof.Stores : Prop :=
  ∀ (e : Fin 192) (s : State), MemCanonical s → HasNext s e →
    let s1 := fetched s e
    let x := s1.eng.eng[e]
    let w := fetchWord s e
    let a := (effAddr (s.eng.eng[e]) w).toNat
    let m := (engAddr e a).getD 0
    (∀ (op n : Nat) (c : Instr), (op, c, n) ∈ [(5, Instr.stW e, 4), (6, .stH e, 2), (7, .stB e, 1)] → Stands s e 2 op →
      CanWrite e a n →
      ∃ t, exec c s = .next t ∧ SameBut [.eng, .mem, .ecc] s1 t ∧ EngineIs e s1 t { x with pc := x.pc + 4 }
        ∧ Holds t m (bytesOf n (sreg x (fld w 24 20)).toNat) ∧ BytesSame s t m n)
    ∧ (Stands s e 2 9 → CanWrite e a 32 →
      ∃ t, exec (.vst e) s = .next t ∧ SameBut [.eng, .mem, .ecc] s1 t ∧ EngineIs e s1 t { x with pc := x.pc + 4 }
        ∧ Holds t m (bytesOf 32 (vreg x (fld w 24 20)).toNat) ∧ BytesSame s t m 32)
    ∧ (Stands s e 2 11 → 0x100000 ≤ a → CanRead s e a 4 →
      let old := BitVec.ofNat 32 (leAt (memReadN s.mem m 4) 0 4)
      ∃ t, exec (.atomAdd e) s = .next t ∧ SameBut [.eng, .mem, .ecc] s1 t
        ∧ EngineIs e s1 t { setSreg (fld w 24 20) old x with pc := x.pc + 4 }
        ∧ Holds t m (bytesOf 4 (old + sreg x (fld w 24 20)).toNat) ∧ BytesSame s t m 4)

/-- `Loads` and `Stores`, each with the frame it states. -/
def Obligations.LoadsAndStores : Prop := Sys2Proof.Loads ∧ Sys2Proof.Stores

/-- A branch goes to PC + 4 OFS when its condition on RS holds, else to the next word; CALL writes PC + 4 to s30 and goes to its
target; RET goes to the address in RS. Nothing else changes. Targets here lie on a word of the code region (09 R207). So B, BZ, BNZ,
BLTZ, CALL and RET complete. -/
def Sys2Proof.Branches : Prop :=
  ∀ (e : Fin 192) (s : State),
    let s1 := fetched s e
    let x := s1.eng.eng[e]
    let w := fetchWord s e
    let r := sreg x (fld w 25 21)
    let ofs : Int := if fld w 20 0 < 2 ^ 20 then fld w 20 0 else (fld w 20 0 : Int) - 2 ^ 21
    let target := x.pc + BitVec.ofInt 32 (4 * ofs)
    let inCode := fun (a : Word) => a.toNat < 0x10000 ∧ a.toNat % 4 = 0
    (∀ (op : Nat) (c : Instr) (p : Prop), (op, c, p) ∈ [(0, Instr.branch e, True), (1, .bz e, r = 0), (2, .bnz e, r ≠ 0),
        (3, .bltz e, r.toInt < 0)] → Stands s e 3 op → (p → inCode target) → (¬ p → HasNext s e) →
      ∃ t pc, exec c s = .next t ∧ SameBut [.eng] s1 t ∧ EngineIs e s1 t { x with pc := pc }
        ∧ (p → pc = target) ∧ (¬ p → pc = x.pc + 4))
    ∧ (Stands s e 3 4 → inCode target → ∃ t, exec (.call e) s = .next t ∧ SameBut [.eng] s1 t
      ∧ EngineIs e s1 t { setSreg 30 (x.pc + 4) x with pc := target })
    ∧ (Stands s e 3 5 → r ≠ 0 → inCode r → ∃ t, exec (.ret e) s = .next t ∧ SameBut [.eng] s1 t
      ∧ EngineIs e s1 t { x with pc := r })

/-- A program fault ends the task at once: an illegal word; a misaligned access; an access outside the address space or a store
to the code region; an illegal DMA range; a program counter outside the code region; RET to 0; VERDICT or END in the wrong
kind of task; a bad VERDICT parameter (09 R219). So ILLEGAL_INSTRUCTION completes. -/
def Sys2Proof.ProgramFaults : Prop :=
  ∀ (e : Fin 192) (s : State),
    let x := s.eng.eng[e]
    let w := fetchWord s e
    let a := (effAddr x w).toNat
    let r := sreg x (fld w 25 21)
    (mayIssue s e → s.bad (localAddr e x.pc.toNat) = false → legal w = false → instrCycles s ≤ x.budget →
      ∃ u, FaultEnded e x.pc (fetched s e) u
        ∧ exec (.illegalInstruction e) s = .next (match x.task with | .object o _ => faultFallback o u | _ => u))
    ∧ (∀ (op n : Nat) (c : Instr), (op, c, n) ∈ [(0, Instr.ldW e, 4), (1, .ldH e, 2), (2, .ldHu e, 2), (5, .stW e, 4),
        (6, .stH e, 2), (8, .vld e, 32), (9, .vst e, 32), (11, .atomAdd e, 4)] → Stands s e 2 op → a % n ≠ 0 →
      Faults c e x.pc s)
    ∧ (∀ (op n : Nat) (c : Instr), (op, c, n) ∈ [(0, Instr.ldW e, 4), (1, .ldH e, 2), (2, .ldHu e, 2), (3, .ldB e, 1),
        (4, .ldBu e, 1), (8, .vld e, 32), (10, .vldB e, 1)] → Stands s e 2 op → a % n = 0 → engAddr e a = none →
      Faults c e x.pc s)
    ∧ (∀ (op n : Nat) (c : Instr), (op, c, n) ∈ [(5, Instr.stW e, 4), (6, .stH e, 2), (7, .stB e, 1), (9, .vst e, 32)] →
      Stands s e 2 op → a % n = 0 → a < 0x10000 ∨ engAddr e a = none → Faults c e x.pc s)
    ∧ (Stands s e 5 4 → x.pc.toNat + 4 = 0x10000 → Faults (.nop e) e (x.pc + 4) s)
    ∧ (Stands s e 3 5 → r = 0 → Faults (.ret e) e x.pc s)
    ∧ (Stands s e 3 6 → (∀ o b, x.task ≠ .object o b) → Faults (.verdict e) e x.pc s)
    ∧ (Stands s e 3 7 → (∀ n, x.task ≠ .event n) → Faults (.endTask e) e x.pc s)
    ∧ (∀ o b, Stands s e 3 6 → x.task = .object o b → verdictOk w r.toNat = false → Faults (.verdict e) e x.pc s)

/-- `Branches` and `ProgramFaults`, each with the frame it states. -/
def Obligations.BranchesAndFaults : Prop := Sys2Proof.Branches ∧ Sys2Proof.ProgramFaults

/-- VERDICT with legal parameters and readable result bytes frees the engine and hands verdict, crop choice and RLEN bytes to the
dispatcher, which for an object without a verdict counts it, lowers SLACK_MIN to the signed time left where that is less, and settles
the record: with RLEN 0 RESULT is 0, with INL it is bit 31 and the bytes' low 31 bits; for an object already decided it only counts a
late result and writes a result entry. END frees the engine of an event task (09 R218 to R220, R227, R228). -/
def Sys2Proof.TaskEnds : Prop :=
  ∀ (e : Fin 192) (s : State),
    let x := s.eng.eng[e]
    let w := fetchWord s e
    let n := fld w 16 11
    let v : EngVerdict := { verdict := fld w 20 17, inl := fld w 10 10 == 1, crop := fld w 9 8
                            data := memReadN s.mem (localAddr e (sreg x (fld w 25 21)).toNat) n }
    let freed := fun (u : State) => SameBut [.eng, .flt, .evt] s u ∧ OthersSame s.eng.eng u.eng.eng e
      ∧ u.eng = { s.eng with eng := u.eng.eng } ∧ (u.eng.eng[e]).state = .idle ∧ (u.eng.eng[e]).task = .none
    (∀ o b, Stands s e 3 6 → x.task = .object o b → verdictOk w (sreg x (fld w 25 21)).toNat →
      errWords s.eccBad (localAddr e (sreg x (fld w 25 21)).toNat) n = [] →
      ∃ u, freed u ∧ exec (.verdict e) s = .next (applyVerdict e o v u))
    ∧ (∀ k, Stands s e 3 7 → x.task = .event k → ∃ u, freed u ∧ exec (.endTask e) s = .next u)
    ∧ (∀ (o : RefObj) (v : EngVerdict), o.decided = false → v.data = [] ∨ v.inl = true →
      ∃ u, applyVerdict e o v s = settle { o.record with verdict := v.verdict
                                                         crop := if v.crop = 1 then true else if v.crop = 2 then false else o.crop
                                                         result := if v.data = [] then 0
                                                           else 2 ^ 31 + leAt v.data 0 v.data.length % 2 ^ 31 } o.cmd false u
        ∧ SameBut [.eng] s u ∧ u.eng = { s.eng with
            verdicts := s.eng.verdicts + 1, slackSeen := true
            slackMin := if s.eng.slackSeen = true ∧ s.eng.slackMin.toInt ≤ (o.timeKey - s.tbTs 0).toInt then s.eng.slackMin
              else o.timeKey - s.tbTs 0 })
    ∧ (∀ (o : RefObj) (v : EngVerdict), o.decided = true →
      ∃ u, applyVerdict e o v s = resultItem o.record v.verdict true e.val v.data u ∧ SameBut [.eng] s u
        ∧ u.eng = { s.eng with lateResults := s.eng.lateResults + 1 })

/-- GET and PUT put the transfer of the 32-byte descriptor at the local address in SD into queue Q; its oldest transfer then moves
row by row, LEN bytes from EXT_ADDR + r EXT_STRIDE to LOC_ADDR + r LOC_STRIDE or the reverse; on an uncorrectable word of local
memory the engine fails, and on one of shared memory that a transfer of an ended task meets the error is only recorded (09 R209 to
R212, R234). So GET, PUT and ENGINE_DMA_COMPLETE complete. -/
def Sys2Proof.EngineTransfers : Prop :=
  ∀ (e : Fin 192) (s : State), HasNext s e →
    let x := s.eng.eng[e]
    let w := fetchWord s e
    let a := (sreg x (fld w 25 21)).toNat
    let q : Fin 4 := ⟨fld w 20 19 % 4, by omega⟩
    let d := memReadN s.mem (localAddr e a) 32
    let tr : Bool → EngDma := fun put =>
      { put := put, ext := leAt d 0 8, loc := leAt d 8 4, len := leAt d 12 2 + 1, rows := leAt d 14 2 + 1
        extStride := (BitVec.ofNat 32 (leAt d 16 4)).toInt, locStride := (BitVec.ofNat 32 (leAt d 20 4)).toInt }
    (∀ (op : Nat) (c : Instr) (put : Bool), (op, c, put) ∈ [(0, Instr.getDma e, false), (1, .putDma e, true)] → Stands s e 4 op →
      (x.dma[q]).length < 8 → a + 32 ≤ 0x40000 → errWords s.eccBad (localAddr e a) 32 = [] → dmaLegal s e d (tr put) →
      let s2 := localSoft e a 32 (fetched s e)
      ∃ t, exec c s = .next t ∧ SameBut [.eng] s2 t
        ∧ EngineIs e s2 t { s2.eng.eng[e] with pc := x.pc + 4, dma := upd x.dma q fun l => l ++ [tr put] })
    ∧ (∀ (q : Fin 4) (t : EngDma) (rest : List EngDma), x.dma[q] = t :: rest → s.clockRuns 12 = true → dmaBadWords s e t = [] →
      exec (.engineDmaComplete e q) s = .next (forEach (List.range t.rows) (dmaRow e t)
        (s.setEng e fun y => { y with dma := upd y.dma q fun _ => rest })))
    ∧ (∀ (q : Fin 4) (t : EngDma) (rest : List EngDma) (w : Nat) (ws : List Nat), x.dma[q] = t :: rest → s.clockRuns 12 = true →
      dmaBadWords s e t = w :: ws →
      let s1 := s.setEng e fun y => { y with dma := upd y.dma q fun _ => rest }
      (dmaFromLocal e t = true → exec (.engineDmaComplete e q) s =
        .next (if x.state = .fenced ∨ x.state = .testing then s1 else engineFail e .localEcc s1))
      ∧ (dmaFromLocal e t = false → t.stale = true → 2 ^ 36 ≤ 8 * w →
        ∃ u, exec (.engineDmaComplete e q) s = .next (memoryReport e (8 * w) u) ∧ SameBut [.eng, .dram, .flt, .outp] s1 u
          ∧ u.eng = s1.eng))
    ∧ (∀ (t : EngDma) (r : Nat), MemCanonical s →
      let far := ((t.ext : Int) + r * t.extStride).toNat
      let near := localAddr e ((t.loc : Int) + r * t.locStride).toNat
      let u := dmaRow e t r s
      if t.put then Holds u far (memReadN s.mem near t.len) ∧ BytesSame s u far t.len
      else Holds u near (memReadN s.mem far t.len) ∧ BytesSame s u near t.len)

/-- An instruction row on an engine that may not issue changes nothing: its task has no instruction, its budget is used up, or
the device is not ACTIVE. An instruction whose cycles outlast the budget does not complete: the counter comes to 0 and nothing else
changes but for the fetch (09 R231, R233; 21 Table 21.10). -/
def Sys2Proof.EngineWaits : Prop :=
  ∀ (e : Fin 192) (s : State),
    (mayIssue s e = false →
      (∀ r ∈ scalarRows e, exec r.2.1 s = .next s) ∧ (∀ r ∈ laneRows e, exec r.2.1 s = .next s)
      ∧ (∀ r ∈ loadRows e, exec r.2.1 s = .next s) ∧ exec (.nop e) s = .next s ∧ exec (.verdict e) s = .next s
      ∧ exec (.illegalInstruction e) s = .next s)
    ∧ ∀ (f op : Nat) (c : Instr), (f, op, c) ∈ [(3, 6, Instr.verdict e), (3, 7, .endTask e), (5, 4, .nop e), (3, 0, .branch e),
        (2, 9, .vst e)] ++ (scalarRows e).map (fun r => (0, r.1, r.2.1)) → At s e f op → InBudget s e f op = false →
      ∃ t, exec c s = .next t ∧ SameBut [.eng] (fetched s e) t ∧ OthersSame s.eng.eng t.eng.eng e
        ∧ t.eng = { (fetched s e).eng with eng := t.eng.eng } ∧ t.eng.eng[e] = { (fetched s e).eng.eng[e] with budget := 0 }

/-- `TaskEnds` and `EngineTransfers` and `EngineWaits`, each with the frame it states. -/
def Obligations.EngineTransfersAndEnds : Prop := Sys2Proof.TaskEnds ∧ Sys2Proof.EngineTransfers ∧ Sys2Proof.EngineWaits

/-! ### Dispatcher (09) -/

/-- DISPATCH in ACTIVE, with the main fabric clock, hands the waiting object it chooses to an IDLE, unreserved engine of an ENABLED cluster whose CLASS_MASK
holds its class; the engine holds the object and DISPATCHED counts. With nothing to assign nothing changes (09 R224). -/
def Sys2Proof.DispatchAssigns : Prop :=
  ∀ s : State, s.power.state = .active → s.clockRuns 12 = true →
    (firstAssignable s (waitingObjs s) = none → exec .dispatch s = .next s)
    ∧ ∀ o e, firstAssignable s (waitingObjs s) = some (o, e) →
      o ∈ s.eng.refer ++ s.eng.again ∧ (s.eng.eng[e]).state = .idle ∧ reservedTin s e = false
      ∧ (s.eng.cluster[clusterOf e]).state = .enabled ∧ (s.eng.cluster[clusterOf e]).classMask.testBit o.cls.val = true
      ∧ ∃ t, exec .dispatch s = .next t ∧ SameBut [.eng] s t ∧ OthersSame s.eng.eng t.eng.eng e
        ∧ t.eng = { s.eng with eng := t.eng.eng, refer := s.eng.refer.erase o, again := s.eng.again.erase o
                               dispatched := s.eng.dispatched + 1 }
        ∧ t.eng.eng[e] = { s.eng.eng[e] with state := .object, task := .object o false }

/-- In ACTIVE a task starts with every register zero but those of Table 9.8, the program counter at the entry's OFFSET and the budget at
its BUDGET: s29 0x3_FF00, s31 cluster and position, s1 and s2 the object block and entry index, or the task input and the time of
capture. An object task finds its object block at 0x3_FF00 (09 R216, R217, R220). So OBJECT_TASK_START and EVENT_TASK_START complete. -/
def Sys2Proof.TasksStart : Prop :=
  ∀ (e : Fin 192) (s : State), MemCanonical s → s.power.state = .active →
    let regs := fun (y : Engine) (ent : ImageEntry) (a1 a2 : Word) =>
      (∀ k, k < 32 → sreg y k = if k = 1 then a1 else if k = 2 then a2 else if k = 29 then 0x3FF00#32
        else if k = 31 then BitVec.ofNat 32 e.val else 0)
      ∧ (∀ k, k < 16 → vreg y k = 0) ∧ (∀ k, k < 4 → accOf y k = 0) ∧ (∀ k, k < 8 → predOf y k = if k = 0 then 0xFFFFFFFF#32 else 0)
      ∧ y.pc = BitVec.ofNat 32 ent.offset ∧ y.budget = ent.budget ∧ y.dma = (s.eng.eng[e]).dma
    (∀ (o : RefObj) (ent : ImageEntry), (s.eng.eng[e]).task = .object o false →
      clusterEntry s (clusterOf e) o.pol.entry = some ent →
      ∃ t, exec (.objectTaskStart e) s = .next t ∧ SameBut [.eng, .mem, .ecc] s t ∧ OthersSame s.eng.eng t.eng.eng e
        ∧ t.eng = { s.eng with eng := t.eng.eng } ∧ regs t.eng.eng[e] ent 0x3FF00#32 (BitVec.ofNat 32 o.pol.entry)
        ∧ (t.eng.eng[e]).task = .object o true ∧ Holds t (localAddr e 0x3FF00) (objectBlock o)
        ∧ BytesSame s t (localAddr e 0x3FF00) 256)
    ∧ ∀ (c : Fin 12) (i : Fin 4) (ent : ImageEntry) (j : Fin 48), j.val = 4 * c.val + i.val →
      let con := s.evt.cons[tinConsumer c i]
      con.pending = true → (s.eng.cluster[c]).state = .enabled → (s.eng.cluster[c]).tinEntry[i] ≠ 0xFF →
      clusterEntry s c (s.eng.cluster[c]).tinEntry[i] = some ent → tinEngine s c i = some e →
      (s.eng.eng[e]).state = .idle
      ∧ ∃ t, exec (.eventTaskStart j) s = .next t ∧ SameBut [.eng, .evt] s t ∧ OthersSame s.eng.eng t.eng.eng e
        ∧ t.eng = { s.eng with eng := t.eng.eng } ∧ regs t.eng.eng[e] ent (BitVec.ofNat 32 i.val) con.captureTs
        ∧ (t.eng.eng[e]).state = .event ∧ (t.eng.eng[e]).task = .event i.val
        ∧ t.evt = (s.setCons (tinConsumer c i) fun y => { y with pending := false }).evt

/-- `DispatchAssigns` and `TasksStart`, each with the frame it states. -/
def Obligations.TasksAssignedAndStarted : Prop := Sys2Proof.DispatchAssigns ∧ Sys2Proof.TasksStart

/-- An object that has reached its deadline without a verdict takes its class's FALLBACK, flagged LATE, and FALLBACK_DEADLINE
counts: a waiting object leaves the waiting set, a running one keeps its engine under LATE_ACTION FINISH and frees it under ABORT.
Before the deadline nothing changes (09 R226). So DEADLINE_REACHED completes. -/
def Sys2Proof.DeadlineFallback : Prop :=
  ∀ (s : State) (id : BitVec 64) (o : RefObj),
    ((waitingObjs s).find? (fun o => o.record.id == id) = some o →
      (deadlineReached s o = false → exec (.deadlineReached id) s = .next s)
      ∧ (deadlineReached s o = true → ∃ u, exec (.deadlineReached id) s = .next (fallback o u) ∧ SameBut [.eng] s u
        ∧ u.eng = { s.eng with refer := s.eng.refer.erase o, again := s.eng.again.erase o
                               fallbackDeadline := s.eng.fallbackDeadline + 1, noEligible := u.eng.noEligible }))
    ∧ ∀ e, (waitingObjs s).find? (fun o => o.record.id == id) = none → runnerOf s id = some (e, o) →
      deadlineReached s o = true →
      ∃ u, exec (.deadlineReached id) s = .next (fallback o u) ∧ SameBut [.eng, .evt] s u
        ∧ u.eng.fallbackDeadline = s.eng.fallbackDeadline + 1 ∧ OthersSame s.eng.eng u.eng.eng e
        ∧ (o.pol.abort = true → (u.eng.eng[e]).state = .idle ∧ (u.eng.eng[e]).task = .none)
        ∧ (o.pol.abort = false → (u.eng.eng[e]).state = (s.eng.eng[e]).state
          ∧ ∃ st, (u.eng.eng[e]).task = .object { o with decided := true } st)

/-- The fallback of an object settles its record with the class's FALLBACK verdict, LATE and RESULT 0 (09 R219, R226). -/
def Sys2Proof.FallbackRecord : Prop :=
  ∀ (o : RefObj) (s : State),
    fallback o s = settle { o.record with verdict := o.pol.fallback, late := true, result := 0, crop := o.crop } o.cmd false s
    ∧ (o.decided = true → faultFallback o s = s)
    ∧ (o.decided = false → ∃ u, faultFallback o s = fallback o u ∧ SameBut [.eng] s u
      ∧ u.eng = { s.eng with fallbackFault := s.eng.fallbackFault + 1 })

/-- `DeadlineFallback` and `FallbackRecord`, each with the frame it states. -/
def Obligations.DeadlinesAndFallback : Prop := Sys2Proof.DeadlineFallback ∧ Sys2Proof.FallbackRecord

/-- An engine fails when the budget of its running task has run out, when its clock generator fails, and when a word it fetches is
uncorrectable: it is FENCED, and the object of an object task is handed to re-dispatch (09 R201, R209, R231, R232). So BUDGET_EXPIRY
and CLOCK_ADAPT_FAULT complete. -/
def Sys2Proof.EngineFailures : Prop :=
  ∀ (e : Fin 192) (s : State),
    let x := s.eng.eng[e]
    (taskRuns x = true → x.budget = 0 → Fails (.budgetExpiry e) e .watchdog s)
    ∧ (x.state = .idle ∨ x.state = .object ∨ x.state = .event → Fails (.clockAdaptFault e) e .clock s)
    ∧ (∀ c ∈ [Instr.add e, .vadd e, .ldW e, .stW e, .branch e, .verdict e, .endTask e, .getDma e, .nop e],
      mayIssue s e = true → s.bad (localAddr e x.pc.toNat) = true → Fails c e .localEcc s)

/-- The object of a failed engine goes to the re-dispatch list once, while its slack is at least the class's
REDISPATCH_MARGIN_US and the list holds fewer than 192; otherwise it takes its fallback. An object already decided is left alone
(09 R232). -/
def Sys2Proof.Redispatch : Prop :=
  ∀ (o : RefObj) (s : State),
    let may := o.redispatched = false ∧ (1000 * o.pol.marginUs : Int) ≤ (o.timeKey - s.tbTs 0).toInt ∧ s.eng.again.length < 192
    (o.decided = true → redispatch o s = s)
    ∧ (o.decided = false → ¬ may → redispatch o s = faultFallback o s)
    ∧ (o.decided = false → may → SameBut [.eng] s (redispatch o s)
      ∧ (redispatch o s).eng = { s.eng with
          again := s.eng.again ++ [{ o with redispatched := true, record := { o.record with redispatched := true } }]
          redispatched := s.eng.redispatched + 1
          waitingPeak := max s.eng.waitingPeak (s.eng.refer.length + (s.eng.again.length + 1)) })

/-- `EngineFailures` and `Redispatch`, each with the frame it states. -/
def Obligations.FailuresAndRedispatch : Prop := Sys2Proof.EngineFailures ∧ Sys2Proof.Redispatch

/-- An accepted image becomes the cluster's image, and every engine that is LOADING becomes OFF; a cluster that is ENABLING
becomes ENABLED and its OFF engines IDLE; the drain of a cluster that runs no task ends in DISABLED, or in ENABLING when an
enable waits, and its IDLE engines become OFF. No other engine changes (09 R215, R230). So IMAGE_INSTALL_DONE, CLUSTER_ENABLE_DONE and
CLUSTER_DRAIN_END complete. -/
def Sys2Proof.ClusterStates : Prop :=
  ∀ (c : Fin 12) (s : State),
    let k := s.eng.cluster[c]
    let engines := fun (t : State) (a b : EngState) => ∀ e : Fin 192,
      (t.eng.eng[e]).state = if e.val / 16 = c.val ∧ (s.eng.eng[e]).state = a then b else (s.eng.eng[e]).state
    (∀ img, k.installing = some img → ∃ t, exec (.imageInstallDone c) s = .next t ∧ SameBut [.eng, .mem, .ecc] s t
      ∧ OthersSame s.eng.cluster t.eng.cluster c ∧ t.eng.cluster[c] = { k with image := some img, installing := none }
      ∧ engines t .loading .off)
    ∧ (k.state = .enabling → ∃ t, exec (.clusterEnableDone c) s = .next t ∧ SameBut [.eng] s t
      ∧ OthersSame s.eng.cluster t.eng.cluster c ∧ t.eng.cluster[c] = { k with state := .enabled, enablePending := false }
      ∧ engines t .off .idle)
    ∧ (k.state = .draining → (∀ e : Fin 192, e.val / 16 = c.val → (s.eng.eng[e]).state ≠ .object ∧ (s.eng.eng[e]).state ≠ .event) →
      ∃ t, exec (.clusterDrainEnd c) s = .next t ∧ SameBut [.eng] s t ∧ OthersSame s.eng.cluster t.eng.cluster c
      ∧ t.eng.cluster[c] = { k with state := if k.enablePending then .enabling else .disabled, enablePending := false }
      ∧ engines t .idle .off)

/-- The clock generator of a working engine, or of one under test, moves by 10 MHz, between 800 MHz and CLOCK_MAX. The self-test of a fenced engine
returns it to IDLE in an ENABLED cluster and to OFF in another, or leaves it FENCED with FAIL_CAUSE SELFTEST; the
command that started it is then answered (09 R201, R235). So ENGINE_CLOCK_STEP and ENG_SELFTEST_DONE complete. -/
def Sys2Proof.EngineService : Prop :=
  ∀ (e : Fin 192) (s : State),
    let x := s.eng.eng[e]
    let k := s.eng.cluster[clusterOf e]
    (∀ up, x.state = .idle ∨ x.state = .object ∨ x.state = .event ∨ x.state = .testing →
      ∃ t, exec (.engineClockStep e up) s = .next t ∧ SameBut [.eng] s t ∧ OthersSame s.eng.eng t.eng.eng e
        ∧ t.eng = { s.eng with eng := t.eng.eng }
        ∧ t.eng.eng[e] = { x with clock := max 80 (min (max 80 (k.clockMax / 10)) (if up then x.clock + 1 else x.clock - 1)) })
    ∧ (x.state = .testing →
      (∃ u, exec (.engSelftestDone e true) s = .next (testAnswer e .ok u) ∧ SameBut [.eng, .mem, .ecc] s u
        ∧ OthersSame s.eng.eng u.eng.eng e
        ∧ (u.eng.eng[e]).state = (if k.state = .enabled then .idle else .off) ∧ (u.eng.eng[e]).failCause = .none)
      ∧ ∃ u, exec (.engSelftestDone e false) s = .next (testAnswer e .checkFail u) ∧ SameBut [.eng, .host, .out] s u
        ∧ OthersSame s.eng.eng u.eng.eng e ∧ u.eng.eng[e] = { x with state := .fenced, failCause := .selftest, clock := 0 })

/-- `ClusterStates` and `EngineService`, each with the frame it states. -/
def Obligations.ClusterAndEngineService : Prop := Sys2Proof.ClusterStates ∧ Sys2Proof.EngineService

/-! ### Camera links (02) -/

/-- Descrambling by x^58 + x^39 + 1: payload bit i comes out as the exclusive or of the received bits i, i - 39 and i - 58, where
bits before the block are those received before it, and the register then holds the last 58 received bits; it undoes the scrambling of
the other side whose register is the same (02 R35). -/
def Sys2Proof.Descrambler : Prop :=
  ∀ (reg : BitVec 58) (x : BitVec 64),
    let received := fun (i : Nat) => if 58 ≤ i then x.getLsbD (i - 58) else reg.getLsbD (57 - i)
    (∀ i, i < 64 → (descramble reg x).1.getLsbD i = (received (i + 58) ^^ received (i + 19) ^^ received i))
    ∧ (∀ k, k < 58 → (descramble reg x).2.getLsbD k = x.getLsbD (63 - k))
    ∧ descramble reg (scramble reg x).1 = (x, (scramble reg x).2)

/-- Blocks on a lane that is up: DATA_BLOCK_RX, IDLE_BLOCK_RX and INVALID_BLOCK_RX complete. A data block joins the line that a
LINE_START opened, with none it is counted in BAD_HEADER; an invalid header or an unlisted control type is counted too, and a TRIGGER is
only taken out of the data stream; an IDLE is deleted at a fill of 17 or more and doubled at 15 or less; a fill of 32, or of 0 within a
line, is an elastic error, which is counted, sets the fill to 16 and cuts the line in flight (02 R38, R39, R50, R57). A lane that is down
receives nothing. -/
def Sys2Proof.ReceivedBlocks : Prop :=
  ∀ (l : Fin 24) (blk : BitVec 66) (s : State),
    (laneUp s l = false → (∀ fill, exec (.dataBlockRx l blk fill) s = .next s ∧ exec (.idleBlockRx l blk fill) s = .next s)
      ∧ exec (.invalidBlockRx l blk) s = .next s)
    ∧ (laneUp s l = true →
    let b := (receiveBlock l blk s).1
    let u := (receiveBlock l blk s).2
    let x := u.cam.lane[l]
    let bad := badBlock l u
    (u = s.setLane l fun c => { c with lastP := x.lastP, descr := x.descr, signal := true })
    ∧ (∀ (fill : Fin 33) (v : State), elasticFill l fill.val v =
      if fill.val = 32 ∨ (fill.val = 0 ∧ (v.cam.lane[l]).line.isSome) then
        cutLine l ((v.setLane l fun c => { c with elasticErr := min (c.elasticErr + 1) 65535, fill := 16 }).report
          { group := 0, cls := .drizzle, inst := (laneOwner v l).val, cause := 2 })
      else v.setLane l fun c => { c with fill := fill.val })
    ∧ (∀ fill : Fin 33,
      (∀ d, b.header = 1 → x.line = some d → exec (.dataBlockRx l blk fill) s =
        .next (elasticFill l fill.val (u.setLane l fun c => { c with line := some { d with blocks := d.blocks ++ [b.payload] } })))
      ∧ (b.header = 1 → x.line = none → exec (.dataBlockRx l blk fill) s = .next (elasticFill l fill.val bad))
      ∧ (b.header = 2 → b.byte 0 = 0x1E → exec (.idleBlockRx l blk fill) s =
        .next (elasticFill l fill.val (u.setLane l fun c =>
          { c with idleDel := if 17 ≤ fill.val then min (c.idleDel + 1) 65535 else c.idleDel
                   idleIns := if fill.val ≤ 15 then min (c.idleIns + 1) 65535 else c.idleIns }))))
    ∧ (b.header = 2 → b.byte 0 ∉ [0x1E, 0x2D, 0x33, 0x4B, 0x55, 0x66, 0x78] → exec (.invalidBlockRx l blk) s = .next bad)
    ∧ (b.header = 2 → b.byte 0 = 0x78 → exec (.invalidBlockRx l blk) s = .next u)
    ∧ (b.header = 0 ∨ b.header = 3 → exec (.invalidBlockRx l blk) s =
        .next (badBlock l (u.setLane l fun c => if c.checking then { c with checkBad := c.checkBad + 1 } else c)))
    ∧ SameBut [.cam, .flt] u bad ∧ bad.cam.port = u.cam.port ∧ OthersSame u.cam.lane bad.cam.lane l
    ∧ bad.cam.lane[l] = { x with badHeader := min (x.badHeader + 1) (2 ^ 32 - 1) }
    ∧ bad.flt.inFlight = u.flt.inFlight ++ [{ group := 0, cls := .drizzle, inst := (laneOwner u l).val, cause := 1 }])

/-- `Descrambler` and `ReceivedBlocks`, each with the frame it states. -/
def Obligations.PhirvoBlocks : Prop := Sys2Proof.Descrambler ∧ Sys2Proof.ReceivedBlocks

/-- LINE_START_RX and CTRL_FRAGMENT_RX complete. On a lane in block lock LINE_START opens a line of the stream and number it names, with
the stamp of the earlier lane's LINE_START of the same line, or its own; without lock no line starts; a skew above 16 blocks is an
elastic error. A control fragment with the next index extends the message of its lane; the last one of a message with matching length and
CRC answers it with an ACK of its sequence, unless it is an ACK, and leaves it for its row (02 R39, R43, R51; 03 R66). -/
def Sys2Proof.LineStartsAndFragments : Prop :=
  ∀ (l : Fin 24) (blk : BitVec 66) (s : State), laneUp s l = true →
    let b := (receiveBlock l blk s).1
    let u := (receiveBlock l blk s).2
    let v := cutLine l u
    let p := laneOwner v l
    let k : Fin 4 := ⟨b.byte 1 % 4, by omega⟩
    let d : LaneLine := { stream := k, number := b.field 4 4, announced := b.field 2 2, stamp := stampNow p v }
    let other := ((v.cam.lane[otherLane l]).line.toList ++ (v.cam.lane[otherLane l]).done).find? fun e =>
      e.number == d.number && e.stream == k
    let opened := fun (e : LaneLine) (skew : Fin 256) =>
      let w := v.setLane l fun c => { c with line := some e }
      if 16 < skew.val then elasticError l w else w
    let w := u.setLane l fun c => { c with frags := none }
    let six := (List.range 6).map fun i => BitVec.ofNat 8 (b.byte (2 + i))
    let fr := addFragment (u.cam.lane[l]).frags (b.byte 1 % 16) ((b.byte 1).testBit 4) six
    (∀ skew : Fin 256, b.header = 2 → b.byte 0 = 0x2D →
      ((u.cam.lane[l]).lock = false → exec (.lineStartRx l blk skew) s = .next u)
      ∧ ((u.cam.lane[l]).lock = true → dualLane v p = false ∨ other = none → exec (.lineStartRx l blk skew) s = .next (opened d skew))
      ∧ ∀ e, (u.cam.lane[l]).lock = true → dualLane v p = true → other = some e →
        exec (.lineStartRx l blk skew) s = .next (opened { d with stamp := e.stamp } skew))
    ∧ (b.header = 2 → b.byte 0 = 0x66 → (b.byte 1).testBit 5 = false →
      exec (.ctrlFragmentRx l blk) s = .next (u.setLane l fun c => { c with frags := fr }))
    ∧ (b.header = 2 → b.byte 0 = 0x66 → (b.byte 1).testBit 5 = true →
      (fr = none → exec (.ctrlFragmentRx l blk) s = .next w)
      ∧ (∀ bs n, fr = some (bs, n) → parseMsg bs = none → exec (.ctrlFragmentRx l blk) s = .next w)
      ∧ ∀ bs n m, fr = some (bs, n) → parseMsg bs = some m →
        let answered := if m.typ = 0x0F then w else queueCtrl l 0x0F m.seq [] w
        (m.typ ∈ [0x01, 0x02, 0x04, 0x05, 0x06, 0x09, 0x0B, 0x0E, 0x0F] →
          exec (.ctrlFragmentRx l blk) s = .next (answered.setLane l fun c => { c with inbox := c.inbox ++ [m] }))
        ∧ (m.typ ∉ [0x01, 0x02, 0x04, 0x05, 0x06, 0x09, 0x0B, 0x0E, 0x0F] →
          exec (.ctrlFragmentRx l blk) s = .next answered))

/-- LINE_END_RX completes: LINE_END checks the CRC-32 of the line's data blocks against bytes 4 to 7, counts and reports a mismatch, and
hands the line on: on a port with one lane in use at once, on one with both lanes when the other lane's part has come, its blocks
interleaved from lane 0 on; parts on the other lane that are older than it end their lines early, and a part whose partner has not come
waits (02 R37, R38, R51, R57). -/
def Sys2Proof.LineEnds : Prop :=
  ∀ (l : Fin 24) (blk : BitVec 66) (s : State) (d : LaneLine), laneUp s l = true →
    let b := (receiveBlock l blk s).1
    let u := (receiveBlock l blk s).2
    let bad := (crc32 d.blocks).toNat != b.field 4 4
    let p := laneOwner u l
    let w := if bad then (u.setLane l fun c => { c with crcErr := min (c.crcErr + 1) (2 ^ 32 - 1) }).report
      { group := 0, cls := .drizzle, inst := p.val, cause := 0 } else u
    let o := otherLane l
    let closed := w.setLane l fun c => { c with line := none }
    b.header = 2 → b.byte 0 = 0x33 → (u.cam.lane[l]).line = some d →
    (dualLane u p = false → exec (.lineEndRx l blk) s = .next (deliverLine p { d with crcBad := bad } d.blocks bad d.cut closed))
    ∧ (∀ f rest, dualLane u p = true → (u.cam.lane[o]).done = f :: rest → (u.cam.lane[l]).done = [] →
      f.number = d.number → f.stream = d.stream →
      exec (.lineEndRx l blk) s = .next (deliverLine p { d with crcBad := bad }
        (if l.val % 2 = 0 then interleave d.blocks f.blocks else interleave f.blocks d.blocks) (bad || f.crcBad) (d.cut || f.cut)
        (closed.setLane o fun c => { c with done := rest })))
    ∧ (∀ older f rest, dualLane u p = true → (u.cam.lane[o]).done = older ++ f :: rest →
      (∀ e ∈ older, e.number ≠ d.number ∨ e.stream ≠ d.stream) → f.number = d.number → f.stream = d.stream →
      let v := flushParts o older ((flushDone l closed).setLane o fun c => { c with done := rest })
      exec (.lineEndRx l blk) s = .next (deliverLine (laneOwner v l) { d with crcBad := bad }
        (if l.val % 2 = 0 then interleave d.blocks f.blocks else interleave f.blocks d.blocks) (bad || f.crcBad) (d.cut || f.cut) v))
    ∧ (dualLane u p = true → (∀ e ∈ (u.cam.lane[o]).done, e.number ≠ d.number ∨ e.stream ≠ d.stream) →
      (u.cam.lane[l]).done.length < 16 →
      exec (.lineEndRx l blk) s = .next (closed.setLane l fun c => { c with done := c.done ++ [{ d with crcBad := bad }] }))

/-- `LineStartsAndFragments` and `LineEnds`, each with the frame it states. -/
def Obligations.LineFraming : Prop := Sys2Proof.LineStartsAndFragments ∧ Sys2Proof.LineEnds

/-- The oldest waiting message of the type that a row handles is taken and has its effect: HELLO is noted, SETTINGS_APPLIED sets the
apply latency, CHECK_RESULT the camera's invalid headers, RATE_ACK the lane's mode, in the lower mode also the next RATE_REQ, KEEPALIVE
nothing more; a RATE_NAK for precoding under PREFERRED repeats the request without it and any other fails the step; CAPS sets the target
mode and the lane goes on; REG_RESP answers the register access under way; an ACK removes the message it answers (02 R41, R43, R46; 03
R84). PL_HELLO_RX, CAPS_RX, RATE_ACK_RX, RATE_NAK_RX, CHECK_RESULT_RX, REG_RESP_RX, SETTINGS_APPLIED_RX, KEEPALIVE_RX and CTRL_ACK_RX
complete. -/
def Obligations.ControlMessages : Prop :=
  ∀ (l : Fin 24) (s : State) (m : CtrlMsg), (s.cam.lane[l]).inbox.find? (·.typ == m.typ) = some m →
    let p := laneOwner s l
    let u := s.setLane l fun c => { c with inbox := c.inbox.erase m }
    let moved := fun (n : Nat) => (cutLine l u).setLane l fun c => { c with mode := n, lock := false, lastP := 0 }
    let at_ := fun (i : Nat) => (m.body[i]?).getD 0
    let x := s.cam.lane[l]
    (m.typ = 0x01 → exec (.plHelloRx l) s = .next (u.setLane l fun c => { c with helloSeen := true }))
    ∧ (m.typ = 0x0E → exec (.keepaliveRx l) s = .next u)
    ∧ (m.typ = 0x0B → exec (.settingsAppliedRx l) s = .next (u.setPort p fun y => { y with applyLatency := at_ 2 % 8 }))
    ∧ (m.typ = 0x06 → exec (.checkResultRx l) s =
      .next (u.setLane l fun c => { c with cameraBad := leAt (m.body.map (BitVec.ofNat 8)) 0 4 }))
    ∧ (m.typ = 0x04 → x.state = .step10g ∧ at_ 0 = 2 ∨ x.state = .stepPam4 ∧ at_ 0 = 3 → exec (.rateAckRx l) s =
      .next (moved (at_ 0)))
    ∧ (m.typ = 0x04 → x.state = .step10g → at_ 0 = 1 → exec (.rateAckRx l) s = .next (rateReq p l 2 false (moved 1)))
    ∧ (∀ c, m.typ = 0x04 → x.state = .stepPam4 → at_ 0 = 2 → ((moved 2).cam.port[p]).config = some c →
      exec (.rateAckRx l) s = .next (rateReq p l 3 (c.precode != 0) (moved 2)))
    ∧ (∀ c, m.typ = 0x05 → x.state = .stepPam4 → (s.cam.port[p]).config = some c → x.precode = true → m.body.head? = some 2 →
      exec (.rateNakRx l) s = .next (if c.precode = 1 then rateReq p l 3 false u else stepFailed p l u))
    ∧ (m.typ = 0x05 → x.state = .step10g → m.body.head? ≠ some 2 → exec (.rateNakRx l) s = .next (stepFailed p l u))
    ∧ (∀ c, m.typ = 0x02 → x.state = .hello → (s.cam.port[p]).config = some c → portRuns s p = false →
      (s.cam.port[p]).rateLimited = false → exec (.capsRx l) s = .next (nextStep p l
        ((u.setPort p fun y => { y with caps := some (parseCaps m.body), applyLatency := at_ 8 % 8
                                        target := max 1 (min c.maxMode (at_ 0)) }).setLane l fun c => { c with state := .negotiate })))
    ∧ (∀ a, m.typ = 0x09 → (s.cam.port[p]).regAccess = some a → exec (.regRespRx l) s = .next (answerLater a .ok
        (bytesOf 2 (at_ 0 % 256 + 256 * (at_ 1 % 256)) ++ zeros 2
          ++ fit (if byteAt a.req.payload 1 = 0 then 4 * byteAt a.req.payload 2 else 0) ((m.body.map (BitVec.ofNat 8)).drop 2))
        (u.setPort p fun y => { y with regAccess := none })))
    ∧ (m.typ = 0x0F → exec (.ctrlAckRx l) s = .next (u.setPort p fun y =>
        { y with outstanding := y.outstanding.filter fun o => o.msg.seq != m.seq }))

/-- Bring-up: BLOCK_LOCK, CHECK_WINDOW_END and BRINGUP_STEP_TIMEOUT complete. A line in flight ends at a new lock. Block lock takes a lane from SEARCH to HELLO with a HELLO, or starts the check window of a rate step; the end of the
window reports the invalid headers and the step passes only if neither side saw one; a passed lane goes on to RUN when the
target mode is reached, else to the next rate step; the time of a step that runs out restarts the lane or fails the step
(02 R46, R47, Table 2.4). -/
def Sys2Proof.BringUp : Prop :=
  ∀ (l : Fin 24) (s : State),
    let p := laneOwner s l
    let x := s.cam.lane[l]
    let v := cutLine l s
    let locked := fun (fom : Fin 256) => v.setLane l fun c =>
      { c with lock := true, signal := true, eqFom := if c.mode ∈ [2, 3, 9, 10] then fom.val else 0 }
    (x.line = none → v = s)
    ∧ (∀ fom, laneUp s l = true → (v.cam.lane[l]).state = .search → ∃ body : List Nat, body.length = 2 ∧ exec (.blockLock l fom) s =
      .next (sendCtrl p (l.val % 2) 0x01 body ((locked fom).setLane l fun c => { c with state := .hello })))
    ∧ (∀ fom, laneUp s l = true → (v.cam.lane[l]).state = .step10g ∨ (v.cam.lane[l]).state = .stepPam4 → exec (.blockLock l fom) s =
      .next ((locked fom).setLane l fun c => { c with checking := true, checkBad := 0, cameraBad := 0 }))
    ∧ (x.checking = true →
      let u := sendCtrl p (l.val % 2) 0x06 (msgBytes 4 x.checkBad) (s.setLane l fun c => { c with checking := false })
      exec (.checkWindowEnd l) s = .next (if x.checkBad = 0 ∧ x.cameraBad = 0 then nextStep p l u else stepFailed p l u))
    ∧ (∀ u : State, nextStep p l u = if (u.cam.port[p]).target ≤ (u.cam.lane[l]).mode then laneRun p l u
        else startStep p l ((u.cam.lane[l]).mode + 1) u)
    ∧ (x.state = .search ∨ x.state = .hello ∨ x.state = .negotiate →
      exec (.bringupStepTimeout l) s = .next (startLane false l s))
    ∧ (x.state = .step10g ∨ x.state = .stepPam4 → exec (.bringupStepTimeout l) s = .next (stepFailed p l s))
    ∧ (x.state = .step10g → x.attempts + 1 < 3 → stepFailed p l s =
      rateReq p l 1 false (s.setLane l fun c => { c with mode := 1, attempts := c.attempts + 1, lock := false }))
    ∧ (x.state = .stepPam4 → x.attempts + 1 < 3 → stepFailed p l s =
      rateReq p l 2 false (s.setLane l fun c => { c with mode := 2, attempts := c.attempts + 1, lock := false }))

/-- KEEPALIVE_TIMER and CTRL_ACK_TIMEOUT complete. A control message waits as CTRL fragments for the downlink of its lane, under the
next sequence number, which wraps at 256, and awaits its ACK. KEEPALIVE goes out on the primary lane of a running Phirvo Link port. A
message without its ACK is repeated, at most three times; then the port is lost, or, on a lane that is not the primary one, that lane
restarts. At a block boundary of the downlink a TRIGGER leaves before all else, an IDLE at least every 2,048 blocks, then CTRL fragments in
order, else an IDLE; the payload is scrambled behind a control header (02 R35, R42, R43, R45, R50). -/
def Sys2Proof.ControlTimers : Prop :=
  ∀ (p : Fin 12) (s : State),
    (∀ (k typ : Nat) (body : List Nat), ∃ t, sendCtrl p k typ body s = t ∧ SameBut [.cam] s t
      ∧ OthersSame s.cam.port t.cam.port p ∧ OthersSame s.cam.lane t.cam.lane (laneIx p k)
      ∧ t.cam.lane[laneIx p k] = { s.cam.lane[laneIx p k] with
          txCtrl := (s.cam.lane[laneIx p k]).txCtrl ++ ctrlBlocks typ (s.cam.port[p]).nextSeq body }
      ∧ t.cam.port[p] = { s.cam.port[p] with
          nextSeq := ((s.cam.port[p]).nextSeq + 1) % 256
          outstanding := (s.cam.port[p]).outstanding
            ++ [{ lane := k, msg := { typ := typ, seq := (s.cam.port[p]).nextSeq, body := body } }] })
    ∧ (portRuns s p = true → isCxp s p = false →
      exec (.keepaliveTimer p) s = .next (sendCtrl p (s.cam.port[p]).primary 0x0E [] s))
    ∧ (∀ (typ q : Nat) (body : List Nat) (i : Nat), body.length ≤ 90 →
      let m := bytesOf 1 typ ++ bytesOf 1 q ++ bytesOf 2 body.length ++ body.map (BitVec.ofNat 8)
      let whole := m ++ bytesOf 2 (crc16 m).toNat
      let n := (whole.length + 5) / 6
      (ctrlBlocks typ q body).length = n ∧ (i < n → (ctrlBlocks typ q body)[i]? = some (BitVec.ofNat 64
        (0x66 + 256 * (i % 16 + (if i = 0 then 16 else 0) + (if i + 1 = n then 32 else 0))
          + 65536 * leAt (whole ++ zeros 6) (6 * i) 6))))
    ∧ (∀ l : Fin 24, (s.cam.lane[l]).state ≠ .down → isCxp s (laneOwner s l) = false →
      let x := s.cam.lane[l]
      let w := { x with txBits := x.txBits + 5 - 66 }
      let leaves := fun (payload : BitVec 64) (y : Lane) =>
        downlinkTick l s = ((s.setLane l fun _ => { y with txScr := (scramble x.txScr payload).2 }).emit
          (.block l.val ((scramble x.txScr payload).1.zeroExtend 66 <<< 2 ||| 2)))
      (x.txBits + 5 < 66 → downlinkTick l s = s.setLane l fun c => { c with txBits := c.txBits + 5 })
      ∧ (66 ≤ x.txBits + 5 →
        (∀ t r, x.txTrig = t :: r → leaves t { w with txTrig := r, txSinceIdle := x.txSinceIdle + 1 })
        ∧ (x.txTrig = [] → x.txCtrl = [] ∨ 2047 ≤ x.txSinceIdle → leaves 0x1E { w with txSinceIdle := 0 })
        ∧ (∀ b r, x.txTrig = [] → x.txSinceIdle < 2047 → x.txCtrl = b :: r →
          leaves b { w with txCtrl := r, txSinceIdle := x.txSinceIdle + 1 })))
    ∧ ∀ (seq : Fin 256) (o : Outstanding), ((s.cam.port[p]).outstanding.find? fun o => o.msg.seq == seq.val) = some o →
      (o.repeats < 3 → ∃ t, exec (.ctrlAckTimeout p seq) s = .next t ∧ SameBut [.cam] s t
        ∧ OthersSame s.cam.port t.cam.port p ∧ OthersSame s.cam.lane t.cam.lane (laneIx p o.lane)
        ∧ t.cam.lane[laneIx p o.lane] = { s.cam.lane[laneIx p o.lane] with
            txCtrl := (s.cam.lane[laneIx p o.lane]).txCtrl ++ ctrlBlocks o.msg.typ o.msg.seq o.msg.body }
        ∧ { o with repeats := o.repeats + 1 } ∈ (t.cam.port[p]).outstanding)
      ∧ (3 ≤ o.repeats →
        let u := s.setPort p fun x => { x with outstanding := x.outstanding.filter (· != o) }
        exec (.ctrlAckTimeout p seq) s = .next (if portRuns s p ∧ (s.cam.port[p]).primary = o.lane then portLoss p u
          else startLane false (laneIx p o.lane) u))

/-- `BringUp` and `ControlTimers`, each with the frame it states. -/
def Obligations.BringUpAndTimers : Prop := Sys2Proof.BringUp ∧ Sys2Proof.ControlTimers

/-- PORT_LOSS, PRIMARY_SILENCE_TIMEOUT and LANE_LOSS complete. Loss of the last lane, or 50 ms of silence on the primary lane, is port loss: lines in flight end, a Squall report leaves, the
open bolt closes, and an ENABLED port starts again at step 1. Loss of one lane of two in RUN makes the port RUN_DEGRADED on the
other, which becomes primary and carries LANE_DOWN; the lost lane restarts. The odd port beside a four-connection camera does not
start (01 R12; 02 R44, R57, R58, R60). -/
def Sys2Proof.LinkLoss : Prop :=
  ∀ (p : Fin 12) (s : State),
    let u := (forEach (portLanes s p) cutLine s)
    let lost := (endBolts p (u.report { group := 0, cls := .squall, inst := p.val, cause := 4 })).setPipe p fun x =>
      { x with waitFrame := false }
    ((s.cam.port[p]).link ≠ .down → (s.cam.port[p]).unit = .enabled → exec (.portLoss p) s = .next (portStart p lost))
    ∧ (portRuns s p = true → isCxp s p = false → (s.cam.port[p]).unit = .enabled →
      exec (.primarySilenceTimeout p) s = .next (portStart p lost))
    ∧ (∀ c, (s.cam.port[p]).config = some c → lanesPowered s = true → pairIdle s p = false →
      ((portStart p s).cam.port[p]).link = (if c.cxp then .cxpDiscovery else .search)
      ∧ ((portStart p s).cam.port[p]).held = [] ∧ ((portStart p s).cam.port[p]).caps = none
      ∧ ∀ l : Fin 24, 2 * p.val ≤ l.val → l.val < 2 * p.val + c.lanes →
        ((portStart p s).cam.lane[l]).state = (if c.cxp then .cxpDiscovery else .search)
        ∧ ((portStart p s).cam.lane[l]).line = none ∧ ((portStart p s).cam.lane[l]).lock = false)
    ∧ (pairIdle s p = true → portStart p s = s)
    ∧ (∀ l : Fin 24, laneUp s l = true → laneOwner s l = p → dualLane s p = false →
      (portRuns s p = true → (s.cam.port[p]).primary = l.val % 2 → exec (.laneLoss l) s = .next (portLoss p s))
      ∧ (portRuns s p = false ∨ (s.cam.port[p]).primary ≠ l.val % 2 →
        exec (.laneLoss l) s = .next (setPrimary p (startLane false l s))))
    ∧ ∀ l : Fin 24, laneUp s l = true → laneOwner s l = p → dualLane s p = true →
      ∃ v, exec (.laneLoss l) s = .next (sendCtrl p (1 - l.val % 2) 0x0C [l.val % 2] v)
        ∧ (v.cam.port[p]).link = .runDegraded ∧ (v.cam.port[p]).degraded = true ∧ (v.cam.port[p]).primary = 1 - l.val % 2
        ∧ (v.cam.lane[l]).state = .search
        ∧ { group := 0, cls := .squall, inst := p.val, cause := 3 } ∈ v.flt.inFlight

/-- LANE_HELLO_WAIT_EXPIRY completes: 100 ms after one lane of two reached RUN while the other is still in SEARCH, the port enters RUN_DEGRADED on the lane that
reached RUN (02 R48). -/
def Sys2Proof.DegradedStart : Prop :=
  ∀ (p : Fin 12) (l : Fin 24) (s : State), lanesInRun s p = [l] → portRuns s p = false → isCxp s p = false →
    (portLanes s p).length = 2 → (s.cam.lane[otherLane l]).state = .search →
    ∃ t, exec (.laneHelloWaitExpiry p) s = .next t ∧ SameBut [.cam, .pipe] s t ∧ OthersSame s.cam.port t.cam.port p
      ∧ t.cam.lane = s.cam.lane ∧ (t.cam.port[p]).link = .runDegraded ∧ (t.cam.port[p]).degraded = true
      ∧ (t.cam.port[p]).primary = l.val % 2 ∧ (t.cam.port[p]).mode = (s.cam.lane[l]).mode
      ∧ (t.cam.port[p]).expectedTag = 0 ∧ (t.cam.port[p]).resend = (s.cam.port[p]).lastSettings.isSome

/-- `LinkLoss` and `DegradedStart`, each with the frame it states. -/
def Obligations.LinkLossAndDegradedStart : Prop := Sys2Proof.LinkLoss ∧ Sys2Proof.DegradedStart

/-- CoaXPress: CXP_DISCOVERY_RETRY, CXP_CONTROL_RESPONSE, CXP_EVENT_PACKET, CXP_STREAM_PACKET and CXP_CONNECTION_LOSS complete.
Discovery is repeated until a camera answers; then the bootstrap registers are read, ConnectionConfig is written for the lower of the
speeds and 1, 2 or 4 connections, and its acknowledgement brings the connections to RUN, with the fast upconnection when the camera
declares it and all run at CXP-10 or CXP-12; control commands carry a tag, counted modulo 256, when the camera takes tags. Heartbeats and
event packets are counted and the last event packet is kept; a packet of an unmapped stream is counted, the pixels of a line packet of a
mapped one are repacked into 64-bit blocks and merged; loss of a connection other than 0 leaves the rest at the same speed and is
reported, loss of connection 0 is port loss (02 R52 to R54, R59). -/
def Obligations.CoaXPress : Prop :=
  ∀ (p : Fin 12) (c : PortConfig) (s : State), (s.cam.port[p]).config = some c → c.cxp = true →
    let x := s.cam.port[p]
    let writes := fun (m k : Nat) (u : State) => cxpSend p (fun tag => .cxpWrite p.val tag 0x4014 (k * 65536 + 0x28 + 8 * (m - 4))) u
    (∀ (mk : Option Nat → Out) (u : State), cxpSend p mk u =
      if (u.cam.port[p]).cxpTagged then
        (u.emit (mk (some (u.cam.port[p]).cxpTag))).setPort p fun y => { y with cxpTag := (y.cxpTag + 1) % 256 }
      else u.emit (mk none))
    ∧ (x.link = .cxpDiscovery → exec (.cxpDiscoveryRetry p) s =
      .next ((s.setPort p fun y => { y with cxpTries := y.cxpTries + 1 }).emit (.cxpDiscovery p.val)))
    ∧ (x.link = .cxpDiscovery → exec (.cxpControlResponse p .found) s = .next (forEach [0x0000, 0x0004, 0x4018, 0x403C]
        (fun a => cxpSend p fun tag => .cxpRead p.val tag a 1) (s.setPort p fun y => { y with link := .cxpConfig, target := 0 })))
    ∧ (∀ speed n up tagged, x.link = .cxpConfig → x.target = 0 →
      let m := max 4 (min c.maxMode speed)
      let k := if 4 ≤ min c.lanes n then 4 else if 2 ≤ min c.lanes n then 2 else 1
      exec (.cxpControlResponse p (.bootstrap speed n up tagged)) s = .next (writes m k (s.setPort p fun y =>
        { y with target := m, connections := k, cxpHighDeclared := up, cxpTagged := tagged })))
    ∧ (x.link = .cxpConfig → x.target ≠ 0 → ∃ t, exec (.cxpControlResponse p .configured) s = .next t ∧ SameBut [.cam, .pipe] s t
      ∧ (t.cam.port[p]).link = (if x.connections < c.lanes then .runDegraded else .run)
      ∧ (t.cam.port[p]).mode = x.target ∧ (t.cam.port[p]).applyLatency = c.cxpLatency
      ∧ (t.cam.port[p]).cxpHighUp = (x.cxpHighDeclared && decide (9 ≤ x.target))
      ∧ ∀ l ∈ (portLanes s p).take x.connections, (t.cam.lane[l]).state = .run ∧ (t.cam.lane[l]).mode = x.target)
    ∧ (∀ a st d, portRuns s p = true → x.regAccess = some a → exec (.cxpControlResponse p (.access st d)) s = .next (answerLater a .ok
        (bytesOf 2 st ++ zeros 2 ++ fit (if byteAt a.req.payload 1 = 0 then 4 * byteAt a.req.payload 2 else 0) d)
        (s.setPort p fun y => { y with regAccess := none })))
    ∧ (portRuns s p = true → exec (.cxpControlResponse p .heartbeat) s =
      .next (s.setPort p fun y => { y with cxpBeats := y.cxpBeats + 1 }))
    ∧ (∀ data, portRuns s p = true → exec (.cxpEventPacket p data) s =
      .next (s.setPort p fun y => { y with cxpEvents := y.cxpEvents + 1, cxpLastEvent := data.take 254 }))
    ∧ (∀ (conn : Fin 4) (l : Fin 24) (sid n : Nat) (px : List (List Nat)), (portLanes s p)[conn.val]? = some l →
      portRuns s p = true →
      (cxpStream c sid = none → exec (.cxpStreamPacket p conn (.line sid n px true)) s =
        .next (s.setPort p fun y => { y with unmapped := min (y.unmapped + 1) (2 ^ 32 - 1) }))
      ∧ ∀ k, cxpStream c sid = some k →
        (∀ ok : Bool,
          let blocks := packPixels (s.pipe[p]).depth px
          let u := if ok then s else (s.setLane l fun y => { y with crcErr := min (y.crcErr + 1) (2 ^ 32 - 1) }).report
            { group := 0, cls := .drizzle, inst := p.val, cause := 0 }
          exec (.cxpStreamPacket p conn (.line sid n px ok)) s = .next (deliverLine p
            { stream := k, number := n, announced := blocks.length, stamp := stampNow p s } blocks (!ok) false u))
        ∧ exec (.cxpStreamPacket p conn (.imageHeader sid)) s = .next (streamFrameStart p k 0 0 s)
        ∧ exec (.cxpStreamPacket p conn (.imageEnd sid)) s = .next (streamFrameEnd p k s))
    ∧ (∀ (k : Fin 4) (l : Fin 24), (portLanes s p)[k.val]? = some l → portRuns s p = true → (s.cam.lane[l]).state = .run →
      (k = 0 → exec (.cxpConnectionLoss p k) s = .next (portLoss p s))
      ∧ (k ≠ 0 → ∃ u, exec (.cxpConnectionLoss p k) s = .next ((writes x.mode (x.connections - 1) u).report
            { group := 0, cls := .squall, inst := p.val, cause := 3 })
          ∧ SameBut [.cam, .pipe] s u ∧ OthersSame s.cam.port u.cam.port p ∧ OthersSame s.cam.lane u.cam.lane l
          ∧ u.cam.port[p] = { x with connections := x.connections - 1, degraded := true, link := .runDegraded }
          ∧ (u.cam.lane[l]).state = .cxpDiscovery))

/-! ### Bolts, shadow sets, Tare (03, 05) -/

/-- FRAME_START_RX and FRAME_END_RX complete: FRAME_START and FRAME_END of the framing stream of a running port go to line framing, FRAME_START with the stamp of its
arrival and after a recovered lane has rejoined; those of other streams are counted; a port that does not run ignores both
(02 R46, R58; 03 R68). -/
def Sys2Proof.FrameMarks : Prop :=
  ∀ (l : Fin 24) (blk : BitVec 66) (c : PortConfig) (s : State), laneUp s l = true →
    let b := (receiveBlock l blk s).1
    let u := (receiveBlock l blk s).2
    let p := laneOwner u l
    let k : Fin 4 := ⟨b.byte 1 % 4, by omega⟩
    let counted := u.setPort p fun x => { x with otherFrames := x.otherFrames + 1 }
    (u.cam.port[p]).config = some c → b.header = 2 →
    (portRuns u p = true →
      (b.byte 0 = 0x4B → framingStream c = some k → exec (.frameStartRx l blk) s =
        .next (frameStart p (b.field 2 2) (b.field 4 4) (stampNow p u) (rejoin p (b.field 4 4) u)))
      ∧ (b.byte 0 = 0x4B → framingStream c ≠ some k → exec (.frameStartRx l blk) s = .next counted)
      ∧ (b.byte 0 = 0x55 → framingStream c = some k → exec (.frameEndRx l blk) s = .next (frameEnd p u))
      ∧ (b.byte 0 = 0x55 → framingStream c ≠ some k → exec (.frameEndRx l blk) s = .next counted))
    ∧ (portRuns u p = false → (b.byte 0 = 0x4B → exec (.frameStartRx l blk) s = .next u)
      ∧ (b.byte 0 = 0x55 → exec (.frameEndRx l blk) s = .next u))

/-- With the pipe clock running, FRAME_START on an ENABLED pipe and port opens a bolt: the next bolt number, the settings tag of the message (on CoaXPress the
expected one), the position of its stamp, no line yet. A bolt that is still open closes first with MISSING_END, with
SHORT_BOLT when it holds fewer than BOLT_LINES lines, and with DEGRADED when CAM_DEGRADED was set while it was open (01 R17; 03 R69 to
R72). -/
def Sys2Proof.BoltOpens : Prop :=
  ∀ (p : Fin 12) (tag counter : Nat) (stamp : LineStamp) (s : State), s.power.state = .active → s.clockRuns 9 = true →
    let x := s.pipe[p]
    let y := (frameStart p tag counter stamp s).pipe[p]
    x.unit = .enabled → (s.cam.port[p]).unit = .enabled →
    (∃ b, y.bolt = some b ∧ b.number = x.boltNumber ∧ b.lineCount = 0 ∧ b.firstPos = stamp.pos ∧ b.continued = false
      ∧ b.missingStart = false ∧ (isCxp s p = false → b.tag = tag ∧ b.camFrame = counter) ∧ y.activeTag = b.tag)
    ∧ y.boltNumber = (x.boltNumber + 1) % 2 ^ 64 ∧ y.fullBolt = none
    ∧ (x.bolt = none → y.closed = x.closed)
    ∧ ∀ b, x.bolt = some b → y.closed = x.closed
        ++ [{ b with missingEnd := true, shortBolt := decide (b.lineCount < x.active.boltLines)
                     degraded := b.degraded || (s.cam.port[p]).degraded }]

/-- FRAME_END closes the open bolt, short when it holds fewer than BOLT_LINES lines, and its statistics wait to be delivered; with
no bolt open it opens and closes none and is counted, unless it directly follows the last line of a full bolt (03 R69, R87). -/
def Sys2Proof.BoltCloses : Prop :=
  ∀ (p : Fin 12) (s : State), s.power.state = .active → s.clockRuns 9 = true →
    let x := s.pipe[p]
    let y := (frameEnd p s).pipe[p]
    x.unit = .enabled → (s.cam.port[p]).unit = .enabled → x.waitFrame = false →
    y.boltNumber = x.boltNumber
    ∧ (∀ b, x.bolt = some b → y.bolt = none ∧ y.closed = x.closed
        ++ [{ b with missingEnd := false, shortBolt := decide (b.lineCount < x.active.boltLines)
                     degraded := b.degraded || (s.cam.port[p]).degraded }]
      ∧ y.statsPending.length = x.statsPending.length + 1
      ∧ y.shortBolts = if b.lineCount < x.active.boltLines then min (x.shortBolts + 1) 65535 else x.shortBolts)
    ∧ (x.bolt = none → x.fullBolt.isSome → y = { x with fullBolt := none })
    ∧ (x.bolt = none → x.fullBolt = none → y = { x with orphanEnds := min (x.orphanEnds + 1) (2 ^ 32 - 1) })

/-- `FrameMarks` and `BoltOpens` and `BoltCloses`, each with the frame it states. -/
def Obligations.BoltBounds : Prop := Sys2Proof.FrameMarks ∧ Sys2Proof.BoltOpens ∧ Sys2Proof.BoltCloses

/-- A line that line framing takes into an open bolt, not as its last one, gets the pipe's next line number, its index in the
bolt, and SHORT, LONG and LINK_CRC by its length and CRC; it counts in the bolt and goes on to the stitcher. Without an open
bolt one opens first: CONTINUED after a full bolt of the same frame, MISSING_START otherwise (03 R64 to R67, R69). -/
def Sys2Proof.LineEntersBolt : Prop :=
  ∀ (p : Fin 12) (px : RawLine) (stamp : LineStamp) (short crc : Bool) (s : State), framingTakes s p = true →
    let x := s.pipe[p]
    let t := lineIn p px stamp short crc s
    (x.bolt = none → t = match (openBolt p (match x.fullBolt with | some b => .continued b | none => .missingStart) stamp s).pipe[p].bolt with
      | some b => lineInBolt p b px stamp short crc
          (openBolt p (match x.fullBolt with | some b => .continued b | none => .missingStart) stamp s)
      | none => openBolt p (match x.fullBolt with | some b => .continued b | none => .missingStart) stamp s)
    ∧ ∀ b, x.bolt = some b → b.lineCount + 1 ≠ x.active.boltLines →
      (t.pipe[p]).lineNumber = (x.lineNumber + 1) % 2 ^ 64
      ∧ ∃ (l : PipeLine) (b' : Bolt), (t.pipe[p]).outLines = x.outLines ++ [l] ∧ (t.pipe[p]).bolt = some b'
        ∧ l.bolt = b.number ∧ l.tag.number = x.lineNumber ∧ l.tag.pos = stamp.pos ∧ l.tag.ts = stamp.ts
        ∧ l.tag.index = b.lineCount ∧ l.tag.crc = crc ∧ l.tag.first = (b.lineCount == 0) ∧ l.tag.last = false
        ∧ l.tag.settings = b.tag ∧ l.channels = x.channels ∧ l.tag.drop = false
        ∧ l.tag.short = (short || decide (px.length < x.active.linePixels))
        ∧ l.tag.long = decide (x.active.linePixels < px.length)
        ∧ b'.number = b.number ∧ b'.lineCount = b.lineCount + 1 ∧ b'.crc = (b.crc || crc)

/-- BOLT_HEADER_EMIT, STATS_COMPLETE and PIPE_DRAIN_END complete. The 64-byte bolt header leaves once no line of the bolt is on its way through the stitcher; a statistics record leaves with
the pipe's correction and binning counters and stays readable; the drain of a pipe ends in DISABLED, or ENABLED when an enable
waits; the blocks of its chain return, but for those of parameters that wait for the next boundary (03 R72, R87, R492; 06 R131, R146). -/
def Sys2Proof.BoltRecords : Prop :=
  ∀ (p : Fin 12) (s : State),
    let x := s.pipe[p]
    (∀ b rest, x.closed = b :: rest → boltInFlight s p b.number = false →
      (boltHeader p.val b).length = 64
      ∧ ∃ t, exec (.boltHeaderEmit p) s = .next t ∧ SameBut [.pipe, .outp] s t ∧ OthersSame s.pipe t.pipe p
        ∧ t.pipe[p] = { x with closed := rest }
        ∧ t.outp.items = s.outp.items ++ [{ kind := 3, source := some p, payload := boltHeader p.val b }])
    ∧ (∀ b rest, x.closed = b :: rest → boltInFlight s p b.number = true → exec (.boltHeaderEmit p) s = .next s)
    ∧ (∀ r rest, x.statsPending = r :: rest →
      ∃ t, exec (.statsComplete p) s = .next t ∧ SameBut [.pipe, .outp] s t ∧ OthersSame s.pipe t.pipe p
        ∧ t.pipe[p] = { x with statsPending := rest, statsLast := r }
        ∧ t.outp.items = s.outp.items ++ [{ kind := 4, source := some p
                                            payload := statsBytes p.val r ++ counterBytes x.counters ++ binCounterBytes x.bin }])
    ∧ (x.unit = .draining → pipeDrained s p = true → ∃ t, exec (.pipeDrainEnd p) s = .next t
      ∧ SameBut [.pipe, .outp] s t ∧ OthersSame s.pipe t.pipe p
      ∧ (t.pipe[p]).unit = (if x.enablePending then .enabled else .disabled) ∧ (t.pipe[p]).bin.params.enable = false
      ∧ (t.pipe[p]).bin.pending = x.bin.pending ∧ (x.bin.pending = none → (t.pipe[p]).bin.blocks = 0))

/-- `LineEntersBolt` and `BoltRecords`, each with the frame it states. -/
def Obligations.LinesAndRecords : Prop := Sys2Proof.LineEntersBolt ∧ Sys2Proof.BoltRecords

/-- SH_ARM, SH_DISARM and SH_REG_WRITE complete. `PIPE_SH_CTRL` and the staged registers as a PCIe session writes them: a pipe held by a session that does not come by PCIe
only gets FOREIGN_WRITE; ARM arms a staged set that passes its checks and else sets BAD_VALUE, without effect while ARM is 1;
DISARM clears ARM; a write to a staged register keeps its writable bits, or is dropped with STALE_WRITE while ARM is 1
(03 R73 to R78). -/
def Sys2Proof.ShadowWrites : Prop :=
  ∀ (p : Fin 12) (s : State),
    let x := s.pipe[p]
    let foreign := s.setPipe p fun x => { x with foreignWrite := true }
    let u := fun (v : Word) => s.setPipe p fun x =>
      { x with badValue := x.badValue && !v.getLsbD 2, staleWrite := x.staleWrite && !v.getLsbD 3
               foreignWrite := x.foreignWrite && !v.getLsbD 4 }
    let ok := fun (v : Word) => shadowOk (u v) p x.staged x.channels x.depth && chainRoom (u v) p (chainNeed x x.staged)
    (s.pcieMayWrite (resPipe p.val) = false → ∀ (v : Word) (off : Fin 0x10000),
      exec (.shArm p v) s = .next foreign ∧ exec (.shDisarm p v) s = .next foreign ∧ exec (.shRegWrite p off v) s = .next foreign)
    ∧ (s.pcieMayWrite (resPipe p.val) = true → ∀ v : Word,
      (x.arm = true → exec (.shArm p v) s = .next (u v))
      ∧ (x.arm = false → ok v = true →
        ∃ t, exec (.shArm p v) s = .next t ∧ SameBut [.pipe] s t ∧ OthersSame s.pipe t.pipe p ∧ (t.pipe[p]).arm = true
          ∧ (t.pipe[p]).staged = x.staged ∧ (t.pipe[p]).active = x.active)
      ∧ (x.arm = false → ok v = false →
        exec (.shArm p v) s = .next ((u v).setPipe p fun x => { x with badValue := true }))
      ∧ exec (.shDisarm p v) s = .next ((u v).setPipe p fun x => { x with arm := false }))
    ∧ (s.pcieMayWrite (resPipe p.val) = true → ∀ (off : Fin 0x10000) (m v : Word), off.val % 4 = 0 → shadowMask off.val = some m →
      (x.arm = true → exec (.shRegWrite p off v) s = .next (s.setPipe p fun x => { x with staleWrite := true }))
      ∧ (x.arm = false → ∃ t, exec (.shRegWrite p off v) s = .next t ∧ SameBut [.pipe] s t ∧ OthersSame s.pipe t.pipe p
        ∧ t.pipe[p] = { x with staged := (t.pipe[p]).staged }
        ∧ ∀ k : Fin 0x8000, k.val % 4 = 0 → (t.pipe[p]).staged.word k.val = if k.val = off.val then v &&& m else x.staged.word k.val))

/-- At a bolt boundary an armed set becomes active as a whole, ARM clears, the transfer is counted, and the bolt it opens is
remembered (03 R76). Tare, without a swap of its own pending, leaves the set alone. -/
def Sys2Proof.ShadowTransfer : Prop :=
  ∀ (p : Fin 12) (s : State),
    let x := s.pipe[p]
    let y := (boltBoundary p s).pipe[p]
    x.tare.state ≠ .swapPending → x.tare.rollbackPending = false →
    (x.arm = true → y.active = x.staged ∧ y.staged = x.staged ∧ y.arm = false ∧ y.xferCount = (x.xferCount + 1) % 65536
      ∧ y.xferBolt = x.boltNumber ∧ y.xferMark = true)
    ∧ (x.arm = false → y.active = x.active ∧ y.staged = x.staged ∧ y.arm = false ∧ y.xferCount = x.xferCount)

/-- `ShadowWrites` and `ShadowTransfer`, each with the frame it states. -/
def Obligations.ShadowSet : Prop := Sys2Proof.ShadowWrites ∧ Sys2Proof.ShadowTransfer

/-- TARE_EVALUATE and TARE_INTERVAL_EXPIRY complete. The evaluation of a closed Tare window: a run with an uncorrectable error in its
blocks ends with reason 0x13 and a Squall report; one whose checks fail ends with the lowest failing check as its reason; a conflicting
load or an armed bank change ends it with 0x11; a passed one starts its write with the inactive bank not loaded and memory as before, and
at the end of the write the inactive correction bank is written and loaded and the run waits for its swap. The INTERVAL timer starts a flat run on an ENABLED pipe without a run, which is ABORTED when its blocks cannot be had
(05 R117 to R121, R128). -/
def Obligations.TareRuns : Prop :=
  ∀ (p : Fin 12) (s : State),
    let x := s.pipe[p]
    let y := fun (t : State) => (t.pipe[p]).tare
    (∀ run, x.tare.run = some run → x.tare.state = .evaluate → poolBad run s = none →
      let r := evaluateTare s p run
      let conflict := run.loadConflict = true ∨ x.arm = true ∧ x.staged.corrBank = 1 - x.active.corrBank
      ∃ t, exec (.tareEvaluate p) s = .next t ∧ SameBut [.pipe, .mgmt, .host, .out] s t ∧ OthersSame s.pipe t.pipe p
        ∧ (r.failMask ≠ 0 → (y t).state = .idle ∧ (y t).run = none ∧ (y t).lastFailMask = r.failMask
          ∧ (y t).lastReason = failReason r.failMask ∧ (y t).failCount = min (x.tare.failCount + 1) (2 ^ 32 - 1))
        ∧ (r.failMask = 0 → conflict → (y t).state = .idle ∧ (y t).run = none ∧ (y t).lastReason = 0x11)
        ∧ (r.failMask = 0 → ¬ conflict → (y t).state = .write
          ∧ (y t).run = some { run with result := r.slots.map fun sl => (sl.1, sl.2.map fun e => e.map (·.value)) }
          ∧ (t.pipe[p]).loadedCorr.toList[1 - x.active.corrBank]? = some false ∧ t.mgmt = s.mgmt))
    ∧ (∀ run w, x.tare.run = some run → x.tare.state = .evaluate → poolBad run s = some w →
      exec (.tareEvaluate p) s = .next ((endTare p 0x13 0 s).report
        { group := 4, cls := .squall, inst := p.val, cause := 0, valueA := w * 8 }))
    ∧ (∀ run, x.tare.run = some run → x.tare.state = .write →
      ∃ t, exec (.tareEvaluate p) s = .next t ∧ SameBut [.pipe, .mem, .ecc] s t ∧ OthersSame s.pipe t.pipe p
        ∧ (y t).state = .swapPending ∧ (y t).run = some run
        ∧ (t.pipe[p]).loadedCorr.toList[1 - x.active.corrBank]? = some true
        ∧ (t.pipe[p]).loadedCorr.toList[x.active.corrBank]? = x.loadedCorr.toList[x.active.corrBank]?
        ∧ (MemCanonical s → x.channels ≤ 8 → (∀ sl ∈ run.result, sl.1 < x.channels
            ∧ sl.2.length ≤ if x.channels ≤ 4 then 16384 else 8192) →
          ∀ a, a < bankBase p.val (1 - x.active.corrBank) ∨ bankBase p.val (1 - x.active.corrBank) + 0x40000 ≤ a →
            memRead t.mem a = memRead s.mem a))
    ∧ (x.tare.params.interval ≠ 0 → x.unit = .enabled → x.tare.run = none →
      ∃ t, exec (.tareIntervalExpiry p) s = .next t ∧ SameBut [.pipe, .mgmt, .host, .out] s t ∧ OthersSame s.pipe t.pipe p
        ∧ (tareRoom p s = true → (y t).state = .waitStart ∧ (y t).kind = 1 ∧ ∃ run, (y t).run = some run ∧ run.dark = false
          ∧ run.params = x.tare.params)
        ∧ (tareRoom p s = false → (y t).state = .idle ∧ (y t).run = none ∧ (y t).lastReason = 0x12))

/-! ### Stitcher, segmenter and Gust path (07, 08) -/

/-- With SSCLK running, LINE_AT_STITCHER and ROW_WINDOW_END complete: a line of a member pipe joins the open input row, or closes the row that already holds a line of its pipe, or opens a row with
the next number; lines of other pipes end at the stitcher. When the window ends, the row closes, and each member without a line
counts in ROW_MISS (01 R17; 07 R148, R150). -/
def Sys2Proof.InputRows : Prop :=
  ∀ (s : State), s.clockRuns 10 = true →
    (∀ (p : Fin 12) (l : PipeLine) (rest : List PipeLine), (s.pipe[p]).outLines = l :: rest →
      ∃ t, exec (.lineAtStitcher p) s = .next t ∧ SameBut [.pipe, .stitch, .flt] s t ∧ (t.pipe[p]).outLines = rest
        ∧ (isMember s p = false → t.stitch = s.stitch ∧ OthersSame s.pipe t.pipe p)
        ∧ (isMember s p = true → ∃ r, t.stitch.row = some r ∧ (r.slots[p]).came = true
          ∧ (r.slots[p]).number = some l.tag.number
          ∧ (∀ q, s.stitch.row = some q → (q.slots[p]).came = false → r.number = q.number ∧ t.stitch.closed = s.stitch.closed)
          ∧ (s.stitch.row = none → r.number = s.stitch.nextRow ∧ t.stitch.nextRow = (s.stitch.nextRow + 1) % 2 ^ 64)
          ∧ (∀ q, s.stitch.row = some q → (q.slots[p]).came = true → r.number = s.stitch.nextRow
            ∧ t.stitch.closed.map (·.number) = s.stitch.closed.map (·.number) ++ [q.number])))
    ∧ ∀ r, s.stitch.row = some r → ∃ t, exec .rowWindowEnd s = .next t ∧ SameBut [.stitch] s t ∧ t.stitch.row = none
      ∧ t.stitch.closed.map (·.number) = s.stitch.closed.map (·.number) ++ [r.number]
      ∧ (s.stitch.rowMiss < 2 ^ 32 → t.stitch.rowMiss = min (s.stitch.rowMiss + ((List.finRange 12).filter fun p =>
          isMember s p && !(r.slots[p]).came).length) (2 ^ 32 - 1))

/-- With SSCLK running, UNION_ROW_START completes: the first pixel group of the oldest closed row enters component union: the row leaves the stitcher, ROW_NUMBER counts, a
requested swap of the rule banks takes effect, and the row is segmented under its tag (07 R151, R163; 08 R197). -/
def Sys2Proof.UnionRow : Prop :=
  ∀ (s : State) (r : InputRow) (rest : List InputRow), s.clockRuns 10 = true → s.stitch.closed = r :: rest →
    ∃ u, exec .unionRowStart s = .next (segmentRow (rowTag r) r (rowMapSwaps u)) ∧ SameBut [.stitch, .gust] s u
      ∧ u.stitch.closed = rest ∧ u.stitch.rowNumber = (s.stitch.rowNumber + 1) % 2 ^ 64
      ∧ (s.gust.swapPending = true → u.gust.act = 1 - s.gust.act ∧ u.gust.swapPending = false
        ∧ u.gust.swaps = min (s.gust.swaps + 1) (2 ^ 32 - 1))
      ∧ (s.gust.swapPending = false → u.gust = s.gust)

/-- A chain of rules matches when every rule of it matches, and the object takes the verdict of the matching chain whose last rule
has the highest PRIORITY, the lowest rule number at a tie; without one it takes the bank's DEFAULT_VERDICT (08 R189, R191). -/
def Obligations.RuleChains : Prop :=
  ∀ (b : GustBank) (f : List Nat),
    let last := fun (j : Nat) => ∃ (h : j < b.rules.length) (i : Nat), i ≤ j
      ∧ (i = 0 ∨ ∃ r, b.rules[i - 1]? = some r ∧ r.andNext = false) ∧ (b.rules[j]).andNext = false
      ∧ ∀ k, i ≤ k → k ≤ j → ∃ r, b.rules[k]? = some r ∧ ruleMatches f r = true ∧ (k < j → r.andNext = true)
    ((∀ j, ¬ last j) → evaluateRules b f = { verdict := b.default, byDefault := true })
    ∧ ∀ j r, b.rules[j]? = some r → last j →
      (∀ k q, b.rules[k]? = some q → last k → q.priority ≤ r.priority ∧ (q.priority = r.priority → j ≤ k)) →
      evaluateRules b f = { verdict := r.verdict % 16, crop := r.flags.testBit 1, rule := idx? 256 j }

/-- With SSCLK running, FINALISE completes: the finaliser takes the oldest closed object: it gets the next OBJECT_ID, whose 52-bit sequence advances, and counts as
closed (07 R170; 13 R309). -/
def Sys2Proof.Finalises : Prop :=
  ∀ (s : State) (c : ClosedObj) (rest : List ClosedObj), s.clockRuns 10 = true → s.seg.waiting = c :: rest →
    ∃ t, exec .finalise s = .next t ∧ t.seg.waiting = rest ∧ t.seg.closed = min (s.seg.closed + 1) (2 ^ 32 - 1)
      ∧ t.gust.sequence = (s.gust.sequence + 1) % 2 ^ 52 ∧ t.gust.bank = s.gust.bank ∧ t.gust.act = s.gust.act
      ∧ SameBut [.seg, .gust, .mgmt, .ej, .eng, .flt, .station, .net, .outp, .out] s t

/-- `InputRows` and `UnionRow` and `Finalises`, each with the frame it states. -/
def Obligations.StitchAndSegment : Prop := Sys2Proof.InputRows ∧ Sys2Proof.UnionRow ∧ Sys2Proof.Finalises

/-! ### Fathom, crops, output rings (14) -/

/-- FATHOM_LINE_STORED completes: a staged line is stored: its payload at BASE plus the index part plus P times the line number modulo LINES, then its 32-byte
index entry with STORED = 1, and WRITE_LINE moves on to the next staged line, else to the next to come; no other byte changes (14 R326, R327). -/
def Obligations.FathomStores : Prop :=
  ∀ (p : Fin 12) (s : State) (n : Nat) (head payload : List Byte) (rest : List (Nat × List Byte × List Byte)), MemCanonical s →
    let f := s.outp.fathom[p]
    let entry := f.base + 32 * (n % f.lines)
    let data := f.base + (32 * f.lines + 65535) / 65536 * 65536 + f.stride * (n % f.lines)
    let word := bytesOf 4 (1 + depthCode f.depth * 4 + f.chMask * 256)
    f.staging = (n, head, payload) :: rest → head.length = 28 → dramHas s data payload.length = true → dramHas s entry 32 = true →
    entry + 32 ≤ data →
    ∃ t, exec (.fathomLineStored p) s = .next t ∧ SameBut [.outp, .mem, .ecc] s t ∧ OthersSame s.outp.fathom t.outp.fathom p
      ∧ Holds t data payload ∧ Holds t entry (head ++ word)
      ∧ (∀ a, (a < data ∨ data + payload.length ≤ a) → (a < entry ∨ entry + 32 ≤ a) → memRead t.mem a = memRead s.mem a)
      ∧ (t.outp.fathom[p]).staging = rest
      ∧ (f.enable = true → writeLine t p = (rest.head?.map (·.1)).getD (s.pipe[p]).lineNumber)

/-- CROP_CUT_START and CROP_WAIT_EXPIRY complete: cutting of a crop starts in ACTIVE and HOLD, once the entries of the last row of each piece are written, or after CROP_WAIT_US
whatever is written; a row without a written entry is MISSING. A job that has started is not started again (14 R331, R335). -/
def Sys2Proof.CropsStart : Prop :=
  ∀ (id : BitVec 64) (s : State) (j : CropJob), s.power.state = .active ∨ s.power.state = .hold → j ∈ s.outp.jobs → j.record.id = id →
    let row := fun (c : CropPiece) (r : Nat) =>
      match rowLine s c.pipe r with
      | none => none
      | some n => if entryWritten s c.pipe n then some n else none
    let started := fun (j : CropJob) => { j with
      started := true
      pieces := j.pieces.map fun c => { c with rows := (List.range c.count).map fun i => row c (c.rowLo + i) } }
    let good := fun (t : State) => SameBut [.outp] s t
      ∧ t.outp = { s.outp with jobs := s.outp.jobs.map fun x => if x.record.id = id ∧ x.started = false then started x else x }
    (∃ t, exec (.cropWaitExpiry id) s = .next t ∧ good t)
    ∧ ((∀ c ∈ j.pieces, c.count = 0 ∨ (row c (c.rowLo + c.count - 1)).isSome) → ∃ t, exec (.cropCutStart id) s = .next t ∧ good t)

/-- CROP_READ_DONE completes in ACTIVE and HOLD: when the last piece of a started crop has been read, its job ends, each piece counts as cut, and the object's record enters the
output items after the pieces; in STANDBY no crop is cut (14 R331, R336). -/
def Sys2Proof.CropEnds : Prop :=
  ∀ (id : BitVec 64) (s : State) (j : CropJob), (s.outp.jobs.find? fun j => j.record.id == id && j.started) = some j →
    (s.power.state ≠ .active → s.power.state ≠ .hold → exec (.cropReadDone id) s = .next s)
    ∧ (s.power.state = .active ∨ s.power.state = .hold → ∃ t l expired, exec (.cropReadDone id) s = .next t ∧ SameBut [.outp, .flt, .dram, .mem, .ecc] s t
      ∧ t.outp.jobs = s.outp.jobs.erase j ∧ t.outp.cropsCut = s.outp.cropsCut + j.pieces.length
      ∧ t.outp.items = s.outp.items ++ l ++ [{ kind := 1, source := none, payload := recordBytes { j.record with cropExpired := expired } }]
      ∧ (j.record.cropExpired = true → expired = true))

/-- `CropsStart` and `CropEnds`, each with the frame it states. -/
def Obligations.Crops : Prop := Sys2Proof.CropsStart ∧ Sys2Proof.CropEnds

/-- OUTPUT_MESSAGE_ENQUEUE and OUTPUT_FLUSH_TIMEOUT complete. The oldest output item goes to every ENABLED ring that carries its kind and pipe: RECORD and RESULT items join the ring's batch,
which is sent at BATCH items or after FLUSH_US; every other item makes a message of its own. A message takes the next MSG_SEQ
and carries a pending GAP (14 R341). -/
def Sys2Proof.MessagesForm : Prop :=
  ∀ (s : State),
    (∀ i rest, s.outp.items = i :: rest → exec .outputMessageEnqueue s =
      .next (forEach (List.finRange 16) (fun r u => ringItem r i u) { s with outp := { s.outp with items := rest } }))
    ∧ (∀ (r : Fin 16) (i : OutItem), (s.outp.ring[r]).state ≠ .enabled ∨ carries (s.outp.ring[r]).cfg r i = false → ringItem r i s = s)
    ∧ (∀ (r : Fin 16) (i : OutItem), (s.outp.ring[r]).state = .enabled → carries (s.outp.ring[r]).cfg r i = true →
      ringItem r i s = if i.kind = 1 ∨ i.kind = 2 then batchItem r i.kind i.payload s else formMsg r i.kind i.source i.payload s)
    ∧ (∀ (r : Fin 16) (kind : Fin 2) (l : List (List Byte)),
      ((s.outp.ring[r]).batches.find? fun b => b.1 == kind.val + 1) = some (kind.val + 1, l) →
      exec (.outputFlushTimeout r kind) s = .next (formMsg r (kind.val + 1) none l.flatten
        (s.setRing r fun g => { g with batches := g.batches.filter fun b => b.1 != kind.val + 1 })))
    ∧ ∀ (r : Fin 16) (kind : Nat) (source : Option (Fin 12)) (payload : List Byte),
      let g := s.outp.ring[r]
      let m : OutMsg := { kind := kind, source := source, seq := g.msgSeq
                          bytes := bytesOf 1 kind ++ bytesOf 1 (if g.gap then 1 else 0)
                            ++ bytesOf 2 (match source with | some p => p.val | none => 0xFFFF) ++ bytesOf 4 payload.length
                            ++ bytesOf 4 g.msgSeq ++ bytesOf 4 (s.tbTs 0).toNat ++ payload }
      formMsg r kind source payload s =
        judgeMsg r m (s.setRing r fun g => { g with msgSeq := (g.msgSeq + 1) % 2 ^ 32, gap := false })

/-- A message larger than its HOST ring is dropped and counted as oversize; another one that no held message precedes first gets the
PAD it needs; one without room, and a HOLD kind behind messages that wait, is dropped when it is a CROP, CODED,
MV_STRIP or PREVIEW message, held while all held messages fit in 512 KiB, and else dropped with a Squall report. A dropped message
counts in DROPPED and the next one carries GAP (14 R343). -/
def Sys2Proof.MessagesHeldOrDropped : Prop :=
  ∀ (r : Fin 16) (m : OutMsg) (s : State),
    let g := s.outp.ring[r]
    let t := judgeMsg r m s
    let keep := m.kind < 6 ∨ 9 < m.kind
    let u := if g.held = [] ∨ ¬ keep then sendPad r m s else s
    let h := u.outp.ring[r]
    let drop := fun (g : OutRing) => { g with dropped := min (g.dropped + 1) (2 ^ 32 - 1), gap := true }
    let tooLarge := g.cfg.udp = false ∧ g.cfg.size / 64 < (m.bytes.length + 63) / 64
    let room := (h.held = [] ∨ ¬ keep) ∧ ringRoom u r m = true
    let fits := (u.outp.ring.toList.map heldBytes).sum + m.bytes.length ≤ 524288
    (tooLarge → SameBut [.outp] s t ∧ t.outp.ring[r] = { drop g with oversize := min (g.oversize + 1) (2 ^ 32 - 1) })
    ∧ (¬ tooLarge → room → t = sendMsg r m u)
    ∧ (¬ tooLarge → ¬ room → ¬ keep → SameBut [.outp] u t ∧ t.outp.ring[r] = drop h)
    ∧ (¬ tooLarge → ¬ room → keep → fits → SameBut [.outp] u t
      ∧ (t.outp.ring[r]).held = h.held ++ [m] ∧ (t.outp.ring[r]).dropped = h.dropped)
    ∧ (¬ tooLarge → ¬ room → keep → ¬ fits → SameBut [.outp, .flt] u t ∧ t.outp.ring[r] = drop h
      ∧ t.flt.inFlight = u.flt.inFlight ++ [{ group := 22, cls := .squall, inst := r.val, cause := 0 }])

/-- `MessagesForm` and `MessagesHeldOrDropped`, each with the frame it states. -/
def Obligations.OutputMessages : Prop := Sys2Proof.MessagesForm ∧ Sys2Proof.MessagesHeldOrDropped

/-- A HOST ring has room for a message when no PAD is due and its units and those not yet freed fit SIZE; a message goes in at the
producer index and the index moves by its 64-byte units, the data on the D2H channel of its kind before the index; a PAD message of the
rest of the ring goes in as soon as that is free, counted in MSG_SEQ. A UDP ring has room when the shaper's tokens cover the datagrams that
wait and those of the message, at most a burst of them (14 R341 to R343; 01 R27; the PAD's MSG_SEQ and the burst are the model's choices). -/
def Sys2Proof.HostRingWrites : Prop :=
  ∀ (r : Fin 16) (m : OutMsg) (s : State),
    let g := s.outp.ring[r]
    let n := g.cfg.size / 64
    let units := (m.bytes.length + 63) / 64
    let pad := if g.producer % n + units ≤ n then 0 else n - g.producer % n
    let used := (g.producer + 2 ^ 32 - s.host.outCons[r] % 2 ^ 32) % 2 ^ 32
    let c := if m.kind ≤ 2 then 1 else if m.kind ≤ 5 then 0 else m.kind - 4
    let written := fun (t : State) (k : Nat) (bs : List Byte) =>
      (t.outp.ring[r]).producer = (g.producer + k) % 2 ^ 32
      ∧ ∃ more, t.out = more ++ (.hostWrite (some c) g.cfg.prodAddr (bytesOf 4 ((g.producer + k) % 2 ^ 32)) false
        :: .hostWrite (some c) (g.cfg.base + g.producer % n * 64) bs true :: s.out)
    (g.cfg.udp = true → (ringRoom s r m = true ↔ ((g.frags.map fun f => f.2.2.length + 24).sum
        + min 65536 ((fragments g.cfg m).map fun f => f.2.2.length + 24).sum) * 1000 ≤ shaperTokens s g)
      ∧ sendMsg r m s = s.setRing r fun g => { g with frags := g.frags ++ fragments g.cfg m })
    ∧ (g.cfg.udp = false → g.cfg.size % 64 = 0 → 0 < n →
      (ringRoom s r m = true ↔ pad = 0 ∧ used + units ≤ n)
      ∧ written (sendMsg r m s) units m.bytes
      ∧ (pad = 0 ∨ n < used + pad → sendPad r m s = s)
      ∧ (pad ≠ 0 → used + pad ≤ n → ∃ b, b.length = 16 ∧ b.head? = some 0x0A#8 ∧ le32 b 4 = (pad * 64 - 16) % 2 ^ 32
        ∧ written (sendPad r m s) pad b ∧ ((sendPad r m s).outp.ring[r]).msgSeq = (g.msgSeq + 1) % 2 ^ 32))

/-- OUTPUT_IRQ_TIMEOUT, UDP_DATAGRAM_SEND, OUTPUT_RING_DRAIN_END and OUT_CONS_WRITE complete. The moderation timer of a ring with unsignalled messages fires its vector; held messages that now have room
follow, and a datagram leaves when the shaper has the bytes of its fragment and header; a draining ring with nothing staged becomes
DISABLED, or ENABLING when an enable waits; a consumer index
more than a ring behind the producer is rejected and counted, any other one frees room (14 R340 to R345; 16 R387). -/
def Sys2Proof.RingService : Prop :=
  ∀ (r : Fin 16) (s : State),
    let g := s.outp.ring[r]
    (g.irqCount ≠ 0 → exec (.outputIrqTimeout r) s =
      .next ((s.setRing r fun g => { g with irqCount := 0 }).fireVector ⟨6 + r.val, by omega⟩))
    ∧ (g.cfg.udp = true → let u := release r s
      let h := u.outp.ring[r]
      (h.frags = [] → exec (.udpDatagramSend r) s = .next u)
      ∧ ∀ f rest, h.frags = f :: rest →
        let n := f.2.2.length + 24
        (shaperTokens u h < n * 1000 → exec (.udpDatagramSend r) s = .next u)
        ∧ (n * 1000 ≤ shaperTokens u h → exec (.udpDatagramSend r) s = .next (ringRate r n ((u.setRing r fun g =>
            { g with frags := rest, dgramSeq := (h.dgramSeq + 1) % 2 ^ 32, tokens := shaperTokens u h - n * 1000
                     tokensAt := u.now }).sendUdp h.cfg.port 4 h.cfg.srcUdp h.cfg.destIp h.cfg.destUdp h.cfg.dscp
              (datagram r f h.dgramSeq u.station.plantDevice)))))
    ∧ (g.state = .draining → g.batches = [] → g.held = [] → g.frags = [] → exec (.outputRingDrainEnd r) s =
      .next (s.setRing r fun g => { g with state := if g.enablePending then .enabling else .disabled, enablePending := false }))
    ∧ ∀ v : Word, let behind := (g.producer + 2 ^ 32 - v.toNat) % 2 ^ 32
      (g.cfg.size / 64 < behind → exec (.outConsWrite r v) s =
        .next { s with host := { s.host with consReject := min (s.host.consReject + 1) (2 ^ 32 - 1) } })
      ∧ (behind ≤ g.cfg.size / 64 → ∃ u, exec (.outConsWrite r v) s = .next (release r u) ∧ SameBut [.host] s u
        ∧ u.host = { s.host with outCons := u.host.outCons } ∧ u.host.outCons[r] = v.toNat
        ∧ OthersSame s.host.outCons u.host.outCons r)

/-- `HostRingWrites` and `RingService`, each with the frame it states. -/
def Obligations.RingDelivery : Prop := Sys2Proof.HostRingWrites ∧ Sys2Proof.RingService

/-! ### Position channels, probes, triggers and the event fabric (10, 18) -/

/-- QE_EDGE completes. Sampling an input pair: a disabled channel only follows it; no change does nothing; both lines changed is ILLEGAL and counted,
the count unchanged; a transition within MIN_SPACING of a class W channel is held, counted once and sets SPACING at every held sample; any other one counts by 1 in
its direction, is stamped, and gives the speed case. A POSITION generator on the channel takes MAX_POS, HELD and its threshold
from the new count (10 R240, R241, R247, R249, R252, R253). -/
def Obligations.EncoderEdges : Prop :=
  ∀ (c : Fin 8) (a b : Bool) (s : State),
    let q := s.pos.qe[c]
    let i := (a, b)
    let seen := fun (f : QeChan → QeChan) => s.setQe c fun q => { f q with sample := i, slow := !s.oscRuns }
    let one := (a != q.tracked.1) != (b != q.tracked.2)
    let down := quadDown q.invert q.tracked i
    (q.enable = false → exec (.qeEdge c a b) s = .next (seen fun q => { q with tracked := i }))
    ∧ (q.enable = true → i = q.tracked → exec (.qeEdge c a b) s = .next (seen id))
    ∧ (q.enable = true → a ≠ q.tracked.1 → b ≠ q.tracked.2 → exec (.qeEdge c a b) s =
      .next ((seen fun q => { q with illegal := true, illegalCount := q.illegalCount + 1, tracked := i }).report
        { group := 16, cls := .drizzle, inst := c.val, cause := 0 }))
    ∧ (q.enable = true → one = true → qeInSpacing s q = true → exec (.qeEdge c a b) s =
      .next (if i = q.sample then seen fun q => { q with spacing := true }
        else (seen fun q => { q with spacingFaults := q.spacingFaults + 1, spacing := true }).report
          { group := 16, cls := .drizzle, inst := c.val, cause := 1 }))
    ∧ (q.enable = true → one = true → qeInSpacing s q = false →
      ∃ t, exec (.qeEdge c a b) s = .next t ∧ SameBut [.pos, .evt, .flt, .host, .pipe, .cam, .out] s t
        ∧ OthersSame s.pos.qe t.pos.qe c ∧ t.pos.probe = s.pos.probe
        ∧ (let y := t.pos.qe[c]
          y.count = (if down then q.count - 1 else q.count + 1) ∧ y.tracked = i ∧ y.sample = i ∧ y.lastAccept = some s.now
          ∧ y.dirDown = down ∧ y.timeValid = s.tbCounts 0
          ∧ (s.tbCounts 0 = false → y.still = true ∧ y.coarse = 0 ∧ y.lastEdgeTs = q.lastEdgeTs)
          ∧ (s.tbCounts 0 = true → y.lastEdgeTs = s.ts0 ∧ y.still = false
            ∧ (q.still = true → y.starting = true ∧ y.coarse = 0)
            ∧ (q.still = false → q.history = some down →
              y.coarse = speedOf 1 ((s.tbTime 0).totalNs - q.lastEdgeNs) down ∧ y.starting = false)
            ∧ (q.still = false → q.starting = false → q.history = some (!down) →
              y.coarse = 0 ∧ y.reversed = true ∧ y.fineValid = false ∧ y.fine = 0 ∧ y.reversals = q.reversals + 1)))
        ∧ ∀ g : Fin 12, let x := s.pos.trig[g]
          let y := t.pos.trig[g]
          let n := ((t.pos.qe[c]).count).toInt
          let due := x.tNext ≤ n * 65536 ∧ x.dueAt ≠ some s.now
          (x.enable && !x.timeMode && x.source == c && trigRuns s) = true →
            y.maxPos = max x.maxPos n ∧ y.tNext = (if due then x.tNext + x.pitch else x.tNext)
            ∧ y.seq = (if due ∧ trigTooSoon s x = false then x.seq + 1 else x.seq)
            ∧ y.skipped = (if due ∧ trigTooSoon s x = true then x.skipped + 1 else x.skipped)
            ∧ y.held = (if x.maxPos < n then false else if n < x.maxPos then true else x.held)
            ∧ y.holds = (if n < x.maxPos ∧ x.held = false then x.holds + 1 else x.holds))

/-- QE_SPACING_END, QE_STILL_TIMEOUT, QE_INDEX, PROBE_LATCH, PROBE_SNAPSHOT_READ, TRIG_TIME_DUE and TRIG_OUT_PULSE_END complete. The
end of the spacing judges a held transition; more than STILL_T without an edge ends in the STILL case; a qualified rise of Z latches the
count; a new level of a probe held for FILTER samples is accepted, and an edge of the selected kind latches all eight counts, SEQ and
OVERRUN of the probe; reading a probe's first word takes
its snapshot; a due TIME generator issues its trigger on every port of its mask, or skips it within MIN_PERIOD_NS; the pulse of
`TRIG_OUT` ends (10 R241, R244 to R246, R249, R254 to R256, R259). -/
def Obligations.EncoderRows : Prop :=
  (∀ (c : Fin 8) (s : State), let q := s.pos.qe[c]
    let one := (q.sample.1 != q.tracked.1) != (q.sample.2 != q.tracked.2)
    let ended := q.enable && !qeInSpacing s q
    ((ended && q.sample != q.tracked) = false → exec (.qeSpacingEnd c) s = .next s)
    ∧ (ended = true → q.sample.1 ≠ q.tracked.1 → q.sample.2 ≠ q.tracked.2 →
      exec (.qeSpacingEnd c) s = exec (.qeEdge c q.sample.1 q.sample.2) s)
    ∧ ((ended && one) = true → ∃ t, exec (.qeSpacingEnd c) s = .next t
      ∧ SameBut [.pos, .evt, .flt, .host, .pipe, .cam, .out] s t ∧ OthersSame s.pos.qe t.pos.qe c ∧ (t.pos.qe[c]).tracked = q.sample
      ∧ (t.pos.qe[c]).count = (if quadDown q.invert q.tracked q.sample then q.count - 1 else q.count + 1))
    ∧ (((s.tbTime 0).totalNs : Int) - q.lastEdgeNs ≤ q.stillT * 1000000 → exec (.qeStillTimeout c) s = .next s)
    ∧ ((q.stillT * 1000000 : Int) < ((s.tbTime 0).totalNs : Int) - q.lastEdgeNs →
      ∃ t, exec (.qeStillTimeout c) s = .next t ∧ SameBut [.pos] s t ∧ t.pos = { s.pos with qe := t.pos.qe }
      ∧ OthersSame s.pos.qe t.pos.qe c
      ∧ t.pos.qe[c] = { q with coarse := 0, still := true, starting := false, reversed := false, fineValid := false
                               history := none, window := none, fine := 0 })
    ∧ ∀ z : Bool, ∃ t, exec (.qeIndex c z) s = .next t ∧ SameBut [.pos, .evt, .flt, .host, .out] s t
      ∧ t.pos = { s.pos with qe := t.pos.qe } ∧ OthersSame s.pos.qe t.pos.qe c
      ∧ t.pos.qe[c] = (if q.enable && z && !q.levelZ && (!q.qualAB11 || (q.sample.1 && q.sample.2)) then
          { q with levelZ := z, indexLatch := q.count, indexCount := q.indexCount + 1 } else { q with levelZ := z }))
  ∧ (∀ (p : Fin 8) (s : State), let q := s.pos.probe[p]
    (∀ level : Bool, ∃ t, exec (.probeLatch p level) s = .next t ∧ SameBut [.pos, .evt, .flt, .host, .out] s t
      ∧ t.pos = { s.pos with probe := t.pos.probe } ∧ OthersSame s.pos.probe t.pos.probe p
      ∧ (let h := if q.raw = level then q.held else 0
        t.pos.probe[p] = if level = q.level ∨ h + 1 < q.filter then { q with raw := level, held := h }
        else if q.enable && (q.edge == .both || level == (q.edge == .rise)) then
          { q with raw := level, held := h, level := level, counts := s.pos.qe.map (·.count), latchTs := if s.tbCounts 0 then s.ts0 else q.latchTs
                   timeValid := s.tbCounts 0, edgeLevel := level, seq := (q.seq + 1) % 65536
                   overrun := q.overrun || !q.seen, seen := false }
        else { q with raw := level, held := h, level := level }))
    ∧ exec (.probeSnapshotRead p) s = .next { s.setProbe p fun q => { q with snap := probeWords q, seen := true } with
        readData := w32 (q.seq + flagAt q.overrun 16 + flagAt q.timeValid 17 + flagAt q.edgeLevel 18) })
  ∧ (∀ (g : Fin 12) (s : State), let x := s.pos.trig[g]
    let due := x.enable && x.timeMode && trigRuns s && tsReached x.nextKey (s.tbTs ⟨x.source.val % 4, by omega⟩)
    let key := x.nextKey + BitVec.ofNat 32 x.period
    (due = false → exec (.trigTimeDue g) s = .next s)
    ∧ (due = true → trigTooSoon s x = true → exec (.trigTimeDue g) s =
      .next (s.setTrig g fun x => { x with skipped := x.skipped + 1, nextKey := key }))
    ∧ (due = true → trigTooSoon s x = false → ∃ t, exec (.trigTimeDue g) s = .next t
      ∧ SameBut [.pos, .evt, .flt, .host, .pipe, .cam, .out] s t ∧ OthersSame s.pos.trig t.pos.trig g
      ∧ t.pos.trig[g] = { x with seq := x.seq + 1, lastTs := s.ts0, lastAt := some s.now, nextKey := key }
      ∧ ∀ p : Fin 12, t.pos.trigOut[p] = (x.portMask.testBit p.val || s.pos.trigOut[p])
        ∧ (x.portMask.testBit p.val = true → .ball (.trigOut p.val) (!x.outLow) ∈ t.out)))
  ∧ ∀ (p : Fin 12) (s : State),
    (s.pos.trigOut[p] = false → exec (.trigOutPulseEnd p) s = .next s)
    ∧ (s.pos.trigOut[p] = true → ∃ t, exec (.trigOutPulseEnd p) s = .next t ∧ SameBut [.pos, .out] s t
      ∧ t.pos = { s.pos with trigOut := t.pos.trigOut } ∧ OthersSame s.pos.trigOut t.pos.trigOut p ∧ t.pos.trigOut[p] = false
      ∧ ∀ g : Fin 12, (s.pos.trig[g]).enable = true → (s.pos.trig[g]).portMask.testBit p.val = true →
        (∀ k : Fin 12, k ≠ g → (s.pos.trig[k]).enable = true → (s.pos.trig[k]).portMask.testBit p.val = false) →
        t.out = .ball (.trigOut p.val) (s.pos.trig[g]).outLow :: s.out)

/-- EVT_LOCKOUT_END and EVT_SW_FIRE complete. A channel fires on an event outside its lockout: FIRINGS counts, LAST_TS32 takes TB0's time outside DEEP SLEEP, and the lockout
begins; within its whole sample periods the event is HELD; a disabled channel does nothing; a PCIe session without the right to the channel only sets
FOREIGN_WRITE. A producer that is not powered reaches no channel, and a firing touches nothing but the fabric, the interrupts,
the outputs and the fault collector (18 R417, R418, R423, R424, R427). -/
def Sys2Proof.EventChannels : Prop :=
  (∀ (p : Nat) (s : State), SameBut [.evt, .flt, .host, .out] s (produce p s)
    ∧ (producerAlive s.power.state p = false → produce p s = s)
    ∧ ∀ n : Fin 64, (s.evt.chan[n]).enabled = false → (produce p s).evt.chan[n] = s.evt.chan[n])
  ∧ ∀ (n : Fin 64) (s : State), let x := s.evt.chan[n]
    let passed := ∀ a, x.lastAt = some a → a + s.roundUpSamples x.lockoutNs ≤ s.now
    (passed → exec (.evtLockoutEnd n) s = .next (s.setChan n fun c => { c with locked := false }))
    ∧ (¬ passed → exec (.evtLockoutEnd n) s = .next s)
    ∧ ∀ ses : Fin 4, let may := !x.sec && (s.holder (resChan n.val) == none || s.holder (resChan n.val) == some (ses.val + 1))
      (may = false → exec (.evtSwFire n ses) s = .next (s.setChan n fun c => { c with foreignWrite := true }))
      ∧ (may = true → x.enabled = false → exec (.evtSwFire n ses) s = .next s)
      ∧ (may = true → x.enabled = true → x.locked = true → ¬ passed → x.lastAt ≠ some s.now →
        exec (.evtSwFire n ses) s = .next (s.setChan n fun c => { c with held := c.held + 1 }))
      ∧ (may = true → x.enabled = true → x.locked = false ∨ passed → 0 < x.lockoutNs →
        ∃ t, exec (.evtSwFire n ses) s = .next t ∧ SameBut [.evt, .flt, .host, .out] s t
          ∧ (t.evt.chan[n]).firings = x.firings + 1 ∧ (t.evt.chan[n]).held = x.held ∧ (t.evt.chan[n]).locked = true
          ∧ (t.evt.chan[n]).lastTs = (if s.power.state = .deepSleep then x.lastTs else s.ts0)
          ∧ (t.evt.chan[n]).consumers = x.consumers ∧ (t.evt.chan[n]).sources = x.sources)

/-- GPIO_EDGE, CONSUMER_BUSY_END, GPIO_PULSE_END and STROBE_INHIBIT_END complete. A GPIO input, or the driven level of a pin that the
device drives, is accepted when FILTER samples have seen it, and a selected edge then fires its producer. The busy time of a GPIO output
and of a strobe inhibit ends when their width has passed since the activation: the pin and the strobe return to their idle level, and a
filled slot starts one more activation; task inputs, interrupts, captures and WAKE end by rows of their own (18 R415, R419, R425, R426). -/
def Sys2Proof.PinsAndConsumers : Prop :=
  (∀ (k : Fin 32) (level : Bool) (s : State), let g := s.evt.gpio[k]
    let v := if g.drive then g.outLevel else level
    let h := if g.level = v then g.heldFor else 0
    let u := s.setGpio k fun g => { g with level := v, heldFor := h }
    let w := u.setGpio k fun g => { g with filtered := v }
    (v = g.filtered ∨ h + 1 < g.filter → exec (.gpioEdge k level) s = .next u)
    ∧ (v ≠ g.filtered → g.filter ≤ h + 1 → g.edge = .both ∨ v = (g.edge == .rise) → exec (.gpioEdge k level) s = .next (produce k.val w))
    ∧ (v ≠ g.filtered → g.filter ≤ h + 1 → g.edge ≠ .both → v ≠ (g.edge == .rise) → exec (.gpioEdge k level) s = .next w))
  ∧ (∀ (j : Fin 96) (s : State), j.val < 64 ∨ (68 ≤ j.val ∧ j.val < 72) → exec (.consumerBusyEnd j) s = .next s)
  ∧ (∀ (k : Fin 24) (s : State), let j : Fin 96 := ⟨72 + k.val, by omega⟩
    let n : Fin 32 := ⟨k.val, by omega⟩
    let c := s.evt.cons[j]
    let g := s.evt.gpio[n]
    let passed := ∀ a, c.winStart = some a → a + (if s.power.state = .deepSleep then s.roundUpSamples g.width else g.width) ≤ s.now
    let idle := s.setGpio n fun g => { g with outLevel := g.activeLow }
    let shown := if g.drive = true ∧ g.outLevel ≠ g.activeLow then idle.setBall (.gpio k.val) g.activeLow else idle
    ∀ i ∈ [Instr.gpioPulseEnd k, .consumerBusyEnd j],
      (c.busy = false ∨ g.toggle = true ∨ ¬ passed → exec i s = .next s)
      ∧ (c.busy = true → g.toggle = false → passed → c.pending = false →
        exec i s = .next (shown.setCons j fun c => { c with busy := false }))
      ∧ (c.busy = true → g.toggle = false → passed → c.pending = true → ∃ t, exec i s = .next t ∧ SameBut [.evt, .out] s t
        ∧ OthersSame s.evt.cons t.evt.cons j
        ∧ t.evt.cons[j] = { c with busy := g.drive, pending := false, winStart := some s.now }))
  ∧ ∀ (k : Fin 4) (s : State), let j : Fin 96 := ⟨64 + k.val, by omega⟩
    let c := s.evt.cons[j]
    let w := s.evt.inhibitNs[k]
    let passed := ∀ a, c.winStart = some a → a + (if s.power.state = .deepSleep then s.roundUpSamples w else w) ≤ s.now
    ∀ i ∈ [Instr.strobeInhibitEnd k, .consumerBusyEnd j],
      (c.busy = false ∨ ¬ passed → exec i s = .next s)
      ∧ (c.busy = true → passed → c.pending = false → ∃ t, exec i s = .next t ∧ SameBut [.evt, .out] s t
        ∧ t.evt.strobeOff[k] = false ∧ OthersSame s.evt.strobeOff t.evt.strobeOff k ∧ OthersSame s.evt.cons t.evt.cons j
        ∧ t.evt.cons[j] = { c with busy := false } ∧ t.out = .ball (.strobeOut k.val) true :: s.out)
      ∧ (c.busy = true → passed → c.pending = true → ∃ t, exec i s = .next t ∧ SameBut [.evt, .out] s t
        ∧ t.evt.strobeOff[k] = true ∧ t.evt.cons[j] = { c with pending := false, winStart := some s.now })

/-- `EventChannels` and `PinsAndConsumers`, each with the frame it states. -/
def Obligations.EventFabric : Prop := Sys2Proof.EventChannels ∧ Sys2Proof.PinsAndConsumers

/-! ### Ejection (11) -/

/-- With EJCLK running EJ_COMMAND_ENTRY completes. A slot near a time: a slot start of the grid at most half a slot away, the earlier one on a tie. A command that enters is
dropped whole under a Gale, or when its ACTION is NONE; its valve part is dropped when none of its links is armed in RUN, counted
by whether one is in TEST; a time-mode command then has the first outcome of Table 11.2 that applies, in their order, and stays
only when accepted or late in part; a position-mode command enters a list of 4,096 and is not counted as accepted. A command keeps the zones of its entry (11 R261, R266 to R270, R276, R277, R281, Table 11.2). -/
def Sys2Proof.EjectorCommands : Prop :=
  (∀ (e : EjBlock) (t : Int), 0 < e.slotNs → ∃ k : Int, nearestSlot e t = e.phaseNs + k * e.slotNs
    ∧ -(e.slotNs : Int) ≤ 2 * (nearestSlot e t - t) ∧ 2 * (nearestSlot e t - t) < e.slotNs)
  ∧ (∀ (n : Fin 3) (s : State), s.ej.entries = [] → exec (.ejCommandEntry n) s = .next s)
  ∧ ∀ (n : Fin 3) (s : State) (e : EjEntry) (rest : List EjEntry), s.clockRuns 11 = true → s.ej.entries = e :: rest →
    let a := actionOf s.ej e.verdict
    let links := (List.finRange 4).filter fun l => decide (e.cmd.first / 512 ≤ l.val ∧ l.val ≤ e.cmd.last / 512)
    let wants := firesValves a && !e.cmd.noValves
    let run := links.any fun l => (s.ej.link[l]).arm == 1
    let test := links.any fun l => (s.ej.link[l]).arm == 2
    let marks := firesMarkers a && !e.cmd.noMap
    let base := { s.ej with
      entries := rest
      cross := if e.fromGust then s.ej.cross.mapIdx fun i x => if i = n.val then min (x + 1) (2 ^ 32 - 1) else x else s.ej.cross }
    let cmd : EjCmd := { cmd := e.cmd, valves := wants && run, markers := marks
                         zones := if marks then (List.range 8).filter fun z => match s.ej.zone[z]? with
                           | some m => m.enable && decide (m.first ≤ e.cmd.last) && decide (e.cmd.first ≤ m.last)
                           | none => false else [] }
    let counted := !(wants && !run)
    let dropped := if test then { base with testDropped := base.testDropped + 1 } else { base with disarmDropped := base.disarmDropped + 1 }
    let met := if counted then base else dropped
    let ahead := (BitVec.ofNat 32 e.cmd.fireKey - s.ts0).toInt
    let now : Int := (s.tbTime 0).totalNs
    let first := nearestSlot s.ej (now + ahead)
    let last := first + ((e.cmd.duration : Int) - 1) * s.ej.slotNs
    let build := buildSlot s
    let grid := s.tbCounts 0 && s.power.state == .active
    let ends := max (-(2 ^ 31)) (min (2 ^ 31 - 1) (first - 1000 - now))
    let margin := fun (b : EjBlock) => if grid then { b with marginMin := min b.marginMin ends } else b
    let past := (groupCount s - BitVec.ofNat 64 e.cmd.fireKey).toInt
    let becomes := fun (b : EjBlock) (l : List Part) => ∃ t, exec (.ejCommandEntry n) s = .next t ∧ SameBut (.ej :: l) s t ∧ t.ej = b
    let report := fun (cls : FltClass) (cause : Nat) => ∃ t, exec (.ejCommandEntry n) s = .next t
      ∧ t.flt = { s.flt with inFlight := s.flt.inFlight ++ [{ group := 13, cls := cls, cause := cause }] }
    let goes := s.ej.galeSafe = false ∧ a ≠ .none ∧ (counted = true ∨ marks = true)
    (s.ej.galeSafe = true → becomes { base with disarmDropped := base.disarmDropped + 1 } [])
    ∧ (s.ej.galeSafe = false → a = .none → becomes { base with cmdNone := base.cmdNone + 1 } [])
    ∧ (s.ej.galeSafe = false → a ≠ .none → counted = false → marks = false → becomes dropped [])
    ∧ (goes → e.cmd.posMode = false →
      (grid = false ∨ last < build → becomes { margin met with lateMissed := met.lateMissed + 1 } [.flt] ∧ report .squall 1)
      ∧ (grid = true → build ≤ last →
        (4094 * (s.ej.slotNs : Int) < last - build ∨ 2000000000 < ahead →
          becomes { margin met with horizonDropped := met.horizonDropped + 1 } [])
        ∧ (last - build ≤ 4094 * (s.ej.slotNs : Int) → ahead ≤ 2000000000 →
          (65536 ≤ s.ej.pendTime.length → becomes { margin met with cmdOverflow := met.cmdOverflow + 1 } [.flt] ∧ report .squall 1)
          ∧ (s.ej.pendTime.length < 65536 → build ≤ first → becomes { margin met with
              accepted := if counted then met.accepted + 1 else met.accepted
              pendTime := s.ej.pendTime ++ [{ cmd with from_ := first, until_ := last }] } [])
          ∧ (s.ej.pendTime.length < 65536 → first < build → becomes { margin met with
              latePartial := if counted then met.latePartial + 1 else met.latePartial
              pendTime := s.ej.pendTime ++ [{ cmd with from_ := build, until_ := last }] } [.flt]
            ∧ (counted = true → report .drizzle 0)))))
    ∧ (goes → e.cmd.posMode = true →
      (e.cmd.duration ≤ past → becomes { met with lateMissed := met.lateMissed + 1 } [.flt] ∧ report .squall 1)
      ∧ (past < e.cmd.duration → 4096 ≤ s.ej.pendPos.length →
        becomes { met with cmdOverflow := met.cmdOverflow + 1 } [.flt] ∧ report .squall 1)
      ∧ (past < e.cmd.duration → s.ej.pendPos.length < 4096 → becomes { met with
          pendPos := s.ej.pendPos ++ [{ cmd with entered := s.now }] } []))

/-- With EJCLK running SLOT_FREEZE, SLOT_START, POS_CMD_WAIT_EXPIRY and TEST_PULSE_DUE complete. At a freeze point the arm codes that wait apply and every sending link gets its frame: the computed bitmap when it is ENABLED,
armed, not FAULTED and no Gale is held, where a valve is open when a command that is on covers it, else the safe pattern; a link that a Gale has already sent a frame for the slot sends none. At the
slot start the frames leave as 76 characters, SOF, TYPE, FLAGS, SEQ, SLOT_TS32, BITMAP, CRC-16, EOF, and await their acknowledgements, and the due
markers are counted. Commands held beyond POS_MAX_WAIT_MS are dropped; a due test pulse is counted, or dropped and counted under a Gale or
when none of its links is armed (11 R266, R267, R269 to R272, R277, R279, R280). -/
def Sys2Proof.SlotsAndFrames : Prop :=
  ∀ (s : State), s.clockRuns 11 = true →
    let slot := buildSlot s - s.ej.slotNs
    let grid := s.tbCounts 0 && s.power.state == .active
    (grid = true → s.ej.frozen ≠ some slot → ((s.tbTime 0).totalNs : Int) < slot →
      ∃ t, exec .slotFreeze s = .next t ∧ SameBut [.ej, .host, .out] s t ∧ t.ej.frozen = some slot ∧ t.ej.slotDue = true
        ∧ (∀ c ∈ t.ej.pendTime, slot < c.until_) ∧ (∀ c ∈ t.ej.pendPos, posPast s c.cmd < c.cmd.duration)
        ∧ ∀ l : Fin 4, let k := s.ej.link[l]
          let y := t.ej.link[l]
          let sends := k.state = .enabling ∨ k.state = .enabled ∨ k.state = .draining ∧ 0 < k.drainLeft
          y.arm = k.armNext ∧ y.safe = k.safeNext.getD k.safe
          ∧ (¬ sends ∨ k.galeFrame = some slot → y.frame = none)
          ∧ (sends → k.galeFrame ≠ some slot → ∃ f, y.frame = some f ∧ f.seq = k.nextSeq ∧ f.slotTs = BitVec.ofInt 32 slot
            ∧ (f.safe = false ↔ k.state = .enabled ∧ k.armNext ≠ 0 ∧ k.faulted = false ∧ s.ej.galeSafe = false)
            ∧ (f.safe = true → f.bitmap = y.safe)
            ∧ (f.safe = false → ∀ v : Fin 512, ((f.bitmap.getD (v.val / 8) 0).getLsbD (v.val % 8) = true ↔
                ∃ c, c.valves = true ∧ (c.test = true ∨ k.armNext = 1) ∧ c.cmd.first ≤ 512 * l.val + v.val
                  ∧ 512 * l.val + v.val ≤ c.cmd.last
                  ∧ (c ∈ s.ej.pendTime ∧ c.from_ ≤ slot ∧ slot ≤ c.until_
                    ∨ c ∈ s.ej.pendPos ∧ 0 ≤ posPast s c.cmd ∧ posPast s c.cmd < c.cmd.duration)))))
    ∧ (∀ x, s.ej.frozen = some x → s.ej.slotDue = true → grid = true → x ≤ (s.tbTime 0).totalNs →
      ∃ t, exec .slotStart s = .next t ∧ SameBut [.ej, .evt, .flt, .host, .out] s t ∧ t.ej.slotDue = false ∧ t.ej.markDue = []
        ∧ t.ej.marksFired = s.ej.marksFired + s.ej.markDue.length
        ∧ ∀ l : Fin 4, let k := s.ej.link[l]
          let y := t.ej.link[l]
          (k.frame = none → y = k)
          ∧ ∀ f, k.frame = some f → y.frame = none ∧ y.txSeq = f.seq ∧ y.nextSeq = (f.seq + 1) % 65536
            ∧ y.awaiting = k.awaiting ++ [(f.seq, s.now)] ∧ y.safeFrames = (if f.safe then k.safeFrames + 1 else k.safeFrames)
            ∧ y.drainLeft = (if k.state = .draining ∧ f.safe = true then k.drainLeft - 1 else k.drainLeft)
            ∧ (let body := [if f.safe then 0x5B#8 else 0x5A#8] ++ bytesOf 1 f.flags ++ bytesOf 2 f.seq ++ bytesOf 4 f.slotTs.toNat
                ++ fit 64 f.bitmap
              .valve l.val (.sof :: (body ++ bytesOf 2 (crc16 body).toNat).map .data ++ [.eof]) ∈ t.out))
    ∧ exec .posCmdWaitExpiry s = .next { s with ej := { s.ej with
        pendPos := s.ej.pendPos.filter fun c => decide (s.now ≤ c.entered + s.ej.posMaxWait * 1000000)
        horizonDropped := s.ej.horizonDropped
          + (s.ej.pendPos.filter fun c => decide (c.entered + s.ej.posMaxWait * 1000000 < s.now)).length } }
    ∧ (∀ x, s.ej.test = some x → x.left ≠ 0 → ∃ t, exec .testPulseDue s = .next t ∧ SameBut [.ej, .flt] s t
      ∧ t.ej.link = s.ej.link
      ∧ (let dropped := s.ej.galeSafe || !(List.finRange 4).any fun l =>
            decide (x.first / 512 ≤ l.val) && decide (l.val ≤ x.last / 512) && (s.ej.link[l]).arm != 0
        (dropped = true → t.ej.testPulses = s.ej.testPulses ∧ t.ej.disarmDropped = s.ej.disarmDropped + 1
          ∧ t.ej.pendTime = s.ej.pendTime)
        ∧ (dropped = false → t.ej.testPulses = s.ej.testPulses + 1 ∧ t.ej.disarmDropped = s.ej.disarmDropped))
      ∧ (t.ej.test = none ∨ t.ej.test.map (·.left) = some (x.left - 1)))

/-- `EjectorCommands` and `SlotsAndFrames`, each with the frame it states. -/
def Obligations.Ejection : Prop := Sys2Proof.EjectorCommands ∧ Sys2Proof.SlotsAndFrames

/-- VALVE_ACK_RX, VALVE_ACK_TIMEOUT and LINK_DRAIN_END complete. Eight characters are an acknowledgement: K27.7, TYPE, SEQ, STATUS,
the CRC-16 over characters 1 to 4, K29.7. A good one answers the ended frame whose SEQ it echoes within ACK_TIMEOUT_NS and counts towards
the 64 that bring an ENABLING link to ENABLED or clear FAULTED; any other one, or none in time, is a miss: counted, a NAK or CRC error as
well, and on an ENABLED link reported, as a Squall that faults and disarms the link at ACK_MISS_LIMIT. A drained link becomes DISABLED, or
starts again when an enable waits (11 R272, R273, R275; which frame an echo that matches none answers is the model's choice). -/
def Obligations.ValveLinks : Prop :=
  ∀ (l : Fin 4) (s : State),
    let k := s.ej.link[l]
    let only := fun (t : State) => SameBut [.ej, .flt, .host, .out] s t ∧ t.ej = { s.ej with link := t.ej.link }
      ∧ OthersSame s.ej.link t.ej.link l
    let limit := k.state = .enabled ∧ k.faulted = false ∧ s.ej.missLimit ≤ k.missRun + 1
    let missed := fun (seq : Nat) (t : State) =>
      let y := t.ej.link[l]
      only t ∧ y.ackMiss = k.ackMiss + 1 ∧ y.goodRun = 0 ∧ y.awaiting = k.awaiting.filter (fun x => x.1 != seq)
      ∧ (limit → y.faulted = true ∧ y.armNext = 0 ∧ y.faults = k.faults + 1)
      ∧ (¬ limit → y.faulted = k.faulted ∧ y.armNext = k.armNext ∧ y.faults = k.faults)
      ∧ t.flt = (if k.state = .enabled ∧ k.faulted = false then
          { s.flt with inFlight := s.flt.inFlight ++
            [if s.ej.missLimit ≤ k.missRun + 1 then { group := 14, cls := .squall, inst := l.val, cause := 1, valueB := seq }
             else { group := 14, cls := .drizzle, inst := l.val, cause := 0, valueB := seq }] }
        else s.flt)
    (k.awaiting = [] → exec (.valveAckTimeout l) s = .next s)
    ∧ (∀ seq eof rest, k.awaiting = (seq, eof) :: rest →
      (s.now ≤ eof + s.ej.ackTimeout → exec (.valveAckTimeout l) s = .next s)
      ∧ (eof + s.ej.ackTimeout < s.now → ∃ t, exec (.valveAckTimeout l) s = .next t ∧ missed seq t
        ∧ (t.ej.link[l]).ackNak = k.ackNak ∧ (t.ej.link[l]).ackCrcErr = k.ackCrcErr))
    ∧ (∀ h q b e : List VChar, (∀ typ s0 s1 st c0 c1 : Byte,
        h ++ q ++ b ++ e ≠ [.sof, .data typ, .data s0, .data s1, .data st, .data c0, .data c1, .eof]) →
      exec (.valveAckRx l h q b e) s = .next s)
    ∧ (∀ typ s0 s1 st c0 c1 : Byte,
      let ack := Instr.valveAckRx l [.sof, .data typ] [.data s0, .data s1] [.data st] [.data c0, .data c1, .eof]
      let crc := (crc16 [typ, s0, s1, st]).toNat = c0.toNat + 256 * c1.toNat
      let echo := s0.toNat + 256 * s1.toNat
      let ended := k.awaiting.filter fun x => decide (x.2 ≤ s.now)
      (ended = [] → exec ack s = .next s)
      ∧ ∀ seq eof, (seq, eof) ∈ ended →
        ((crc ∧ (ended.find? fun x => x.1 == echo) = some (seq, eof))
          ∨ ((¬ crc ∨ (ended.find? fun x => x.1 == echo) = none) ∧ ended.head? = some (seq, eof))) →
        let good := typ = 0xA5 ∧ crc ∧ echo = seq ∧ s.now - eof ≤ s.ej.ackTimeout
        (¬ good → ∃ t, exec ack s = .next t ∧ missed seq t
          ∧ (crc → (t.ej.link[l]).ackCrcErr = k.ackCrcErr) ∧ (¬ crc → (t.ej.link[l]).ackCrcErr = k.ackCrcErr + 1)
          ∧ (crc → typ = 0xA6 → (t.ej.link[l]).ackNak = k.ackNak + 1)
          ∧ (¬ crc ∨ typ ≠ 0xA6 → (t.ej.link[l]).ackNak = k.ackNak))
        ∧ (good → ∃ t, exec ack s = .next t ∧ only t ∧ t.flt = s.flt
          ∧ (let y := t.ej.link[l]
            y.lastStatus = st.toNat ∧ y.rttMax = max k.rttMax (min 65535 (s.now - eof)) ∧ y.missRun = 0
            ∧ y.awaiting = k.awaiting.filter (fun x => x.1 != seq)
            ∧ y.goodRun = min 64 (k.goodRun + 1) ∧ y.ackMiss = k.ackMiss
            ∧ (k.goodRun < 63 → y.state = k.state ∧ y.up = k.up ∧ y.faulted = k.faulted)
            ∧ (63 ≤ k.goodRun → k.state = .enabling → y.state = .enabled ∧ y.up = true)
            ∧ (63 ≤ k.goodRun → k.state ≠ .enabling → y.state = k.state ∧ y.faulted = false))))
    ∧ (k.state = .draining → k.drainLeft = 0 → ∃ t, exec (.linkDrainEnd l) s = .next t ∧ only t ∧ t.flt = s.flt
      ∧ (t.ej.link[l]).frame = none ∧ (t.ej.link[l]).awaiting = []
      ∧ (k.enablePending = true → (t.ej.link[l]).state = .enabling ∧ (t.ej.link[l]).nextSeq = 0 ∧ (t.ej.link[l]).enablePending = false)
      ∧ (k.enablePending = false → (t.ej.link[l]).state = .disabled))
    ∧ (k.state ≠ .draining ∨ k.drainLeft ≠ 0 → exec (.linkDrainEnd l) s = .next s)

/-! ### Time bases, captures, compares, pulse per second, Ethernet and PTP (12) -/

/-- SERVO_SAMPLE, HOLDOVER_TIMEOUT and PPS_IN_EDGE complete. The servo takes the sample that waits: beyond STEP_THR_NS, where STEP_MODE permits it, it asks for a step by −θ, keeping the integrator;
else it steers FREQ_ADJ by the proportional and integral terms, the integrator frozen while the last value was at a limit. The
state follows the runs of good and bad samples. Without samples for HOLDOVER_MS the base holds HOLD_FREQ in HOLDOVER. A rising
edge of PPS_IN captures every counting base and forms the samples of those that follow it. In 4 ns a base on the oscillator makes the
whole ticks of its phase, and at its next tick a SET loads its value or a step moves the time, the SET first; both count, set STEPPED and
VALID (12 R288, R290, R293, R294, R302). -/
def Obligations.TimeBases : Prop :=
  ∀ (b : Fin 4) (s : State),
    let x := s.time.tb[b]
    let counts := s.oscRuns && x.state != .off
    (x.sample = none → exec (.servoSample b) s = .next s)
    ∧ (∀ theta gap, x.sample = some (theta, gap) → counts = true → x.source ≠ .none → 0 < gap →
      ∃ t, exec (.servoSample b) s = .next t ∧ SameBut [.time, .host, .out] s t ∧ OthersSame s.time.tb t.time.tb b
        ∧ (let y := t.time.tb[b]
          let big := x.stepThr * 65536 < theta.natAbs
            ∧ (x.stepMode = .always ∨ x.stepMode = .first ∧ x.valid = false)
          let good := theta.natAbs ≤ x.lockNs * 65536
          let bad := 4 * x.lockNs * 65536 < theta.natAbs
          y.sample = none ∧ y.goodRun = (if good then min 255 (x.goodRun + 1) else 0)
          ∧ y.badRun = (if bad then min 255 (x.badRun + 1) else 0)
          ∧ y.time = x.time ∧ y.steps = x.steps ∧ y.valid = x.valid
          ∧ (big → y.stepPending = some theta ∧ y.integ = x.integ ∧ y.freqAdj = x.freqAdj)
          ∧ (¬ big → y.stepPending = x.stepPending
            ∧ y.integ = (if x.clamped then x.integ else x.integ + theta)
            ∧ (let u := x.kp * theta + x.ki * y.integ
              let d : Int := gap * 2 ^ 32
              ∃ f : Int, (f - 1) * d < -(u * 2 ^ 40) ∧ -(u * 2 ^ 40) < (f + 1) * d
                ∧ y.freqAdj = max (-1099511627) (min 1099511627 f))
            ∧ y.clamped = (y.freqAdj == 1099511627 || y.freqAdj == -1099511627))
          ∧ y.state = (match x.state with
            | .acquiring => if x.lockCount ≤ y.goodRun then .locked else .acquiring
            | .locked => if 4 ≤ y.badRun then .acquiring else .locked
            | .holdover => if good then .locked else .acquiring
            | z => z)))
    ∧ (x.source ≠ .none → counts = true → x.state = .acquiring ∨ x.state = .locked →
      ∃ t, exec (.holdoverTimeout b) s = .next t ∧ SameBut [.time, .flt, .host, .out] s t
        ∧ t.time.tb[b] = { x with freqAdj := x.holdFreq, holdoverCount := x.holdoverCount + 1, state := .holdover }
        ∧ OthersSame s.time.tb t.time.tb b
        ∧ t.flt = { s.flt with inFlight := s.flt.inFlight ++ [{ group := 18, cls := .drizzle, inst := b.val, cause := 0 }] })
    ∧ (counts = true →
      let y := (passTick s).time.tb[b]
      let n := ((x.phase : Int) + 2 ^ 40 + x.freqAdj).toNat / 2 ^ 40
      let on := Stamp.ofUnits ((x.time.units + n * 4 * 65536 : Nat) : Int)
      y.phase = ((x.phase : Int) + 2 ^ 40 + x.freqAdj).toNat % 2 ^ 40
      ∧ (n = 0 ∨ x.setPending = none ∧ x.stepPending = none → y.time = on ∧ y.steps = x.steps ∧ y.valid = x.valid
        ∧ y.setPending = x.setPending ∧ y.stepPending = x.stepPending)
      ∧ (0 < n → ∀ v, x.setPending = some v → y.time = Stamp.ofUnits ((v.units + (n - 1) * 4 * 65536 : Nat) : Int)
        ∧ y.steps = x.steps + 1 ∧ y.stepped = true ∧ y.valid = true ∧ y.setPending = none ∧ y.stepPending = none)
      ∧ (0 < n → x.setPending = none → ∀ theta, x.stepPending = some theta → y.time = Stamp.ofUnits ((on.units : Int) - theta)
        ∧ y.steps = x.steps + 1 ∧ y.stepped = true ∧ y.valid = true ∧ y.stepPending = none))
    ∧ ∀ frac : Fin 262144,
      let edge := s.now * 65536 + frac.val
      let early := s.time.pps.lastAt.any fun p => decide (edge < p + 500000000 * 65536)
      (s.power.state = .deepSleep → exec (.ppsInEdge frac) s = .next (produce 48 s))
      ∧ (s.power.state ≠ .deepSleep → early = true → exec (.ppsInEdge frac) s =
        .next (produce 48 { s with time := { s.time with pps := { s.time.pps with glitch := s.time.pps.glitch + 1 } } }))
      ∧ (s.power.state ≠ .deepSleep → early = false → ∃ t, exec (.ppsInEdge frac) s = .next t
        ∧ SameBut [.time, .evt, .flt, .host, .out] s t ∧ t.time.pps.seq = (s.time.pps.seq + 1) % 65536
        ∧ t.time.pps.lastAt = some edge
        ∧ (let at_ := Stamp.ofUnits ((x.time.units : Int) + frac.val - x.ppsInDelay)
          let n : Int := at_.ns * 65536 + at_.frac
          let theta := if n < 500000000 * 65536 then n else n - 1000000000 * 65536
          (counts = true → t.time.pps.capture[b] = at_
            ∧ (x.source = .ppsIn → (t.time.tb[b]).sample.map (·.1) = some theta
              ∧ ∀ p, s.time.pps.lastAt = some p → (t.time.tb[b]).sample = some (theta, edge - p)))
          ∧ (counts = false → t.time.pps.capture[b] = s.time.pps.capture[b] ∧ t.time.tb[b] = x)))

/-- CAPTURE_EVENT, CAP_SW_TRIG, CMP_FIRE, CMP_ARM_WRITE, TIME_SNAPSHOT_READ, PPS_OUT_RISE and PPS_OUT_FALL complete. A capture takes
the time of its base, counts and marks an overrun; writes to a base claimed by a session that does not come by
PCIe only set FOREIGN_WRITE; an armed compare unit fires when its key is reached, at the earliest in the tick after the write of ARM: a one-shot one disarms, a periodic one moves its
key to the first one still ahead and counts those passed over; the locked fields of an armed one stay, with STALE_KEY. A snapshot
read returns its word and stores the block; the PPS outputs rise and fall (12 R303 to R306). -/
def Obligations.CaptureAndCompare : Prop :=
  (∀ (k : Fin 8) (s : State),
    let c := s.time.cap[k]
    let j : Fin 96 := ⟨48 + k.val, by omega⟩
    let taken := fun (b : Fin 4) (c : CapUnit) => { c with
      time := if s.power.state = .deepSleep then { ns := s.time.aonNs / 40 } else (s.time.tb[b]).time
      timeValid := s.power.state != .deepSleep && s.tbCounts b, valid := true, seq := (c.seq + 1) % 65536
      overrun := c.overrun || !c.seen, seen := false, lastAt := some s.now }
    let only := fun (t : State) => SameBut [.time, .evt, .host, .out] s t ∧ t.time = { s.time with cap := t.time.cap }
      ∧ OthersSame s.time.cap t.time.cap k
    ((s.evt.cons[j]).pending = false → exec (.captureEvent k) s = .next s)
    ∧ ((s.evt.cons[j]).pending = true → c.enable = false →
      exec (.captureEvent k) s = .next (s.setCons j fun c => { c with pending := false }))
    ∧ ((s.evt.cons[j]).pending = true → c.enable = true → c.lastAt ≠ some s.now →
      ∃ t, exec (.captureEvent k) s = .next t ∧ only t ∧ t.time.cap[k] = taken c.tb c ∧ (t.evt.cons[j]).pending = false
        ∧ OthersSame s.evt.cons t.evt.cons j)
    ∧ ∀ (v : Word) (ses : Fin 4),
      let w := { c with
        tb := ⟨v.toNat % 4, by omega⟩, enable := v.getLsbD 2, overrun := c.overrun && !v.getLsbD 5
        foreignWrite := c.foreignWrite && !v.getLsbD 6 }
      (s.pcieMayWrite (resTb c.tb.val) = false →
        exec (.capSwTrig k v ses) s = .next (s.setCap k fun c => { c with foreignWrite := true }))
      ∧ (s.pcieMayWrite (resTb c.tb.val) = true → c.lastAt ≠ some s.now →
        ∃ t, exec (.capSwTrig k v ses) s = .next t ∧ only t ∧ t.evt = s.evt
          ∧ t.time.cap[k] = (if v.getLsbD 3 then taken w.tb w else w)))
  ∧ (∀ (k : Fin 8) (s : State),
    let c := s.time.cmp[k]
    let now := s.tbTs c.tb
    let due := c.arm && c.armedAt != some s.now && s.tbCounts c.tb && tsReached c.key now
    (due = false → exec (.cmpFire k) s = .next s)
    ∧ (due = true → 0 < c.period → c.period ≤ 2 ^ 31 → ∃ t, exec (.cmpFire k) s = .next t
      ∧ SameBut [.time, .evt, .flt, .host, .out] s t ∧ t.time = { s.time with cmp := t.time.cmp } ∧ OthersSame s.time.cmp t.time.cmp k
      ∧ (let y := t.time.cmp[k]
        y.fired = true ∧ y.fireCount = (c.fireCount + 1) % 65536 ∧ y.lastFire = now ∧ y.lateArm = (c.lateArm || c.armedLate)
        ∧ (c.periodic = false → y.arm = false ∧ y.key = c.key ∧ y.skipped = c.skipped)
        ∧ (c.periodic = true → y.arm = true ∧ ∃ n, 1 ≤ n ∧ y.key = c.key + BitVec.ofNat 32 (n * c.period)
          ∧ y.skipped = c.skipped + (n - 1) ∧ tsReached y.key now = false
          ∧ ∀ m, 1 ≤ m → m < n → tsReached (c.key + BitVec.ofNat 32 (m * c.period)) now = true)))
    ∧ ∀ (v : Word) (ses : Fin 4), exec (.cmpArmWrite k v ses) s =
      .next (if s.pcieMayWrite (resTb c.tb.val) = false then s.setCmp k fun c => { c with foreignWrite := true }
        else
          let tb : Fin 4 := if c.arm then c.tb else ⟨v.toNat % 4, by omega⟩
          s.setCmp k fun c => { c with
            tb := tb, periodic := if c.arm then c.periodic else v.getLsbD 3, arm := v.getLsbD 2
            armedAt := if c.arm then c.armedAt else some s.now
            armedLate := v.getLsbD 2 && (if c.arm then c.armedLate else s.tbCounts tb && tsReached c.key (s.tbTs tb))
            fired := c.fired && !v.getLsbD 4, lateArm := c.lateArm && !v.getLsbD 5, foreignWrite := c.foreignWrite && !v.getLsbD 6
            staleKey := (c.staleKey && !v.getLsbD 7) || (c.arm && (v.toNat % 4 != c.tb.val || v.getLsbD 3 != c.periodic)) }))
  ∧ (∀ (s : State),
    (∀ b : Fin 4, exec (.timeSnapshotRead (.timeBase b)) s =
      .next { s.setTb b fun t => { t with snap := tbWords s b } with readData := w32 (s.time.tb[b]).time.ns })
    ∧ (∀ k : Fin 8, exec (.timeSnapshotRead (.capture k)) s =
      .next { s.setCap k fun c => { c with snap := capWords c, seen := true } with readData := capWord0 s.time.cap[k] })
    ∧ exec (.timeSnapshotRead .pps) s = .next { s with
      time := { s.time with pps := { s.time.pps with snap := ppsWords s } }, readData := (ppsWords s).headD 0 })
  ∧ ∀ (k : Fin 2) (s : State),
    let o := s.time.pps.out[k]
    let now := (s.time.tb[o.tb]).time
    let on := o.enable && s.tbCounts o.tb && (s.time.tb[o.tb]).valid
    let due := if o.offset ≤ now.ns then some now.seconds else if now.seconds = 0 then none else some (now.seconds - 1)
    (∀ d, on = true → due = some d → (∀ l, o.lastSecond = some l → l < d) → exec (.ppsOutRise k) s =
      .next ((s.setPpsOut k fun o => { o with level := true, lastSecond := due }).setBall (.ppsOut k.val) true))
    ∧ (on = false ∨ due = none ∨ (∃ d l, due = some d ∧ o.lastSecond = some l ∧ d ≤ l) → exec (.ppsOutRise k) s = .next s)
    ∧ exec (.ppsOutFall k) s = .next (if o.level then
      (s.setPpsOut k fun o => { o with level := false }).setBall (.ppsOut k.val) false else s)

/-- ETH_FRAME_RX, ETH_LINK_CHANGE, PTP_EVENT_RX, PTP_GENERAL_RX, PTP_MESSAGE_TIMER and PTP_ANNOUNCE_TIMEOUT complete. A frame is taken
only on a port with its link up: a wrong FCS, or a frame that the port's filter refuses, is counted; an ARP or echo request for the port's
address is answered. A lost link is reported and its queued frames are lost. PTP messages are counted; a pair forwards them to its other
port, with asymmetry and link delay in an event message's correction and the residence time as it leaves; a master port answers Delay_Req
with its receive stamp; the messages that an instance's intervals call for leave with the next sequence number; an Announce that is overdue
is forgotten. A port that sends nothing starts the queued frame of the first class of R286; a PTP frame carries the stamp of its departure
and an FCS over all of it (12 R284 to R286, R295 to R300). -/
def Obligations.EthernetAndPtp : Prop :=
  (∀ (n : Fin 4) (f : EthFrame) (s : State), let p := s.net.port[n]
    let only := fun (y : EthPort) => ∃ t, exec (.ethFrameRx n f) s = .next t ∧ SameBut [.net] s t
      ∧ t.net = { s.net with port := t.net.port } ∧ OthersSame s.net.port t.net.port n ∧ t.net.port[n] = y
    let refused := f.len < 64 ∨ 9600 < f.len ∨ addressed p f.dst = false ∨ f.etherType = 0x8808 ∨ f.etherType = 0x86DD
      ∨ (∃ v, f.vlan = some v ∧ v ≠ p.vlan) ∨ f.etherType = 0x0800 ∧ ipv4Refused f.payload = true
    (p.up = false → exec (.ethFrameRx n f) s = .next s)
    ∧ (p.up = true → f.fcsOk = false → only { p with fcsErr := p.fcsErr + 1 })
    ∧ (p.up = true → f.fcsOk = true → refused → only { p with rxDrop := p.rxDrop + 1 })
    ∧ (p.up = true → f.fcsOk = true → ¬ refused → arpReply p f = none → echoReply p f = none →
      only { p with rxFrames := p.rxFrames + 1 })
    ∧ (∀ bs, p.up = true → f.fcsOk = true → ¬ refused → arpReply p f = some bs ∨ arpReply p f = none ∧ echoReply p f = some bs →
      only { p with rxFrames := p.rxFrames + 1
                    txQueue := p.txQueue ++ [{ cls := 3, at_ := s.now, len := max 64 (bs.length + 4), out := .eth n.val 3 bs }] })
    ∧ (linkPossible s n = true → exec (.ethLinkChange n true) s = .next (s.setEth n fun p => { p with up := true }))
    ∧ (linkPossible s n = false → exec (.ethLinkChange n true) s = .next s)
    ∧ (p.up = true → exec (.ethLinkChange n false) s =
      .next ((s.setEth n fun p => { p with up := false, txQueue := [], txLeft := 0 }).report
        { group := 19, cls := .drizzle, inst := n.val }))
    ∧ (p.up = false → exec (.ethLinkChange n false) s = .next s))
  ∧ (∀ (n : Fin 4) (e : PtpEvent) (s : State), let p := s.net.port[n]
    let o := pairPort n
    let c := s.net.tc[pairOf n]
    let rx := fun (p : EthPort) => { p with ptpRx := p.ptpRx + 1, rxFrames := p.rxFrames + 1 }
    let alone := s.firmwareRuns = false
    let through := c.enable && !(c.p2p && (e.msg.typ == 2 || e.msg.typ == 3 || e.msg.typ == 10))
    let stamp := ((s.tbTime c.tb).units : Int) + e.sub - (modeCorr p).2 - e.align - p.userRx
    let onward := fun (m : PtpMsg) (u : TxFrame) => (s.setEth n rx).queueFrame o { u with
      at_ := s.now, forwarded := true, len := (ptpFrame s.net.port[o] m).length, out := .ptp o.val m [] }
    let added := { e.msg with correction := e.msg.correction + ((if e.msg.typ = 0 then p.asym else -(s.net.port[o]).asym)
      + (if c.p2p && e.msg.typ == 0 then p.linkDelay else 0)) }
    (p.up = false → exec (.ptpEventRx n e) s = .next s ∧ ∀ m, exec (.ptpGeneralRx n m) s = .next s)
    ∧ (p.up = true → e.msg.typ = 0 ∨ e.msg.typ = 1 → alone → through = false →
      exec (.ptpEventRx n e) s = .next (s.setEth n rx))
    ∧ (p.up = true → e.msg.typ = 0 ∨ e.msg.typ = 1 → alone → through = true → exec (.ptpEventRx n e) s =
      .next (onward added { cls := 0, at_ := 0, len := 0, out := .ptp 0 added [], use := .passage c.tb stamp, sub := e.subTx
                            align := e.alignTx }))
    ∧ (p.up = true → e.msg.typ = 1 → through = false → ∀ k : Fin 4, takers s n e.msg = [k] → (s.net.inst[k]).p2p = false →
      (s.net.inst[k]).portState[n] = 6 → ∃ t f m, exec (.ptpEventRx n e) s = .next t ∧ SameBut [.net] s t
        ∧ t.net.port[n] = { rx p with txQueue := p.txQueue ++ [f] } ∧ f.cls = 2 ∧ f.out = .ptp n.val m [] ∧ m.typ = 9
        ∧ m.seq = e.msg.seq ∧ m.reqIdentity = e.msg.srcIdentity ∧ m.reqPort = e.msg.srcPort
        ∧ (let t4 := ((s.tbTime k).units : Int) + e.sub - (modeCorr p).2 - e.align - p.userRx
          m.stamp = (t4 / 65536).toNat ∧ m.correction = e.msg.correction - t4 % 65536)
        ∧ t.net.inst = s.net.inst ∧ OthersSame s.net.port t.net.port n)
    ∧ (∀ m : PtpMsg, p.up = true → 8 ≤ m.typ → m.typ ≤ 13 → m.typ ≠ 10 → alone →
      exec (.ptpGeneralRx n m) s = .next (if c.enable then
        onward m { cls := 2, at_ := 0, len := 0, out := .ptp 0 m [] } else s.setEth n rx))
    ∧ (∀ m : PtpMsg, p.up = true → m.typ = 9 → c.enable = false → ∀ (k : Fin 4) (q : Nat) (t1 t2 t3 : Int),
      takers s n m = [k] → (s.net.inst[k]).delayReq = some (q, t3) → (s.net.inst[k]).sync = some (t1, t2) →
      (s.net.inst[k]).slavePort = some n → m.seq = q → m.reqIdentity = clockIdentity s k → m.reqPort = n.val + 1 →
      ∃ t, exec (.ptpGeneralRx n m) s = .next t ∧ SameBut [.net] s t ∧ t.net.port = (s.setEth n rx).net.port
        ∧ OthersSame s.net.inst t.net.inst k ∧ (t.net.inst[k]).delayReq = none
        ∧ (let sum := t2 - t1 + ((m.stamp * 65536 : Int) - m.correction - t3)
          2 * (t.net.inst[k]).meanPathDelay - sum ∈ [(-1 : Int), 0, 1])))
  ∧ (∀ (k n : Fin 4) (s : State), let x := s.net.inst[k]
    let may := x.enable && x.usesPort n && (s.net.port[n]).up && s.firmwareRuns
    let sent := fun (c : Instr) (typ : Nat) => ∃ t f m, exec c s = .next t ∧ SameBut [.net] s t
      ∧ t.net.port[n] = { s.net.port[n] with txQueue := (s.net.port[n]).txQueue ++ [f] } ∧ f.cls = (if typ < 4 then 0 else 2)
      ∧ f.out = .ptp n.val m [] ∧ m.typ = typ ∧ m.seq = x.seq ∧ m.srcIdentity = clockIdentity s k ∧ m.srcPort = n.val + 1
      ∧ (t.net.inst[k]).seq = (x.seq + 1) % 65536 ∧ OthersSame s.net.inst t.net.inst k ∧ OthersSame s.net.port t.net.port n
    (∀ kind sub align, may = false → exec (.ptpMessageTimer k n kind sub align) s = .next s ∧ exec (.ptpAnnounceTimeout k n) s = .next s)
    ∧ (∀ sub align, may = true →
      (x.portState[n] = 6 → sent (.ptpMessageTimer k n .sync sub align) 0)
      ∧ (x.portState[n] = 6 → sent (.ptpMessageTimer k n .announce sub align) 11)
      ∧ (x.p2p = false → x.slavePort = some n → sent (.ptpMessageTimer k n .delayReq sub align) 1)
      ∧ (x.p2p = true → sent (.ptpMessageTimer k n .pdelayReq sub align) 2))
    ∧ (may = true → ∃ t, exec (.ptpAnnounceTimeout k n) s = .next t ∧ SameBut [.net] s t ∧ t.net = { s.net with inst := t.net.inst }
      ∧ OthersSame s.net.inst t.net.inst k ∧ (t.net.inst[k]).foreign[n] = []
      ∧ (∀ j : Fin 4, j ≠ n → (t.net.inst[k]).foreign[j] = x.foreign[j])
      ∧ ((∀ j : Fin 4, j ≠ n → x.foreign[j] = []) →
        (t.net.inst[k]).portState[n] = (if x.slaveOnly then 4 else 6) ∧ (t.net.inst[k]).slavePort = none)))
  ∧ ∀ (n : Fin 4) (s : State), let p := s.net.port[n]
    (p.txLeft ≠ 0 ∨ p.txQueue = [] → txStart n s = s)
    ∧ (p.txLeft = 0 → p.txQueue ≠ [] → ∃ f ∈ p.txQueue, (∀ g ∈ p.txQueue, f.cls ≤ g.cls
          ∧ (f.cls = g.cls → f.at_ = g.at_ → g.forwarded = true → f.forwarded = true))
      ∧ (let t := txStart n s
        let left := fun (b : Fin 4) => (s.tbTime b).units
        (t.net.port[n]).txQueue = p.txQueue.erase f ∧ (t.net.port[n]).txLeft = 8 * f.len ∧ (t.net.port[n]).txFrames = p.txFrames + 1
        ∧ SameBut [.net, .out] s t ∧ OthersSame s.net.port t.net.port n
        ∧ ((∀ k m bs, f.out ≠ .ptp k m bs) → t.out = f.out :: s.out ∧ (t.net.port[n]).ptpTx = p.ptpTx)
        ∧ (∀ k m bs, f.out = .ptp k m bs → (t.net.port[n]).ptpTx = p.ptpTx + 1
          ∧ ∃ (m' : PtpMsg) (body : List Byte), t.out = .ptp n.val m' (body ++ bytesOf 4 (crc32Bytes body).toNat) :: s.out
            ∧ 60 ≤ body.length
            ∧ (let out := fun (b : Fin 4) => (left b : Int) + f.sub + (modeCorr p).1 + f.align + p.userTx
              (f.use = .none → m' = m)
              ∧ (∀ b r, f.use = .passage b r → m' = { m with correction := m.correction + (out b - r) })
              ∧ (∀ b, f.use = .origin b → m' = { m with
                stamp := (out b / 65536).toNat, correction := m.correction + out b % 65536 })))))

/-! ### Stations and DRAM (13, 15) -/

/-- ELL_HELLO_RX, ELL_ROWS_RX, ELL_PART_RX and ELL_VERDICT_RX complete. On a port without link, or for a good message of another type,
nothing changes; a bad datagram, and one of a type that the exchange does not have, counts as a received and a dropped frame;
a good one counts, with the gaps of SEQ, and is acted on: HELLO moves the state of its side by the wiring rules; ROWS pairs with
the earliest unpaired own row within ROW_TOL, its pixel being background on a side not UP, or is late; PART is kept for the own part that it
names and whose joined rows it holds, or is late; VERDICT sends the command of its forwarded part with the verdict to the scheduler
(13 R311 to R313, R315, R319 to R322). That a PART is known by its rows is the model's choice. -/
def Sys2Proof.StationMessages : Prop :=
  (∀ (d : Fin 2) (m : EllDatagram) (s : State),
    let x := s.station.side[d]
    let n : Fin 4 := ⟨2 + d.val, by omega⟩
    let p := s.net.port[n]
    let typ := byteAt m.bytes 3
    let body := m.bytes.drop 24
    let good := m.checksumOk = true ∧ x.enable = true ∧ le16 m.bytes 0 = 0x4C45 ∧ byteAt m.bytes 6 = s.station.stationId
      ∧ m.from_ = x.ip ∧ 1 ≤ typ ∧ typ ≤ 4
    let seq := le32 m.bytes 8
    let took := { x with
      rxMessages := min (x.rxMessages + 1) (2 ^ 32 - 1), seqRx := some seq
      seqGap := match x.seqRx with
        | none => x.seqGap
        | some q => if seq = (q + 1) % 2 ^ 32 then x.seqGap else min (x.seqGap + 1) (2 ^ 32 - 1) }
    let sat := fun k => min (k + 1) (2 ^ 32 - 1)
    let rows : List (Nat × Instr) := [(1, .ellHelloRx d m), (2, .ellRowsRx d m), (3, .ellPartRx d m), (4, .ellVerdictRx d m)]
    (∀ k c, (k, c) ∈ rows → p.up = false ∨ good ∧ typ ≠ k → exec c s = .next s)
    ∧ (∀ k c, (k, c) ∈ rows → p.up = true → ¬ good →
      exec c s = .next (s.setEth n fun p => { p with rxFrames := p.rxFrames + 1, rxDrop := p.rxDrop + 1 }))
    ∧ (p.up = true → good →
      (typ = 1 →
        let new := helloState (helloFits s d m body) x.state
        let touches := fun (o : SegObj) => if d = 0 then o.edgeLeft else o.edgeRight
        ∃ t, exec (.ellHelloRx d m) s = .next t ∧ SameBut [.station, .net, .flt, .seg] s t
          ∧ (t.station.side[d]).state = new ∧ (t.station.side[d]).rxMessages = took.rxMessages ∧ (t.station.side[d]).seqRx = some seq
          ∧ (t.station.side[d]).seqGap = took.seqGap
          ∧ t.flt = (if new = .mismatch ∧ x.state ≠ .mismatch then { s.flt with inFlight := s.flt.inFlight
            ++ [{ group := 20, cls := .squall, inst := d.val, cause := 0 }] } else s.flt)
          ∧ (new ≠ .mismatch ∨ x.state ≠ .up → t.seg = s.seg ∧ t.station.side[d] = { took with state := new }
            ∧ OthersSame s.station.side t.station.side d ∧ t.station.parts = s.station.parts)
          ∧ (new = .mismatch → x.state = .up → ∀ o ∈ t.seg.objs, touches o = true → o.alone = true ∧ joinsOf o d = []))
      ∧ (typ = 2 →
        let r := if x.state = .up then rowOf body else { rowOf body with cls := 0, empty := false }
        let own := x.rows.find? fun o => o.paired.isNone && decide ((o.pos - r.pos).natAbs ≤ s.station.rowTol)
        ∃ t, exec (.ellRowsRx d m) s = .next t ∧ SameBut [.station, .net, .seg] s t
          ∧ (own = none → t.station.side[d] = { took with lateRows := sat x.lateRows } ∧ t.seg = s.seg
            ∧ t.station.parts = s.station.parts)
          ∧ (∀ o, own = some o → (t.station.side[d]).lateRows = x.lateRows
            ∧ (t.station.side[d]).rows.map (fun z => (z.row, z.pos, z.cls, z.paired))
              = x.rows.map fun z => (z.row, z.pos, z.cls, if z.row = o.row then some r else z.paired)))
      ∧ (typ = 3 →
        let b := partOf body
        let meant := s.seg.objs.any (partMeant d b) || s.station.parts.any fun q => partMeant d b q.part.obj
        let keeps := fun (o o' : SegObj) => if partMeant d b o then ∃ g, o'.got = o.got ++ [g] ∧ g.left = (d == 0) ∧ g.body = b else o' = o
        (meant = true → ∃ u, exec (.ellPartRx d m) s = .next (settleParts u) ∧ SameBut [.station, .net, .seg] s (settleParts u)
          ∧ u.station.side[d] = took ∧ u.seg.objs.length = s.seg.objs.length
          ∧ (∀ i (h : i < s.seg.objs.length) (h' : i < u.seg.objs.length), keeps s.seg.objs[i] u.seg.objs[i])
          ∧ u.station.parts.length = s.station.parts.length
          ∧ ∀ i (h : i < s.station.parts.length) (h' : i < u.station.parts.length),
            keeps (s.station.parts[i]).part.obj (u.station.parts[i]).part.obj)
        ∧ (meant = false → ∃ t, exec (.ellPartRx d m) s = .next t ∧ SameBut [.station, .net] s t
          ∧ t.station.side[d] = { took with latePart := sat x.latePart } ∧ t.station.parts = s.station.parts))
      ∧ (typ = 4 →
        let sent := fun (f : Forwarded) => f.left == (d == 0) && (f.part == le16 body 8 || f.ids.contains (le16 body 8))
        ∃ t, exec (.ellVerdictRx d m) s = .next t ∧ SameBut [.station, .net, .ej] s t
        ∧ (∀ f, s.station.forwarded.find? sent = some f → t.station.forwarded = s.station.forwarded.erase f
          ∧ ∃ cmd, t.ej.entries = s.ej.entries ++ [{ cmd := cmd, verdict := byteAt body 10, fromGust := false }])
        ∧ (s.station.forwarded.find? sent = none → t.ej = s.ej ∧ t.station.side[d] = took))))
  ∧ ∀ (d : Fin 2) (own : OwnRow) (r : EllRow) (same : Bool) (s : State) (o : SegObj),
    s.seg.objs = [o] → s.station.parts = [] → o.entry = own.entry → o.firstRow ≤ own.row → own.row ≤ o.lastRow →
      own.cls ≠ 0 →
      (r.empty = true → (joinRows d own r same s).seg.objs = [{ o with incomplete := true }])
      ∧ (r.empty = false → r.cls = 0 → joinRows d own r same s = s)
      ∧ (r.empty = false → r.cls ≠ 0 → joinsOf o d = [] → ∃ o', (joinRows d own r same s).seg.objs = [o']
        ∧ joinsOf o' d = [{ part := r.part, keyPos := BitVec.ofInt 64 r.firstPos, keyCol := r.firstCol
                            pairs := if same then 1 else 0, row := own.row, lo := r.pos, hi := r.pos }])

/-- ELL_HELLO_TIMER, ELL_LOSS_TIMEOUT, ELL_MERGE_TIMEOUT and ELL_VERDICT_TIMEOUT complete. A HELLO of 40 bytes is queued on an enabled side; LOSS_US without a message moves a side that is UP to LOST at the end of the tick, with a
Squall report, so that a message of the same tick still counts; a part that waits in vain for a row or a PART is finalised alone, and what
was received for it stays merged; without its VERDICT a forwarded part takes SEAM_FALLBACK (13 R311, R321, R322). -/
def Sys2Proof.StationTimers : Prop :=
  ∀ (d : Fin 2) (s : State),
    let x := s.station.side[d]
    let n : Fin 4 := ⟨2 + d.val, by omega⟩
    let sat := fun k => min (k + 1) (2 ^ 32 - 1)
    let touches := fun (o : SegObj) => if d = 0 then o.edgeLeft else o.edgeRight
    (x.enable = false → exec (.ellHelloTimer d) s = .next s)
    ∧ (x.enable = true → ∃ t bs, exec (.ellHelloTimer d) s = .next t ∧ SameBut [.station, .net] s t
      ∧ bs.length = 40 ∧ le16 bs 0 = 0x4C45 ∧ byteAt bs 3 = 1
      ∧ bs.drop 24 = bytesOf 4 s.station.colBase ++ bytesOf 4 s.stitch.webWidth ++ bytesOf 4 s.station.rowTol ++ bytesOf 4 s.station.lossUs
      ∧ (x.seqTx < 2 ^ 32 → le32 bs 8 = x.seqTx) ∧ t.station.side[d] = { x with seqTx := (x.seqTx + 1) % 2 ^ 32 }
      ∧ OthersSame s.station.side t.station.side d ∧ OthersSame s.net.port t.net.port n
      ∧ ((s.net.port[n]).up = false → t.net.port[n] = s.net.port[n])
      ∧ ((s.net.port[n]).up = true → ∃ f, t.net.port[n] = { s.net.port[n] with txQueue := (s.net.port[n]).txQueue ++ [f] }
        ∧ f.cls = 1 ∧ f.at_ = s.now ∧ f.out = .udp n.val s.station.udpPort x.ip s.station.udpPort 0 bs))
    ∧ (x.state ≠ .up → exec (.ellLossTimeout d) s = .next s)
    ∧ (x.state = .up → exec (.ellLossTimeout d) s = .next (s.setSide d fun e => { e with lossDue := true }))
    ∧ (x.lossDue = true → x.state = .up →
      let t := sideLost d s
      SameBut [.station, .flt, .seg, .net] s t
      ∧ (t.station.side[d]).state = .lost ∧ (t.station.side[d]).losses = sat x.losses ∧ (t.station.side[d]).lossDue = false
      ∧ (∀ o ∈ t.seg.objs, touches o = true → o.alone = true ∧ joinsOf o d = [])
      ∧ t.flt = { s.flt with inFlight := s.flt.inFlight ++ [{ group := 20, cls := .squall, inst := d.val, cause := 0 }] })
    ∧ (x.lossDue = false ∨ x.state ≠ .up → sideLost d s = s.setSide d fun e => { e with lossDue := false })
    ∧ ∀ e : Fin 16384,
      let part := s.station.parts.find? fun q => q.part.obj.entry == e.val
      let sent := s.station.forwarded.find? fun f => f.left == (d == 0) && f.part == e.val
      (part = none → exec (.ellMergeTimeout d e) s = .next s)
      ∧ (∀ q, part = some q →
        let row := if d = 0 then q.rowLeft else q.rowRight
        let joined := ∃ j ∈ joinsOf q.part.obj d, j.got = false
        (row = true → ¬ joined → exec (.ellMergeTimeout d e) s = .next s)
        ∧ (row = false ∨ joined → ∃ t, exec (.ellMergeTimeout d e) s = .next t ∧ SameBut [.station, .seg] s t
          ∧ t.station.parts = s.station.parts.filter (fun q => q.part.obj.entry != e.val)
          ∧ (t.station.side[d]).lateRows = (if row then x.lateRows else sat x.lateRows)
          ∧ (t.seg.smallDropped = s.seg.smallDropped → t.seg.smallDropped ≠ 2 ^ 32 - 1 → ∃ c, t.seg.waiting = s.seg.waiting ++ [c]
            ∧ c.seamDev = true ∧ c.obj.incomplete = true
            ∧ c.mergedParts = q.part.mergedParts ++ q.part.obj.got.map fun g => (g.left, g.part))))
      ∧ (sent = none → exec (.ellVerdictTimeout d e) s = .next s)
      ∧ (∀ f, sent = some f →
        ∃ t cmd, exec (.ellVerdictTimeout d e) s = .next t ∧ SameBut [.station, .ej] s t
          ∧ t.station.forwarded = s.station.forwarded.erase f ∧ (t.station.side[d]).verdictMissed = sat x.verdictMissed
          ∧ t.ej.entries = s.ej.entries ++ [{ cmd := cmd, verdict := s.station.fallback, fromGust := false }])

/-- `StationMessages` and `StationTimers`, each with the frame it states. -/
def Obligations.Stations : Prop := Sys2Proof.StationMessages ∧ Sys2Proof.StationTimers

/-- DRAM_REQUEST and DRAM_REQUEST_COMPLETE complete. A request to an address that is not addressable is a reserved access, read as zero. A write that the queue takes changes exactly
the bytes of its mask; a read of a granule that stands whole in the write queue is forwarded from there; any other one waits, and so does every
request behind a waiting write of its granule. A channel serves a request of the highest urgency, below urgency 3 one to an open row
first, and leaves its row open: a read returns the bytes, all ones where one of its words is found uncorrectable, and
the port's longest latency is kept (15 R353 to R357, R360, R364; 01 R22, R24). -/
def Sys2Proof.DramRequests : Prop :=
  (∀ (r : DramReq) (s : State), MemCanonical s →
    let a := r.granule * 64
    let c := dramChannel a
    let ch := s.dram.chan[c]
    let has := s.dram.state = .ready ∧ (s.power.state = .active ∨ s.power.state = .hold) ∧ a + 64 ≤ s.dram.addrMib * 2 ^ 20
    let woken := match ch.state with
      | .srEntry => { ch with state := .active, srAborts := ch.srAborts + 1 }
      | .selfRefresh => { ch with state := .srExit }
      | _ => ch
    let w : DramWait := { req := r, entered := s.now }
    let behind := ∃ x ∈ ch.queue, x.req.write = true ∧ x.req.granule = r.granule
    let room := ch.wq.length < 64 ∨ (∃ x ∈ ch.wq, x.req.granule = r.granule)
    let whole := ∃ x ∈ ch.wq, x.req.granule = r.granule ∧ x.req.mask = 2 ^ 64 - 1
    let only := fun (l : List Part) (t : State) => exec (.dramRequest r) s = .next t ∧ SameBut (.dram :: l) s t
      ∧ t.dram = { s.dram with chan := t.dram.chan } ∧ OthersSame s.dram.chan t.dram.chan c
    (¬ has → exec (.dramRequest r) s = .next { s with
      flt := { s.flt with inFlight := s.flt.inFlight ++ [{ group := 29, cls := .drizzle, inst := r.agent.code, cause := 0, valueA := a }] }
      readBytes := if r.write then s.readBytes else List.replicate 64 0 })
    ∧ (has → r.write = true → ¬ behind → room →
      ∃ t, only [.mem] t ∧ MemCanonical t
        ∧ (∀ k, k < 64 → memRead t.mem (a + k) = if r.mask.testBit k then r.data.getD k 0 else memRead s.mem (a + k))
        ∧ BytesSame s t a 64 ∧ (∃ x ∈ (t.dram.chan[c]).wq, x.req.granule = r.granule)
        ∧ (t.dram.chan[c]).wq.length = (if ch.wq.any fun x => x.req.granule == r.granule then ch.wq.length else ch.wq.length + 1)
        ∧ (t.dram.chan[c]).draining = (ch.draining || decide (48 ≤ (t.dram.chan[c]).wq.length))
        ∧ (t.dram.chan[c]).queue = ch.queue)
    ∧ (has → r.write = true → behind ∨ ¬ room →
      ∃ t, only [] t ∧ t.dram.chan[c] = { woken with queue := ch.queue ++ [w] })
    ∧ (has → r.write = false → ¬ behind → whole →
      ∃ t, only [.read] t ∧ t.readBytes = memReadN s.mem a 64 ∧ t.readData = s.readData
        ∧ t.dram.chan[c] = { woken with forwarded := ch.forwarded + 1 })
    ∧ (has → r.write = false → behind ∨ ¬ whole →
      ∃ t, only [] t ∧ t.dram.chan[c] = { woken with queue := ch.queue ++ [w] }))
  ∧ ∀ (c : Fin 8) (s : State),
    let ch := s.dram.chan[c]
    (ch.queue = [] → ch.wq = [] → ∀ write, exec (.dramRequestComplete c write) s = .next s)
    ∧ (ch.wq ≠ [] ∨ (∃ x ∈ ch.queue, x.req.write = false
        ∧ ∀ y ∈ ch.queue, y.req.write = true → y.req.granule ≠ x.req.granule) →
      ∃ t w, exec (.dramRequestComplete c w.req.write) s = .next t ∧ w ∈ ch.queue ++ ch.wq
        ∧ exec (.dramRequestComplete c (!w.req.write)) s = .next s
        ∧ (let k := w.req.port
          let a := w.req.granule * 64
          let late := (s.dram.port[k]).target < s.now - w.entered
          (∀ x ∈ servable s c, urgency s c x.req.port ≤ urgency s c k)
          ∧ (urgency s c k < 3 → (∃ x ∈ mostUrgent s c, rowIsOpen s c (x.req.granule * 64) = true) → rowIsOpen s c a = true)
          ∧ (urgency s c k = 3 → ∀ x ∈ mostUrgent s c, w.entered ≤ x.entered)
          ∧ t.dram.port[k] = { s.dram.port[k] with
              latMax := max (s.dram.port[k]).latMax (min (s.now - w.entered) (2 ^ 32 - 1))
              late := if late then (s.dram.port[k]).late + 1 else (s.dram.port[k]).late }
          ∧ OthersSame s.dram.port t.dram.port k
          ∧ (t.dram.chan[c]).openRow[bankIx s a] = some (dramRow a)
          ∧ (∀ b, b ≠ bankIx s a → (t.dram.chan[c]).openRow[b] = ch.openRow[b])
          ∧ SameBut (if w.req.write then [.dram, .flt, .mem, .ecc] else [.dram, .flt, .read]) s t
          ∧ (w.req.write = true → (∀ x ∈ ch.queue, x.req.write = false) → (t.dram.chan[c]).wq = ch.wq.erase w
            ∧ (t.dram.chan[c]).queue = ch.queue ∧ t.mem = s.mem)
          ∧ (w.req.write = false → (t.dram.chan[c]).queue = ch.queue.erase w ∧ (t.dram.chan[c]).wq = ch.wq
            ∧ t.readBytes = (if (s.dram.inlineEcc = true ∨ 2 ≤ s.dram.speed) ∧ errWords s.eccBad a 64 ≠ [] then
              List.replicate 64 255 else memReadN s.mem a 64))))

/-- DRAM_REFRESH_DUE, DRAM_MR_POLL, DRAM_DQS_TRACK, DRAM_IDLE_SR_ENTRY, DRAM_SCRUB_DUE, DRAM_TRAINING_DONE and DRAM_WIPE_DONE complete.
A due refresh of a bank is postponed at most four times while a port is urgent, and issued with all that were postponed when none is; it closes the
bank's row and applies a changed rate; the polled rate waits for it,
with a report above the operating limit; tracking is timed; an idle channel closes its rows and enters self-refresh in two steps; a scrub pass writes
back what it corrects; a channel whose ranks differ from rank 0 of D0, or whose training fails twice, fails, and the controller with it; else training
ends in the wipe and the wipe in READY, with memory zero where it reached (15 R347 to R353, R359, R360, R365; 20 R462). -/
def Sys2Proof.DramUpkeep : Prop :=
  (∀ (c : Fin 8) (s : State),
    let ch := s.dram.chan[c]
    let busy := ∃ k : Fin 5, 2 ≤ urgency s c k
    let issued := fun (b : Fin 32) (n left : Nat) => exec (.dramRefreshDue c b) s = .next (s.setDch c fun x => { x with
      refreshes := x.refreshes.set b (x.refreshes[b] + n), postponed := x.postponed.set b left, openRow := x.openRow.set b none
      refRate := x.rateNext.getD x.refRate, rateNext := none })
    (∀ b : Fin 32,
      let fitted := b.val < 16 ∨ s.dram.ranks2 = true
      (¬ fitted → exec (.dramRefreshDue c b) s = .next s)
      ∧ (fitted → busy → ch.postponed[b] < 4 → exec (.dramRefreshDue c b) s = .next (s.setDch c fun x =>
        { x with postponed := x.postponed.set b (x.postponed[b] + 1) }))
      ∧ (fitted → busy → 4 ≤ ch.postponed[b] → issued b 1 4)
      ∧ (fitted → ¬ busy → issued b (ch.postponed[b] + 1) 0))
    ∧ (∀ (rate : Fin 3), exec (.dramMrPoll c rate false) s = .next (s.setDch c fun x => { x with rateNext := some rate.val })
      ∧ exec (.dramMrPoll c rate true) s = .next ((s.setDch c fun x => { x with rateNext := some 2 }).report
        { group := 24, cls := .drizzle, inst := c.val, cause := 0 }))
    ∧ exec (.dramDqsTrack c) s = .next (s.setDch c fun x => { x with trackedAt := some s.now })
    ∧ (s.dram.idleSr = 0 ∨ ch.queue ≠ [] ∨ ch.wq ≠ [] → exec (.dramIdleSrEntry c) s = .next s)
    ∧ (s.dram.idleSr ≠ 0 → ch.queue = [] → ch.wq = [] →
      (ch.state = .active → exec (.dramIdleSrEntry c) s =
        .next (s.setDch c fun x => { x with state := .srEntry, openRow := Vector.replicate 32 none }))
      ∧ (ch.state = .srEntry → exec (.dramIdleSrEntry c) s =
        .next (s.setDch c fun x => { x with state := .selfRefresh, srEntries := x.srEntries + 1 }))))
  ∧ ∀ (s : State),
    let runs := s.dram.inlineEcc = true ∧ s.dram.scrubH ≠ 0 ∧ s.dram.state = .ready ∧ (s.power.state = .active ∨ s.power.state = .hold)
    (¬ runs → exec .dramScrubDue s = .next s)
    ∧ (runs → ∃ t, exec .dramScrubDue s = .next t ∧ SameBut [.dram, .flt, .ecc] s t ∧ t.eccBad = s.eccBad
      ∧ t.eccSoft = s.eccSoft.filter (fun w => decide (s.dram.addrMib * 2 ^ 20 ≤ w * 8)))
    ∧ (∀ r, s.dram.state ≠ .training → exec (.dramTrainingDone r) s = .next s)
    ∧ (∀ r : DramTraining, s.dram.state = .training →
      let zero := r.chan[(0 : Fin 8)]
      let differs := fun (c : Fin 8) =>
        let l := (r.chan[c]).ranks
        l.length ≠ zero.ranks.length ∨ l.length = 0 ∨ 2 < l.length
          ∨ ∃ x ∈ l, some x ≠ zero.ranks.head? ∨ x.density ∉ [8, 12, 16, 24, 32]
      let step := fun (c : Fin 8) (k : Option (Fin 8)) (n : Nat) => (differs c → n = 1) ∧ (¬ differs c → n = (k.map (·.val)).getD 0)
      ∃ t, ∃ one two : Fin 8 → Nat, exec (.dramTrainingDone r) s = .next t ∧ SameBut [.dram, .mgmt, .flt] s t
        ∧ (∀ c, step c (r.chan[c]).first (one c) ∧ step c (r.chan[c]).retry (two c))
        ∧ (∀ c : Fin 8, (t.dram.chan[c]).ranks = (r.chan[c]).ranks ∧ (t.dram.chan[c]).retried = (one c != 0)
          ∧ (one c = 0 ∨ two c = 0 → (t.dram.chan[c]).state = .active)
          ∧ (one c ≠ 0 → two c ≠ 0 → (t.dram.chan[c]).state = .failed ∧ (t.dram.chan[c]).trainFail = two c))
        ∧ ((∀ c, one c = 0 ∨ two c = 0) → t.dram.state = .wiping ∧ t.mgmt = { s.mgmt with step := 7 } ∧ t.flt = s.flt
          ∧ t.dram.speed = r.speed.val ∧ t.dram.ranks2 = (zero.ranks.length == 2)
          ∧ ∀ x, zero.ranks.head? = some x →
            let mib := x.density * 1024 * zero.ranks.length
            [8, 12, 16, 24, 32][t.dram.density]? = some x.density
            ∧ t.dram.addrMib = if s.dram.inlineEcc then mib / 32 * 31 else mib)
        ∧ ((∃ c, one c ≠ 0 ∧ two c ≠ 0) → t.dram.state = .failed ∧ t.mgmt = { s.mgmt with step := 8 }
          ∧ t.flt.inFlight = s.flt.inFlight ++ ((List.finRange 8).filter fun c => one c != 0 && two c != 0).map fun c =>
            { group := 24, cls := .squall, inst := c.val, cause := 1, level := true }))
    ∧ (s.dram.state ≠ .wiping → exec .dramWipeDone s = .next s)
    ∧ (s.dram.state = .wiping → MemCanonical s → (∀ r ∈ s.mgmt.wipeRegions, r.1 + r.2 ≤ 0x1000000000) → ∃ t, exec .dramWipeDone s = .next t ∧ SameBut [.dram, .mgmt, .mem, .ecc] s t
      ∧ MemCanonical t ∧ t.dram.state = .ready ∧ t.mgmt = { s.mgmt with step := 8, wipeRegions := [] }
      ∧ ∀ a, memRead t.mem a = if (if s.mgmt.coldStart then decide (a < 0x1000000000)
        else s.mgmt.wipeRegions.any fun r => decide (r.1 ≤ a ∧ a < r.1 + r.2)) then 0 else memRead s.mem a)

/-- `DramRequests` and `DramUpkeep`, each with the frame it states. -/
def Obligations.Dram : Prop := Sys2Proof.DramRequests ∧ Sys2Proof.DramUpkeep

/-! ### DMA (16) -/

/-- DMA_ENABLE, DMA_DISABLE, DMA_CLEAR, DMA_DOORBELL and DMA_ENABLE_DONE complete. A write to a channel's control word by host software: an unclaimed channel only gets FOREIGN_WRITE; PRIO is limited and the sticky
bits clear; CLEAR ends STOPPED; DISABLE, which goes before ENABLE, drains a channel whose descriptor is in progress and else
disables it, and a doorbell of the same tick counts as dropped; ENABLE starts a DISABLED channel or waits for the drain. DOORBELL starts the chain of an ENABLED idle channel at HEAD
and is dropped otherwise (16 R377 to R379). That the tick stands for the engine's cycle is the model's choice. -/
def Obligations.DmaControl : Prop :=
  ∀ (k : DmaSel) (v : Word) (s : State),
    let c := s.chan k
    let writes := [Instr.dmaEnable k v, .dmaDisable k v, .dmaClear k v]
    let claimed := (s.holder k.res).any fun h => decide (1 ≤ h ∧ h ≤ 4)
    let base := { c with
      prio := min (if k.isH2d then 5 else 4) (v.toNat / 8 % 8)
      foreignWrite := c.foreignWrite && !v.getLsbD 6, dbDropped := c.dbDropped && !v.getLsbD 7 }
    let y := if v.getLsbD 2 && c.run == .stopped then { base with run := .idle, stop := .none } else base
    let rung := match y.doorbellAt with | some (at_, _) => at_ == s.now | none => false
    let z := { y with dbDropped := y.dbDropped || rung, doorbellAt := none }
    let drained := { z with
      state := if y.enablePending then .enabling else .disabled, enablePending := false, enable := false, fetchAt := none, ready := none }
    let becomes := fun (z : DmaChan) => ∀ i ∈ writes, exec i s = .next (s.setDma k fun _ => z)
    (k.isHost = false → ∀ i ∈ Instr.dmaDoorbell k v :: writes, exec i s = .next s)
    ∧ (k.isHost = true → claimed = false → ∀ i ∈ Instr.dmaDoorbell k v :: writes,
      exec i s = .next (s.setDma k fun c => { c with foreignWrite := true }))
    ∧ (k.isHost = true → claimed = true →
      (v.getLsbD 1 = false → v.getLsbD 0 = false → becomes y)
      ∧ (v.getLsbD 1 = false → v.getLsbD 0 = true →
        (c.state = .disabled → becomes { y with state := .enabling, enable := true })
        ∧ (c.state = .draining → becomes { y with enablePending := true, enable := true })
        ∧ (c.state = .enabling ∨ c.state = .enabled → becomes y))
      ∧ (v.getLsbD 1 = true →
        (c.state = .disabled → becomes { z with enable := false })
        ∧ (c.state = .enabling → becomes { z with state := .disabled, enable := false })
        ∧ (c.state = .draining → becomes { z with enablePending := false, enable := false })
        ∧ (c.state = .enabled → c.run ≠ .running → becomes drained)
        ∧ (c.state = .enabled → c.run = .running → (∀ t, busyChan s k.isH2d ≠ some (k, t)) → becomes { drained with run := .idle })
        ∧ (c.state = .enabled → c.run = .running → (∃ t, busyChan s k.isH2d = some (k, t)) →
          becomes { z with state := .draining, enable := false, fetchAt := none }))
      ∧ (v.getLsbD 0 = false → exec (.dmaDoorbell k v) s = .next s)
      ∧ (v.getLsbD 0 = true → c.state = .enabled → c.run = .idle → exec (.dmaDoorbell k v) s =
        .next ((s.setDma k fun c => { c with
          run := .running, stop := .none, descCount := 0, fetchAt := some c.head, doorbellAt := some (s.now, c.dbDropped) }).emit
          (.hostRead c.head 32)))
      ∧ (v.getLsbD 0 = true → c.state = .enabled → c.run = .running → exec (.dmaDoorbell k v) s =
        .next (s.setDma k fun c => { c with dbDropped := true, doorbellAt := some (s.now, c.dbDropped) }))
      ∧ (v.getLsbD 0 = true → c.state ≠ .enabled ∨ c.run = .stopped →
        exec (.dmaDoorbell k v) s = .next (s.setDma k fun c => { c with dbDropped := true })))
    ∧ (c.state = .enabling → exec (.dmaEnableDone k) s = .next (s.setDma k fun c => { c with state := .enabled, run := .idle }))
    ∧ (c.state ≠ .enabling → exec (.dmaEnableDone k) s = .next s)

/-- DMA_DESCRIPTOR_FETCHED, DMA_COMPLETION_TIMEOUT, DMA_READ_COMPLETION, DMA_DESCRIPTOR_COMPLETE and DMA_READBACK_DONE complete. A fetched descriptor stops its channel when the read failed, when it is bad, or when its internal range is out of reach; else it
waits for its engine, and an idle one starts it. Source bytes enter the holding register and leave it in order, none lost: a register-free D2H read takes the
used bytes of its access, and the writes to host memory carry its channel. A failed host read, an uncorrectable word or a time-out, which Completion Timeout Disable forbids, stops the channel with its cause. A descriptor
whose writes have left completes, with its read-back first where one is asked for; a doorbell of the tick in which the chain ends
starts the next chain (16 R368, R376, R379 to R385). -/
def Obligations.DmaTransfers : Prop :=
  (∀ (k : DmaSel) (s : State),
    let c := s.chan k
    (c.fetchAt = none → ∀ r, exec (.dmaDescriptorFetched k r) s = .next s)
    ∧ (s.host.timeoutDisable = true → exec (.dmaCompletionTimeout k) s = .next s)
    ∧ (∀ a, c.fetchAt = some a →
      (∃ u, exec (.dmaDescriptorFetched k .urCa) s = .next u ∧ StopsWith k .urCa 0 s u)
      ∧ (∃ u, exec (.dmaDescriptorFetched k .poison) s = .next u ∧ StopsWith k .poison 0 s u)
      ∧ (s.host.timeoutDisable = false → ∃ u, exec (.dmaCompletionTimeout k) s = .next u ∧ StopsWith k .timeout 0 s u)
      ∧ ∀ bs, let d := descriptorOf bs
        let u := s.setDma k fun c => { c with fetchAt := none, curDesc := a, descCount := c.descCount + 1 }
        let reach := windowReach s (if k.isH2d then d.dst else d.src) (d.internalLen k.isH2d)
        (badDescriptor k.isH2d d = true → ∃ t, exec (.dmaDescriptorFetched k (.data bs)) s = .next t ∧ StopsWith k .badDesc 0 u t)
        ∧ (badDescriptor k.isH2d d = false → reach = false →
          ∃ t, exec (.dmaDescriptorFetched k (.data bs)) s = .next t ∧ StopsWith k .address 0 u t)
        ∧ (badDescriptor k.isH2d d = false → reach = true → (busyChan s k.isH2d).isSome →
          exec (.dmaDescriptorFetched k (.data bs)) s = .next (u.setDma k fun c => { c with ready := some d }))
        ∧ (badDescriptor k.isH2d d = false → reach = true → busyChan s k.isH2d = none → readyChans s k.isH2d = [] →
          c.state = .enabled → c.run = .running → ∃ t, exec (.dmaDescriptorFetched k (.data bs)) s = .next t
            ∧ SameBut [.host, .out] s t ∧ busyChan t k.isH2d = some (k, { desc := d }) ∧ (t.chan k).curDesc = a)))
  ∧ (∀ (h2d : Bool) (r : ReadEnd) (s : State), busyChan s h2d = none → exec (.dmaReadCompletion h2d r) s = .next s
    ∧ exec (.dmaDescriptorComplete h2d) s = .next s ∧ exec (.dmaReadbackDone h2d r) s = .next s)
  ∧ ∀ (h2d : Bool) (k : DmaSel) (x : Transfer) (s : State), busyChan s h2d = some (k, x) → k.isH2d = h2d →
    let d := x.desc
    let c := s.chan k
    let completes := fun (i : Instr) => ∃ t, exec i s = .next t ∧ SameBut [.host, .flt, .out] s t
      ∧ (t.chan k).completed = c.completed + 1 ∧ (t.chan k).lastTag = d.tag
      ∧ (d.last = true → c.state = .enabled → (∀ n b, c.doorbellAt = some (n, b) → n ≠ s.now) → (t.chan k).run = .idle)
      ∧ (∀ b, d.last = true → c.state = .enabled → c.doorbellAt = some (s.now, b) → (t.chan k).run = .running
        ∧ (t.chan k).fetchAt = some c.head ∧ (t.chan k).dbDropped = b)
      ∧ (d.last = false → c.state = .enabled → d.next ≠ c.curDesc → c.descCount < c.chainLimit → (t.chan k).fetchAt = some d.next)
    let rb := readbackAddr d
    let bad := !(errWords s.eccBad rb 4).isEmpty && (if rb < 2 ^ 36 then s.dram.inlineEcc || decide (2 ≤ s.dram.speed) else !isRegister rb)
    (d.accessCount ≤ x.accesses → ∀ r, exec (.dmaReadCompletion h2d r) s = .next s)
    ∧ (x.accesses < d.accessCount → h2d = true →
      (∃ u, exec (.dmaReadCompletion h2d .urCa) s = .next u ∧ StopsWith k .urCa x.written s u)
      ∧ (∃ u, exec (.dmaReadCompletion h2d .poison) s = .next u ∧ StopsWith k .poison x.written s u)
      ∧ ∀ bs, ∃ t z, exec (.dmaReadCompletion h2d (.data bs)) s = .next t ∧ t.host.h2dEngine.xfer = some z
        ∧ z.desc = d ∧ z.accesses = x.accesses + 1 ∧ z.taken = x.taken + (d.used x.accesses).2)
    ∧ (x.accesses < d.accessCount → h2d = false → windowReach s (d.access x.accesses) d.srcW = true →
      isRegister (d.access x.accesses) = false → errWords s.eccBad (d.access x.accesses) d.srcW = [] → ∀ r,
      ∃ t z, exec (.dmaReadCompletion h2d r) s = .next t ∧ SameBut [.host, .flt, .dram, .out] s t ∧ t.host.d2hEngine.xfer = some z
        ∧ z.desc = d ∧ z.accesses = x.accesses + 1 ∧ z.taken = x.taken + (d.used x.accesses).2
        ∧ (x.written + x.hold.length = x.taken → z.written + z.hold.length = z.taken)
        ∧ (let got := (((internalRead k.agent (d.access x.accesses) d.srcW s).1.drop (d.used x.accesses).1).take (d.used x.accesses).2)
          ∃ ws : List (Nat × List Byte), (ws.map (·.2)).flatten ++ z.hold = x.hold ++ got
            ∧ t.out = (ws.reverse.map fun w => Out.hostWrite k.d2hChan w.1 w.2 (!d.fence)) ++ s.out))
    ∧ (x.written < d.length ∨ x.awaitReadback = true → exec (.dmaDescriptorComplete h2d) s = .next s)
    ∧ (d.length ≤ x.written → x.awaitReadback = false → needsReadback s k d = false → completes (.dmaDescriptorComplete h2d))
    ∧ (d.length ≤ x.written → x.awaitReadback = false → needsReadback s k d = true →
      ∃ t, exec (.dmaDescriptorComplete h2d) s = .next t ∧ SameBut [.host, .out] s t
        ∧ busyChan t h2d = some (k, { x with awaitReadback := true })
        ∧ t.out = (if h2d then s.out else .hostRead (readbackAddr d) 4 :: s.out))
    ∧ (x.awaitReadback = false → ∀ r, exec (.dmaReadbackDone h2d r) s = .next s)
    ∧ (x.awaitReadback = true → h2d = true → bad = false → ∀ r, completes (.dmaReadbackDone h2d r))
    ∧ (x.awaitReadback = true → h2d = true → bad = true → ∀ r,
      ∃ u, exec (.dmaReadbackDone h2d r) s = .next u ∧ StopsWith k .ecc 0 s u)
    ∧ (x.awaitReadback = true → h2d = false → (∀ bs, completes (.dmaReadbackDone h2d (.data bs)))
      ∧ (∃ u, exec (.dmaReadbackDone h2d .urCa) s = .next u ∧ StopsWith k .urCa 0 s u)
      ∧ (∃ u, exec (.dmaReadbackDone h2d .poison) s = .next u ∧ StopsWith k .poison 0 s u)
      ∧ (c.fetchAt = none → s.host.timeoutDisable = false →
        ∃ u, exec (.dmaCompletionTimeout k) s = .next u ∧ StopsWith k .timeout 0 s u))

/-! ### Host access, mailboxes, sideband (16, 17) -/

/-- COUNTER_LOW_READ, REGISTER_WRITE, MSIX_VECTOR_UNMASK, RESERVED_ADDRESS_ACCESS and SLIDING_WINDOW_ACCESS complete. Reads and writes of host software: the low word of a wide field keeps the high word for its read, and a read of 8 bytes returns both; SCRATCH and WIN_BASE take what is
written; a count clears on a write of 0 only; an unmapped or misaligned access, or one of another size, reads zero and writes nothing, but mailbox windows
read bytes. An access outside an agent's reach is reported with the agent and reads zero. Through the sliding
window memory is read and written byte for byte, the correction tables are not written, and a reserved address is reported; a
vector unmasked with its pending bit set sends one message (01 R18, R22, R23; 08 R199; 16 R368 to R373; 04 R102). -/
def Obligations.HostAccess : Prop :=
  (∀ (s : State),
    (∃ t, exec (.counterLowRead ⟨.bar0 0x0200, 4⟩) s = .next t ∧ t.readData = BitVec.ofNat 32 s.flt.status ∧ SameBut [.host, .read] s t
      ∧ ∃ u, exec (.counterLowRead ⟨.bar0 0x0204, 4⟩) t = .next u ∧ u.readData = BitVec.ofNat 32 (s.flt.status / 2 ^ 32))
    ∧ (∃ t, exec (.counterLowRead ⟨.bar0 0x0200, 8⟩) s = .next t ∧ SameBut [.host, .read] s t
      ∧ t.readBytes = bytesOf 4 s.flt.status ++ bytesOf 4 (s.flt.status / 2 ^ 32))
    ∧ (∀ c : Fin 8, ∃ t, exec (.counterLowRead ⟨.bar2 ⟨0xE0000 + c.val * 0x100, by omega⟩, 4⟩) s = .next t
      ∧ t.readData = BitVec.ofNat 32 (s.pos.qe[c]).count.toNat ∧ SameBut [.host, .read] s t
      ∧ ∀ w : State, w.host.snaps = t.host.snaps → ∃ u, exec (.counterLowRead ⟨.bar2 ⟨0xE0004 + c.val * 0x100, by omega⟩, 4⟩) w = .next u
        ∧ u.readData = BitVec.ofNat 32 ((s.pos.qe[c]).count.toNat / 2 ^ 32))
    ∧ (∀ (k : Fin 4) (o : Fin 4096) (n : Fin 513), (s.host.mbx[k]).response.length = 4096 → 0 < n.val → o.val + n.val ≤ 4096 →
      ∃ t, exec (.counterLowRead ⟨.bar0 ⟨0x9000 + k.val * 0x2000 + o.val, by omega⟩, n⟩) s = .next t ∧ SameBut [.read] s t
        ∧ t.readBytes = (((s.host.mbx[k]).response).drop o.val).take n.val)
    ∧ (∀ (off : Fin 0x2000000) (n : Fin 513), n.val ≠ 4 → n.val ≠ 8 →
      exec (.counterLowRead ⟨.bar2 off, n⟩) s = .next { s with readData := 0, readBytes := zeros n.val })
    ∧ (∀ off : Fin 0x2000000, bar2Addr off.val = none ∨ off.val % 4 ≠ 0 → ∀ v ses,
      exec (.counterLowRead ⟨.bar2 off, 4⟩) s = .next { s with readData := 0, readBytes := zeros 4 }
      ∧ exec (.registerWrite (.bar2 off) (.word v) ses) s = .next s)
    ∧ (∀ (off : Fin 0x2000000) bs ses, exec (.registerWrite (.bar2 off) (.other bs) ses) s = .next s)
    ∧ (∀ (v w : Word) (ses : Fin 4),
      exec (.registerWrite (.bar0 0x001C) (.word v) ses) s = .next { s with host := { s.host with scratch := v } }
      ∧ exec (.registerWrite (.bar0 0x0018) (.pair v w) ses) s = .next { s with host := { s.host with scratch := w } }
      ∧ exec (.registerWrite (.bar0 0x001C) (.pair v w) ses) s = .next s
      ∧ exec (.registerWrite (.bar0 0x0020) (.word v) ses) s = .next { s with host := { s.host with winBase := v.toNat % 2 ^ 16 } }
      ∧ exec (.registerWrite .deviceControl2 (.word v) ses) s =
        .next { s with host := { s.host with timeoutValue := v.toNat % 16, timeoutDisable := v.getLsbD 4 } }
      ∧ ∀ c : Fin 8, exec (.registerWrite (.bar2 ⟨0xE002C + c.val * 0x100, by omega⟩) (.word v) ses) s =
        .next (s.setQe c fun q => { q with indexCount := if v = 0 then 0 else q.indexCount }))
    ∧ (∀ v : Fin 64, let m := s.host.msix[v]
      let unmasked := { s with host := { s.host with msix := s.host.msix.set v { m with masked := false } } }
      (s.host.msixEnable && m.pba && !s.host.functionMask) = false → exec (.msixVectorUnmask v) s = .next unmasked)
    ∧ (∀ v : Fin 64, let m := s.host.msix[v]
      (s.host.msixEnable && m.pba && !s.host.functionMask) = true → exec (.msixVectorUnmask v) s =
        .next { s with host := { s.host with msix := s.host.msix.set v { m with masked := false, pba := false } }
                       out := .msix v.val m.addr m.data :: s.out }))
  ∧ (∀ (a : Fin 0x10000000000) (agent : Agent) (write : Bool) (s : State),
    let inside := fun (lo size : Nat) => decide (lo ≤ a.val ∧ a.val < lo + size)
    let own := fun (e : Fin 192) => dramHas s a.val 1 || inside (0x1004000000 + e.val * 0x40000) 0x40000
      || inside (0x1008000000 + e.val / 16 * 0x100000) 0x100000
    let reach := match agent with
      | .engine e | .engineDma e => own e
      | .mgmt => windowReach s a.val 1 || inside 0x100D000000 0x200000 || inside 0x1011400000 0x100000
      | .h2d _ | .d2h _ | .outputs | .host => windowReach s a.val 1
    let u := s.report { group := 29, cls := .drizzle, inst := agent.code, cause := 0, valueA := a.val }
    exec (.reservedAddressAccess a ⟨agent, write⟩) s =
      .next (if reach then s else if write then u else { u with readData := 0, readBytes := zeros 64 }))
  ∧ ∀ (off : Fin 0x1000000) (ses : Fin 4) (s : State),
    let a := s.host.winBase * 0x1000000 + off.val
    let plain := fun (n : Nat) => windowReach s a n = true ∧ isRegister a = false
    let ones := fun (n : Nat) => a < 2 ^ 36 ∧ (s.dram.inlineEcc = true ∨ 2 ≤ s.dram.speed) ∧ errWords s.eccBad a n ≠ []
    (∀ n : Fin 513, n.val = 0 ∨ 0x1000000 < off.val + n.val →
      exec (.slidingWindowAccess off n none ses) s = .next { s with readBytes := zeros n.val })
    ∧ (∀ n : Fin 513, n.val ≠ 0 → off.val + n.val ≤ 0x1000000 →
      (windowReach s a n.val = false → exec (.slidingWindowAccess off n none ses) s =
        .next { s.report { group := 29, cls := .drizzle, inst := 0x302, cause := 0, valueA := a } with readBytes := zeros n.val })
      ∧ (plain n.val → ∃ t, exec (.slidingWindowAccess off n none ses) s = .next t ∧ SameBut [.dram, .flt, .read] s t
        ∧ t.readData = s.readData
        ∧ (ones n.val → t.readBytes = List.replicate n.val 255)
        ∧ (¬ ones n.val → poolBlock a = none → t.readBytes = memReadN s.mem a n.val)))
    ∧ ∀ (n : Fin 513) (bs : List Byte),
      (bs.length = 0 ∨ 512 < bs.length ∨ 0x1000000 < off.val + bs.length → exec (.slidingWindowAccess off n (some bs) ses) s = .next s)
      ∧ (0 < bs.length → bs.length ≤ 512 → off.val + bs.length ≤ 0x1000000 →
        (windowReach s a bs.length = false → exec (.slidingWindowAccess off n (some bs) ses) s =
          .next (s.report { group := 29, cls := .drizzle, inst := 0x302, cause := 0, valueA := a }))
        ∧ (plain bs.length → tableRegion a = true → exec (.slidingWindowAccess off n (some bs) ses) s = .next s)
        ∧ (plain bs.length → tableRegion a = false → MemCanonical s → ∃ t, exec (.slidingWindowAccess off n (some bs) ses) s = .next t
          ∧ SameBut [.mem, .ecc] s t ∧ MemCanonical t ∧ Holds t a bs ∧ BytesSame s t a bs.length))

/-- MBX_DOORBELL, MBX_REQUEST_WRITE, NET_REQUEST_RX, SB_WRITE_REQUEST, SB_READ_RESPONSE, SB_READ_STATUS and SESSION_IDLE_TIMEOUT complete.
How a request reaches firmware: a mailbox takes bytes into its window and its doorbell hands the request over while it is ready, and
both are lost otherwise; a datagram must come from the source that opened its session, and finds BUSY beside another outstanding
request; the sideband takes a request while RDYBSY is high. The sideband's status shows READY, the unread response and LOST, which
the read clears. A network session without a request for IDLE_S closes and releases what it holds (16 R371, R374; 17 R395 to R399). -/
def Obligations.RequestPorts : Prop :=
  (∀ (k : Fin 4) (s : State), let m := s.host.mbx[k]
    let lost := s.setMailbox k fun m => { m with lost := true }
    (∀ v bulk, v.getLsbD 0 = false → exec (.mbxDoorbell k v bulk) s = .next s)
    ∧ (∀ v bulk, v.getLsbD 0 = true → m.ready = false → exec (.mbxDoorbell k v bulk) s = .next lost)
    ∧ (∀ v bulk, v.getLsbD 0 = true → m.ready = true → s.mbx.queue = [] →
      let q := { reqOf 4080 (some (k.val + 1)) (memReadN m.request 0 4096) with bulk := bulk }
      plainAnswer s q = none → ∃ t, exec (.mbxDoorbell k v bulk) s = .next t ∧ SameBut [.mbx, .host] s t
        ∧ t.mbx.queue = [(s.now, q)] ∧ (t.host.mbx[k]).ready = false ∧ OthersSame s.host.mbx t.host.mbx k
        ∧ (t.mbx.sess[(⟨k.val + 1, by omega⟩ : Fin 14)]).outstanding = some q)
    ∧ ∀ (off : Fin 4096) (bs : List Byte),
      (bs.length = 0 ∨ 512 < bs.length ∨ 4096 < off.val + bs.length → exec (.mbxRequestWrite k off bs) s = .next s)
      ∧ (0 < bs.length → bs.length ≤ 512 → off.val + bs.length ≤ 4096 →
        (m.ready = false → exec (.mbxRequestWrite k off bs) s = .next lost)
        ∧ (m.ready = true → memWf m.request = true → ∃ t, exec (.mbxRequestWrite k off bs) s = .next t ∧ SameBut [.host] s t
          ∧ OthersSame s.host.mbx t.host.mbx k ∧ t.host.mbx[k] = { m with request := (t.host.mbx[k]).request }
          ∧ memReadN (t.host.mbx[k]).request off.val bs.length = bs
          ∧ ∀ a, a < off.val ∨ off.val + bs.length ≤ a → memRead (t.host.mbx[k]).request a = memRead m.request a)))
  ∧ (∀ (ip : BitVec 32) (port : BitVec 16) (bs : List Byte) (s : State),
    let serves := s.mbx.isOpen && s.power.state != .deepSleep && (s.net.port[(0 : Fin 4)]).up && s.mgmt.dev != .halted
    let q := netReq ip.toNat port.toNat bs
    let bound := fun (k : Fin 14) => 5 ≤ k.val ∧ k.val ≤ 12 ∧ q.session = k.val ∧ (s.mbx.sess[k]).isOpen = true
      ∧ (s.mbx.sess[k]).addr = ip.toNat ∧ (s.mbx.sess[k]).port = port.toNat
    let takes := s.setEth 0 fun p => { p with rxFrames := p.rxFrames + 1 }
    let drops := s.setEth 0 fun p => { p with rxFrames := p.rxFrames + 1, rxDrop := p.rxDrop + 1 }
    (serves = false → exec (.netRequestRx ip port bs) s = .next s)
    ∧ (serves = true → bs.length < 16 ∨ (q.opcode ≠ 0x0101 ∨ q.noSession = true) ∧ (∀ k, ¬ bound k) → exec (.netRequestRx ip port bs) s = .next drops)
    ∧ (serves = true → 16 ≤ bs.length → q.opcode = 0x0101 → q.noSession = false → s.mbx.queue = [] → plainAnswer s q = none →
      ∃ t, exec (.netRequestRx ip port bs) s = .next t ∧ SameBut [.mbx, .net] s t ∧ t.net = takes.net ∧ t.mbx.queue = [(s.now, q)])
    ∧ (serves = true → 16 ≤ bs.length → q.opcode ≠ 0x0101 → ∀ k, bound k →
      ((s.mbx.sess[k]).outstanding = none → s.mbx.queue = [] → plainAnswer s q = none →
        ∃ t, exec (.netRequestRx ip port bs) s = .next t ∧ SameBut [.mbx, .net] s t ∧ t.net = takes.net ∧ t.mbx.queue = [(s.now, q)]
          ∧ (t.mbx.sess[k]).outstanding = some q)
      ∧ (∀ o, (s.mbx.sess[k]).outstanding = some o → sameRequest o q = true → exec (.netRequestRx ip port bs) s = .next takes)
      ∧ (∀ o, (s.mbx.sess[k]).outstanding = some o → sameRequest o q = false →
        ∃ t bytes, exec (.netRequestRx ip port bs) s = .next t ∧ SameBut [.net, .out] s t
          ∧ t.out = .response { opcode := q.opcode, session := q.session, sequence := q.sequence, status := .busy } :: s.out
          ∧ ∃ f, (t.net.port[(0 : Fin 4)]).txQueue = (s.net.port[(0 : Fin 4)]).txQueue ++ [f]
            ∧ f.cls = 3 ∧ f.out = .udp 0 23118 q.srcIp q.srcPort 0 bytes)))
  ∧ ∀ (s : State),
    let status := BitVec.ofNat 8 (flagAt s.host.rdybsy 0 + flagAt s.mbx.sbUnread 1 + flagAt s.mbx.sbLost 2)
    (∀ bs, s.host.rdybsy = false → exec (.sbWriteRequest bs) s = .next { s with mbx := { s.mbx with sbLost := true } })
    ∧ (∀ bs, s.host.rdybsy = true → s.mbx.queue = [] →
      let q := reqOf 4080 (some 13) bs
      let q := { q with bad := q.bad || decide (bs.length < 16 + le16 bs 8) }
      plainAnswer s q = none → ∃ t, exec (.sbWriteRequest bs) s = .next t ∧ SameBut [.mbx, .host, .out] s t
        ∧ t.mbx.queue = [(s.now, q)] ∧ (t.mbx.sess[(13 : Fin 14)]).outstanding = some q ∧ t.host.rdybsy = false)
    ∧ (∀ n : Fin 4097, let bs := (s.mbx.sbResponse ++ List.replicate n.val 0).take n.val
      exec (.sbReadResponse n) s = .next { s with
        readBytes := bs, out := .sideband bs :: s.out
        mbx := { s.mbx with sbUnread := s.mbx.sbUnread && decide (n.val < s.mbx.sbResponse.length) } })
    ∧ exec .sbReadStatus s = .next { s with
        readBytes := [status], out := .sideband [status] :: s.out, mbx := { s.mbx with sbLost := false } }
    ∧ ∀ n : Fin 8, let k : Fin 14 := ⟨5 + n.val, by omega⟩
      let live := (s.mbx.sess[k]).isOpen && (s.mbx.sess[k]).outstanding.isNone && s.firmwareRuns
        && decide ((s.mbx.sess[k]).lastAt + (s.mbx.sess[k]).idleS * 1000000000 ≤ s.now)
      (live = false → exec (.sessionIdleTimeout n) s = .next s)
      ∧ (live = true → ∃ t, exec (.sessionIdleTimeout n) s = .next t ∧ SameBut [.mbx, .mgmt, .pipe, .ej, .outp, .host, .out] s t
        ∧ (t.mbx.sess[k]).isOpen = false ∧ OthersSame s.mbx.sess t.mbx.sess k ∧ (∀ c ∈ t.mbx.claims, c.2 ≠ k.val)
        ∧ (∀ c ∈ t.mbx.claims, c ∈ s.mbx.claims) ∧ t.mgmt.update.holder ≠ some k.val)

/-! ### Faults, clocks and sensors (19, 20) -/

/-- FAULT_REPORT completes. A report reaches the collector: its group's status bit is set; its onset counts in its group, saturating, and no other group
changes; a first record is latched with TB0's time, a further onset sets OVERFLOW and raises the class; a repetition does neither. Of two reports of one collector cycle
the record goes to the higher class, and among equal classes to the lower group, in whatever order they are given. A level condition that persists sets
its group's bit again and latches where no record is held. A
Gale that comes first or raises the class disarms every link, sets GALE_SAFE, drives FAULT_N and leaves ACTIVE; an MGT report
restarts the management core; an error in an output ring's staging drops its oldest waiting message (19 R428 to R435, Table 19.1). That a level report which no
unit has under way is a single event, and that the oldest message is the lost one, are the model's choices. -/
def Obligations.FaultReports : Prop :=
  (∀ (g : Fin 33) (r : Report) (s : State), r.group = g.val →
    let known := s.flt.inFlight.contains r
    let arrived := s.setFlt fun f => { f with inFlight := f.inFlight.erase r }
    let again := r.level && s.flt.levels.contains r
    let held := { r with level := r.level && (known || s.flt.levels.contains r) }
    let strikes := known = false ∧ g.val = 22 ∧ r.cause = 1
    let now := s.tbTime 0
    let latched : FirstRecord := { report := held, cls := r.cls, time := now, timeValid := s.tbCounts 0, ts := now.ts32 }
    let onset := s.flt.first = none ∨ ∃ f, s.flt.first = some f ∧ f.cls.rank < r.cls.rank
    let m5 := s.host.msix[(5 : Fin 64)]
    (r.cls = .none ∨ s.mgmt.step < 4 → ¬ strikes → exec (.faultReport [r]) s = .next arrived)
    ∧ (∀ k : Fin 16, strikes → r.inst = k.val → r.cls ≠ .gale → ∃ t, exec (.faultReport [r]) s = .next t
      ∧ SameBut [.flt, .evt, .mgmt, .host, .out, .outp] s t ∧ (t.outp.ring[k]).held = (s.outp.ring[k]).held.drop 1
      ∧ OthersSame s.outp.ring t.outp.ring k
      ∧ ((s.outp.ring[k]).held ≠ [] → (t.outp.ring[k]).dropped = min ((s.outp.ring[k]).dropped + 1) (2 ^ 32 - 1)))
    ∧ (r.cls ≠ .none → 4 ≤ s.mgmt.step → ∃ t, exec (.faultReport [r]) s = .next t
      ∧ t.flt.status = s.flt.status ||| 2 ^ g.val
      ∧ OthersSame s.flt.groups t.flt.groups g
      ∧ (again = true → t.flt.groups = s.flt.groups ∧ t.flt.levels = s.flt.levels)
      ∧ (again = false → t.flt.levels = (if held.level then s.flt.levels ++ [held] else s.flt.levels)
        ∧ (t.flt.groups[g]).drizzle = (if r.cls = .drizzle then min ((s.flt.groups[g]).drizzle + 1) (2 ^ 32 - 1) else (s.flt.groups[g]).drizzle)
        ∧ (t.flt.groups[g]).squall = (if r.cls = .squall then min ((s.flt.groups[g]).squall + 1) (2 ^ 32 - 1) else (s.flt.groups[g]).squall)
        ∧ (t.flt.groups[g]).gale = (if r.cls = .gale then min ((s.flt.groups[g]).gale + 1) (2 ^ 32 - 1) else (s.flt.groups[g]).gale)
        ∧ (t.flt.groups[g]).lastTs = (s.tbTime 0).ts32)
      ∧ (s.flt.first = none → t.flt.first = some latched ∧ t.flt.overflow = s.flt.overflow
        ∧ (s.host.msixEnable = true → s.host.functionMask = false → m5.masked = false → .msix 5 m5.addr m5.data ∈ t.out))
      ∧ (∀ f, s.flt.first = some f → again = true → t.flt.first = some f ∧ t.flt.overflow = s.flt.overflow)
      ∧ (∀ f, s.flt.first = some f → again = false → t.flt.overflow = true
        ∧ t.flt.first = some { f with cls := if f.cls.rank < r.cls.rank then r.cls else f.cls })
      ∧ (r.cls = .gale → again = false → onset → t.flt.faultN = true ∧ t.flt.galeHeld = true ∧ t.ej.galeSafe = true
        ∧ (∀ l : Fin 4, (t.ej.link[l]).arm = 0 ∧ (t.ej.link[l]).armNext = 0) ∧ t.power.state ≠ .active
        ∧ ∀ w, t.power.transit = some w → w.target ≠ .active)
      ∧ (g.val = 32 → t.mgmt.mgtDown = true
        ∧ (s.mgmt.mgtDown = false → t.mgmt.pause = some .restart ∧ t.mgmt.cause = .mgt ∧ t.mbx.isOpen = false))
      ∧ (r.cls ≠ .gale → g.val ≠ 32 → ¬ strikes → SameBut [.flt, .evt, .mgmt, .host, .out] s t)))
  ∧ (∀ (a b : Report) (s : State), a.group < 33 → b.group < 33 → a.cls ≠ .none → b.cls ≠ .none → 4 ≤ s.mgmt.step →
    s.flt.first = none → b.cls.rank < a.cls.rank ∨ b.cls.rank = a.cls.rank ∧ a.group < b.group →
    exec (.faultReport [b, a]) s = exec (.faultReport [a, b]) s
    ∧ ∃ t f, exec (.faultReport [a, b]) s = .next t ∧ t.flt.first = some f ∧ f.report.group = a.group ∧ f.cls = a.cls
      ∧ (b.level = false → t.flt.overflow = true))
  ∧ ∀ (r : Report) (s : State), s.flt.levels = [r] → r.level = true → r.group < 33 → 4 ≤ s.mgmt.step →
    let t := levelRepeats s
    t.flt.groups = s.flt.groups ∧ t.flt.status = s.flt.status ||| 2 ^ r.group
    ∧ (s.flt.first = none → ∃ f, t.flt.first = some f ∧ f.report = r)
    ∧ ∀ f, s.flt.first = some f → t.flt.first = some f ∧ t.flt.overflow = s.flt.overflow

/-- The report of a lost clock: group, class, instance and cause; a lost management PLL has none (19 Table 19.1). -/
def Sys2Proof.lossTable : List (Option Report) :=
  [some { group := 17, cls := .gale, level := true }, some { group := 26, cls := .squall, cause := 1, level := true },
   some { group := 19, cls := .squall, cause := 1, level := true }]
    ++ (List.range 6).map (fun q => some { group := 1, cls := .squall, inst := q, level := true })
    ++ [some { group := 3, cls := .gale, level := true }, some { group := 3, cls := .gale, level := true },
        some { group := 15, cls := .gale, level := true }, some { group := 28, cls := .gale, level := true }, none]
    ++ (List.range 12).map (fun c => some { group := 12, cls := .squall, inst := c, level := true })

/-- REFERENCE_LOST, CLOCK_LOSS, CLOCK_RESTORED and SENSOR_SAMPLE complete. A lost clock clears its presence bit, is reported once and acts locally: REFCLK_SYS stops the time bases and leaves the position
channels still, REFCLK_ETH takes the ports down, a quad reference takes its two camera ports out of link, a cluster clock fences the
cluster's engines, and REFCLK_PCIE is as PERST_N. A clock that returns sets its bit and its report ceases, one still on its way becoming a single event. A sample of the sensors
starts and ends the level conditions of THERMAL and VOLTAGE (19 Table 19.1; 20 R445; 21 R480). -/
def Obligations.ClocksAndSensors : Prop :=
  (∀ (k : Fin 26) (s : State),
    let i := if h : k.val < 9 then Instr.referenceLost ⟨k.val, h⟩ else Instr.clockLoss ⟨k.val - 9, by omega⟩
    let lost := { s with power := { s.power with clockOk := s.power.clockOk.set k.val false } }
    let told := match (lossTable[k.val]?).join with | some r => lost.report r | none => lost
    (s.power.clockOk[k] = false → exec i s = .next s)
    ∧ (s.power.clockOk[k] = true → ∃ t, exec i s = .next t
      ∧ (k.val = 0 → (∀ b : Fin 4, (t.time.tb[b]).valid = false ∧ (t.time.tb[b]).state = (s.time.tb[b]).state
          ∧ (t.time.tb[b]).time = (s.time.tb[b]).time)
        ∧ (∀ c : Fin 8, (t.pos.qe[c]).still = true ∧ (t.pos.qe[c]).coarse = 0 ∧ (t.pos.qe[c]).slow = true
          ∧ (t.pos.qe[c]).timeValid = false ∧ (t.pos.qe[c]).count = (s.pos.qe[c]).count)
        ∧ t.flt = told.flt ∧ t.power = told.power)
      ∧ (k.val = 1 → exec i s = (if s.host.perst then .next told else exec .perstAssert told))
      ∧ (k.val = 2 → (∀ p : Fin 4, (t.net.port[p]).up = false ∧ (t.net.port[p]).txQueue = []) ∧ t.power = told.power)
      ∧ (∀ q : Fin 6, k.val = 3 + q.val → ∀ p : Fin 12, p.val / 2 = q.val → (s.cam.port[p]).unit = .enabled →
        (s.cam.port[p]).link ≠ .down → (t.pipe[p]).bolt = none ∧ ((t.cam.port[p]).link = .search ∨ (t.cam.port[p]).link = .cxpDiscovery
          ∨ lanesPowered s = false ∨ pairIdle s p = true ∨ (s.cam.port[p]).config = none))
      ∧ (9 ≤ k.val → k.val ≤ 13 → t = told)
      ∧ (∀ c : Fin 12, k.val = 14 + c.val → ∀ e : Fin 192, clusterOf e = c → (t.eng.eng[e]).state = .fenced
        ∧ (t.eng.eng[e]).task = .none ∨ (s.eng.eng[e]).state = .fenced ∧ t.eng.eng[e] = s.eng.eng[e])
      ∧ (∀ c : Fin 12, k.val = 14 + c.val → ∀ e : Fin 192, clusterOf e = c → (s.eng.eng[e]).state ≠ .fenced →
        (t.eng.eng[e]).failCause = .clock ∧ (t.eng.eng[e]).fenceCount = min 255 ((s.eng.eng[e]).fenceCount + 1)))
    ∧ (s.power.clockOk[k] = true → exec (.clockRestored k) s = .next s)
    ∧ (s.power.clockOk[k] = false →
      let back := { s with power := { s.power with clockOk := s.power.clockOk.set k.val true } }
      let still := (k.val = 9 ∧ s.power.clockOk[(10 : Fin 26)] = false) ∨ (k.val = 10 ∧ s.power.clockOk[(9 : Fin 26)] = false)
      let slow := { back with pos := { s.pos with qe := s.pos.qe.map fun q => { q with slow := !back.oscRuns } } }
      exec (.clockRestored k) s = .next (match (lossTable[k.val]?).join with
        | some r => if still then slow else slow.setFlt fun f =>
          { f with levels := f.levels.filter (fun x => x != r), inFlight := f.inFlight.map fun x => if x = r then { x with level := false } else x }
        | none => slow)))
  ∧ ∀ (th : Vector Int 16) (v : Vector Nat 12) (s : State),
    let asleep := s.firmwareRuns = false ∨ s.mgmt.step < 4 ∨ s.power.state = .deepSleep
    let limits : List (Nat × Nat) := [(679, 876), (679, 876), (776, 824), (760, 840), (1710, 1890), (3135, 3465), (475, 525),
      (1020, 1080), (873, 927), (873, 927), (1164, 1236), (1710, 1890)]
    let hot := fun (k : Fin 16) => ({ group := 30, cls := .gale, inst := k.val, cause := 1, level := true } : Report)
    let off := fun (m : Fin 12) => ({ group := 31, cls := .gale, inst := m.val, level := true } : Report)
    (asleep → exec (.sensorSample th v) s = .next s)
    ∧ (¬ asleep → ∃ t, exec (.sensorSample th v) s = .next t ∧ SameBut [.mgmt, .flt] s t
      ∧ t.mgmt = { s.mgmt with sensors := { thermal := th, voltage := v }, fuseSupply := decide (1710 ≤ v[11] ∧ v[11] ≤ 1890) }
      ∧ (∀ k : Fin 16, 920 ≤ th[k] → hot k ∈ t.flt.levels ∨ hot k ∈ t.flt.inFlight)
      ∧ (∀ k : Fin 16, th[k] < 920 → hot k ∉ t.flt.levels ∧ hot k ∉ t.flt.inFlight)
      ∧ (∀ k : Fin 16, 840 ≤ th[k] → (s.mgmt.sensors.thermal[k]) < 840 →
        ({ group := 30, cls := .drizzle, inst := k.val } : Report) ∈ t.flt.inFlight)
      ∧ ∀ (m : Fin 12) (lo hi : Nat), limits[m.val]? = some (lo, hi) →
        (m.val = 11 ∧ v[m] = 0 ∨ lo ≤ v[m] ∧ v[m] ≤ hi → off m ∉ t.flt.levels)
        ∧ (¬ (m.val = 11 ∧ v[m] = 0) → v[m] < lo ∨ hi < v[m] → off m ∈ t.flt.levels ∨ off m ∈ t.flt.inFlight))

/-! ### Start-up (20) -/

/-- STARTUP_BEGIN and MAILBOXES_OPEN complete. The boot ROM takes the trial slot while fewer than two attempts were made, counting the attempt, else the active slot; if that
slot is not valid it takes the other, and with neither valid the device is HALTED, where a recovery policy opens mailbox 1 and the
sideband. A boot that goes on wipes the SRAM, releases the sequence reserve, reads the settings and starts DRAM training; step 9
opens the mailboxes (20 R438 to R443, R450, R452; 13 R310). -/
def Obligations.StartUp : Prop :=
  (∀ (s : State), (s.mgmt.step ≠ 0 ∨ s.mgmt.dev ≠ .rom ∨ s.power.clockOk[(0 : Fin 26)] = false → exec .startupBegin s = .next s))
  ∧ (∀ (s : State), s.mgmt.step = 0 → s.mgmt.dev = .rom → s.power.clockOk[(0 : Fin 26)] = true →
    s.mgmt.eraseDue = false → s.mgmt.lifeCycleNext = none → s.mgmt.policyNext = none → s.mgmt.rootKeyNext = none →
    let h := (bootHeader s.mgmt).2
    let ok := fun (k : Nat) => slotValid s.mgmt k
    let boots := fun (slot : Nat) (trial : Bool) (t : State) => exec .startupBegin s = .next t
      ∧ t.mgmt.dev = .init ∧ t.mgmt.step = 6 ∧ t.mgmt.imageSlot = slot % 2 ∧ t.mgmt.trial = trial ∧ t.dram.state = .training
      ∧ t.dram.inlineEcc = t.mgmt.inlineEcc ∧ t.dram.scrubH = t.mgmt.scrubH ∧ t.gust.sequence = s.mgmt.reserveValue % 2 ^ 52
      ∧ t.mgmt.reserveValue = (s.mgmt.reserveValue % 2 ^ 52 + 2 ^ 36) % 2 ^ 52
      ∧ t.power.porHigh = true ∧ t.power.wrstHigh = true
      ∧ t.mgmt.settingsResult = (match committedStore t.mgmt with
        | none => .empty
        | some (_, x) => let i := runningImage t.mgmt
          if x.schema = i.schema then .loaded else if i.minSchema ≤ x.schema ∧ x.schema ≤ i.schema then .migrated else .unreadable)
      ∧ (t.mgmt.settingsResult = .empty ∨ t.mgmt.settingsResult = .unreadable →
        t.mbx = s.mbx ∧ t.mgmt.hostIndependent = s.mgmt.hostIndependent
        ∧ ∀ a, 0x1000000000 ≤ a → a < 0x100D200000 → memRead t.mem a = blank a)
      ∧ (∀ op p, t.mgmt.settingsResult = .loaded ∨ t.mgmt.settingsResult = .migrated →
        ((committedStore t.mgmt).map fun x => x.2.records) = some [.command op p] → knownOpcode op = true →
        ∃ q, t.mbx.queue.getLast? = some (s.now, q) ∧ q.session = 0 ∧ q.opcode = op ∧ q.payload = p)
      ∧ (∀ hi ecc sc idle, t.mgmt.settingsResult = .loaded ∨ t.mgmt.settingsResult = .migrated →
        ((committedStore t.mgmt).map fun x => x.2.records) = some [.device hi ecc sc idle] →
        t.mgmt.hostIndependent = hi ∧ t.mgmt.inlineEcc = ecc ∧ t.mgmt.scrubH = sc ∧ t.mgmt.idleSMax = idle)
    let first := match h.trialSlot with | some k => if h.attempts < 2 then (k, true) else (h.activeSlot, false) | none => (h.activeSlot, false)
    (ok first.1 = true → ∃ t, boots first.1 first.2 t
      ∧ (first.2 = true → (bootHeader t.mgmt).2 = { h with attempts := h.attempts + 1, gen := h.gen + 1 })
      ∧ (h.trialSlot.isSome = true → first.2 = false → (bootHeader t.mgmt).2.trialSlot = none))
    ∧ (ok first.1 = false → ok (first.1 + 1) = true → ∃ t, boots (first.1 + 1) false t)
    ∧ (ok first.1 = false → ok (first.1 + 1) = false → ∃ t, exec .startupBegin s = .next t ∧ t.mgmt.dev = .halted ∧ t.mgmt.step = 3
      ∧ ((policyWord s).testBit 5 = true → t.mbx.isOpen = true ∧ (t.mbx.sess[(1 : Fin 14)]).isOpen = true
        ∧ (t.mbx.sess[(13 : Fin 14)]).isOpen = true ∧ (t.host.mbx[(0 : Fin 4)]).ready = true)
      ∧ ((policyWord s).testBit 5 = false → t.mbx = s.mbx)))
  ∧ ∀ (s : State),
    let waits := s.mbx.queue.any fun q => !q.2.net && q.2.session == 0
    (s.mgmt.step ≠ 8 ∨ s.firmwareRuns = false ∨ waits = true → exec .mailboxesOpen s = .next s)
    ∧ (s.mgmt.step = 8 → s.firmwareRuns = true → waits = false → ∃ t, exec .mailboxesOpen s = .next t
      ∧ SameBut [.mgmt, .mbx, .host, .out] s t ∧ t.mbx.isOpen = true ∧ (t.mbx.sess[(13 : Fin 14)]).isOpen = true
      ∧ t.mgmt = (let m := { s.mgmt with step := 9, dev := .operational, coldStart := false, openedAt := s.now }
        if s.mgmt.trial then { m with trialAt := s.now, trialS := (bootHeader s.mgmt).2.trialS, acceptDefaults := false, trialStore := false }
        else m)
      ∧ (s.host.perst = false → ∀ k : Fin 14, 1 ≤ k.val → k.val ≤ 4 → (t.mbx.sess[k]).isOpen = true)
      ∧ (s.host.perst = true → ∀ k : Fin 14, k.val ≠ 13 → t.mbx.sess[k] = s.mbx.sess[k]))

/-- BOOT_ARM_APPLY, ARM_WAIT_EXPIRY, LOG_FLUSH, WATCHDOG_EXPIRY, TRIAL_WINDOW_END, TRIAL_CONFIRM, ACTIVATION_RESTART_DONE,
MGT_RESTART_DONE, UPDATE_IDLE_TIMEOUT and LIBRARY_ACTIVATION_DONE complete. Without firmware the management core's rows do nothing, and a wait or a window ends only when its time has passed. A link of the ARM record is armed by session 0 once it is enabled, up and
its time base locked where that is asked; at the end of the wait the record is dropped. Staged log entries move to the ring. The
restart of the core ends with the mailboxes open; an activation restart boots the target slot. A trial that passes makes its slot the
active one and raises the anti-rollback fuse; one that ends otherwise starts the fallback, as does a watchdog expiry in it. An idle
update is dropped; a library image takes its slot (19 R433; 20 R441, R446, R448, R454 to R458). -/
def Obligations.ManagementCore : Prop :=
  (∀ (l : Fin 4) (s : State), (s.mgmt.armRecord = none → exec (.bootArmApply l) s = .next s ∧ exec .armWaitExpiry s = .next s)
    ∧ ∀ mask test lock wait, s.mgmt.armRecord = some (mask, test, lock, wait) →
      let k := s.ej.link[l]
      let ready := mask.testBit l.val = true ∧ 9 ≤ s.mgmt.step ∧ s.firmwareRuns = true ∧ s.power.state ≠ .deepSleep ∧ k.state = .enabled
        ∧ k.up = true ∧ (lock = true → (s.time.tb[(0 : Fin 4)]).state = .locked)
      (¬ ready → exec (.bootArmApply l) s = .next s)
      ∧ (ready → ∃ t, exec (.bootArmApply l) s = .next t ∧ (∀ m x, t.mgmt.armRecord = some (m, x) → m.testBit l.val = false ∧ x = (test, lock, wait))
        ∧ SameBut [.ej, .mbx, .mgmt, .host, .out] s t
        ∧ (s.power.state = .active → s.ej.galeSafe = false → k.faulted = false → s.holder (resLink l.val) = none →
          (test = false → s.mgmt.lifeCycle ≠ .blank ∧ s.mgmt.lifeCycle ≠ .decommissioned ∧ s.mgmt.dev ≠ .test) →
          (t.ej.link[l]).armNext = (if test then 2 else 1) ∧ t.holder (resLink l.val) = some 0))
      ∧ (s.mgmt.step < 9 ∨ s.firmwareRuns = false ∨ s.now < s.mgmt.openedAt + wait * 1000000000 → exec .armWaitExpiry s = .next s)
      ∧ (9 ≤ s.mgmt.step → s.firmwareRuns = true → s.mgmt.openedAt + wait * 1000000000 ≤ s.now → ∃ t, exec .armWaitExpiry s = .next t ∧ SameBut [.mgmt] s t ∧ t.mgmt.armRecord = none
        ∧ t.mgmt.logStaged.length = s.mgmt.logStaged.length + (if mask.testBit 0 then 1 else 0) + (if mask.testBit 1 then 1 else 0)
          + (if mask.testBit 2 then 1 else 0) + (if mask.testBit 3 then 1 else 0)))
  ∧ (∀ (s : State),
    let off := s.mgmt.step < 4 ∨ s.power.state = .deepSleep
    let passed := s.mgmt.trialAt + s.mgmt.trialS * 1000000000 ≤ s.now
    let idle := s.mgmt.update.lastAt + 60000000000 ≤ s.now
    let all := s.mgmt.logRing ++ s.mgmt.logStaged
    (off ∨ s.firmwareRuns = false → exec .logFlush s = .next s)
    ∧ (off ∨ s.mgmt.mgtDown = true → exec .watchdogExpiry s = .next s)
    ∧ (¬ off → s.firmwareRuns = true → ∃ t, exec .logFlush s = .next t ∧ SameBut [.mgmt, .outp] s t
      ∧ t.mgmt = { s.mgmt with logRing := t.mgmt.logRing, logStaged := [] }
      ∧ (all.length ≤ 65536 → t.mgmt.logRing = all)
      ∧ (65536 < all.length → ∃ k, t.mgmt.logRing = all.drop (128 * k) ∧ t.mgmt.logRing.length ≤ 65536 ∧ 65536 < t.mgmt.logRing.length + 128)
      ∧ t.outp.items.length = s.outp.items.length + s.mgmt.logStaged.length)
    ∧ (¬ off → s.mgmt.mgtDown = false → ∃ t, exec .watchdogExpiry s = .next t ∧ t.mgmt.mgtDown = true ∧ t.mgmt.dev = .pause ∧ t.mbx.isOpen = false
      ∧ t.mgmt.pause = some (if s.mgmt.trial then .fallback else .restart)
      ∧ (s.mgmt.trial = true → (bootHeader t.mgmt).2.trialSlot = none)
      ∧ (s.mgmt.trial = false → t.mgmt.cause = .watchdog))
    ∧ (s.mgmt.trial = false ∨ s.firmwareRuns = false → exec .trialWindowEnd s = .next s ∧ exec .trialConfirm s = .next s)
    ∧ (¬ passed → exec .trialWindowEnd s = .next s)
    ∧ (s.mgmt.trial = true → s.firmwareRuns = true → passed → ∃ t, exec .trialWindowEnd s = .next t ∧ t.mgmt.pause = some .fallback
      ∧ t.mgmt.mgtDown = true ∧ (bootHeader t.mgmt).2.trialSlot = none)
    ∧ (s.mgmt.trial = true → s.firmwareRuns = true → s.mbx.isOpen = true → s.mgmt.settingsResult ≠ .unreadable ∨ s.mgmt.acceptDefaults = true →
      ∃ t, exec .trialConfirm s = .next t ∧ SameBut [.mgmt, .host, .out] s t ∧ t.mgmt.trial = false
        ∧ (bootHeader t.mgmt).2.activeSlot = s.mgmt.imageSlot ∧ (bootHeader t.mgmt).2.trialSlot = none
        ∧ t.mgmt.rollbackFuse = (if s.mgmt.fuseSupply then max s.mgmt.rollbackFuse (runningImage s.mgmt).rollback else s.mgmt.rollbackFuse))
    ∧ (s.mgmt.trial = true → s.mbx.isOpen = false ∨ (s.mgmt.settingsResult = .unreadable ∧ s.mgmt.acceptDefaults = false) →
      exec .trialConfirm s = .next s)
    ∧ (¬ (s.mgmt.mgtDown = true ∧ s.mgmt.pause = some .activation) → exec .activationRestartDone s = .next s)
    ∧ (¬ (s.mgmt.mgtDown = true ∧ (s.mgmt.pause = some .restart ∨ s.mgmt.pause = some .fallback)) → exec .mgtRestartDone s = .next s)
    ∧ (s.mgmt.mgtDown = true → s.mbx.queue = [] →
      let h := (bootHeader s.mgmt).2
      (s.mgmt.pause = some .restart → ∃ t, exec .mgtRestartDone s = .next t ∧ t.mgmt.mgtDown = false ∧ t.mgmt.pause = none
        ∧ t.mgmt.imageSlot = s.mgmt.imageSlot ∧ t.mgmt.trial = s.mgmt.trial
        ∧ (9 ≤ s.mgmt.step → t.mbx.isOpen = true ∧ t.mgmt.dev = (if s.mgmt.testBefore then .test else .operational)))
      ∧ (∀ k, h.trialSlot = some k → h.attempts < 2 → slotValid s.mgmt k = true → s.mgmt.pause = some .activation → 9 ≤ s.mgmt.step →
        ∃ t, exec .activationRestartDone s = .next t ∧ t.mgmt.mgtDown = false ∧ t.mgmt.pause = none ∧ t.mgmt.imageSlot = k % 2
          ∧ t.mgmt.trial = true ∧ t.mbx.isOpen = true ∧ t.mgmt.trialAt = s.now
          ∧ t.mgmt.fwVersion = (runningImage { s.mgmt with imageSlot := k % 2 }).version)
      ∧ (h.trialSlot = none → slotValid s.mgmt h.activeSlot = true → s.mgmt.pause = some .fallback → 9 ≤ s.mgmt.step →
        ∃ t, exec .mgtRestartDone s = .next t ∧ t.mgmt.mgtDown = false ∧ t.mgmt.imageSlot = h.activeSlot % 2 ∧ t.mgmt.trial = false
          ∧ t.mbx.isOpen = true))
    ∧ (s.mgmt.update.holder = none ∨ s.firmwareRuns = false ∨ ¬ idle → exec .updateIdleTimeout s = .next s)
    ∧ (s.mgmt.update.holder ≠ none → s.firmwareRuns = true → idle → ∃ t, exec .updateIdleTimeout s = .next t ∧ SameBut [.mgmt] s t
      ∧ t.mgmt.update = { lastStatus := s.mgmt.update.lastStatus, trialS := s.mgmt.update.trialS })
    ∧ (s.mgmt.update.activating = false ∨ s.firmwareRuns = false → exec .libraryActivationDone s = .next s)
    ∧ (s.mgmt.update.activating = true → s.firmwareRuns = true → ∃ t, exec .libraryActivationDone s = .next t ∧ SameBut [.mgmt, .eng] s t
      ∧ t.mgmt.update.state = .idle ∧ t.mgmt.update.holder = none
      ∧ t.eng.library = s.eng.library.set (idxMod 15 s.mgmt.update.librarySlot)
        (some (memReadN s.mgmt.update.data 512 (s.mgmt.update.size - 512)))))

/-! ### Resets, PERST_N, power states, test access port (16, 20, 21) -/

/-- POR_FALL, BROWN_OUT, WARM_RESET, PERST_ASSERT, PERST_DEASSERT, D3HOT_ENTRY, PCIE_LINK_CHANGE and MAILBOX_REOPEN complete. A fall of POR_N or a brown-out leaves the reset state but for flash, fuses and the board's side, with no memory. A warm reset, by
WRST_N, by a DEV_RESET or by PERST_N without HOST_INDEPENDENT, keeps memory, FENCE_COUNT, the library and the staged log as well, and
lists the regions to wipe; before a cold start-up is over it is a cold one; a Tare run ends ABORTED with its log entry. With HOST_INDEPENDENT as it stood a PERST_N closes the PCIe sessions,
passes their claims to session 0, abandons host DMA and switches the HOST rings off but those of session 0; in a pause and in DEEP SLEEP that waits. D3hot
does the DMA and ring part (20 R438, R462, R465; 21 R478 to R482; 16 R388 to R390; 00 R7). -/
def Obligations.ResetRows : Prop :=
  ∀ (s : State),
    let parts : List Part := [.mgmt, .power, .host, .eng, .out, .read, .mem, .ecc]
    let fresh : State := { State.reset with pending := s.pending, now := s.now }
    let kept := fun (t : State) => SameBut parts fresh t
      ∧ t.mgmt.dev = .rom ∧ t.mgmt.step = 0 ∧ t.mgmt.trial = false ∧ t.mgmt.update = {} ∧ t.mgmt.mgtDown = false
      ∧ t.mgmt.stores = s.mgmt.stores ∧ t.mgmt.tableStores = s.mgmt.tableStores ∧ t.mgmt.bootHdr = s.mgmt.bootHdr
      ∧ t.mgmt.logRing = s.mgmt.logRing ∧ t.mgmt.lifeCycle = s.mgmt.lifeCycle
      ∧ t.mgmt.lifeCycleNext = s.mgmt.lifeCycleNext ∧ t.mgmt.policyFuse = s.mgmt.policyFuse ∧ t.mgmt.rollbackFuse = s.mgmt.rollbackFuse
      ∧ t.mgmt.reserveValue = s.mgmt.reserveValue ∧ t.mgmt.hostIndependent = false ∧ t.mgmt.allow = []
      ∧ t.eng.library = s.eng.library ∧ t.power.state = .active ∧ t.power.transit = none ∧ t.power.clockOk = s.power.clockOk
    let cold := fun (t : State) => kept t ∧ t.mem = [] ∧ t.eccBad = [] ∧ t.eccSoft = [] ∧ t.mgmt.slots = s.mgmt.slots
      ∧ t.mgmt.coldStart = true ∧ t.mgmt.logStaged = [] ∧ t.mgmt.logNext = s.mgmt.logNext ∧ t.eng = { library := s.eng.library }
    let warm := fun (cause : ResetCause) (t : State) => kept t ∧ t.mem = s.mem ∧ t.eccBad = s.eccBad ∧ t.eccSoft = s.eccSoft
      ∧ t.mgmt.coldStart = false ∧ t.mgmt.cause = cause ∧ s.mgmt.logStaged <+: t.mgmt.logStaged
      ∧ ((∀ p : Fin 12, (s.pipe[p]).tare.run = none) → t.mgmt.logStaged = s.mgmt.logStaged ∧ t.mgmt.logNext = s.mgmt.logNext)
      ∧ (∀ p : Fin 12, (s.pipe[p]).tare.run.isSome = true → s.mgmt.logStaged.length < t.mgmt.logStaged.length)
      ∧ (s.mgmt.update.state = .idle → t.mgmt.slots = s.mgmt.slots)
      ∧ (s.mgmt.update.state ≠ .idle → t.mgmt.slots = s.mgmt.slots.set (idxMod 1 s.mgmt.update.target) none)
      ∧ (∀ e : Fin 192, t.eng.eng[e] = { fenceCount := (s.eng.eng[e]).fenceCount })
      ∧ ∀ c : Fin 12, 0 < (s.eng.cluster[c]).spillSize → ((s.eng.cluster[c]).spillBase, (s.eng.cluster[c]).spillSize) ∈ t.mgmt.wipeRegions
    let dmaOff := fun (u t : State) => (∀ k : DmaSel, k.isHost = true → (t.chan k).state = .disabled ∧ (t.chan k).enable = false
        ∧ (t.chan k).fetchAt = none ∧ (t.chan k).ready = none
        ∧ ((s.chan k).run = .running → (t.chan k).run = .stopped ∧ (t.chan k).stop = .aborted ∧ (t.chan k).errors = (s.chan k).errors + 1)
        ∧ ((s.chan k).run ≠ .running → (t.chan k).run = (s.chan k).run ∧ (t.chan k).stop = (s.chan k).stop ∧ (t.chan k).errors = (s.chan k).errors))
      ∧ (∀ k : DmaSel, k.isHost = false → t.chan k = s.chan k)
      ∧ ∀ r : Fin 16, (t.outp.ring[r]).cfg = (u.outp.ring[r]).cfg ∧ if (u.outp.ring[r]).cfg.udp = true ∨ (u.outp.ring[r]).state = .disabled ∨ (u.outp.ring[r]).owner = some 0
        then (t.outp.ring[r]).state = (u.outp.ring[r]).state ∧ (t.outp.ring[r]).held = (u.outp.ring[r]).held
        else (t.outp.ring[r]).state = .disabled ∧ (t.outp.ring[r]).held = [] ∧ (t.outp.ring[r]).batches = []
          ∧ (t.outp.ring[r]).dropped = min ((u.outp.ring[r]).dropped + ((u.outp.ring[r]).held.length + (u.outp.ring[r]).batches.length)) (2 ^ 32 - 1)
    let linkOff := fun (t : State) => t.host.perst = true ∧ t.host.winBase = 0 ∧ t.host.linkGen = 0 ∧ t.host.linkWidth = 0
      ∧ t.host.msixEnable = false ∧ t.host.functionMask = false ∧ t.host.msix = Vector.replicate 64 {}
      ∧ t.host.timeoutValue = 5 ∧ t.host.timeoutDisable = false
    let passed := fun (n : Nat) => if 1 ≤ n ∧ n ≤ 4 then 0 else n
    (∀ i ∈ [Instr.porFall, .brownOut], ∃ t, exec i s = .next t ∧ cold t ∧ t.power.porHigh = false ∧ t.host = { perst := s.host.perst })
    ∧ (s.power.porHigh = false → exec (.warmReset true) s = .next (s.setPower fun w => { w with wrstHigh := false }))
    ∧ (s.power.porHigh = true → ∃ t, exec (.warmReset true) s = .next t ∧ t.power.wrstHigh = false ∧ t.power.porHigh = true
      ∧ t.host = { perst := s.host.perst }
      ∧ (s.mgmt.coldStart = true → cold t) ∧ (s.mgmt.coldStart = false → warm .warmPin t))
    ∧ (s.mbx.resetAsked = false → exec (.warmReset false) s = .next s)
    ∧ (s.mbx.resetAsked = true → ∃ t, exec (.warmReset false) s = .next t ∧ t.host = { perst := s.host.perst }
      ∧ (s.mgmt.coldStart = true → cold t) ∧ (s.mgmt.coldStart = false → warm .devReset t))
    ∧ (s.host.perst = true → exec .perstAssert s = .next s)
    ∧ (s.host.perst = false → s.mgmt.step < 9 → ∃ t, exec .perstAssert s = .next t ∧ SameBut [.host] s t ∧ linkOff t
      ∧ ∀ k : DmaSel, t.chan k = s.chan k)
    ∧ (s.host.perst = false → 9 ≤ s.mgmt.step → s.mgmt.hostIndependentWas = false → ∃ t, exec .perstAssert s = .next t
      ∧ t.host = { perst := true } ∧ (s.mgmt.coldStart = true → cold t) ∧ (s.mgmt.coldStart = false → warm .perst t))
    ∧ (s.host.perst = false → 9 ≤ s.mgmt.step → s.mgmt.hostIndependentWas = true → s.power.state = .deepSleep →
      exec .perstAssert s = .next { s with host := { s.host with perst := true, perstIndependent := true, perstPending := true } })
    ∧ (s.host.perst = false → 9 ≤ s.mgmt.step → s.mgmt.hostIndependentWas = true → s.power.state ≠ .deepSleep → s.mbx.queue = [] →
      ∃ t, exec .perstAssert s = .next t ∧ SameBut [.host, .mbx, .outp, .mgmt] s t ∧ linkOff t ∧ dmaOff s t
      ∧ (s.mgmt.mgtDown = true → t.mbx = { s.mbx with perstClose := true } ∧ t.mgmt = s.mgmt)
      ∧ (s.mgmt.mgtDown = false → (∀ k : Fin 14, 1 ≤ k.val → k.val ≤ 4 → t.mbx.sess[k] = { background := (s.mbx.sess[k]).background })
        ∧ (∀ k : Fin 14, k.val < 1 ∨ 4 < k.val → t.mbx.sess[k] = s.mbx.sess[k])
        ∧ t.mbx.claims = s.mbx.claims.map (fun c => (c.1, passed c.2)) ∧ (∀ k : Fin 4, (t.host.mbx[k]).ready = false)
        ∧ (∀ r : Fin 16, (t.outp.ring[r]).owner = (s.outp.ring[r]).owner.map passed)
        ∧ (∀ h, s.mgmt.update.holder = some h → 1 ≤ h → h ≤ 4 → t.mgmt.update.state = .idle ∧ t.mgmt.update.holder = none)))
    ∧ (∃ t, exec .d3hotEntry s = .next t ∧ SameBut [.host, .outp] s t ∧ dmaOff s t ∧ t.host.perst = s.host.perst ∧ t.host.linkGen = s.host.linkGen
      ∧ t.host.msix = s.host.msix ∧ t.host.mbx = s.host.mbx)
    ∧ (s.host.wakeN = false → exec .perstDeassert s = .next { s with host := { s.host with perst := false, perstIndependent := false } })
    ∧ (s.host.wakeN = true → exec .perstDeassert s =
      .next (({ s with host := { s.host with perst := false, perstIndependent := false, wakeN := false } }).setBall .wakeN true))
    ∧ (∀ (gen : Fin 5) (width : Fin 9),
      (gen.val = 0 → exec (.pcieLinkChange gen width) s = .next { s with host := { s.host with linkGen := 0, linkWidth := 0 } })
      ∧ (gen.val ≠ 0 → width.val ∈ [1, 2, 4, 8] →
        exec (.pcieLinkChange gen width) s = .next { s with host := { s.host with linkGen := gen.val, linkWidth := width.val } })
      ∧ (gen.val ≠ 0 → width.val ∉ [1, 2, 4, 8] → exec (.pcieLinkChange gen width) s = .next s))
    ∧ (s.host.perst = true ∨ s.mbx.isOpen = false ∨ s.power.state = .deepSleep ∨ s.mgmt.step < 9
      ∨ (∀ k : Fin 14, 1 ≤ k.val → k.val ≤ 4 → (s.mbx.sess[k]).isOpen = true) → exec .mailboxReopen s = .next s)
    ∧ (s.host.perst = false → s.mbx.isOpen = true → s.power.state ≠ .deepSleep → 9 ≤ s.mgmt.step → (s.mbx.sess[(2 : Fin 14)]).isOpen = false →
      ∃ t, exec .mailboxReopen s = .next t ∧ SameBut [.mbx, .host, .out] s t
      ∧ (∀ k : Fin 14, 1 ≤ k.val → k.val ≤ 4 → (t.mbx.sess[k]).isOpen = true)
      ∧ (t.host.mbx[(1 : Fin 4)]).ready = true ∧ (s.host.msixEnable = false → t.host.vector4Due = true)
      ∧ (s.host.msixEnable = true → s.host.functionMask = false → (s.host.msix[(4 : Fin 64)]).masked = false →
        .msix 4 (s.host.msix[(4 : Fin 64)]).addr (s.host.msix[(4 : Fin 64)]).data ∈ t.out))

/-- POWER_TRANSITION_DONE, WAKE, BYPASS, SAMPLE_PRELOAD, CLAMP, HIGHZ, EXTEST, EXTEST_PULSE, EXTEST_TRAIN, IDCODE and JTAG_LIFECYCLE_PROGRAM
complete. A power transition reaches the next state on its way and ends at its target; a Gale that is not acknowledged keeps it from ACTIVE.
STANDBY takes the Ethernet ports down and DRAM into self-refresh, DEEP SLEEP stops the time bases, and the way back restarts them
from zero in ACQUIRING. WAKE sets out for RETURN_STATE, or HOLD under a Gale, and does nothing in ACTIVE and HOLD. The test access
port takes its instructions; EXTEST is refused in operation with an armed link; a life-cycle step goes one way and needs the fuse
supply (20 R460; 21 R483, R484, R488; 19 R431; 15 R361; 12 R292; 18 R424). -/
def Obligations.PowerAndTap : Prop :=
  (∀ (s : State),
    (s.power.transit = none → exec .powerTransitionDone s = .next s)
    ∧ (∀ w, s.power.transit = some w →
      let target := if w.target = .active ∧ s.flt.galeHeld = true then .hold else w.target
      let way := fun (a b : PowerState) => ∃ t, exec .powerTransitionDone s = .next t ∧ s.power.state = a ∧ t.power.state = b
        ∧ t.power.transit = (if b = target then none else some { target := target }) ∧ t.mbx.claims = s.mbx.claims
        ∧ (a ≠ .active → (∀ c : Fin 8, ∀ w ∈ (s.dram.chan[c]).queue, w.req.write = false) → ∀ x, memRead t.mem x = memRead s.mem x)
        ∧ (a = .hold → b = .standby → (∀ p : Fin 4, (t.net.port[p]).up = false) ∧ (s.dram.state = .ready → t.dram.state = .selfRefresh)
          ∧ (∀ c : Fin 8, (t.pos.qe[c]).still = true) ∧ ∀ p : Fin 12, (t.pipe[p]).tare.run = none)
        ∧ (a = .standby → b = .deepSleep → (∀ k : Fin 4, (t.time.tb[k]).state = .off ∧ (t.time.tb[k]).valid = false) ∧ ∀ k : Fin 4, (t.host.mbx[k]).ready = false)
        ∧ (a = .deepSleep → b = .standby → (∀ k : Fin 4, (s.time.tb[k]).enable = true → (t.time.tb[k]).state = .acquiring ∧ (t.time.tb[k]).time = {}
            ∧ (t.time.tb[k]).valid = false))
        ∧ (a = .standby → b = .hold → s.dram.state = .selfRefresh → t.dram.state = .ready)
      match s.power.state, target with
      | .active, .active => way .active .active
      | .active, _ => way .active .hold
      | .hold, .active => way .hold .active
      | .hold, .hold => way .hold .hold
      | .hold, _ => way .hold .standby
      | .standby, .standby => way .standby .standby
      | .standby, .deepSleep => way .standby .deepSleep
      | .standby, _ => way .standby .hold
      | .deepSleep, .deepSleep => way .deepSleep .deepSleep
      | .deepSleep, _ => s.host.perstPending = true ∨ way .deepSleep .standby)
    ∧ ((s.evt.cons[(68 : Fin 96)]).pending = false ∨ (s.evt.cons[(68 : Fin 96)]).busy = true → exec .wake s = .next s)
    ∧ ((s.evt.cons[(68 : Fin 96)]).pending = true → (s.evt.cons[(68 : Fin 96)]).busy = false →
      (s.power.state = .active ∨ s.power.state = .hold → s.power.transit = none →
        exec .wake s = .next (s.setCons 68 fun c => { c with pending := false }))
      ∧ (s.power.state = .standby ∨ s.power.state = .deepSleep → ∃ t, exec .wake s = .next t ∧ SameBut [.power, .evt, .host, .out] s t
        ∧ t.power = { s.power with transit := some { target := if s.power.returnHold ∨ s.flt.galeHeld then .hold else .active } }
        ∧ (t.evt.cons[(68 : Fin 96)]).pending = false ∧ (t.evt.cons[(68 : Fin 96)]).busy = true)))
  ∧ (∀ (s : State),
    let taken := fun (i : Instr) (r : JtagIr) (holds floats : Bool) => exec i s =
      .next { s with power := { s.power with jtagIr := r, jtagHolds := holds, jtagFloats := floats } }
    let armed := s.mgmt.dev = .operational ∧ ∃ l : Fin 4, (s.ej.link[l]).arm ≠ 0 ∨ (s.ej.link[l]).armNext ≠ 0
    taken .bypass .bypass false false ∧ taken .samplePreload .samplePreload false false ∧ taken .clamp .clamp true false
    ∧ taken .highz .highz false true ∧ taken .extestPulse .extestPulse true false ∧ taken .extestTrain .extestTrain true false
    ∧ (armed → exec .extest s = .next s) ∧ (¬ armed → taken .extest .extest true false)
    ∧ ∃ m, m < 2 ^ 11 ∧
      let w := { s.power with jtagIr := .idcode, jtagHolds := false, jtagFloats := false }
      let id := s.mgmt.stepping % 16 * 2 ^ 28 + 0x1216 * 2 ^ 12 + m * 2 + 1
      exec .idcode s = .next { s with power := { w with jtagOut := id } })
  ∧ ∀ (target : LifeCycle) (key : BitVec 384) (policy : BitVec 6) (s : State),
    let tap : State := { s with power := { s.power with jtagIr := .lifecycle, jtagHolds := false, jtagFloats := false } }
    let now := s.mgmt.lifeCycleNext.getD s.mgmt.lifeCycle
    let forward := (now = .blank ∧ target = .manufactured) ∨ (now = .manufactured ∧ target = .provisioned)
      ∨ (now ≠ .decommissioned ∧ target = .decommissioned)
    (¬ (s.mgmt.fuseSupply = true ∧ forward) → exec (.jtagLifecycleProgram target key policy) s = .next tap)
    ∧ (s.mgmt.fuseSupply = true → forward → target ≠ .provisioned → exec (.jtagLifecycleProgram target key policy) s =
      .next { tap with mgmt := { s.mgmt with lifeCycleNext := some target } })
    ∧ (s.mgmt.fuseSupply = true → forward → target = .provisioned → exec (.jtagLifecycleProgram target key policy) s =
      .next { tap with mgmt := { s.mgmt with lifeCycleNext := some target, rootKeyNext := some key.toNat, policyNext := some policy.toNat } })

/-! ### Mboxis (17) -/

/-- `i` is the command of the mailboxes with opcode `op`, on request `q` (17 Tables 17.6 to 17.14). -/
def Sys2Proof.MailboxRow (op : Nat) (q : Req) (i : Instr) : Prop :=
  (op = 0x0100 ∧ i = .devIdentify q) ∨ (op = 0x0101 ∧ i = .sessionOpen q) ∨ (op = 0x0102 ∧ i = .sessionClose q)
    ∨ (op = 0x0103 ∧ i = .sessionClaim q) ∨ (op = 0x0104 ∧ i = .sessionRelease q) ∨ (op = 0x0105 ∧ i = .devStateSet q)
    ∨ (op = 0x0106 ∧ i = .devReset q) ∨ (op = 0x0107 ∧ i = .devHealth q) ∨ (op = 0x0200 ∧ i = .camPortConfig q)
    ∨ (op = 0x0201 ∧ i = .camPortEnable q) ∨ (op = 0x0202 ∧ i = .camPortDisable q) ∨ (op = 0x0203 ∧ i = .camLinkStatus q)
    ∨ (op = 0x0204 ∧ i = .camRegAccess q) ∨ (op = 0x0205 ∧ i = .camExposureSet q) ∨ (op = 0x0300 ∧ i = .pipeConfig q)
    ∨ (op = 0x0301 ∧ i = .pipeTableLoad q) ∨ (op = 0x0302 ∧ i = .pipeEnable q) ∨ (op = 0x0303 ∧ i = .pipeDisable q)
    ∨ (op = 0x0304 ∧ i = .pipeStatsRead q) ∨ (op = 0x0400 ∧ i = .tareConfig q) ∨ (op = 0x0401 ∧ i = .tareRun q)
    ∨ (op = 0x0402 ∧ i = .tareStatus q) ∨ (op = 0x0403 ∧ i = .tareRollback q) ∨ (op = 0x0500 ∧ i = .binConfig q)
    ∨ (op = 0x0501 ∧ i = .binCoefLoad q) ∨ (op = 0x0600 ∧ i = .stitchConfig q) ∨ (op = 0x0601 ∧ i = .classLutLoad q)
    ∨ (op = 0x0602 ∧ i = .segConfig q) ∨ (op = 0x0603 ∧ i = .gustRulesLoad q) ∨ (op = 0x0700 ∧ i = .engImageLoad q)
    ∨ (op = 0x0701 ∧ i = .engPoolConfig q) ∨ (op = 0x0702 ∧ i = .engStatus q) ∨ (op = 0x0703 ∧ i = .engFenceClear q)
    ∨ (op = 0x0704 ∧ i = .engPolicySet q) ∨ (op = 0x0800 ∧ i = .qeConfig q) ∨ (op = 0x0801 ∧ i = .qeRead q)
    ∨ (op = 0x0802 ∧ i = .trigConfig q) ∨ (op = 0x0803 ∧ i = .probeConfig q) ∨ (op = 0x0900 ∧ i = .ejConfig q)
    ∨ (op = 0x0901 ∧ i = .ejMapLoad q) ∨ (op = 0x0902 ∧ i = .ejArm q) ∨ (op = 0x0903 ∧ i = .ejDisarm q)
    ∨ (op = 0x0904 ∧ i = .ejTestPulse q) ∨ (op = 0x0A00 ∧ i = .ethPortConfig q) ∨ (op = 0x0A01 ∧ i = .ptpConfig q)
    ∨ (op = 0x0A02 ∧ i = .ptpStatus q) ∨ (op = 0x0A03 ∧ i = .timeBaseConfig q) ∨ (op = 0x0B00 ∧ i = .stationConfig q)
    ∨ (op = 0x0B01 ∧ i = .ellStatus q) ∨ (op = 0x0C00 ∧ i = .fathomConfig q) ∨ (op = 0x0C01 ∧ i = .outputRingConfig q)
    ∨ (op = 0x0C02 ∧ i = .coderConfig q) ∨ (op = 0x0C03 ∧ i = .previewConfig q) ∨ (op = 0x0D00 ∧ i = .dramStatus q)
    ∨ (op = 0x0D01 ∧ i = .dramQosSet q) ∨ (op = 0x0E00 ∧ i = .evtChannelConfig q) ∨ (op = 0x0E01 ∧ i = .evtChannelStatus q)
    ∨ (op = 0x0F00 ∧ i = .fltRead q) ∨ (op = 0x0F01 ∧ i = .fltAck q) ∨ (op = 0x1000 ∧ i = .mgtSensorsRead q)
    ∨ (op = 0x1001 ∧ i = .logRead q) ∨ (op = 0x1003 ∧ i = .settingsSave q) ∨ (op = 0x1004 ∧ i = .settingsLoad q)
    ∨ (op = 0x1005 ∧ i = .settingsAcceptDefaults q) ∨ (op = 0x1010 ∧ i = .updateBegin q) ∨ (op = 0x1011 ∧ i = .updateBlock q)
    ∨ (op = 0x1012 ∧ i = .updateVerify q) ∨ (op = 0x1013 ∧ i = .updateActivate q) ∨ (op = 0x1014 ∧ i = .updateAbort q)
    ∨ (op = 0x1015 ∧ i = .updateStatus q) ∨ (op = 0x1020 ∧ i = .lcsRead q) ∨ (op = 0x1021 ∧ i = .obsSelect q)

/-- Every command of the mailboxes completes: each session's SESSION_OPEN, SESSION_CLOSE, SESSION_CLAIM, SESSION_RELEASE and the rest. It acts on its own opcode only, and only while firmware acts and its request is at the front. A message that is
a response, or of a closed session or none, is discarded; a repeat of the session's last request brings its stored response and nothing else;
a bad header, an undefined flag or QUERY where none is accepted is refused; HALTED refuses what recovery does not serve (17 R392 to
R395, R398; 20 R439). -/
def Obligations.MailboxProtocol : Prop :=
  ∀ (op : Nat) (q : Req) (i : Instr) (s : State), MailboxRow op q i → s.mgmt.pauseAsked = none →
    (q.opcode ≠ op → exec i s = .next s)
    ∧ (firmwareActs s q = false → exec i s = .next s)
    ∧ (∀ h l, s.mbx.queue = h :: l → h.2 ≠ q → exec i s = .next s)
    ∧ (q.opcode = op → firmwareActs s q = true → s.mbx.queue = [] → q.flags.testBit 0 = true ∨ q.noSession = true ∨ sessionOpen s q = false →
      ∃ t, exec i s = .next t ∧ SameBut [.mbx, .host, .out] s t ∧ t.mbx.claims = s.mbx.claims ∧ t.mbx.writers = s.mbx.writers
      ∧ (∀ k : Fin 14, t.mbx.sess[k] = if q.slot = some k then { s.mbx.sess[k] with outstanding := none } else s.mbx.sess[k]))
    ∧ (q.opcode = op → Served q s → q.flags.testBit 0 = false →
      (∀ r, storedResponse q s = some r → ∃ t, exec i s = .next t ∧ SameBut [.mbx, .host, .net, .out] s t ∧ .response r ∈ t.out
        ∧ t.mbx.claims = s.mbx.claims ∧ t.mbx.writers = s.mbx.writers
        ∧ ∀ k : Fin 14, t.mbx.sess[k] = if q.slot = some k then { s.mbx.sess[k] with outstanding := none } else s.mbx.sess[k])
      ∧ (storedResponse q s = none → q.bad = true ∨ 16 ≤ q.flags → Refuses i q s .badParam))
    ∧ (q.opcode = op → q.session ≠ 0 → firmwareActs s q = true → s.mbx.queue = [] → sessionOpen s q = true → q.noSession = false → q.flags.testBit 0 = false →
      s.mgmt.dev = .halted → recoveryServes s q = false → Refuses i q s .unsupported)

/-- Sessions: SESSION_OPEN takes the lowest free network session where policy and allow list admit the source, with the shorter idle
time, and on another port answers that port's limit; SESSION_CLOSE releases all claims; a claim is all or nothing, takes a resource of
session 0 only with TAKE, and answers what the session holds; a release frees what the session holds. DEV_STATE_SET and DEV_RESET are
refused beside other sessions' claims, and ACTIVE while a Gale is held; DEV_IDENTIFY, DEV_HEALTH read (17 R399 to R401, R409, Table
17.6; 19 R431; 21 R483). -/
def Obligations.SessionCommands : Prop :=
  ∀ (q : Req) (s : State),
    let p := q.payload
    let holds := fun (t : State) (r : Nat) => t.holder r
    (Taken 0x0100 0 q s → p = [] → Answers (.devIdentify q) q s .ok [] fun _ pay => pay.length = 64 ∧ le16 pay 0 = 0x1216
      ∧ byteAt pay 2 = s.mgmt.stepping % 256 ∧ byteAt pay 3 = s.mgmt.lifeCycle.code ∧ le32 pay 4 = s.mgmt.fwVersion % 2 ^ 32
      ∧ le64 pay 8 = s.mgmt.serial % 2 ^ 64 ∧ byteAt pay 23 = q.session)
    ∧ (∀ clear : Bool, Taken 0x0107 (if clear then 8 else 0) q s → p = [] →
      Answers (.devHealth q) q s .ok (if clear then [.stitch, .seg, .gust, .ej] else []) fun t pay => pay = healthBytes s
        ∧ (clear = false → t.mbx.claims = s.mbx.claims) ∧ pay.length = 320)
    ∧ (Taken 0x0101 0 q s → p.length = 8 → leAt p 4 4 = 0 → 5 ≤ le32 p 0 → le32 p 0 ≤ 3600 →
      (q.net = false → Answers (.sessionOpen q) q s .ok [] fun t pay => le16 pay 2 = 4080 ∧ byteAt pay 0 = q.session
        ∧ t.mbx.claims = s.mbx.claims)
      ∧ (q.net = true → (policyWord s).testBit 3 = false → ∃ t, exec (.sessionOpen q) s = .next t ∧ SameBut [.mbx, .net, .out] s t
        ∧ t.mbx = s.mbx)
      ∧ ∀ k : Fin 14, q.net = true → (policyWord s).testBit 3 = true → s.mgmt.allow = [] → 5 ≤ k.val → k.val ≤ 12 →
        (s.mbx.sess[k]).isOpen = false → (∀ j : Fin 14, 5 ≤ j.val → j.val < k.val → (s.mbx.sess[j]).isOpen = true) →
        ∃ t, exec (.sessionOpen q) s = .next t ∧ SameBut [.mbx, .net, .mgmt, .out] s t
        ∧ (t.mbx.sess[k]).isOpen = true ∧ (t.mbx.sess[k]).addr = q.srcIp ∧ (t.mbx.sess[k]).port = q.srcPort
        ∧ (t.mbx.sess[k]).idleS = min (le32 p 0) s.mgmt.idleSMax ∧ (∀ j : Fin 14, j ≠ k → t.mbx.sess[j] = s.mbx.sess[j])
        ∧ ∃ r, (t.mbx.sess[k]).last = some (q, r) ∧ r.status = .ok ∧ byteAt r.payload 0 = k.val ∧ le16 r.payload 2 = 1440)
    ∧ (Taken 0x0102 0 q s → p = [] → 5 ≤ q.session → q.session ≤ 12 →
      Answers (.sessionClose q) q s .ok [.mgmt, .pipe, .ej, .outp] fun t _ => (∀ k : Fin 14, k.val = q.session → (t.mbx.sess[k]).isOpen = false)
        ∧ t.mbx.claims = s.mbx.claims.filter (fun c => !s.mbx.claims.contains (c.1, q.session)) ∧ ∀ r, holds t r ≠ some q.session)
    ∧ (Taken 0x0102 0 q s → p = [] → q.session < 5 ∨ 12 < q.session →
      Answers (.sessionClose q) q s .ok [] fun t _ => t.mbx.claims = s.mbx.claims)
    ∧ (∀ (l : List Nat) (take : Bool), Taken 0x0103 0 q s → 4 ≤ p.length → p.length = 4 + 2 * byteAt p 0 → claimListOk q = true →
      byteAt p 1 = (if take then 1 else 0) → listedResources p = l → (∀ r ∈ l, secResource s r = false) →
      ((∀ r ∈ l, holds s r = none ∨ holds s r = some q.session ∨ (take = true ∧ holds s r = some 0)) →
        Answers (.sessionClaim q) q s .ok [.mgmt] fun t pay => (∀ r ∈ l, holds t r = some q.session)
          ∧ (∀ r, r ∉ l → holds t r = holds s r) ∧ byteAt pay 0 = (heldBy t q.session).length % 256)
      ∧ (∀ r h, r ∈ l → holds s r = some h → h ≠ q.session → h ≠ 0 ∨ take = false →
        Answers (.sessionClaim q) q s .notOwner [] fun t pay => t.mbx.claims = s.mbx.claims ∧ pay.length = 3))
    ∧ (∀ (l : List Nat), Taken 0x0104 0 q s → 4 ≤ p.length → p.length = 4 + 2 * byteAt p 0 → byteAt p 0 ≤ 32 → claimListOk q = true →
      listedResources p = l → Answers (.sessionRelease q) q s .ok [.mgmt, .pipe, .ej] fun t _ =>
        ∀ r, holds t r = if r ∈ l ∧ holds s r = some q.session then none else holds s r)
    ∧ (Taken 0x0105 0 q s → p.length = 4 → stateSetOk p = true →
      let shut := s.mbx.claims.any fun c => c.2 != 0 && c.2 != q.session
      (shut = true → Refuses (.devStateSet q) q s .notOwner)
      ∧ (shut = false → byteAt p 0 = 0 → s.flt.galeHeld = true → Refuses (.devStateSet q) q s .wrongState)
      ∧ (shut = false → byteAt p 0 = 0xFF → byteAt p 2 = 0xFF → Answers (.devStateSet q) q s .ok [.mgmt] fun t pay =>
        t.mgmt = (if byteAt p 1 = 0xFF then s.mgmt else { s.mgmt with hostIndependent := byteAt p 1 == 1 })
        ∧ byteAt pay 0 = (powerShown s).code)
      ∧ (shut = false → byteAt p 0 = 0xFF → byteAt p 1 = 0xFF → byteAt p 2 = 1 → armedRun s = false →
        Answers (.devStateSet q) q s .ok [.mgmt] fun t _ => t.mgmt = { s.mgmt with dev := .test })
      ∧ (shut = false → byteAt p 0 = 2 → byteAt p 1 = 0xFF → byteAt p 2 = 0xFF → s.power.state = .hold →
        Answers (.devStateSet q) q s .ok [.power] fun t pay => t.power = { s.power with returnHold := true, transit := some { target := .standby } }
          ∧ byteAt pay 0 = 2)
      ∧ (shut = false → byteAt p 0 = 0 → byteAt p 1 = 0xFF → byteAt p 2 = 0xFF → s.flt.galeHeld = false → s.power.state = .hold →
        Answers (.devStateSet q) q s .ok [.power] fun t pay => t.power = { s.power with transit := some { target := .active } }
          ∧ byteAt pay 0 = 0))
    ∧ (Taken 0x0106 0 q s → p.length = 8 → byteAt p 0 = 1 → leAt p 1 3 = 0 → le32 p 4 = 0x4D524157 →
      let shut := s.mbx.claims.any fun c => c.2 != 0 && c.2 != q.session
      (shut = true → Refuses (.devReset q) q s .notOwner)
      ∧ (shut = false → Answers (.devReset q) q s .ok [] fun t _ => t.mbx.resetAsked = true ∧ t.mbx.claims = s.mbx.claims))


/-- CAM_PORT_CONFIG, CAM_PORT_ENABLE, CAM_PORT_DISABLE, CAM_LINK_STATUS, CAM_REG_ACCESS, CAM_EXPOSURE_SET, PIPE_CONFIG,
PIPE_TABLE_LOAD, PIPE_ENABLE, PIPE_DISABLE and PIPE_STATS_READ complete. Camera ports and pipes: settings take effect and QUERY returns them; enable and disable follow Table 17.4; a register access waits
for the camera, one at a time, and is refused out of RUN; beside a four-connection camera the odd port goes down; a table part lands in the bank that is not in use, a LUT in all replicas, never while Tare writes, and BANK_LOADED follows START
and LAST; statistics are copied for further parts (17 R392, R404, R405, R408, R410; 02 R34, R46; 03 R77, R79, R82, R492; 04 R97,
R101). -/
def Obligations.CameraAndPipeCommands : Prop :=
  ∀ (q : Req) (s : State),
    let pl := q.payload
    let marked := fun (p : Fin 12) => (le16 pl 0).testBit p.val
    (∀ p : Fin 12, byteAt pl 0 = p.val →
      let x := s.cam.port[p]
      (Taken 0x0200 0 q s → pl.length = 24 → portConfigOk pl = true → Free s q (resPort p.val) →
        (∀ k : Fin 12, k.val / 2 = p.val / 2 → (s.pipe[k]).bolt = none) ∨ p.val % 2 = 1 ∧ sameLink x.config (portConfigOf pl) = true →
        Answers (.camPortConfig q) q s .ok [.cam, .pipe] fun t _ =>
          (∀ k : Fin 12, k.val / 2 ≠ p.val / 2 → t.cam.port[k] = s.cam.port[k] ∧ t.pipe[k] = s.pipe[k])
          ∧ (p.val % 2 = 1 → OthersSame s.cam.port t.cam.port p ∧ OthersSame s.pipe t.pipe p)
          ∧ (∀ k : Fin 12, byteAt pl 3 = 4 → k.val = p.val + 1 → (t.cam.port[k]).link = .down ∧ (t.cam.port[k]).config = (s.cam.port[k]).config)
          ∧ (byteAt pl 1 = 1 → (t.cam.port[p]).applyLatency = byteAt pl 7) ∧ ∃ c, (t.cam.port[p]).config = some c ∧ c.cxp = (byteAt pl 1 == 1) ∧ c.maxMode = byteAt pl 2 ∧ c.lanes = byteAt pl 3
            ∧ c.precode = byteAt pl 4 ∧ c.split = (byteAt pl 5 == 1) ∧ c.streamMask = byteAt pl 6 ∧ c.cxpLatency = byteAt pl 7
            ∧ ∀ k : Fin 4, c.cxpStreamId[k] = byteAt pl (8 + k.val) ∧ c.chMask[k] = byteAt pl (12 + k.val)
              ∧ c.startCol[k] = le16 pl (16 + 2 * k.val))
      ∧ (∀ c, Taken 0x0200 2 q s → pl.length = 24 → Free s q (resPort p.val) → x.config = some c →
        Answers (.camPortConfig q) q s .ok [] fun _ pay => pay.length = 24 ∧ byteAt pay 0 = p.val ∧ byteAt pay 1 = (if c.cxp then 1 else 2)
          ∧ byteAt pay 2 = c.maxMode % 256 ∧ byteAt pay 3 = c.lanes % 256)
      ∧ (Taken 0x0204 0 q s → 1 ≤ byteAt pl 2 → byteAt pl 2 ≤ 16 → byteAt pl 1 ≤ 1 → byteAt pl 3 = 0 → Free s q (resPort p.val) →
        pl.length = 8 + (if byteAt pl 1 = 1 then 4 * byteAt pl 2 else 0) →
        (portRuns s p = false → Refuses (.camRegAccess q) q s .wrongState) ∧ (portRuns s p = true →
        (x.regAccess.isSome = true → Refuses (.camRegAccess q) q s .busy)
        ∧ (x.regAccess = none → ∃ t, exec (.camRegAccess q) s = .next t ∧ SameBut [.cam, .mbx, .out] s t
          ∧ (t.cam.port[p]).regAccess = some { req := q, since := s.now }
          ∧ (isCxp s p = true → byteAt pl 1 = 0 → t.out = .cxpRead p.val (if x.cxpTagged then some x.cxpTag else none) (le32 pl 4) (byteAt pl 2) :: s.out)
          ∧ (isCxp s p = false → t.out = s.out ∧ (t.cam.lane[laneIx p x.primary]).txCtrl = (s.cam.lane[laneIx p x.primary]).txCtrl
            ++ ctrlBlocks (if byteAt pl 1 = 0 then 7 else 8) x.nextSeq ((bytesOf 4 (le32 pl 4)).map BitVec.toNat
              ++ if byteAt pl 1 = 0 then [byteAt pl 2] else (pl.drop 8).map BitVec.toNat))
          ∧ ∀ k, q.slot = some k → (t.mbx.sess[k]).outstanding = some q)))
      ∧ (Taken 0x0205 0 q s → 8 ≤ pl.length → pl.length = 8 + le16 pl 4 → byteAt pl 1 < 16 → le16 pl 2 ≠ 0 → le16 pl 4 ≤ 80 →
        leAt pl 6 2 = 0 → isCxp s p = false → Free s q (resPort p.val) →
        Answers (.camExposureSet q) q s .ok [.cam] fun t pay => OthersSame s.cam.port t.cam.port p ∧ t.cam.lane = s.cam.lane
          ∧ t.cam.port[p] = { x with pendingSettings := some { tag := le16 pl 2, streamMask := byteAt pl 1, body := (pl.drop 8).map BitVec.toNat } }
          ∧ le16 pay 0 = ((x.pendingSettings.map fun y => y.tag).getD 0) % 65536))
    ∧ (pl.length = 2 → le16 pl 0 < 4096 → (∀ p : Fin 12, marked p = true → Free s q (resPort p.val)) →
      (∀ p : Fin 12, (s.cam.port[p]).enablePending = true → (s.cam.port[p]).unit = .draining) →
      let waits := (List.finRange 12).any fun p => marked p && (s.cam.port[p]).unit == .draining
      (Taken 0x0201 0 q s → (∀ p : Fin 12, marked p = true → (s.cam.port[p]).config.isSome = true) →
        Answers (.camPortEnable q) q s (if waits then .pending else .ok) [.cam] fun t _ => ∀ p : Fin 12,
          let x := s.cam.port[p]; let y := t.cam.port[p]
          if marked p = false then y = x else (y.unit, y.enablePending) = match x.unit with
            | .disabled => (.enabled, x.enablePending) | .draining => (.draining, true) | u => (u, x.enablePending))
      ∧ (Taken 0x0202 0 q s →
        Answers (.camPortDisable q) q s .ok [.cam, .pipe] fun t _ => ∀ p : Fin 12,
          let x := s.cam.port[p]; let y := t.cam.port[p]
          if marked p = false then y = x else (y.unit, y.enablePending) = match x.unit with
            | .enabled => (if portRuns s p && (s.pipe[p]).bolt.isSome then .draining else .disabled, false)
            | .draining => (.draining, false) | u => (u, x.enablePending)))
    ∧ (∀ clear : Bool, Taken 0x0203 (if clear then 8 else 0) q s → pl.length = 4 → le16 pl 0 < 4096 → byteAt pl 2 = 0 → byteAt pl 3 = 0 →
      (∀ p : Fin 12, marked p = true → Free s q (resPort p.val)) →
      Answers (.camLinkStatus q) q s .ok (if clear then [.cam] else []) fun t pay =>
        pay = (((List.finRange 12).filter fun p => marked p).flatMap fun p => portRecord s p)
        ∧ (clear = true → ∀ p : Fin 12, (t.cam.port[p]).linkChanges = (if marked p then 0 else (s.cam.port[p]).linkChanges)))
    ∧ (∀ p : Fin 12, byteAt pl 0 = p.val → Free s q (resPipe p.val) →
      let x := s.pipe[p]
      let h := configSet pl
      (Taken 0x0300 0 q s → pl.length = 76 → pipeConfigOk pl = true → x.arm = false → pipeConfigMoves x pl = false ∨ x.unit = .disabled →
        memberDiffers s p (byteAt pl 3) (byteAt pl 4) = false →
        byteAt pl 5 = 0 ∨ (shadowOk s p h (byteAt pl 1) (byteAt pl 2) = true ∧ chainRoom s p (chainNeed { x with channels := byteAt pl 1 } h) = true) →
        Answers (.pipeConfig q) q s .ok [.pipe] fun t _ => OthersSame s.pipe t.pipe p ∧
          let y := t.pipe[p]
          y.channels = byteAt pl 1 ∧ y.depth = byteAt pl 2 ∧ y.posCh.val = byteAt pl 3 ∧ y.tb.val = byteAt pl 4
            ∧ y.arm = (byteAt pl 5 == 1) ∧ y.active = x.active
            ∧ (∀ k : Nat, k < 7 → y.staged.word (0x100 + 4 * k) = w32 (le32 pl (8 + 4 * k)))
            ∧ ∀ k : Nat, k < 10 → y.staged.word (0x140 + 4 * k) = w32 (le32 pl (36 + 4 * k)))
      ∧ (Taken 0x0300 0 q s → pl.length = 76 → pipeConfigOk pl = true → x.arm = true → Refuses (.pipeConfig q) q s .busy)
      ∧ (∀ (k b : Nat) (start last : Bool), Taken 0x0301 0 q s → 12 ≤ pl.length → byteAt pl 1 = k → k ≤ 2 → byteAt pl 2 = b → b ≤ 1 →
        byteAt pl 3 = (if start then 1 else 0) + (if last then 2 else 0) →
        let n := pl.length - 12
        let off := le32 pl 4
        let size := if k = 2 then 32768 else 131072
        le32 pl 8 = size → off + n ≤ size → (last = true → off + n = size) → (start = true → off = 0) →
        (start = false → ∃ l, x.loads.find? (fun l => l.kind == k && l.bank == b) = some l ∧ l.bytes.length = off) →
        bankTaken x (bankSel k) b = false →
        (k ≠ 2 → x.tare.state = .write → Refuses (.pipeTableLoad q) q s .busy) ∧ (k = 2 ∨ x.tare.state ≠ .write →
        let places : List Nat := match k with
          | 0 => [0x100A000000 + p.val * 0x80000 + b * 0x40000] | 1 => [0x100A020000 + p.val * 0x80000 + b * 0x40000]
          | _ => (List.range 4).map fun r => 0x1009000000 + p.val * 0x40000 + b * 0x20000 + r * 0x8000
        Answers (.pipeTableLoad q) q s .ok [.pipe, .mem, .ecc] fun t _ => OthersSame s.pipe t.pipe p
          ∧ (∀ a ∈ places, Holds t (a + off) (pl.drop 12))
          ∧ (start = true → ∀ a ∈ places, ∀ i, n ≤ i → i < size → memRead t.mem (a + i) = 0)
          ∧ (∀ m : Nat, (∀ a ∈ places, m < a ∨ a + size ≤ m) → memRead t.mem m = memRead s.mem m)
          ∧ (let loaded := fun (y : Pipe) => (if k = 2 then y.loadedLut else y.loadedCorr).toList[b]?
            loaded t.pipe[p] = if last then some true else if start then some false else loaded x)
          ∧ t.pipe[p].active = x.active))
      ∧ (∀ clear : Bool, Taken 0x0304 (if clear then 8 else 0) q s → pl.length = 2 → byteAt pl 1 = 0 →
        Answers (.pipeStatsRead q) q s .ok [.pipe] fun t pay => OthersSame s.pipe t.pipe p ∧ pay = statsPart0 p.val x ∧ pay.length = 176
          ∧ t.pipe[p].statsCopy = x.statsLast ∧ (clear = true → t.pipe[p].shortLines = 0 ∧ t.pipe[p].longLines = 0 ∧ t.pipe[p].counters = {})
          ∧ (clear = false → t.pipe[p] = { x with statsCopy := x.statsLast }))
      ∧ (∀ c, Taken 0x0304 0 q s → pl.length = 2 → 1 ≤ byteAt pl 1 → (statsChannels x.statsCopy)[byteAt pl 1 - 1]? = some c →
        Answers (.pipeStatsRead q) q s .ok [] fun _ pay => pay = chanBlock x.statsCopy.chans[c]))
    ∧ (pl.length = 2 → le16 pl 0 < 4096 → (∀ p : Fin 12, marked p = true → Free s q (resPipe p.val)) →
      (∀ p : Fin 12, (s.pipe[p]).enablePending = true → (s.pipe[p]).unit = .draining) →
      let waits := (List.finRange 12).any fun p => marked p && (s.pipe[p]).unit == .draining
      (Taken 0x0302 0 q s → Answers (.pipeEnable q) q s (if waits then .pending else .ok) [.pipe] fun t _ => ∀ p : Fin 12,
        let x := s.pipe[p]; let y := t.pipe[p]
        if marked p = false then y = x else (y.unit, y.enablePending) = match x.unit with
          | .disabled => (.enabled, false) | .draining => (.draining, true) | u => (u, x.enablePending))
      ∧ (Taken 0x0303 0 q s → Answers (.pipeDisable q) q s .ok [.pipe, .mgmt, .outp] fun t _ => ∀ p : Fin 12,
        let x := s.pipe[p]; let y := t.pipe[p]
        (if marked p = false then y = x else (y.unit, y.enablePending) = match x.unit with
          | .enabled => (if pipeDrained s p then .disabled else .draining, false)
          | .draining => (.draining, false) | u => (u, x.enablePending)) ∧ (marked p = true → y.tare.run = none)))


/-- TARE_CONFIG, TARE_RUN, TARE_STATUS, TARE_ROLLBACK, BIN_CONFIG, BIN_COEF_LOAD, STITCH_CONFIG, CLASS_LUT_LOAD, SEG_CONFIG,
GUST_RULES_LOAD, STATION_CONFIG and ELL_STATUS complete. Tare, binning, stitch, segmenter, Gust and station settings take effect and read back as the request that made them; a Tare run
waits for its bolt with pool blocks that no other run has, one per pipe; a coefficient bank in use is not loaded; a LUT part reaches every member; a Gust bank is checked on
LAST, and a bank that fails is not loaded, and its words get fresh codes; a swap waits for the next row (17 R392, R404, R408, R410; 05 R113, R125, R128; 06 R131,
R136; 07 R148, R154, R175, R176; 08 R195 to R197; 13 R307, R321). -/
def Obligations.ChainCommands : Prop :=
  ∀ (q : Req) (s : State),
    let pl := q.payload
    let members := ∀ p : Fin 12, isMember s p = true → Free s q (resPipe p.val)
    (∀ p : Fin 12, byteAt pl 0 = p.val → Free s q (resPipe p.val) →
      let x := s.pipe[p]
      let other := fun (t : State) => OthersSame s.pipe t.pipe p
      (Taken 0x0400 0 q s → pl.length = 60 → (tareParamsOf pl).ok = true → byteAt pl 2 ≤ 1 → leAt pl 35 1 = 0 → leAt pl 38 2 = 0 →
        Answers (.tareConfig q) q s .ok [.pipe] fun t _ => other t ∧ t.pipe[p] = { x with tare := { x.tare with params := tareParamsOf pl } }
          ∧ tareParamBytes p.val (tareParamsOf pl) = pl)
      ∧ (Taken 0x0400 2 q s → pl.length = 60 → Answers (.tareConfig q) q s .ok [] fun _ pay => pay = tareParamBytes p.val x.tare.params)
      ∧ (∀ dark : Bool, Taken 0x0401 0 q s → pl.length = 2 → byteAt pl 1 = (if dark then 2 else 1) →
        (x.tare.run.isSome = true → Refuses (.tareRun q) q s .busy)
        ∧ (x.tare.run = none → dark = true → portTriggered s p = false → Refuses (.tareRun q) q s .wrongState)
        ∧ (x.tare.run = none → (dark = true → portTriggered s p = true) → tareRoom p s = false → Refuses (.tareRun q) q s .noResource)
        ∧ (x.tare.run = none → (dark = true → portTriggered s p = true) → tareRoom p s = true →
          Answers (.tareRun q) q s .ok [.pipe] fun t _ => other t ∧ (t.pipe[p]).tare.state = .waitStart
            ∧ (t.pipe[p]).tare.kind = (if dark then 2 else 1) ∧ ∃ r, (t.pipe[p]).tare.run = some r ∧ r.dark = dark
              ∧ r.params = x.tare.params ∧ r.blocks.length = tareBlocksFor x.tare.params x.channels x.active.linePixels
              ∧ ∀ k : Fin 12, k ≠ p → ∀ o, (s.pipe[k]).tare.run = some o → ∀ b ∈ r.blocks, b < 768 ∧ b ∉ o.blocks))
      ∧ (Taken 0x0402 0 q s → pl.length = 1 → Answers (.tareStatus q) q s .ok [] fun _ pay => pay = tareStatusBytes x.tare ∧ pay.length = 256)
      ∧ (Taken 0x0403 0 q s → pl.length = 1 →
        (x.tare.rollbackValid = false → Refuses (.tareRollback q) q s .wrongState)
        ∧ (x.tare.rollbackValid = true → Answers (.tareRollback q) q s .ok [.pipe, .mgmt] fun t _ => other t
          ∧ (t.pipe[p]).tare.rollbackPending = true ∧ (t.pipe[p]).tare.run = none))
      ∧ (Taken 0x0500 0 q s → pl.length = 20 → binConfigOk pl x.active.linePixels = true →
        ((binParamsOf pl).firEn = true → x.loadedBin.toList[x.active.binBank]? = some false → Refuses (.binConfig q) q s .wrongState)
        ∧ (((binParamsOf pl).firEn = true → x.loadedBin.toList[x.active.binBank]? = some true) → chainRoom s p (binNeed x (binParamsOf pl)) = true →
          Answers (.binConfig q) q s .ok [.pipe] fun t _ => other t ∧ (t.pipe[p]).bin.pending = some (binParamsOf pl)
            ∧ (t.pipe[p]).bin.params = x.bin.params ∧ (t.pipe[p]).bin.blocks = max x.bin.blocks (binNeed x (binParamsOf pl))
            ∧ binParamBytes p.val (binParamsOf pl) = pl))
      ∧ (Taken 0x0500 2 q s → pl.length = 20 → Answers (.binConfig q) q s .ok [] fun _ pay => pay = binParamBytes p.val x.bin.params)
      ∧ (∀ b : Fin 2, Taken 0x0501 0 q s → pl.length = 260 → byteAt pl 1 = b.val → leAt pl 2 2 = 0 → coefReserved pl = true →
        (bankTaken x ShadowSet.binBank b.val = true → Refuses (.binCoefLoad q) q s .wrongState)
        ∧ (bankTaken x ShadowSet.binBank b.val = false → Answers (.binCoefLoad q) q s .ok [.pipe] fun t _ => other t
          ∧ (t.pipe[p]).coef[b] = pl.drop 4 ∧ (t.pipe[p]).loadedBin[b] = true
          ∧ ∀ k : Fin 2, k ≠ b → (t.pipe[p]).coef[k] = x.coef[k] ∧ (t.pipe[p]).loadedBin[k] = x.loadedBin[k])))
    ∧ (Taken 0x0600 0 q s → pl.length = 400 → stitchFormOk pl = true →
      let named := fun (p : Fin 12) => (s.stitch.members ||| le16 pl 0).testBit p.val
      (∀ p, named p = true → Free s q (resPipe p.val)) →
      ((∃ p, named p = true ∧ (s.pipe[p]).unit ≠ .disabled) → Refuses (.stitchConfig q) q s .wrongState)
      ∧ ((∀ p, named p = true → (s.pipe[p]).unit = .disabled) → stitchMapOk s pl = false → Refuses (.stitchConfig q) q s .badParam)
      ∧ ((∀ p, named p = true → (s.pipe[p]).unit = .disabled) → stitchMapOk s pl = true → stitchOverBudget s pl = true →
        Refuses (.stitchConfig q) q s .budgetExceeded)
      ∧ ((∀ p, named p = true → (s.pipe[p]).unit = .disabled) → stitchMapOk s pl = true → stitchOverBudget s pl = false →
        Answers (.stitchConfig q) q s .ok [.stitch] fun t _ => t.stitch.members = le16 pl 0 ∧ t.stitch.refPipe.val = byteAt pl 2
          ∧ t.stitch.webWidth = le32 pl 4 ∧ t.stitch.rowSkew = le16 pl 8
          ∧ (∀ p : Fin 12, (le16 pl 0).testBit p.val = true → t.stitch.cam[p] = stitchCamOf pl p.val (s.pipe[p]).active.linePixels)
          ∧ (∀ p : Fin 12, (le16 pl 0).testBit p.val = false → t.stitch.cam[p] = s.stitch.cam[p])
          ∧ ∀ p : Fin 12, (t.stitch.queue[p]).lines = []))
    ∧ (Taken 0x0600 2 q s → pl.length = 400 → Answers (.stitchConfig q) q s .ok [] fun _ pay => pay = stitchBytes s.stitch ∧ pay.length = 400)
    ∧ (∀ (b : Nat) (start last : Bool), Taken 0x0601 0 q s → 12 ≤ pl.length → byteAt pl 0 = b → b ≤ 1 →
      byteAt pl 1 = (if start then 1 else 0) + (if last then 2 else 0) → leAt pl 2 2 = 0 → members → (∃ p, isMember s p = true) →
      let n := pl.length - 12
      let off := le32 pl 4
      le32 pl 8 = 32768 → off + n ≤ 32768 → (last = true → off + n = 32768) → (start = true → off = 0) →
      (start = false → ∃ l, s.stitch.lutLoad = some l ∧ l.bank = b ∧ l.bytes.length = off) →
      ((∃ p, isMember s p = true ∧ bankTaken s.pipe[p] ShadowSet.lutBank b = true) → Refuses (.classLutLoad q) q s .wrongState)
      ∧ ((∀ p, isMember s p = true → bankTaken s.pipe[p] ShadowSet.lutBank b = false) →
        Answers (.classLutLoad q) q s .ok [.pipe, .mem, .ecc, .stitch] fun t _ => ∀ p : Fin 12,
          (isMember s p = true → ∀ r : Fin 4, Holds t (0x1009000000 + p.val * 0x40000 + b * 0x20000 + r.val * 0x8000 + off) (pl.drop 12))
          ∧ (isMember s p = true → last = true → (t.pipe[p]).loadedLut.toList[b]? = some true)
          ∧ (isMember s p = true → start = true → last = false → (t.pipe[p]).loadedLut.toList[b]? = some false)
          ∧ (isMember s p = false → t.pipe[p] = s.pipe[p])))
    ∧ (Taken 0x0602 0 q s → pl.length = 4 → members →
      (le16 pl 0 = 0 ∨ le16 pl 2 = 0 → Refuses (.segConfig q) q s .badParam)
      ∧ (le16 pl 0 ≠ 0 → le16 pl 2 ≠ 0 → Answers (.segConfig q) q s .ok [.seg] fun t _ =>
        t.seg = { s.seg with minArea := le16 pl 0, maxRows := le16 pl 2 }))
    ∧ (∀ b : Fin 2, Taken 0x0603 0 q s → 8 ≤ pl.length → pl.length = 8 + 16 * byteAt pl 2 → byteAt pl 2 ≤ 254 → byteAt pl 3 ≤ 7 →
      leAt pl 5 3 = 0 → byteAt pl 1 + byteAt pl 2 ≤ 256 → byteAt pl 0 = b.val → members →
      let g := s.gust
      let start := (byteAt pl 3).testBit 0
      let last := (byteAt pl 3).testBit 1
      let rules := placeRules (if start then List.replicate 256 {} else (g.bank[b]).rules) (byteAt pl 1) (requestRules pl)
      let swap := byteAt pl 2 = 0 ∧ byteAt pl 3 = 4
      (swap → b ≠ g.act → (g.bank[b]).loaded = true → g.loadOpen = false → g.swapPending = false →
        Answers (.gustRulesLoad q) q s .ok [.gust] fun t _ => t.gust = { g with swapPending := true })
      ∧ (swap → b = g.act ∨ (g.bank[b]).loaded = false ∨ g.loadOpen = true ∨ g.swapPending = true → Refuses (.gustRulesLoad q) q s .wrongState)
      ∧ (¬ swap → b = g.act ∨ g.swapPending = true → Refuses (.gustRulesLoad q) q s .wrongState)
      ∧ (¬ swap → b ≠ g.act → g.swapPending = false → start = true ∨ g.loadOpen = true →
        (last = false → Answers (.gustRulesLoad q) q s .ok [.gust, .ecc] fun t _ => (t.gust.bank[b]).rules = rules ∧ (t.gust.bank[b]).loaded = false
          ∧ t.gust.loadOpen = true ∧ t.gust.swapPending = false ∧ OthersSame g.bank t.gust.bank b)
        ∧ (last = true → bankOk rules (byteAt pl 4) = true → Answers (.gustRulesLoad q) q s .ok [.gust, .ecc] fun t _ =>
          (start = true → ∀ w ∈ t.eccBad ++ t.eccSoft, w < ruleWord b ∨ ruleWord b + 512 ≤ w) ∧ (t.gust.bank[b]).rules = rules ∧ (t.gust.bank[b]).loaded = true ∧ (t.gust.bank[b]).default = byteAt pl 4 ∧ t.gust.loadOpen = false
          ∧ t.gust.swapPending = (byteAt pl 3).testBit 2 ∧ OthersSame g.bank t.gust.bank b)
        ∧ (last = true → bankOk rules (byteAt pl 4) = false → Answers (.gustRulesLoad q) q s .badParam [.gust] fun t _ =>
          (t.gust.bank[b]).loaded = false ∧ (t.gust.bank[b]).rules = (g.bank[b]).rules ∧ OthersSame g.bank t.gust.bank b)))
    ∧ (Taken 0x0B00 0 q s → pl.length = 40 → stationOk pl = true → le32 pl 4 + s.stitch.webWidth ≤ 3145728 →
      (∀ d : Fin 2, (byteAt pl 8).testBit d.val = true → (s.net.port[sidePort d]).mode ≠ .off) → members →
      ((∃ p, isMember s p = true ∧ (s.pipe[p]).unit ≠ .disabled) → Refuses (.stationConfig q) q s .wrongState)
      ∧ ((∀ p, isMember s p = true → (s.pipe[p]).unit = .disabled) → (∀ d : Fin 2, (s.station.side[d]).state = .up → (byteAt pl 8).testBit d.val = true) →
        Answers (.stationConfig q) q s .ok [.station] fun t _ => t.station.plantDevice = le16 pl 0 ∧ t.station.stationId = byteAt pl 2
          ∧ t.station.index = byteAt pl 3 ∧ t.station.colBase = le32 pl 4 ∧ t.station.rowTol = byteAt pl 9 ∧ t.station.udpPort = le16 pl 10
          ∧ t.station.lossUs = le16 pl 28 ∧ t.station.mergeTimeoutUs = le16 pl 30 ∧ t.station.verdictWaitUs = le32 pl 32
          ∧ t.station.fallback = byteAt pl 36
          ∧ ∀ d : Fin 2, (t.station.side[d]).enable = (byteAt pl 8).testBit d.val ∧ (t.station.side[d]).ip = le32 pl (12 + 4 * d.val)
            ∧ (t.station.side[d]).state = (if (byteAt pl 8).testBit d.val then
                if (s.station.side[d]).state = .off then .hello else (s.station.side[d]).state else .off)))
    ∧ (Taken 0x0B01 0 q s → pl = [] → Answers (.ellStatus q) q s .ok [] fun t pay => pay = blockWords ellRead 0 0x80 s ∧ pay.length = 128
      ∧ t.mbx.claims = s.mbx.claims)


/-- ENG_IMAGE_LOAD, ENG_POOL_CONFIG, ENG_STATUS, ENG_FENCE_CLEAR, ENG_POLICY_SET, QE_CONFIG, QE_READ, PROBE_CONFIG and
TRIG_CONFIG complete. Images come to disabled clusters in parts: the image so far is kept, a whole image is checked, CRC first, and set out to every
engine that is off; with LIBRARY the load goes on in the background, one per session. Clusters, policies, encoders, generators and
probes take their settings, which read back as given; late handling extends to the objects that wait; a test of a fenced engine is
answered at its end; a preset counts an edge of its own sample on top, and a channel that was disabled starts from its input (17 R392, R404, R408; 09 R214,
R215, R229, R230, R235; 10 R237, R243, R251, R256, R257). -/
def Obligations.EngineAndPositionCommands : Prop :=
  ∀ (q : Req) (s : State),
    let pl := q.payload
    (let named := fun (c : Fin 12) => (le16 pl 0).testBit c.val
     le16 pl 0 < 4096 → byteAt pl 3 ≤ 15 → 12 ≤ pl.length → (∀ c, named c = true → Free s q (resCluster c.val)) → Taken 0x0700 0 q s →
     let off := le32 pl 4
     let total := le32 pl 8
     let n := pl.length - 12
     let ready := ∀ c, named c = true → (s.eng.cluster[c]).state = .disabled
     (byteAt pl 2 ≤ 7 → (byteAt pl 2).testBit 2 = false → ¬ ready → Refuses (.engImageLoad q) q s .wrongState)
     ∧ (∀ (start last : Bool) (old : List Byte), ready → byteAt pl 2 = (if start then 1 else 0) + (if last then 2 else 0) →
        off + n ≤ total → (last = true → off + n = total) → (start = true → off = 0 ∧ old = []) →
        (start = false → s.eng.load = some { kind := le16 pl 0, bank := 0, total := total, bytes := old } ∧ old.length = off) →
        let img := old ++ pl.drop 12
        (last = false → Answers (.engImageLoad q) q s .ok [.eng] fun t pay =>
          t.eng = { s.eng with load := some { kind := le16 pl 0, bank := 0, total := total, bytes := img } } ∧ pay = bytesOf 4 (le32 img 8))
        ∧ (last = true → imageCrcOk img = false → Refuses (.engImageLoad q) q s .checkFail)
        ∧ (last = true → imageCrcOk img = true → imageFieldsOk img = false → Refuses (.engImageLoad q) q s .badParam)
        ∧ (last = true → imageCrcOk img = true → imageFieldsOk img = true → Answers (.engImageLoad q) q s .ok [.eng] fun t pay =>
          pay = bytesOf 4 (le32 img 8) ∧ t.eng = { s.eng with eng := t.eng.eng, cluster := t.eng.cluster, load := none }
          ∧ (∀ c, t.eng.cluster[c] = if named c then { s.eng.cluster[c] with installing := some img } else s.eng.cluster[c])
          ∧ ∀ e : Fin 192, t.eng.eng[e] = if named (clusterOf e) ∧ (s.eng.eng[e]).state = .off then { s.eng.eng[e] with state := .loading }
            else s.eng.eng[e]))
     ∧ (∀ k, ready → byteAt pl 2 = 4 → pl.length = 12 → leAt pl 4 8 = 0 → q.slot = some k →
        ((s.mbx.sess[k]).background.isSome = true → Refuses (.engImageLoad q) q s .busy)
        ∧ ((s.mbx.sess[k]).background = none → Answers (.engImageLoad q) q s .pending [] fun t _ => (t.mbx.sess[k]).background = some q)))
    ∧ (∀ c : Fin 12, byteAt pl 0 = c.val → pl.length = 32 → Free s q (resCluster c.val) → (s.eng.cluster[c]).enablePending = false →
      let k := s.eng.cluster[c]
      let other := fun (t : State) => t.eng = { s.eng with cluster := t.eng.cluster } ∧ OthersSame s.eng.cluster t.eng.cluster c
      (Taken 0x0701 2 q s → Answers (.engPoolConfig q) q s .ok [] fun _ pay => pay = poolBytes s c ∧ pay.length = 32)
      ∧ (Taken 0x0701 0 q s → poolOk s pl = true → poolRebinds k pl = true → k.state ≠ .disabled → Refuses (.engPoolConfig q) q s .wrongState)
      ∧ (Taken 0x0701 0 q s → poolOk s pl = true → poolRebinds k pl = false ∨ k.state = .disabled → byteAt pl 1 = 0xFF →
        Answers (.engPoolConfig q) q s .ok [.eng] fun t _ => other t ∧ ∃ z, t.eng.cluster[c] = z ∧ z.classMask = le16 pl 2
          ∧ z.clockMax = le16 pl 4 ∧ z.spillBase = le64 pl 8 ∧ z.spillSize = le64 pl 16 ∧ z.state = k.state ∧ z.image = k.image
          ∧ ∀ i : Fin 4, z.tinEntry[i] = byteAt pl (24 + i.val) ∧ (z.tinHome[i]).val = byteAt pl (28 + i.val))
      ∧ (Taken 0x0701 0 q s → poolOk s pl = true → k.state = .disabled → byteAt pl 1 = 1 →
        (imageMissing k = true → Refuses (.engPoolConfig q) q s .wrongState)
        ∧ (imageMissing k = false → (∃ y : Fin 16, (le16 pl 2).testBit y.val = true ∧ policyFits s.eng.policy[y] k.image = false) →
          Refuses (.engPoolConfig q) q s .budgetExceeded)
        ∧ (imageMissing k = false → (∀ y : Fin 16, (le16 pl 2).testBit y.val = true → policyFits s.eng.policy[y] k.image = true) →
          Answers (.engPoolConfig q) q s .ok [.eng] fun t pay => other t ∧ (t.eng.cluster[c]).state = .enabling ∧ pay = [1])))
    ∧ (∀ clear : Bool, Taken 0x0702 (if clear then 8 else 0) q s → pl.length = 1 →
      (byteAt pl 0 = 0 → Answers (.engStatus q) q s .ok [] fun _ pay => pay = blockWords engRead 0 0x300 s)
      ∧ (byteAt pl 0 = 1 → Answers (.engStatus q) q s .ok (if clear then [.eng, .evt] else []) fun t pay => pay = blockWords engRead 0x300 0x62C s
        ∧ (clear = true → t.eng.dispatched = 0 ∧ t.eng.verdicts = 0 ∧ t.eng.failures = 0 ∧ t.eng.eng = s.eng.eng))
      ∧ (1 < byteAt pl 0 → Refuses (.engStatus q) q s .badParam))
    ∧ (∀ e : Fin 192, Taken 0x0703 0 q s → pl.length = 1 → byteAt pl 0 = e.val → Free s q (resCluster (clusterOf e).val) →
      ((s.eng.eng[e]).state ≠ .fenced → Refuses (.engFenceClear q) q s .wrongState)
      ∧ ((s.eng.eng[e]).state = .fenced → ∃ t, exec (.engFenceClear q) s = .next t ∧ SameBut [.eng, .mbx, .host, .out] s t
        ∧ OthersSame s.eng.eng t.eng.eng e
        ∧ t.eng = { s.eng with eng := t.eng.eng } ∧ t.eng.eng[e] = { s.eng.eng[e] with state := .testing, clock := 80, test := some { req := q, since := s.now } }
        ∧ ∀ k, q.slot = some k → (t.mbx.sess[k]).outstanding = some q))
    ∧ (∀ y : Fin 16, byteAt pl 0 = y.val → pl.length = 24 →
      (Taken 0x0704 2 q s → Answers (.engPolicySet q) q s .ok [] fun _ pay => pay = policyBytes y.val s.eng.policy[y])
      ∧ (Taken 0x0704 0 q s → policyOk pl = true → (∀ c : Fin 12, (s.eng.cluster[c]).classMask.testBit y.val = true → Free s q (resCluster c.val)) →
        let bad := ∃ c : Fin 12, (s.eng.cluster[c]).classMask.testBit y.val = true ∧ (s.eng.cluster[c]).state = .enabled
          ∧ policyFits (policyOf pl) (s.eng.cluster[c]).image = false
        (bad → Refuses (.engPolicySet q) q s .budgetExceeded)
        ∧ (¬ bad → Answers (.engPolicySet q) q s .ok [.eng] fun t _ => policyBytes y.val t.eng.policy[y] = pl
          ∧ OthersSame s.eng.policy t.eng.policy y ∧ t.eng = { s.eng with policy := t.eng.policy, refer := t.eng.refer, again := t.eng.again }
          ∧ let late := fun (o : RefObj) => if o.cls = y then { o with pol := { o.pol with abort := byteAt pl 4 == 1 } } else o
            t.eng.refer = s.eng.refer.map late ∧ t.eng.again = s.eng.again.map late)))
    ∧ (∀ c : Fin 8, byteAt pl 0 = c.val → pl.length = 16 →
      let x := s.pos.qe[c]
      (Taken 0x0800 2 q s → Answers (.qeConfig q) q s .ok [] fun _ pay => pay = qeBytes c.val x)
      ∧ (Taken 0x0800 0 q s → qeConfigOk pl = true → (∀ p : Fin 12, (s.pipe[p]).posCh = c → Free s q (resPipe p.val)) →
        let preset := (byteAt pl 1).testBit 6
        (preset = true → (∃ p : Fin 12, (s.pipe[p]).posCh = c ∧ (s.pipe[p]).unit ≠ .disabled) → Refuses (.qeConfig q) q s .wrongState)
        ∧ (preset = false ∨ ((∀ p : Fin 12, (s.pipe[p]).posCh = c → (s.pipe[p]).unit = .disabled)
            ∧ ∀ g : Fin 12, (s.pos.trig[g]).enable = true → (s.pos.trig[g]).timeMode = true ∨ (s.pos.trig[g]).source ≠ c) →
          Answers (.qeConfig q) q s .ok [.pos] fun t _ => OthersSame s.pos.qe t.pos.qe c ∧ t.pos = { s.pos with qe := t.pos.qe } ∧
            let y := t.pos.qe[c]
            y.enable = (byteAt pl 1).testBit 0 ∧ y.classA = (byteAt pl 1).testBit 1 ∧ y.lvds = (byteAt pl 1).testBit 2
            ∧ y.term = (byteAt pl 1).testBit 3 ∧ y.invert = (byteAt pl 1).testBit 4 ∧ y.qualAB11 = (byteAt pl 1).testBit 5
            ∧ y.minSpacing = le16 pl 2 ∧ y.stillT = le16 pl 4 ∧ y.fineWin = le16 pl 6
            ∧ y.count = (if preset then BitVec.ofNat 64 (le64 pl 8)
                + (if x.lastAccept = some s.now then (if x.dirDown then -1 else 1) else 0) else x.count)
            ∧ y.tracked = (if x.enable ∧ y.enable then x.tracked else x.sample)
            ∧ ((byteAt pl 1).testBit 0 = false → y.still = true ∧ y.coarse = 0))))
    ∧ (∀ clear : Bool, Taken 0x0801 (if clear then 8 else 0) q s → pl.length = 2 →
      Answers (.qeRead q) q s .ok [.pos] fun t pay => pay.length = 60 * (mask8 (byteAt pl 0)).length + 72 * (mask8 (byteAt pl 1)).length
        ∧ (∀ c : Fin 8, (t.pos.qe[c]).count = (s.pos.qe[c]).count
          ∧ (t.pos.qe[c]).reversals = (if clear ∧ (byteAt pl 0).testBit c.val then 0 else (s.pos.qe[c]).reversals))
        ∧ ∀ c : Fin 8, byteAt pl 0 = 2 ^ c.val → le64 pay 0 = (s.pos.qe[c]).count.toNat)
    ∧ (∀ i : Fin 8, byteAt pl 0 = i.val → pl.length = 4 →
      (Taken 0x0803 2 q s → Answers (.probeConfig q) q s .ok [] fun _ pay =>
        pay = [i.val, flagAt (s.pos.probe[i]).enable 0, (s.pos.probe[i]).edge.code, (s.pos.probe[i]).filter].flatMap (bytesOf 1))
      ∧ (Taken 0x0803 0 q s → byteAt pl 1 ≤ 1 → byteAt pl 2 ≤ 2 → Answers (.probeConfig q) q s .ok [.pos] fun t _ =>
        OthersSame s.pos.probe t.pos.probe i ∧ (t.pos.probe[i]).enable = (byteAt pl 1 == 1) ∧ (t.pos.probe[i]).edge.code = byteAt pl 2
          ∧ (t.pos.probe[i]).filter = byteAt pl 3))
    ∧ (∀ i : Fin 12, byteAt pl 0 = i.val → pl.length = 32 →
      let g := s.pos.trig[i]
      (Taken 0x0802 2 q s → Answers (.trigConfig q) q s .ok [] fun _ pay => pay = trigBytes i.val g)
      ∧ (Taken 0x0802 0 q s → trigConfigOk pl = true → portsTaken s i (le16 pl 4) = true → Refuses (.trigConfig q) q s .badParam)
      ∧ (Taken 0x0802 0 q s → trigConfigOk pl = true → portsTaken s i (le16 pl 4) = false →
        (byteAt pl 1).testBit 1 = true ∨ (s.pos.qe[idxMod 7 (byteAt pl 2)]).classA = false →
        (∀ p : Fin 12, (g.portMask ||| le16 pl 4).testBit p.val = true → Free s q (resPort p.val)) →
        Answers (.trigConfig q) q s .ok [.pos] fun t _ => trigBytes i.val t.pos.trig[i] = pl ∧ OthersSame s.pos.trig t.pos.trig i
          ∧ t.pos = { s.pos with trig := t.pos.trig }))

/-- EJ_CONFIG, EJ_MAP_LOAD, EJ_ARM, EJ_DISARM and EJ_TEST_PULSE complete. Ejection: settings take effect and enabled links start; a row map or safe pattern arrives in parts, is checked when whole and goes
to the bank or pattern not in use; arming needs an enabled link that is up and not faulted, no Gale held, ACTIVE and the life cycle for
RUN; disarming always goes; a test pulse needs armed links, and its pulses are dropped while a Gale is held (17 R405, R408; 11 R263, R275 to R281). -/
def Obligations.EjectorSettings : Prop :=
  ∀ (q : Req) (s : State),
    let pl := q.payload
    let named := fun (l : Fin 4) => (byteAt pl 0).testBit l.val
    (Taken 0x0900 2 q s → pl.length = 288 → Answers (.ejConfig q) q s .ok [] fun _ pay => pay = ejBytes s)
    ∧ (Taken 0x0900 0 q s → pl.length = 288 → ejConfigOk pl = true → (∀ l : Fin 4, Free s q (resLink l.val)) →
      let moves := s.ej.slotNs ≠ le32 pl 0 ∨ s.ej.phaseNs ≠ le32 pl 4
      (moves → (∃ l : Fin 4, (s.ej.link[l]).state ≠ .disabled) → Refuses (.ejConfig q) q s .wrongState)
      ∧ (¬ moves → ejOverBudget pl = true → Refuses (.ejConfig q) q s .budgetExceeded)
      ∧ (¬ moves → ejOverBudget pl = false → (∀ l : Fin 4, (s.ej.link[l]).enablePending = false ∧ (s.ej.link[l]).state ≠ .draining) →
        Answers (.ejConfig q) q s .ok [.ej] fun t _ => t.ej.missLimit = byteAt pl 9 ∧ t.ej.ackTimeout = le16 pl 10 ∧ t.ej.minOn = byteAt pl 15
          ∧ t.ej.maxOn = le16 pl 16 ∧ t.ej.margin = le16 pl 18 ∧ t.ej.posMaxWait = le32 pl 20
          ∧ (∀ r : Fin 4, (t.ej.row[r]).posMode = (byteAt pl (96 + 48 * r.val) == 1) ∧ (t.ej.row[r]).flight = le32 pl (100 + 48 * r.val)
            ∧ (t.ej.row[r]).lead = le32 pl (104 + 48 * r.val) ∧ (t.ej.row[r]).map = (s.ej.row[r]).map)
          ∧ t.ej.pendTime = s.ej.pendTime ∧ t.ej.pendPos = s.ej.pendPos
          ∧ ∀ l : Fin 4, (t.ej.link[l]).state = (match (s.ej.link[l]).state, (byteAt pl 8).testBit l.val with
            | .disabled, true => .enabling | .enabling, false => .disabled | .enabled, false => .draining | u, _ => u)))
    ∧ (∀ r : Fin 4, Taken 0x0901 0 q s → 12 ≤ pl.length → byteAt pl 0 = 0 → byteAt pl 1 = r.val → byteAt pl 3 = 0 →
      let x := s.ej.row[r]
      let other := fun (t : State) => OthersSame s.ej.row t.ej.row r ∧ t.ej = { s.ej with row := t.ej.row }
      (byteAt pl 2 = 1 → pl.length = 12 → leAt pl 4 8 = 0 →
        ((x.map[otherBank x]).isNone ∨ x.load.isSome ∨ x.swapPending = true → Refuses (.ejMapLoad q) q s .wrongState)
        ∧ ((x.map[otherBank x]).isSome = true → x.load = none → x.swapPending = false →
          Answers (.ejMapLoad q) q s .ok [.ej] fun t _ => other t ∧ t.ej.row[r] = { x with swapPending := true }))
      ∧ (∀ (swap start last : Bool) (old : List Byte), byteAt pl 2 = (if swap then 1 else 0) + (if start then 2 else 0) + (if last then 4 else 0) →
        ¬ (byteAt pl 2 = 1 ∧ pl.length = 12 ∧ leAt pl 4 8 = 0) →
        let off := le32 pl 4
        let total := le32 pl 8
        let n := pl.length - 12
        off + n ≤ total → (last = true → off + n = total) → (start = true → off = 0 ∧ old = []) →
        (start = false → x.load = some { kind := 0, bank := (otherBank x).val, total := total, bytes := old } ∧ old.length = off) →
        let img := old ++ pl.drop 12
        (x.swapPending = true → Refuses (.ejMapLoad q) q s .wrongState)
        ∧ (x.swapPending = false → last = false → Answers (.ejMapLoad q) q s .ok [.ej] fun t _ => other t
          ∧ (t.ej.row[r]).load = some { kind := 0, bank := (otherBank x).val, total := total, bytes := img }
          ∧ (t.ej.row[r]).act = x.act ∧ (t.ej.row[r]).map[x.act] = x.map[x.act] ∧ (start = true → (t.ej.row[r]).map[otherBank x] = none))
        ∧ (x.swapPending = false → last = true → rowMapOk img = false → Refuses (.ejMapLoad q) q s .badParam)
        ∧ (x.swapPending = false → last = true → rowMapOk img = true → Answers (.ejMapLoad q) q s .ok [.ej] fun t _ => other t
          ∧ (t.ej.row[r]).map[otherBank x] = some (rowMapOf img) ∧ (t.ej.row[r]).map[x.act] = x.map[x.act]
          ∧ (t.ej.row[r]).load = none ∧ (t.ej.row[r]).swapPending = swap)))
    ∧ (∀ l : Fin 4, Taken 0x0901 0 q s → pl.length = 76 → byteAt pl 0 = 1 → byteAt pl 1 = l.val → byteAt pl 2 = 6 → byteAt pl 3 = 0 →
      le32 pl 4 = 0 → le32 pl 8 = 64 → Free s q (resLink l.val) →
      let k := s.ej.link[l]
      (k.arm ≠ 0 ∨ k.armNext ≠ 0 → Refuses (.ejMapLoad q) q s .wrongState)
      ∧ (k.arm = 0 → k.armNext = 0 → Answers (.ejMapLoad q) q s .ok [.ej] fun t _ => OthersSame s.ej.link t.ej.link l
        ∧ t.ej.link[l] = { k with load := none, safeNext := some (pl.drop 12) }))
    ∧ (Taken 0x0902 0 q s → pl.length = 2 → byteAt pl 0 < 16 → 1 ≤ byteAt pl 1 → byteAt pl 1 ≤ 2 → (∀ l, named l = true → Free s q (resLink l.val)) →
      let denied := byteAt pl 1 = 1 ∧ (s.mgmt.lifeCycle = .blank ∨ s.mgmt.lifeCycle = .decommissioned)
      let unfit := s.ej.galeSafe = true ∨ s.power.state ≠ .active ∨ (byteAt pl 1 = 1 ∧ s.mgmt.dev = .test)
        ∨ ∃ l, named l = true ∧ ((s.ej.link[l]).state ≠ .enabled ∨ (s.ej.link[l]).up = false ∨ (s.ej.link[l]).faulted = true)
      (denied → Refuses (.ejArm q) q s .denied)
      ∧ (¬ denied → unfit → Refuses (.ejArm q) q s .wrongState)
      ∧ (¬ denied → ¬ unfit → Answers (.ejArm q) q s .ok [.ej] fun t pay => pay.length = 4 ∧ ∀ l,
        t.ej.link[l] = if named l then { s.ej.link[l] with armNext := byteAt pl 1 } else s.ej.link[l]))
    ∧ (Taken 0x0903 0 q s → pl.length = 1 → byteAt pl 0 < 16 → (∀ l, named l = true → Free s q (resLink l.val)) →
      Answers (.ejDisarm q) q s .ok [.ej] fun t _ => ∀ l, t.ej.link[l] = if named l then { s.ej.link[l] with armNext := 0 } else s.ej.link[l])
    ∧ (Taken 0x0904 0 q s → pl.length = 16 → testPulseOk s pl = true → (∀ l ∈ linksOf (le16 pl 0) (le16 pl 2), Free s q (resLink l.val)) →
      let unfit := gridRuns s = false ∨ ∃ l ∈ linksOf (le16 pl 0) (le16 pl 2), (s.ej.link[l]).arm = 0
      (unfit → Refuses (.ejTestPulse q) q s .wrongState)
      ∧ (¬ unfit → s.ej.test.isSome = true → Refuses (.ejTestPulse q) q s .busy)
      ∧ (¬ unfit → s.ej.test = none → Answers (.ejTestPulse q) q s .ok [.ej, .flt] fun t _ =>
        (t.ej.testPulses, t.ej.disarmDropped) = (if s.ej.galeSafe then (s.ej.testPulses, s.ej.disarmDropped + 1)
          else (s.ej.testPulses + 1, s.ej.disarmDropped))
        ∧ (1 < le16 pl 8 → ∃ p, t.ej.test = some p ∧ p.first = le16 pl 0 ∧ p.last = le16 pl 2 ∧ p.slots = le16 pl 4 ∧ p.gap = le16 pl 6
          ∧ p.left = le16 pl 8 - 1)
        ∧ t.ej.link = s.ej.link ∧ t.ej.pendPos = s.ej.pendPos))


/-- ETH_PORT_CONFIG, PTP_CONFIG, PTP_STATUS, TIME_BASE_CONFIG, FATHOM_CONFIG, OUTPUT_RING_CONFIG, CODER_CONFIG, PREVIEW_CONFIG,
DRAM_STATUS and DRAM_QOS_SET complete. Ports, PTP, time bases, Fathom and output rings, coder, display strips and DRAM settings take effect and read back as the request
that made them; E0 is not configured over the network; a base with source PTP needs its instance; a configured base starts from zero
and SET gives it a time at its next tick; a ring or a store beyond its budget is refused, and so is a store's region beyond DRAM or
over another; a ring takes new settings while DISABLED only and drains when disabled; coder and display settings wait for the next bolt (17 R392,
R405, R411; 12 R283 to R290, R297 to R300, R303; 14 R325 to R329, R339, R340, R344; 04 R107, R110; 15 R358). -/
def Obligations.NetworkAndOutputCommands : Prop :=
  ∀ (q : Req) (s : State),
    let pl := q.payload
    (∀ n : Fin 4, byteAt pl 0 = n.val → 28 ≤ pl.length → pl.length = 28 + 4 * byteAt pl 24 →
      let x := s.net.port[n]
      (Taken 0x0A00 2 q s → Answers (.ethPortConfig q) q s .ok [] fun _ pay => pay = ethBytes n.val x)
      ∧ (Taken 0x0A00 0 q s → q.net = true → n = 0 → Refuses (.ethPortConfig q) q s .denied)
      ∧ (Taken 0x0A00 0 q s → ethConfigOk pl = true → q.net = false ∨ n ≠ 0 →
        Answers (.ethPortConfig q) q s .ok [] fun t _ => ethBytes n.val t.net.port[n] = pl
          ∧ (∀ k : Fin 4, k ≠ n → q.net = false ∨ k ≠ 0 → t.net.port[k] = s.net.port[k])
          ∧ (q.net = false → t.net = { s.net with port := t.net.port })
          ∧ (t.net.port[n]).up = (x.up && x.mode == (t.net.port[n]).mode && x.fec == (byteAt pl 2).testBit 0 && x.autoNeg == (byteAt pl 2).testBit 1)))
    ∧ (∀ i : Fin 4, byteAt pl 0 = i.val →
      (Taken 0x0A01 2 q s → pl.length = (if hasPortsTc pl then 68 else 16) → Answers (.ptpConfig q) q s .ok [] fun _ pay =>
        pay = ptpBytes s i ∧ pay.length = 68)
      ∧ (Taken 0x0A01 0 q s → ptpConfigOk pl = true → hasPortsTc pl = true → pl.length = 68 →
        Answers (.ptpConfig q) q s .ok [.time] fun t _ => ptpBytes t i = pl ∧ OthersSame s.net.inst t.net.inst i
          ∧ t.time = { s.time with tb := t.time.tb } ∧ OthersSame s.time.tb t.time.tb i
          ∧ t.time.tb[i] = { s.time.tb[i] with domain := byteAt pl 2 })
      ∧ (Taken 0x0A01 0 q s → hasPortsTc pl = false → pl.length ≠ 16 → Refuses (.ptpConfig q) q s .badParam)
      ∧ (Taken 0x0A01 0 q s → ptpConfigOk pl = true → hasPortsTc pl = false → pl.length = 16 →
        Answers (.ptpConfig q) q s .ok [.time] fun t _ => OthersSame s.net.inst t.net.inst i ∧ (q.net = false → t.net.port = s.net.port)
          ∧ t.net.tc = s.net.tc
          ∧ (ptpBytes t i).take 7 = ((pl.take 7).set 1 (BitVec.ofNat 8 (byteAt pl 1 + 128))))
      ∧ (Taken 0x0A02 0 q s → pl.length = 1 → Answers (.ptpStatus q) q s .ok [] fun _ pay => pay = ptpStatusBytes s i ∧ pay.length = 40)
      ∧ (Taken 0x0A03 2 q s → pl.length = 68 → Free s q (resTb i.val) → Answers (.timeBaseConfig q) q s .ok [] fun _ pay => pay = tbBytes s i)
      ∧ (Taken 0x0A03 0 q s → pl.length = 68 → Free s q (resTb i.val) → tbConfigOk pl = true →
        let x := s.time.tb[i]
        let on := (byteAt pl 1).testBit 0
        let set := (byteAt pl 1).testBit 1
        (byteAt pl 2 = 1 → (s.net.inst[i]).enable = false → Refuses (.timeBaseConfig q) q s .badParam)
        ∧ (byteAt pl 2 ≠ 1 ∨ (s.net.inst[i]).enable = true →
          Answers (.timeBaseConfig q) q s .ok [.time, .pos, .ej, .flt, .evt] fun t _ => OthersSame s.time.tb t.time.tb i ∧
            let y := t.time.tb[i]
            y.enable = on ∧ y.source = tbSourceOf (byteAt pl 2) ∧ y.stepMode = stepModeOf (byteAt pl 3) ∧ y.kp = le16 pl 8 ∧ y.ki = le16 pl 10
            ∧ y.stepThr = le32 pl 12 ∧ y.lockNs = le32 pl 16 ∧ y.lockCount = byteAt pl 20 ∧ y.holdoverMs = le32 pl 24
            ∧ (byteAt pl 2 = 0 → y.freqAdj = signed 32 (le32 pl 4)) ∧ (byteAt pl 2 ≠ 0 → y.freqAdj = x.freqAdj)
            ∧ (on = false → y.state = .off ∧ y.valid = false)
            ∧ (on = true → x.state = .off → y.state = if byteAt pl 2 = 0 then .free else .acquiring)
            ∧ (on = true → x.state = .off → y.time = {} ∧ y.valid = false)
            ∧ (on = true → x.state ≠ .off → y.time = x.time ∧ y.valid = x.valid ∧ y.steps = x.steps
              ∧ y.state = if x.source = y.source then x.state else if byteAt pl 2 = 0 then .free else .acquiring)
            ∧ (on = true → set = true → y.setPending = some { seconds := leAt pl 32 6, ns := le32 pl 38, frac := le16 pl 42 })
            ∧ (on = true → set = false → y.setPending = if x.state = .off then none else x.setPending)
            ∧ ∀ k : Fin 2, (t.time.pps.out[k]).enable = (byteAt pl (44 + 12 * k.val) == 1)
              ∧ (t.time.pps.out[k]).offset = le32 pl (48 + 12 * k.val) ∧ (t.time.pps.out[k]).width = le32 pl (52 + 12 * k.val))))
    ∧ (∀ p : Fin 12, byteAt pl 0 = p.val → Free s q (resPipe p.val) →
      let x := s.pipe[p]
      let f := s.outp.fathom[p]
      let n := fathomApply pl x f
      let total := fathomBudget (s.outp.fathom.set p n)
      (Taken 0x0C00 2 q s → pl.length = 36 → Answers (.fathomConfig q) q s .ok [] fun _ pay => pay = fathomBytes s p ∧ pay.length = 36)
      ∧ (Taken 0x0C00 0 q s → pl.length = 36 → fathomOk pl = true → hasDevice pl = true → membersForeign s q.session = true →
        Refuses (.fathomConfig q) q s .notOwner)
      ∧ (Taken 0x0C00 0 q s → pl.length = 36 → fathomOk pl = true → hasDevice pl = false ∨ membersForeign s q.session = false →
        (fathomChanges pl f = true → x.unit ≠ .disabled → Refuses (.fathomConfig q) q s .wrongState)
        ∧ (x.unit = .disabled → fathomRegionBad s p n = true → Refuses (.fathomConfig q) q s .badParam)
        ∧ (x.unit = .disabled → fathomRegionBad s p n = false → 100000000000 < total →
          Answers (.fathomConfig q) q s .budgetExceeded [] fun t pay => pay.length = 4 ∧ t.mbx.claims = s.mbx.claims)
        ∧ (x.unit ≠ .disabled → fathomChanges pl f = false → fathomRegionBad s p f = false → fathomBudget s.outp.fathom ≤ 100000000000 →
          Answers (.fathomConfig q) q s .ok [.outp] fun t pay => pay.length = 4
            ∧ t.outp = fathomDevice pl { s.outp with budget := fathomBudget s.outp.fathom })
        ∧ (x.unit = .disabled → fathomRegionBad s p n = false → total ≤ 100000000000 →
          Answers (.fathomConfig q) q s .ok [.outp] fun t pay => pay.length = 4 ∧ OthersSame s.outp.fathom t.outp.fathom p
            ∧ t.outp = { s.outp with
                fathom := t.outp.fathom, budget := total
                marginRows := if hasDevice pl then le16 pl 20 else s.outp.marginRows
                marginCols := if hasDevice pl then le16 pl 22 else s.outp.marginCols
                cropMaxRows := if hasDevice pl then le16 pl 24 else s.outp.cropMaxRows
                cropMaxCols := if hasDevice pl then le16 pl 26 else s.outp.cropMaxCols
                cropWaitUs := if hasDevice pl then le32 pl 28 else s.outp.cropWaitUs
                cropCode := if hasDevice pl then byteAt pl 32 else s.outp.cropCode }
            ∧ ∃ z, t.outp.fathom[p] = z ∧ z.enable = (byteAt pl 1 == 1) ∧ z.depth = byteAt pl 2 ∧ z.chMask = byteAt pl 3 ∧ z.base = le64 pl 4
              ∧ z.lines = le32 pl 12 ∧ z.maxLineHz = le32 pl 16 ∧ z.linePixels = x.active.linePixels))
      ∧ (Taken 0x0C02 2 q s → pl.length = 16 → Answers (.coderConfig q) q s .ok [] fun _ pay => pay = coderBytes s p)
      ∧ (Taken 0x0C02 0 q s → pl.length = 16 → coderOk pl x = true →
        let m := coderTotal s p (coderOf pl) (le32 pl 12)
        (3200000000 * m.2 < m.1 → Refuses (.coderConfig q) q s .budgetExceeded)
        ∧ (m.1 ≤ 3200000000 * m.2 → Answers (.coderConfig q) q s .ok [.outp] fun t pay => pay.length = 4 ∧ coderBytes t p = pl
          ∧ (t.outp.strip[p]).coder = (s.outp.strip[p]).coder ∧ OthersSame s.outp.strip t.outp.strip p))
      ∧ (Taken 0x0C03 2 q s → pl.length = 14 → Answers (.previewConfig q) q s .ok [] fun _ pay => pay = previewBytes s p)
      ∧ (Taken 0x0C03 0 q s → pl.length = 14 → previewOk pl = true → Answers (.previewConfig q) q s .ok [.outp] fun t _ =>
        previewBytes t p = pl ∧ (t.outp.strip[p]).preview = (s.outp.strip[p]).preview ∧ OthersSame s.outp.strip t.outp.strip p))
    ∧ (∀ r : Fin 16, byteAt pl 0 = r.val → pl.length = 52 →
      let g := s.outp.ring[r]
      (Taken 0x0C01 2 q s → Answers (.outputRingConfig q) q s .ok [] fun _ pay => pay = ringBytes r.val g ∧ pay.length = 52)
      ∧ (Taken 0x0C01 0 q s → ringOk pl = true → g.state = .disabled → g.enablePending = false → s.dram.state = .failed →
        (le16 pl 4).testBit 5 = true ∨ (le16 pl 4).testBit 6 = true → Refuses (.outputRingConfig q) q s .wrongState)
      ∧ (Taken 0x0C01 0 q s → ringOk pl = true → g.state = .disabled → g.enablePending = false →
        s.dram.state ≠ .failed ∨ ((le16 pl 4).testBit 5 = false ∧ (le16 pl 4).testBit 6 = false) →
        (byteAt pl 1 = 1 → ringOverBudget s r (ringOf pl) = true → Refuses (.outputRingConfig q) q s .budgetExceeded)
        ∧ (byteAt pl 1 ≠ 1 ∨ ringOverBudget s r (ringOf pl) = false → Answers (.outputRingConfig q) q s .ok [.outp] fun t pay =>
          (t.outp.ring[r]).cfg = ringOf pl ∧ (byteAt pl 1 ≤ 1 → ringBytes r.val t.outp.ring[r] = pl)
            ∧ (t.outp.ring[r]).owner = some q.session ∧ OthersSame s.outp.ring t.outp.ring r
            ∧ (t.outp.ring[r]).state = (if byteAt pl 1 = 1 then .enabling else .disabled) ∧ pay.length = 12))
      ∧ (Taken 0x0C01 0 q s → ringOk pl = true → g.enablePending = false → g.owner = some q.session → ringOf pl = g.cfg → s.dram.state ≠ .failed →
        (g.state = .enabled → byteAt pl 1 ≠ 1 → Answers (.outputRingConfig q) q s .ok [.outp] fun t pay => pay.length = 12
          ∧ t.outp = { s.outp with ring := t.outp.ring } ∧ OthersSame s.outp.ring t.outp.ring r
          ∧ t.outp.ring[r] = { g with state := if byteAt pl 1 = 0 then .draining else .enabled })
        ∧ (g.state = .draining → byteAt pl 1 = 1 → ringOverBudget s r g.cfg = false → Answers (.outputRingConfig q) q s .pending [.outp] fun t pay =>
          pay.length = 12 ∧ t.outp = { s.outp with ring := t.outp.ring } ∧ OthersSame s.outp.ring t.outp.ring r
          ∧ t.outp.ring[r] = { g with enablePending := true }))
      ∧ (Taken 0x0C01 0 q s → ringOk pl = true → g.state = .enabled → g.enablePending = false → g.owner = some q.session → ringOf pl ≠ g.cfg →
        Refuses (.outputRingConfig q) q s .wrongState)
      ∧ (∀ k : Fin 14, Taken 0x0C01 0 q s → ringOk pl = true → g.state = .enabled → g.enablePending = false → g.owner = some k.val →
        k.val ≠ q.session → (s.mbx.sess[k]).isOpen = true → Refuses (.outputRingConfig q) q s .notOwner))
    ∧ (∀ clear : Bool, Taken 0x0D00 (if clear then 8 else 0) q s → pl = [] → Answers (.dramStatus q) q s .ok (if clear then [.dram] else [])
      fun t pay => pay = (dramRanges.flatMap fun r => blockWords dramReadReg r.1 r.2 s) ∧ pay.length = 316
        ∧ (clear = true → ∀ c : Fin 8, (t.dram.chan[c]).eccCorr = 0 ∧ (t.dram.chan[c]).eccUncorr = 0 ∧ (t.dram.chan[c]).state = (s.dram.chan[c]).state))
    ∧ (Taken 0x0D01 2 q s → pl.length = 24 → Answers (.dramQosSet q) q s .ok [] fun _ pay => pay.length = 24
      ∧ ∀ k : Fin 5, le32 pay (4 * k.val) = (s.dram.port[k]).target % 2 ^ 32)
    ∧ (Taken 0x0D01 0 q s → pl.length = 24 → qosOk pl = true → Answers (.dramQosSet q) q s .ok [.dram] fun t _ =>
      t.dram = { s.dram with idleSr := le32 pl 20, port := t.dram.port }
      ∧ ∀ k : Fin 5, t.dram.port[k] = { s.dram.port[k] with target := le32 pl (4 * k.val) })

/-- EVT_CHANNEL_CONFIG, EVT_CHANNEL_STATUS, FLT_READ, FLT_ACK, MGT_SENSORS_READ, LOG_READ, LCS_READ and OBS_SELECT complete. A
channel takes its configuration in one instant unless another session holds what it names, security forbids it or it would
close an immediate cycle, which the answer names from its lowest channel; statuses, faults, sensors, the log, the life cycle and the
observation outputs read as specified, CLEAR zeroes their counts, and an acknowledgement releases what it names unless a Gale level
still arrives (17 R412, R414; 18 R421, R422, R427; 19 R431, R436, R437; 20 R445, R446, R461, R463). -/
def Obligations.ObservationCommands : Prop :=
  ∀ (q : Req) (s : State),
    let pl := q.payload
    (∀ n : Fin 64, byteAt pl 0 = n.val → pl.length = 36 →
      let c := s.evt.chan[n]
      let sec := (byteAt pl 1).testBit 1
      let src := (List.range (byteAt pl 2)).map fun k => le16 pl (4 + 2 * k)
      let cons := leAt pl 20 12
      let new := { c with enabled := (byteAt pl 1).testBit 0, sec := sec, sources := src, consumers := cons, lockoutNs := le32 pl 32, loopActive := false, streak := 0 }
      let v := upd s.evt.chan n fun _ => new
      (Taken 0x0E00 2 q s → Free s q (resChan n.val) → Answers (.evtChannelConfig q) q s .ok [] fun _ pay =>
        pay = evtRequest n.val c ∧ pay.length = 36)
      ∧ (Taken 0x0E00 0 q s → evtConfigOk pl = true →
        (evtForeign s q.session n.val (leAt pl 20 12) = true → Refuses (.evtChannelConfig q) q s .notOwner)
        ∧ (evtForeign s q.session n.val (leAt pl 20 12) = false →
          ((sec = true ∨ c.sec = true) → q.session ≠ 0 → Refuses (.evtChannelConfig q) q s .denied)
          ∧ (sec = false → c.sec = false →
            ((∃ j : Fin 96, new.consumers.testBit j.val = true ∧ secLock s j = true) → Refuses (.evtChannelConfig q) q s .denied)
            ∧ ((∀ j : Fin 96, new.consumers.testBit j.val = true → secLock s j = false) →
              (∀ l, immediateCycle v n = some l → Answers (.evtChannelConfig q) q s .loop [] fun _ pay =>
                pay = bytesOf 1 l.length ++ (fromLowest l).flatMap fun k => bytesOf 1 k.val)
              ∧ (immediateCycle v n = none → Answers (.evtChannelConfig q) q s .ok [.evt] fun t _ =>
                t.evt = { s.evt with chan := t.evt.chan } ∧ t.evt.chan[n] = { new with onCycle := onCycle v n }
                ∧ (∀ k : Fin 64, k ≠ n → t.evt.chan[k] = { s.evt.chan[k] with onCycle := onCycle v k }) ∧ evtRequest n.val t.evt.chan[n] = pl))))))
    ∧ (∀ clear : Bool, Taken 0x0E01 (if clear then 8 else 0) q s → pl.length = 8 →
      Answers (.evtChannelStatus q) q s .ok (if clear then [.evt] else []) fun t pay =>
        pay = (((List.finRange 64).filter fun n => (le64 pl 0).testBit n.val).flatMap (chanStatus s))
        ∧ (clear = true → t.evt = { s.evt with chan := t.evt.chan } ∧ ∀ n : Fin 64, t.evt.chan[n] =
          if (le64 pl 0).testBit n.val then { s.evt.chan[n] with firings := 0, held := 0 } else s.evt.chan[n]))
    ∧ (∀ clear : Bool, Taken 0x0F00 (if clear then 8 else 0) q s → pl = [] →
      Answers (.fltRead q) q s .ok (if clear then [.flt] else []) fun t pay => pay = fltBytes s ∧ pay.length = 64
        ∧ (clear = true → t.flt = { s.flt with groups := t.flt.groups } ∧ ∀ g : Fin 32, t.flt.groups[g] =
          { s.flt.groups[g] with drizzle := 0, squall := 0, gale := 0 }))
    ∧ (Taken 0x0F01 0 q s → pl.length = 9 →
      let release := byteAt pl 8 == 1
      let gale := release && (match s.flt.first with | some x => x.cls == .gale | none => false)
      (1 < byteAt pl 8 → Refuses (.fltAck q) q s .badParam)
      ∧ (byteAt pl 8 ≤ 1 → gale = true → galeLevel s = true → Refuses (.fltAck q) q s .wrongState)
      ∧ (byteAt pl 8 ≤ 1 → gale = false ∨ galeLevel s = false → Answers (.fltAck q) q s .ok [.flt, .ej] fun t pay =>
        pay = bytesOf 8 t.flt.status ∧ (∀ k, k < 64 → t.flt.status.testBit k = (s.flt.status.testBit k && !(le64 pl 0).testBit k))
        ∧ t.flt.first = (if release then none else s.flt.first) ∧ t.flt.overflow = (s.flt.overflow && !release)
        ∧ t.flt.groups = s.flt.groups ∧ t.flt.faultN = (s.flt.faultN && !gale) ∧ t.flt.galeHeld = (s.flt.galeHeld && !gale)
        ∧ t.ej = { s.ej with galeSafe := s.ej.galeSafe && !gale }))
    ∧ (Taken 0x1000 0 q s → pl = [] → Answers (.mgtSensorsRead q) q s .ok [] fun _ pay => pay.length = 64
      ∧ (∀ k : Fin 16, le16 pay (2 * k.val) = (s.mgmt.sensors.thermal[k] % 65536).toNat)
      ∧ (∀ k : Fin 12, le16 pay (32 + 2 * k.val) = s.mgmt.sensors.voltage[k] % 65536)
      ∧ (∀ k : Fin 26, (le32 pay 56).testBit k.val = s.power.clockOk[k]) ∧ (le32 pay 56).testBit 26 = !s.sysRef ∧ le32 pay 60 = 0)
    ∧ (Taken 0x1001 0 q s → pl.length = 6 →
      let count := le16 pl 4
      (count = 0 ∨ 127 < count → Refuses (.logRead q) q s .badParam)
      ∧ (1 ≤ count → count ≤ 127 → Answers (.logRead q) q s .ok [] fun _ pay => ∃ l, pay.drop 8 = l.flatMap logBytes32
        ∧ l = (((heldLog s).filter fun e => decide ((e.index + 2 ^ 32 - le32 pl 0) % 2 ^ 32 < count)).take ((maxPayload q.session - 8) / 32))
        ∧ (∀ e, (heldLog s).head? = some e → le32 pay 0 = e.index % 2 ^ 32)
        ∧ ∀ e, (heldLog s).getLast? = some e → le32 pay 4 = e.index % 2 ^ 32))
    ∧ (Taken 0x1020 0 q s → pl = [] → Answers (.lcsRead q) q s .ok [] fun _ pay => pay.length = 60 ∧ byteAt pay 0 = s.mgmt.lifeCycle.code
      ∧ le32 pay 4 = policyWord s % 2 ^ 32 ∧ leAt pay 8 48 = s.mgmt.rootKeyHash % 2 ^ 384 ∧ le32 pay 56 = s.mgmt.rollbackFuse % 2 ^ 32)
    ∧ (pl.length = 16 →
      let l := (List.range 8).map fun k => le16 pl (2 * k)
      let known := ∀ n ∈ l, n ≤ 0x59 ∨ (0x100 ≤ n ∧ n ≤ 0x2FF)
      let full := s.mgmt.lifeCycle = .blank ∨ (s.mgmt.lifeCycle = .decommissioned ∧ s.mgmt.policyFuse.testBit 4 = true)
      (Taken 0x1021 2 q s → Answers (.obsSelect q) q s .ok [] fun _ pay => pay.length = 16
        ∧ ∀ k : Fin 8, le16 pay (2 * k.val) = s.mgmt.obsSel[k] % 65536)
      ∧ (Taken 0x1021 0 q s → ¬ known → Refuses (.obsSelect q) q s .badParam)
      ∧ (Taken 0x1021 0 q s → known → (∃ n ∈ l, 0x59 < n) → ¬ full → Refuses (.obsSelect q) q s .denied)
      ∧ (Taken 0x1021 0 q s → known → (∀ n ∈ l, n ≤ 0x59) ∨ full → Answers (.obsSelect q) q s .ok [.mgmt] fun t pay =>
        pay = pl ∧ t.mgmt = { s.mgmt with obsSel := t.mgmt.obsSel } ∧ ∀ k : Fin 8, t.mgmt.obsSel[k] = le16 pl (2 * k.val)))

/-- What every update command leaves of the update besides its own effect: its status, and the time of the holder's last one. -/
def Sys2Proof.taken (s : State) (q : Req) (st : Status) (u : Update) : Update :=
  { u with lastStatus := st.code, lastAt := if u.holder = some q.session then s.now else u.lastAt }

/-- An update command that changes nothing but the status shown. -/
def Sys2Proof.UpdateAnswers (i : Instr) (q : Req) (s : State) (st : Status) (p : List Byte) : Prop :=
  Answers i q s st [.mgmt] fun t pay => pay = p ∧ t.mgmt = { s.mgmt with update := Sys2Proof.taken s q st s.mgmt.update }

/-- SETTINGS_SAVE, SETTINGS_LOAD, SETTINGS_ACCEPT_DEFAULTS, UPDATE_BEGIN, UPDATE_BLOCK, UPDATE_VERIFY, UPDATE_ACTIVATE, UPDATE_ABORT,
UPDATE_STATUS and BACKGROUND_COMMAND_DONE complete. Saves, loads and checks go on in the background, one per session, and their end answers the repeat: a save is a store of the next
generation, a check leaves a VERIFIED image or none of it. One session updates at a time: its blocks count when whole and right, an
activation puts a FIRMWARE image on trial after a pause (in HALTED into the active slot), and an abort frees the target slot or ends
the trial (17 R404, R413, R414; 20 R449 to R458). -/
def Obligations.SettingsAndUpdateCommands : Prop :=
  (∀ (q : Req) (s : State) (k : Fin 14), q.slot = some k →
    let pl := q.payload
    let u := s.mgmt.update
    let busy := (s.mbx.sess[k]).background.isSome = true
    let started := fun (t : State) => (t.mbx.sess[k]).background = some q
    (Taken 0x1003 0 q s → pl = [] → (busy → Refuses (.settingsSave q) q s .busy)
      ∧ (¬ busy → Answers (.settingsSave q) q s .pending [.mgmt] fun t pay => pay = [] ∧ started t
        ∧ ∃ w, w = s.mgmt.settingsWork ++ [{ session := q.session, records := savedRecords s, tables := savedTables s }]
          ∧ t.mgmt = { s.mgmt with logStaged := t.mgmt.logStaged, logNext := t.mgmt.logNext, settingsWork := w }))
    ∧ (Taken 0x1004 0 q s → pl = [] → (readableStore s.mgmt = none → Refuses (.settingsLoad q) q s .wrongState)
      ∧ ∀ n st, readableStore s.mgmt = some (n, st) → (busy → Refuses (.settingsLoad q) q s .busy)
        ∧ (¬ busy → Answers (.settingsLoad q) q s .pending [.mgmt, .pipe, .mem] fun t pay => pay = [] ∧ started t
          ∧ (∃ w ∈ t.mgmt.settingsWork, w.session = q.session ∧ w.generation = st.generation)
          ∧ t.mgmt.hostIndependent = (deviceReturn st.records s.mgmt).hostIndependent ∧ t.mgmt.allow = (deviceReturn st.records s.mgmt).allow
          ∧ ∀ o p, (o, p) ∈ commandRecords st.records → knownOpcode o = true →
            ∃ x ∈ t.mbx.queue, x.2.session = 0 ∧ x.2.opcode = o ∧ x.2.payload = p))
    ∧ (Taken 0x1005 0 q s → pl = [] →
      (s.mgmt.trial = false ∨ s.mgmt.settingsResult ≠ .unreadable → Refuses (.settingsAcceptDefaults q) q s .wrongState)
      ∧ (s.mgmt.trial = true → s.mgmt.settingsResult = .unreadable → Answers (.settingsAcceptDefaults q) q s .ok [.mgmt] fun t pay =>
        pay = [] ∧ t.mgmt.trial = false ∧ (bootHeader t.mgmt).2.activeSlot = s.mgmt.imageSlot ∧ (bootHeader t.mgmt).2.trialSlot = none
        ∧ (s.mgmt.trialStore = false → ∃ n st, committedStore t.mgmt = some (n, st) ∧ st.records = [])))
    ∧ (Taken 0x1010 0 q s →
      let size := le32 pl 0
      let w := le32 pl 8
      let ok := pl.length = 12 ∧ (w = 0 ∨ (5 ≤ w ∧ w ≤ 600))
      let lockBusy := (u.holder ≠ none ∧ u.holder ≠ some q.session) ∨ u.activating = true ∨ u.state = .verifying
      let unfit := s.mgmt.trial = true ∨ size = 0 ∨ 0x800000 < size
      let window := if w = 0 then 120 else w
      let slot := 1 - s.mgmt.imageSlot % 2
      let new : Update := { state := .receiving, holder := some q.session, size := size, target := slot, version := le32 pl 4, trialS := window, lastStatus := 0, lastAt := s.now }
      (¬ ok → Sys2Proof.UpdateAnswers (.updateBegin q) q s .badParam [])
      ∧ (ok → mayUpdate s q.session = false → Sys2Proof.UpdateAnswers (.updateBegin q) q s .denied [])
      ∧ (ok → mayUpdate s q.session = true → lockBusy → Sys2Proof.UpdateAnswers (.updateBegin q) q s .busy [])
      ∧ (ok → mayUpdate s q.session = true → ¬ lockBusy → unfit → Sys2Proof.UpdateAnswers (.updateBegin q) q s .wrongState [])
      ∧ (ok → mayUpdate s q.session = true → ¬ lockBusy → ¬ unfit → Answers (.updateBegin q) q s .ok [.mgmt] fun t pay =>
        pay = bytesOf 4 ((size + 4095) / 4096) ∧ t.mgmt.update = new))
    ∧ (Taken 0x1011 0 q s →
      let b := le32 pl 0
      let off := le16 pl 8
      let n := le16 pl 10
      let short := pl.length < 12 ∨ pl.length ≠ 12 + n
      let parts := u.parts ++ [(b, off, n)]
      let data := memWriteN u.data (4096 * b + off) (pl.drop 12)
      let fits := b < (u.size + 4095) / 4096 ∧ 0 < n ∧ off + n ≤ min 4096 (u.size - 4096 * b)
      let whole := ∀ j, j < min 4096 (u.size - 4096 * b) → ∃ p ∈ parts, p.1 = b ∧ p.2.1 ≤ j ∧ j < p.2.1 + p.2.2
      let right := (crc32c (memReadN data (4096 * b) (min 4096 (u.size - 4096 * b)))).toNat = le32 pl 4
      (short → Sys2Proof.UpdateAnswers (.updateBlock q) q s .badParam [])
      ∧ (¬ short → u.holder ≠ some q.session → Sys2Proof.UpdateAnswers (.updateBlock q) q s .notOwner [])
      ∧ (¬ short → u.holder = some q.session → u.state ≠ .receiving → Sys2Proof.UpdateAnswers (.updateBlock q) q s .wrongState [])
      ∧ (¬ short → u.holder = some q.session → u.state = .receiving → ¬ fits → Sys2Proof.UpdateAnswers (.updateBlock q) q s .badParam [])
      ∧ (¬ short → u.holder = some q.session → u.state = .receiving → fits →
        (b ∈ u.blocksDone → Sys2Proof.UpdateAnswers (.updateBlock q) q s .ok (bytesOf 4 u.blocksDone.length))
        ∧ (b ∉ u.blocksDone → ¬ whole → Answers (.updateBlock q) q s .ok [.mgmt] fun t pay => pay = bytesOf 4 u.blocksDone.length
          ∧ t.mgmt = { s.mgmt with update := Sys2Proof.taken s q .ok { u with data := data, parts := parts } })
        ∧ (b ∉ u.blocksDone → whole → right → Answers (.updateBlock q) q s .ok [.mgmt] fun t pay =>
          pay = bytesOf 4 (u.blocksDone.length + 1) ∧ t.mgmt.update.blocksDone = u.blocksDone ++ [b] ∧ t.mgmt.update.data = data
          ∧ t.mgmt.update.state = .receiving ∧ (∀ p ∈ t.mgmt.update.parts, p.1 ≠ b)
          ∧ (∀ m : Fin 2, m.val = u.target → b / 16 ∉ u.erased → t.mgmt.slots[m] = none))
        ∧ (b ∉ u.blocksDone → whole → ¬ right → Answers (.updateBlock q) q s .checkFail [.mgmt] fun t pay => pay = []
          ∧ t.mgmt.update.blocksDone = u.blocksDone ∧ t.mgmt.update.state = .receiving ∧ t.mgmt.slots = s.mgmt.slots
          ∧ ∀ p ∈ t.mgmt.update.parts, p.1 ≠ b)))
    ∧ (Taken 0x1012 0 q s →
      let ready := (u.state = .receiving ∨ u.state = .verified) ∧ u.activating = false ∧ u.blocksDone.length = (u.size + 4095) / 4096
      (pl ≠ [] → Sys2Proof.UpdateAnswers (.updateVerify q) q s .badParam [])
      ∧ (pl = [] → u.holder ≠ some q.session → Sys2Proof.UpdateAnswers (.updateVerify q) q s .notOwner [])
      ∧ (pl = [] → u.holder = some q.session → ¬ ready → Sys2Proof.UpdateAnswers (.updateVerify q) q s .wrongState [])
      ∧ (pl = [] → u.holder = some q.session → ready → busy → Sys2Proof.UpdateAnswers (.updateVerify q) q s .busy [])
      ∧ (pl = [] → u.holder = some q.session → ready → ¬ busy → Answers (.updateVerify q) q s .pending [.mgmt] fun t pay => pay = []
        ∧ started t ∧ t.mgmt = { s.mgmt with update := Sys2Proof.taken s q .pending { u with state := .verifying } }))
    ∧ (Taken 0x1013 0 q s →
      let ok := pl.length = 4 ∧ le32 pl 0 = 0x54414341
      let own := u.holder = some q.session
      let idle := ∀ c : Fin 14, (s.mbx.sess[c]).background = none
      (¬ ok → Sys2Proof.UpdateAnswers (.updateActivate q) q s .badParam [])
      ∧ (ok → ¬ own → Sys2Proof.UpdateAnswers (.updateActivate q) q s .notOwner [])
      ∧ (ok → own → u.state ≠ .verified → Sys2Proof.UpdateAnswers (.updateActivate q) q s .wrongState [])
      ∧ (ok → own → u.state = .verified → ¬ idle → Sys2Proof.UpdateAnswers (.updateActivate q) q s .busy [])
      ∧ (ok → own → u.state = .verified → idle → u.isLibrary = true → Answers (.updateActivate q) q s .ok [.mgmt] fun t pay => pay = []
        ∧ t.mgmt.update.holder = none ∧ t.mgmt.update.activating = true ∧ t.mgmt.mgtDown = s.mgmt.mgtDown)
      ∧ (ok → own → u.state = .verified → idle → u.isLibrary = false → s.mgmt.dev = .halted →
        Answers (.updateActivate q) q s .ok [.mgmt] fun t pay => pay = [] ∧ t.mgmt.update.holder = none ∧ t.mbx.resetAsked = true
          ∧ (bootHeader t.mgmt).2.activeSlot = u.target ∧ (bootHeader t.mgmt).2.trialSlot = none)
      ∧ (ok → own → u.state = .verified → idle → u.isLibrary = false → s.mgmt.dev ≠ .halted →
        Answers (.updateActivate q) q s .ok [.mgmt, .time, .flt, .evt, .pos, .ej] fun t pay => pay = [] ∧ t.mgmt.update.holder = none
          ∧ t.mgmt.dev = .pause ∧ t.mgmt.mgtDown = true ∧ t.mgmt.pause = some .activation ∧ t.mbx.isOpen = false
          ∧ (bootHeader t.mgmt).2.trialSlot = some u.target ∧ (bootHeader t.mgmt).2.attempts = 0 ∧ (bootHeader t.mgmt).2.trialS = u.trialS
          ∧ (bootHeader t.mgmt).2.activeSlot = (bootHeader s.mgmt).2.activeSlot))
    ∧ (Taken 0x1014 0 q s →
      (pl ≠ [] → Sys2Proof.UpdateAnswers (.updateAbort q) q s .badParam [])
      ∧ (pl = [] → s.mgmt.trial = true → mayUpdate s q.session = false → Sys2Proof.UpdateAnswers (.updateAbort q) q s .denied [])
      ∧ (pl = [] → s.mgmt.trial = true → mayUpdate s q.session = true →
        Answers (.updateAbort q) q s .ok [.mgmt, .time, .flt, .evt, .pos, .ej] fun t pay => pay = [] ∧ t.mgmt.dev = .pause
          ∧ t.mgmt.mgtDown = true ∧ t.mgmt.pause = some .fallback ∧ t.mbx.isOpen = false ∧ (bootHeader t.mgmt).2.trialSlot = none)
      ∧ (pl = [] → s.mgmt.trial = false → u.holder = none → Sys2Proof.UpdateAnswers (.updateAbort q) q s .wrongState [])
      ∧ (∀ h, pl = [] → s.mgmt.trial = false → u.holder = some h → h ≠ q.session → Sys2Proof.UpdateAnswers (.updateAbort q) q s .notOwner [])
      ∧ (pl = [] → s.mgmt.trial = false → u.holder = some q.session → Answers (.updateAbort q) q s .ok [.mgmt] fun t pay => pay = []
        ∧ t.mgmt.update = { lastStatus := 0, trialS := u.trialS }
        ∧ ∀ m : Fin 2, m.val = u.target → t.mgmt.slots[m] = if u.state = .idle then s.mgmt.slots[m] else none))
    ∧ (Taken 0x1015 0 q s → pl = [] → Answers (.updateStatus q) q s .ok [] fun _ pay => pay.length = 20
      ∧ byteAt pay 0 = (if s.mgmt.trial then 4 else u.state.code) ∧ byteAt pay 1 = u.holder.getD 0xFF % 256
      ∧ le16 pay 2 = u.lastStatus % 65536 ∧ le32 pay 4 = u.blocksDone.length % 2 ^ 32 ∧ le32 pay 8 = (u.size + 4095) / 4096 % 2 ^ 32
      ∧ (u.holder = none → le32 pay 12 = 0) ∧ (s.mgmt.trial = false → le32 pay 16 = 0)))
  ∧ ∀ (k : Fin 14) (info : ImageInfo) (s : State),
    let u := s.mgmt.update
    let bg := (s.mbx.sess[k]).background
    let c := Instr.backgroundCommandDone k info
    (bg = none ∨ s.firmwareRuns = false → exec c s = .next s)
    ∧ ∀ q, bg = some q → s.firmwareRuns = true → s.mbx.queue = [] →
      let ends := fun (st : Status) (pay : List Byte) (l : List Part) (p : State → Prop) =>
        ∃ t, exec c s = .next t ∧ SameBut (.mbx :: l) s t ∧ (t.mbx.sess[k]).background = none
          ∧ (∀ a r, (s.mbx.sess[k]).last = some (a, r) → sameRequest a q = true →
            (t.mbx.sess[k]).last = some (a, { r with status := st, payload := pay })) ∧ p t
      (∀ w, q.opcode = 0x1003 → s.mgmt.settingsWork = [w] → w.session = k.val → s.mgmt.trial = false →
        ends .ok (bytesOf 4 (nextGeneration s.mgmt)) [.mgmt] fun t => t.mgmt.settingsWork = [] ∧ ∃ n st, committedStore t.mgmt = some (n, st)
          ∧ st.generation = nextGeneration s.mgmt ∧ ∀ o p, SettingsRecord.command o p ∈ st.records ↔ SettingsRecord.command o p ∈ w.records)
      ∧ (∀ w, q.opcode = 0x1004 → s.mgmt.settingsWork = [w] → w.session = k.val →
        (recordsGoOn s = true → ends .ok (bytesOf 4 w.generation) [.mgmt] fun t => t.mgmt = { s.mgmt with settingsWork := [] })
        ∧ (recordsGoOn s = false → exec c s = .next s))
      ∧ (q.opcode = 0x1012 → u.state = .verifying →
        let valid := imageValid s.mgmt info = true ∧ info.librarySlot < 16
        (valid → ends .ok (bytesOf 4 info.rollback ++ bytesOf 4 info.version) [.mgmt] fun t => t.mgmt.update.state = .verified
          ∧ t.mgmt.update.isLibrary = info.isLibrary ∧ t.mgmt.update.holder = u.holder
          ∧ ∀ m : Fin 2, m.val = u.target → t.mgmt.slots[m] = if info.isLibrary then s.mgmt.slots[m] else some info)
        ∧ (¬ valid → ends .checkFail [] [.mgmt] fun t => t.mgmt.update.state = .receiving ∧ t.mgmt.update.blocksDone = []
          ∧ t.mgmt.update.holder = u.holder ∧ t.mgmt.slots = s.mgmt.slots))
      ∧ (q.opcode = 0x0700 → (∃ x : Fin 12, (le16 q.payload 0).testBit x.val = true ∧ (s.eng.cluster[x]).state ≠ .disabled) →
        ends .wrongState [] [] fun _ => True)

/-- The command at the front of the queue is what a step carries out, on the state with the queue's rest; on an empty queue 4 ns pass
and nothing is queued (the model's own form of a block; 01 R13 gives the 4 ns). -/
def Obligations.StepTakesFront : Prop :=
  (∀ (s : State) (c : Instr) (rest : List Instr), s.pending = c :: rest → step s = exec c { s with pending := rest })
  ∧ ∀ s : State, s.pending = [] → ∃ t, step s = .next t ∧ t.pending = [] ∧ t.now = s.now + 4

/-- Each resource has at most one holder (17 R400). -/
def Sys2Proof.OneHolder (s : State) : Prop := (s.mbx.claims.map (·.1)).Nodup

/-- After a cold reset memory is blank, no command waits, no resource is held; until PIPE_CONFIG a pipe has 4 channels of 16 bits on
QE0 and TB0, bank 0 of the rules is active and all OFF with ACCEPT, TB0 counts from zero and TB1 to TB3 are OFF, ports have no protocol, nothing runs (00 R7;
02 R34; 03 R65, R71, R491; 08 R196; 11 R279; 12 R289). -/
def Obligations.ResetState : Prop :=
  let s := State.reset
  MemCanonical s ∧ Sys2Proof.OneHolder s ∧ (∀ a, memRead s.mem a = blank a) ∧ s.pending = [] ∧ s.mbx.claims = [] ∧ s.mbx.isOpen = false
  ∧ (∀ p : Fin 12, (s.pipe[p]).channels = 4 ∧ (s.pipe[p]).depth = 16 ∧ (s.pipe[p]).posCh = 0 ∧ (s.pipe[p]).tb = 0
    ∧ (s.pipe[p]).unit = .disabled ∧ (s.pipe[p]).lineNumber = 0 ∧ (s.pipe[p]).boltNumber = 0)
  ∧ (∀ p : Fin 12, (s.cam.port[p]).config = none)
  ∧ s.gust.act = 0 ∧ (s.gust.bank[(0 : Fin 2)]).loaded = true ∧ (s.gust.bank[(0 : Fin 2)]).default = 1
  ∧ (s.gust.bank[(0 : Fin 2)]).rules = List.replicate 256 {} ∧ (s.gust.bank[(1 : Fin 2)]).loaded = false ∧ (s.gust.bank[(1 : Fin 2)]).default = 0
  ∧ (∀ b : Fin 4, (s.time.tb[b]).state = (if b = 0 then .free else .off) ∧ (s.time.tb[b]).valid = false)
  ∧ (∀ l : Fin 4, (s.ej.link[l]).arm = 0 ∧ (s.ej.link[l]).safe = List.replicate 64 0)
  ∧ (∀ e : Fin 192, (s.eng.eng[e]).state = .off ∧ (s.eng.eng[e]).fenceCount = 0)
  ∧ (∀ r : Fin 16, (s.outp.ring[r]).state = .disabled) ∧ (∀ k : DmaSel, (s.chan k).state = .disabled)

/-- Every command, in any state, has an effect and ends in a next state; the queue and the clock stay as they are (the model's own form
of a block). -/
def Obligations.EveryCommandCompletes : Prop :=
  ∀ (c : Instr) (s : State), ∃ t, exec c s = .next t ∧ t.pending = s.pending ∧ t.now = s.now

/-- Every step keeps the memory in its one form, with addresses rising and no cell that is blank, and one holder for each resource
(17 R400; the form of the memory is the model's own). -/
def Obligations.StepKeepsInvariant : Prop :=
  ∀ s t : State, MemCanonical s → Sys2Proof.OneHolder s → step s = .next t → MemCanonical t ∧ Sys2Proof.OneHolder t
end

