-- ==== Sys2Proof/Laws/State.lean ====
section
/-! SUPPORT. What each update of a part does to each field of the state: one equation per field, so that no later
proof unfolds a record update. -/

namespace Sys2Proof.Machine

variable (s : State)

/-! ### `State.setMgmt` -/

@[simp] theorem State.setMgmt_pending (f : MgmtBlock → MgmtBlock) : (s.setMgmt f).pending = s.pending := rfl
@[simp] theorem State.setMgmt_now (f : MgmtBlock → MgmtBlock) : (s.setMgmt f).now = s.now := rfl
@[simp] theorem State.setMgmt_freeCount (f : MgmtBlock → MgmtBlock) : (s.setMgmt f).freeCount = s.freeCount := rfl
@[simp] theorem State.setMgmt_out (f : MgmtBlock → MgmtBlock) : (s.setMgmt f).out = s.out := rfl
@[simp] theorem State.setMgmt_readData (f : MgmtBlock → MgmtBlock) : (s.setMgmt f).readData = s.readData := rfl
@[simp] theorem State.setMgmt_readBytes (f : MgmtBlock → MgmtBlock) : (s.setMgmt f).readBytes = s.readBytes := rfl
@[simp] theorem State.setMgmt_mem (f : MgmtBlock → MgmtBlock) : (s.setMgmt f).mem = s.mem := rfl
@[simp] theorem State.setMgmt_time (f : MgmtBlock → MgmtBlock) : (s.setMgmt f).time = s.time := rfl
@[simp] theorem State.setMgmt_pos (f : MgmtBlock → MgmtBlock) : (s.setMgmt f).pos = s.pos := rfl
@[simp] theorem State.setMgmt_evt (f : MgmtBlock → MgmtBlock) : (s.setMgmt f).evt = s.evt := rfl
@[simp] theorem State.setMgmt_flt (f : MgmtBlock → MgmtBlock) : (s.setMgmt f).flt = s.flt := rfl
@[simp] theorem State.setMgmt_mgmt (f : MgmtBlock → MgmtBlock) : (s.setMgmt f).mgmt = f s.mgmt := rfl
@[simp] theorem State.setMgmt_power (f : MgmtBlock → MgmtBlock) : (s.setMgmt f).power = s.power := rfl
@[simp] theorem State.setMgmt_host (f : MgmtBlock → MgmtBlock) : (s.setMgmt f).host = s.host := rfl
@[simp] theorem State.setMgmt_mbx (f : MgmtBlock → MgmtBlock) : (s.setMgmt f).mbx = s.mbx := rfl
@[simp] theorem State.setMgmt_cam (f : MgmtBlock → MgmtBlock) : (s.setMgmt f).cam = s.cam := rfl
@[simp] theorem State.setMgmt_pipe (f : MgmtBlock → MgmtBlock) : (s.setMgmt f).pipe = s.pipe := rfl
@[simp] theorem State.setMgmt_stitch (f : MgmtBlock → MgmtBlock) : (s.setMgmt f).stitch = s.stitch := rfl
@[simp] theorem State.setMgmt_seg (f : MgmtBlock → MgmtBlock) : (s.setMgmt f).seg = s.seg := rfl
@[simp] theorem State.setMgmt_gust (f : MgmtBlock → MgmtBlock) : (s.setMgmt f).gust = s.gust := rfl
@[simp] theorem State.setMgmt_ej (f : MgmtBlock → MgmtBlock) : (s.setMgmt f).ej = s.ej := rfl
@[simp] theorem State.setMgmt_eng (f : MgmtBlock → MgmtBlock) : (s.setMgmt f).eng = s.eng := rfl
@[simp] theorem State.setMgmt_outp (f : MgmtBlock → MgmtBlock) : (s.setMgmt f).outp = s.outp := rfl
@[simp] theorem State.setMgmt_net (f : MgmtBlock → MgmtBlock) : (s.setMgmt f).net = s.net := rfl
@[simp] theorem State.setMgmt_station (f : MgmtBlock → MgmtBlock) : (s.setMgmt f).station = s.station := rfl
@[simp] theorem State.setMgmt_dram (f : MgmtBlock → MgmtBlock) : (s.setMgmt f).dram = s.dram := rfl
@[simp] theorem State.setMgmt_eccBad (f : MgmtBlock → MgmtBlock) : (s.setMgmt f).eccBad = s.eccBad := rfl
@[simp] theorem State.setMgmt_eccSoft (f : MgmtBlock → MgmtBlock) : (s.setMgmt f).eccSoft = s.eccSoft := rfl

/-! ### `State.setPower` -/

@[simp] theorem State.setPower_pending (f : PowerBlock → PowerBlock) : (s.setPower f).pending = s.pending := rfl
@[simp] theorem State.setPower_now (f : PowerBlock → PowerBlock) : (s.setPower f).now = s.now := rfl
@[simp] theorem State.setPower_freeCount (f : PowerBlock → PowerBlock) : (s.setPower f).freeCount = s.freeCount := rfl
@[simp] theorem State.setPower_out (f : PowerBlock → PowerBlock) : (s.setPower f).out = s.out := rfl
@[simp] theorem State.setPower_readData (f : PowerBlock → PowerBlock) : (s.setPower f).readData = s.readData := rfl
@[simp] theorem State.setPower_readBytes (f : PowerBlock → PowerBlock) : (s.setPower f).readBytes = s.readBytes := rfl
@[simp] theorem State.setPower_mem (f : PowerBlock → PowerBlock) : (s.setPower f).mem = s.mem := rfl
@[simp] theorem State.setPower_time (f : PowerBlock → PowerBlock) : (s.setPower f).time = s.time := rfl
@[simp] theorem State.setPower_pos (f : PowerBlock → PowerBlock) : (s.setPower f).pos = s.pos := rfl
@[simp] theorem State.setPower_evt (f : PowerBlock → PowerBlock) : (s.setPower f).evt = s.evt := rfl
@[simp] theorem State.setPower_flt (f : PowerBlock → PowerBlock) : (s.setPower f).flt = s.flt := rfl
@[simp] theorem State.setPower_mgmt (f : PowerBlock → PowerBlock) : (s.setPower f).mgmt = s.mgmt := rfl
@[simp] theorem State.setPower_power (f : PowerBlock → PowerBlock) : (s.setPower f).power = f s.power := rfl
@[simp] theorem State.setPower_host (f : PowerBlock → PowerBlock) : (s.setPower f).host = s.host := rfl
@[simp] theorem State.setPower_mbx (f : PowerBlock → PowerBlock) : (s.setPower f).mbx = s.mbx := rfl
@[simp] theorem State.setPower_cam (f : PowerBlock → PowerBlock) : (s.setPower f).cam = s.cam := rfl
@[simp] theorem State.setPower_pipe (f : PowerBlock → PowerBlock) : (s.setPower f).pipe = s.pipe := rfl
@[simp] theorem State.setPower_stitch (f : PowerBlock → PowerBlock) : (s.setPower f).stitch = s.stitch := rfl
@[simp] theorem State.setPower_seg (f : PowerBlock → PowerBlock) : (s.setPower f).seg = s.seg := rfl
@[simp] theorem State.setPower_gust (f : PowerBlock → PowerBlock) : (s.setPower f).gust = s.gust := rfl
@[simp] theorem State.setPower_ej (f : PowerBlock → PowerBlock) : (s.setPower f).ej = s.ej := rfl
@[simp] theorem State.setPower_eng (f : PowerBlock → PowerBlock) : (s.setPower f).eng = s.eng := rfl
@[simp] theorem State.setPower_outp (f : PowerBlock → PowerBlock) : (s.setPower f).outp = s.outp := rfl
@[simp] theorem State.setPower_net (f : PowerBlock → PowerBlock) : (s.setPower f).net = s.net := rfl
@[simp] theorem State.setPower_station (f : PowerBlock → PowerBlock) : (s.setPower f).station = s.station := rfl
@[simp] theorem State.setPower_dram (f : PowerBlock → PowerBlock) : (s.setPower f).dram = s.dram := rfl
@[simp] theorem State.setPower_eccBad (f : PowerBlock → PowerBlock) : (s.setPower f).eccBad = s.eccBad := rfl
@[simp] theorem State.setPower_eccSoft (f : PowerBlock → PowerBlock) : (s.setPower f).eccSoft = s.eccSoft := rfl

/-! ### `State.setFlt` -/

@[simp] theorem State.setFlt_pending (f : FltBlock → FltBlock) : (s.setFlt f).pending = s.pending := rfl
@[simp] theorem State.setFlt_now (f : FltBlock → FltBlock) : (s.setFlt f).now = s.now := rfl
@[simp] theorem State.setFlt_freeCount (f : FltBlock → FltBlock) : (s.setFlt f).freeCount = s.freeCount := rfl
@[simp] theorem State.setFlt_out (f : FltBlock → FltBlock) : (s.setFlt f).out = s.out := rfl
@[simp] theorem State.setFlt_readData (f : FltBlock → FltBlock) : (s.setFlt f).readData = s.readData := rfl
@[simp] theorem State.setFlt_readBytes (f : FltBlock → FltBlock) : (s.setFlt f).readBytes = s.readBytes := rfl
@[simp] theorem State.setFlt_mem (f : FltBlock → FltBlock) : (s.setFlt f).mem = s.mem := rfl
@[simp] theorem State.setFlt_time (f : FltBlock → FltBlock) : (s.setFlt f).time = s.time := rfl
@[simp] theorem State.setFlt_pos (f : FltBlock → FltBlock) : (s.setFlt f).pos = s.pos := rfl
@[simp] theorem State.setFlt_evt (f : FltBlock → FltBlock) : (s.setFlt f).evt = s.evt := rfl
@[simp] theorem State.setFlt_flt (f : FltBlock → FltBlock) : (s.setFlt f).flt = f s.flt := rfl
@[simp] theorem State.setFlt_mgmt (f : FltBlock → FltBlock) : (s.setFlt f).mgmt = s.mgmt := rfl
@[simp] theorem State.setFlt_power (f : FltBlock → FltBlock) : (s.setFlt f).power = s.power := rfl
@[simp] theorem State.setFlt_host (f : FltBlock → FltBlock) : (s.setFlt f).host = s.host := rfl
@[simp] theorem State.setFlt_mbx (f : FltBlock → FltBlock) : (s.setFlt f).mbx = s.mbx := rfl
@[simp] theorem State.setFlt_cam (f : FltBlock → FltBlock) : (s.setFlt f).cam = s.cam := rfl
@[simp] theorem State.setFlt_pipe (f : FltBlock → FltBlock) : (s.setFlt f).pipe = s.pipe := rfl
@[simp] theorem State.setFlt_stitch (f : FltBlock → FltBlock) : (s.setFlt f).stitch = s.stitch := rfl
@[simp] theorem State.setFlt_seg (f : FltBlock → FltBlock) : (s.setFlt f).seg = s.seg := rfl
@[simp] theorem State.setFlt_gust (f : FltBlock → FltBlock) : (s.setFlt f).gust = s.gust := rfl
@[simp] theorem State.setFlt_ej (f : FltBlock → FltBlock) : (s.setFlt f).ej = s.ej := rfl
@[simp] theorem State.setFlt_eng (f : FltBlock → FltBlock) : (s.setFlt f).eng = s.eng := rfl
@[simp] theorem State.setFlt_outp (f : FltBlock → FltBlock) : (s.setFlt f).outp = s.outp := rfl
@[simp] theorem State.setFlt_net (f : FltBlock → FltBlock) : (s.setFlt f).net = s.net := rfl
@[simp] theorem State.setFlt_station (f : FltBlock → FltBlock) : (s.setFlt f).station = s.station := rfl
@[simp] theorem State.setFlt_dram (f : FltBlock → FltBlock) : (s.setFlt f).dram = s.dram := rfl
@[simp] theorem State.setFlt_eccBad (f : FltBlock → FltBlock) : (s.setFlt f).eccBad = s.eccBad := rfl
@[simp] theorem State.setFlt_eccSoft (f : FltBlock → FltBlock) : (s.setFlt f).eccSoft = s.eccSoft := rfl

/-! ### `State.setTb` -/

@[simp] theorem State.setTb_pending (b : Fin 4) (f : TimeBase → TimeBase) : (s.setTb b f).pending = s.pending := rfl
@[simp] theorem State.setTb_now (b : Fin 4) (f : TimeBase → TimeBase) : (s.setTb b f).now = s.now := rfl
@[simp] theorem State.setTb_freeCount (b : Fin 4) (f : TimeBase → TimeBase) : (s.setTb b f).freeCount = s.freeCount := rfl
@[simp] theorem State.setTb_out (b : Fin 4) (f : TimeBase → TimeBase) : (s.setTb b f).out = s.out := rfl
@[simp] theorem State.setTb_readData (b : Fin 4) (f : TimeBase → TimeBase) : (s.setTb b f).readData = s.readData := rfl
@[simp] theorem State.setTb_readBytes (b : Fin 4) (f : TimeBase → TimeBase) : (s.setTb b f).readBytes = s.readBytes := rfl
@[simp] theorem State.setTb_mem (b : Fin 4) (f : TimeBase → TimeBase) : (s.setTb b f).mem = s.mem := rfl
@[simp] theorem State.setTb_time (b : Fin 4) (f : TimeBase → TimeBase) : (s.setTb b f).time = { s.time with tb := upd s.time.tb b f } := rfl
@[simp] theorem State.setTb_pos (b : Fin 4) (f : TimeBase → TimeBase) : (s.setTb b f).pos = s.pos := rfl
@[simp] theorem State.setTb_evt (b : Fin 4) (f : TimeBase → TimeBase) : (s.setTb b f).evt = s.evt := rfl
@[simp] theorem State.setTb_flt (b : Fin 4) (f : TimeBase → TimeBase) : (s.setTb b f).flt = s.flt := rfl
@[simp] theorem State.setTb_mgmt (b : Fin 4) (f : TimeBase → TimeBase) : (s.setTb b f).mgmt = s.mgmt := rfl
@[simp] theorem State.setTb_power (b : Fin 4) (f : TimeBase → TimeBase) : (s.setTb b f).power = s.power := rfl
@[simp] theorem State.setTb_host (b : Fin 4) (f : TimeBase → TimeBase) : (s.setTb b f).host = s.host := rfl
@[simp] theorem State.setTb_mbx (b : Fin 4) (f : TimeBase → TimeBase) : (s.setTb b f).mbx = s.mbx := rfl
@[simp] theorem State.setTb_cam (b : Fin 4) (f : TimeBase → TimeBase) : (s.setTb b f).cam = s.cam := rfl
@[simp] theorem State.setTb_pipe (b : Fin 4) (f : TimeBase → TimeBase) : (s.setTb b f).pipe = s.pipe := rfl
@[simp] theorem State.setTb_stitch (b : Fin 4) (f : TimeBase → TimeBase) : (s.setTb b f).stitch = s.stitch := rfl
@[simp] theorem State.setTb_seg (b : Fin 4) (f : TimeBase → TimeBase) : (s.setTb b f).seg = s.seg := rfl
@[simp] theorem State.setTb_gust (b : Fin 4) (f : TimeBase → TimeBase) : (s.setTb b f).gust = s.gust := rfl
@[simp] theorem State.setTb_ej (b : Fin 4) (f : TimeBase → TimeBase) : (s.setTb b f).ej = s.ej := rfl
@[simp] theorem State.setTb_eng (b : Fin 4) (f : TimeBase → TimeBase) : (s.setTb b f).eng = s.eng := rfl
@[simp] theorem State.setTb_outp (b : Fin 4) (f : TimeBase → TimeBase) : (s.setTb b f).outp = s.outp := rfl
@[simp] theorem State.setTb_net (b : Fin 4) (f : TimeBase → TimeBase) : (s.setTb b f).net = s.net := rfl
@[simp] theorem State.setTb_station (b : Fin 4) (f : TimeBase → TimeBase) : (s.setTb b f).station = s.station := rfl
@[simp] theorem State.setTb_dram (b : Fin 4) (f : TimeBase → TimeBase) : (s.setTb b f).dram = s.dram := rfl
@[simp] theorem State.setTb_eccBad (b : Fin 4) (f : TimeBase → TimeBase) : (s.setTb b f).eccBad = s.eccBad := rfl
@[simp] theorem State.setTb_eccSoft (b : Fin 4) (f : TimeBase → TimeBase) : (s.setTb b f).eccSoft = s.eccSoft := rfl

/-! ### `State.setCap` -/

@[simp] theorem State.setCap_pending (k : Fin 8) (f : CapUnit → CapUnit) : (s.setCap k f).pending = s.pending := rfl
@[simp] theorem State.setCap_now (k : Fin 8) (f : CapUnit → CapUnit) : (s.setCap k f).now = s.now := rfl
@[simp] theorem State.setCap_freeCount (k : Fin 8) (f : CapUnit → CapUnit) : (s.setCap k f).freeCount = s.freeCount := rfl
@[simp] theorem State.setCap_out (k : Fin 8) (f : CapUnit → CapUnit) : (s.setCap k f).out = s.out := rfl
@[simp] theorem State.setCap_readData (k : Fin 8) (f : CapUnit → CapUnit) : (s.setCap k f).readData = s.readData := rfl
@[simp] theorem State.setCap_readBytes (k : Fin 8) (f : CapUnit → CapUnit) : (s.setCap k f).readBytes = s.readBytes := rfl
@[simp] theorem State.setCap_mem (k : Fin 8) (f : CapUnit → CapUnit) : (s.setCap k f).mem = s.mem := rfl
@[simp] theorem State.setCap_time (k : Fin 8) (f : CapUnit → CapUnit) : (s.setCap k f).time = { s.time with cap := upd s.time.cap k f } := rfl
@[simp] theorem State.setCap_pos (k : Fin 8) (f : CapUnit → CapUnit) : (s.setCap k f).pos = s.pos := rfl
@[simp] theorem State.setCap_evt (k : Fin 8) (f : CapUnit → CapUnit) : (s.setCap k f).evt = s.evt := rfl
@[simp] theorem State.setCap_flt (k : Fin 8) (f : CapUnit → CapUnit) : (s.setCap k f).flt = s.flt := rfl
@[simp] theorem State.setCap_mgmt (k : Fin 8) (f : CapUnit → CapUnit) : (s.setCap k f).mgmt = s.mgmt := rfl
@[simp] theorem State.setCap_power (k : Fin 8) (f : CapUnit → CapUnit) : (s.setCap k f).power = s.power := rfl
@[simp] theorem State.setCap_host (k : Fin 8) (f : CapUnit → CapUnit) : (s.setCap k f).host = s.host := rfl
@[simp] theorem State.setCap_mbx (k : Fin 8) (f : CapUnit → CapUnit) : (s.setCap k f).mbx = s.mbx := rfl
@[simp] theorem State.setCap_cam (k : Fin 8) (f : CapUnit → CapUnit) : (s.setCap k f).cam = s.cam := rfl
@[simp] theorem State.setCap_pipe (k : Fin 8) (f : CapUnit → CapUnit) : (s.setCap k f).pipe = s.pipe := rfl
@[simp] theorem State.setCap_stitch (k : Fin 8) (f : CapUnit → CapUnit) : (s.setCap k f).stitch = s.stitch := rfl
@[simp] theorem State.setCap_seg (k : Fin 8) (f : CapUnit → CapUnit) : (s.setCap k f).seg = s.seg := rfl
@[simp] theorem State.setCap_gust (k : Fin 8) (f : CapUnit → CapUnit) : (s.setCap k f).gust = s.gust := rfl
@[simp] theorem State.setCap_ej (k : Fin 8) (f : CapUnit → CapUnit) : (s.setCap k f).ej = s.ej := rfl
@[simp] theorem State.setCap_eng (k : Fin 8) (f : CapUnit → CapUnit) : (s.setCap k f).eng = s.eng := rfl
@[simp] theorem State.setCap_outp (k : Fin 8) (f : CapUnit → CapUnit) : (s.setCap k f).outp = s.outp := rfl
@[simp] theorem State.setCap_net (k : Fin 8) (f : CapUnit → CapUnit) : (s.setCap k f).net = s.net := rfl
@[simp] theorem State.setCap_station (k : Fin 8) (f : CapUnit → CapUnit) : (s.setCap k f).station = s.station := rfl
@[simp] theorem State.setCap_dram (k : Fin 8) (f : CapUnit → CapUnit) : (s.setCap k f).dram = s.dram := rfl
@[simp] theorem State.setCap_eccBad (k : Fin 8) (f : CapUnit → CapUnit) : (s.setCap k f).eccBad = s.eccBad := rfl
@[simp] theorem State.setCap_eccSoft (k : Fin 8) (f : CapUnit → CapUnit) : (s.setCap k f).eccSoft = s.eccSoft := rfl

/-! ### `State.setCmp` -/

@[simp] theorem State.setCmp_pending (k : Fin 8) (f : CmpUnit → CmpUnit) : (s.setCmp k f).pending = s.pending := rfl
@[simp] theorem State.setCmp_now (k : Fin 8) (f : CmpUnit → CmpUnit) : (s.setCmp k f).now = s.now := rfl
@[simp] theorem State.setCmp_freeCount (k : Fin 8) (f : CmpUnit → CmpUnit) : (s.setCmp k f).freeCount = s.freeCount := rfl
@[simp] theorem State.setCmp_out (k : Fin 8) (f : CmpUnit → CmpUnit) : (s.setCmp k f).out = s.out := rfl
@[simp] theorem State.setCmp_readData (k : Fin 8) (f : CmpUnit → CmpUnit) : (s.setCmp k f).readData = s.readData := rfl
@[simp] theorem State.setCmp_readBytes (k : Fin 8) (f : CmpUnit → CmpUnit) : (s.setCmp k f).readBytes = s.readBytes := rfl
@[simp] theorem State.setCmp_mem (k : Fin 8) (f : CmpUnit → CmpUnit) : (s.setCmp k f).mem = s.mem := rfl
@[simp] theorem State.setCmp_time (k : Fin 8) (f : CmpUnit → CmpUnit) : (s.setCmp k f).time = { s.time with cmp := upd s.time.cmp k f } := rfl
@[simp] theorem State.setCmp_pos (k : Fin 8) (f : CmpUnit → CmpUnit) : (s.setCmp k f).pos = s.pos := rfl
@[simp] theorem State.setCmp_evt (k : Fin 8) (f : CmpUnit → CmpUnit) : (s.setCmp k f).evt = s.evt := rfl
@[simp] theorem State.setCmp_flt (k : Fin 8) (f : CmpUnit → CmpUnit) : (s.setCmp k f).flt = s.flt := rfl
@[simp] theorem State.setCmp_mgmt (k : Fin 8) (f : CmpUnit → CmpUnit) : (s.setCmp k f).mgmt = s.mgmt := rfl
@[simp] theorem State.setCmp_power (k : Fin 8) (f : CmpUnit → CmpUnit) : (s.setCmp k f).power = s.power := rfl
@[simp] theorem State.setCmp_host (k : Fin 8) (f : CmpUnit → CmpUnit) : (s.setCmp k f).host = s.host := rfl
@[simp] theorem State.setCmp_mbx (k : Fin 8) (f : CmpUnit → CmpUnit) : (s.setCmp k f).mbx = s.mbx := rfl
@[simp] theorem State.setCmp_cam (k : Fin 8) (f : CmpUnit → CmpUnit) : (s.setCmp k f).cam = s.cam := rfl
@[simp] theorem State.setCmp_pipe (k : Fin 8) (f : CmpUnit → CmpUnit) : (s.setCmp k f).pipe = s.pipe := rfl
@[simp] theorem State.setCmp_stitch (k : Fin 8) (f : CmpUnit → CmpUnit) : (s.setCmp k f).stitch = s.stitch := rfl
@[simp] theorem State.setCmp_seg (k : Fin 8) (f : CmpUnit → CmpUnit) : (s.setCmp k f).seg = s.seg := rfl
@[simp] theorem State.setCmp_gust (k : Fin 8) (f : CmpUnit → CmpUnit) : (s.setCmp k f).gust = s.gust := rfl
@[simp] theorem State.setCmp_ej (k : Fin 8) (f : CmpUnit → CmpUnit) : (s.setCmp k f).ej = s.ej := rfl
@[simp] theorem State.setCmp_eng (k : Fin 8) (f : CmpUnit → CmpUnit) : (s.setCmp k f).eng = s.eng := rfl
@[simp] theorem State.setCmp_outp (k : Fin 8) (f : CmpUnit → CmpUnit) : (s.setCmp k f).outp = s.outp := rfl
@[simp] theorem State.setCmp_net (k : Fin 8) (f : CmpUnit → CmpUnit) : (s.setCmp k f).net = s.net := rfl
@[simp] theorem State.setCmp_station (k : Fin 8) (f : CmpUnit → CmpUnit) : (s.setCmp k f).station = s.station := rfl
@[simp] theorem State.setCmp_dram (k : Fin 8) (f : CmpUnit → CmpUnit) : (s.setCmp k f).dram = s.dram := rfl
@[simp] theorem State.setCmp_eccBad (k : Fin 8) (f : CmpUnit → CmpUnit) : (s.setCmp k f).eccBad = s.eccBad := rfl
@[simp] theorem State.setCmp_eccSoft (k : Fin 8) (f : CmpUnit → CmpUnit) : (s.setCmp k f).eccSoft = s.eccSoft := rfl

/-! ### `State.setPpsOut` -/

@[simp] theorem State.setPpsOut_pending (k : Fin 2) (f : PpsOut → PpsOut) : (s.setPpsOut k f).pending = s.pending := rfl
@[simp] theorem State.setPpsOut_now (k : Fin 2) (f : PpsOut → PpsOut) : (s.setPpsOut k f).now = s.now := rfl
@[simp] theorem State.setPpsOut_freeCount (k : Fin 2) (f : PpsOut → PpsOut) : (s.setPpsOut k f).freeCount = s.freeCount := rfl
@[simp] theorem State.setPpsOut_out (k : Fin 2) (f : PpsOut → PpsOut) : (s.setPpsOut k f).out = s.out := rfl
@[simp] theorem State.setPpsOut_readData (k : Fin 2) (f : PpsOut → PpsOut) : (s.setPpsOut k f).readData = s.readData := rfl
@[simp] theorem State.setPpsOut_readBytes (k : Fin 2) (f : PpsOut → PpsOut) : (s.setPpsOut k f).readBytes = s.readBytes := rfl
@[simp] theorem State.setPpsOut_mem (k : Fin 2) (f : PpsOut → PpsOut) : (s.setPpsOut k f).mem = s.mem := rfl
@[simp] theorem State.setPpsOut_time (k : Fin 2) (f : PpsOut → PpsOut) : (s.setPpsOut k f).time = { s.time with pps := { s.time.pps with out := upd s.time.pps.out k f } } := rfl
@[simp] theorem State.setPpsOut_pos (k : Fin 2) (f : PpsOut → PpsOut) : (s.setPpsOut k f).pos = s.pos := rfl
@[simp] theorem State.setPpsOut_evt (k : Fin 2) (f : PpsOut → PpsOut) : (s.setPpsOut k f).evt = s.evt := rfl
@[simp] theorem State.setPpsOut_flt (k : Fin 2) (f : PpsOut → PpsOut) : (s.setPpsOut k f).flt = s.flt := rfl
@[simp] theorem State.setPpsOut_mgmt (k : Fin 2) (f : PpsOut → PpsOut) : (s.setPpsOut k f).mgmt = s.mgmt := rfl
@[simp] theorem State.setPpsOut_power (k : Fin 2) (f : PpsOut → PpsOut) : (s.setPpsOut k f).power = s.power := rfl
@[simp] theorem State.setPpsOut_host (k : Fin 2) (f : PpsOut → PpsOut) : (s.setPpsOut k f).host = s.host := rfl
@[simp] theorem State.setPpsOut_mbx (k : Fin 2) (f : PpsOut → PpsOut) : (s.setPpsOut k f).mbx = s.mbx := rfl
@[simp] theorem State.setPpsOut_cam (k : Fin 2) (f : PpsOut → PpsOut) : (s.setPpsOut k f).cam = s.cam := rfl
@[simp] theorem State.setPpsOut_pipe (k : Fin 2) (f : PpsOut → PpsOut) : (s.setPpsOut k f).pipe = s.pipe := rfl
@[simp] theorem State.setPpsOut_stitch (k : Fin 2) (f : PpsOut → PpsOut) : (s.setPpsOut k f).stitch = s.stitch := rfl
@[simp] theorem State.setPpsOut_seg (k : Fin 2) (f : PpsOut → PpsOut) : (s.setPpsOut k f).seg = s.seg := rfl
@[simp] theorem State.setPpsOut_gust (k : Fin 2) (f : PpsOut → PpsOut) : (s.setPpsOut k f).gust = s.gust := rfl
@[simp] theorem State.setPpsOut_ej (k : Fin 2) (f : PpsOut → PpsOut) : (s.setPpsOut k f).ej = s.ej := rfl
@[simp] theorem State.setPpsOut_eng (k : Fin 2) (f : PpsOut → PpsOut) : (s.setPpsOut k f).eng = s.eng := rfl
@[simp] theorem State.setPpsOut_outp (k : Fin 2) (f : PpsOut → PpsOut) : (s.setPpsOut k f).outp = s.outp := rfl
@[simp] theorem State.setPpsOut_net (k : Fin 2) (f : PpsOut → PpsOut) : (s.setPpsOut k f).net = s.net := rfl
@[simp] theorem State.setPpsOut_station (k : Fin 2) (f : PpsOut → PpsOut) : (s.setPpsOut k f).station = s.station := rfl
@[simp] theorem State.setPpsOut_dram (k : Fin 2) (f : PpsOut → PpsOut) : (s.setPpsOut k f).dram = s.dram := rfl
@[simp] theorem State.setPpsOut_eccBad (k : Fin 2) (f : PpsOut → PpsOut) : (s.setPpsOut k f).eccBad = s.eccBad := rfl
@[simp] theorem State.setPpsOut_eccSoft (k : Fin 2) (f : PpsOut → PpsOut) : (s.setPpsOut k f).eccSoft = s.eccSoft := rfl

/-! ### `State.setDch` -/

@[simp] theorem State.setDch_pending (c : Fin 8) (f : DramChan → DramChan) : (s.setDch c f).pending = s.pending := rfl
@[simp] theorem State.setDch_now (c : Fin 8) (f : DramChan → DramChan) : (s.setDch c f).now = s.now := rfl
@[simp] theorem State.setDch_freeCount (c : Fin 8) (f : DramChan → DramChan) : (s.setDch c f).freeCount = s.freeCount := rfl
@[simp] theorem State.setDch_out (c : Fin 8) (f : DramChan → DramChan) : (s.setDch c f).out = s.out := rfl
@[simp] theorem State.setDch_readData (c : Fin 8) (f : DramChan → DramChan) : (s.setDch c f).readData = s.readData := rfl
@[simp] theorem State.setDch_readBytes (c : Fin 8) (f : DramChan → DramChan) : (s.setDch c f).readBytes = s.readBytes := rfl
@[simp] theorem State.setDch_mem (c : Fin 8) (f : DramChan → DramChan) : (s.setDch c f).mem = s.mem := rfl
@[simp] theorem State.setDch_time (c : Fin 8) (f : DramChan → DramChan) : (s.setDch c f).time = s.time := rfl
@[simp] theorem State.setDch_pos (c : Fin 8) (f : DramChan → DramChan) : (s.setDch c f).pos = s.pos := rfl
@[simp] theorem State.setDch_evt (c : Fin 8) (f : DramChan → DramChan) : (s.setDch c f).evt = s.evt := rfl
@[simp] theorem State.setDch_flt (c : Fin 8) (f : DramChan → DramChan) : (s.setDch c f).flt = s.flt := rfl
@[simp] theorem State.setDch_mgmt (c : Fin 8) (f : DramChan → DramChan) : (s.setDch c f).mgmt = s.mgmt := rfl
@[simp] theorem State.setDch_power (c : Fin 8) (f : DramChan → DramChan) : (s.setDch c f).power = s.power := rfl
@[simp] theorem State.setDch_host (c : Fin 8) (f : DramChan → DramChan) : (s.setDch c f).host = s.host := rfl
@[simp] theorem State.setDch_mbx (c : Fin 8) (f : DramChan → DramChan) : (s.setDch c f).mbx = s.mbx := rfl
@[simp] theorem State.setDch_cam (c : Fin 8) (f : DramChan → DramChan) : (s.setDch c f).cam = s.cam := rfl
@[simp] theorem State.setDch_pipe (c : Fin 8) (f : DramChan → DramChan) : (s.setDch c f).pipe = s.pipe := rfl
@[simp] theorem State.setDch_stitch (c : Fin 8) (f : DramChan → DramChan) : (s.setDch c f).stitch = s.stitch := rfl
@[simp] theorem State.setDch_seg (c : Fin 8) (f : DramChan → DramChan) : (s.setDch c f).seg = s.seg := rfl
@[simp] theorem State.setDch_gust (c : Fin 8) (f : DramChan → DramChan) : (s.setDch c f).gust = s.gust := rfl
@[simp] theorem State.setDch_ej (c : Fin 8) (f : DramChan → DramChan) : (s.setDch c f).ej = s.ej := rfl
@[simp] theorem State.setDch_eng (c : Fin 8) (f : DramChan → DramChan) : (s.setDch c f).eng = s.eng := rfl
@[simp] theorem State.setDch_outp (c : Fin 8) (f : DramChan → DramChan) : (s.setDch c f).outp = s.outp := rfl
@[simp] theorem State.setDch_net (c : Fin 8) (f : DramChan → DramChan) : (s.setDch c f).net = s.net := rfl
@[simp] theorem State.setDch_station (c : Fin 8) (f : DramChan → DramChan) : (s.setDch c f).station = s.station := rfl
@[simp] theorem State.setDch_dram (c : Fin 8) (f : DramChan → DramChan) : (s.setDch c f).dram = { s.dram with chan := upd s.dram.chan c f } := rfl
@[simp] theorem State.setDch_eccBad (c : Fin 8) (f : DramChan → DramChan) : (s.setDch c f).eccBad = s.eccBad := rfl
@[simp] theorem State.setDch_eccSoft (c : Fin 8) (f : DramChan → DramChan) : (s.setDch c f).eccSoft = s.eccSoft := rfl

/-! ### `State.setDport` -/

@[simp] theorem State.setDport_pending (k : Fin 5) (f : DramPort → DramPort) : (s.setDport k f).pending = s.pending := rfl
@[simp] theorem State.setDport_now (k : Fin 5) (f : DramPort → DramPort) : (s.setDport k f).now = s.now := rfl
@[simp] theorem State.setDport_freeCount (k : Fin 5) (f : DramPort → DramPort) : (s.setDport k f).freeCount = s.freeCount := rfl
@[simp] theorem State.setDport_out (k : Fin 5) (f : DramPort → DramPort) : (s.setDport k f).out = s.out := rfl
@[simp] theorem State.setDport_readData (k : Fin 5) (f : DramPort → DramPort) : (s.setDport k f).readData = s.readData := rfl
@[simp] theorem State.setDport_readBytes (k : Fin 5) (f : DramPort → DramPort) : (s.setDport k f).readBytes = s.readBytes := rfl
@[simp] theorem State.setDport_mem (k : Fin 5) (f : DramPort → DramPort) : (s.setDport k f).mem = s.mem := rfl
@[simp] theorem State.setDport_time (k : Fin 5) (f : DramPort → DramPort) : (s.setDport k f).time = s.time := rfl
@[simp] theorem State.setDport_pos (k : Fin 5) (f : DramPort → DramPort) : (s.setDport k f).pos = s.pos := rfl
@[simp] theorem State.setDport_evt (k : Fin 5) (f : DramPort → DramPort) : (s.setDport k f).evt = s.evt := rfl
@[simp] theorem State.setDport_flt (k : Fin 5) (f : DramPort → DramPort) : (s.setDport k f).flt = s.flt := rfl
@[simp] theorem State.setDport_mgmt (k : Fin 5) (f : DramPort → DramPort) : (s.setDport k f).mgmt = s.mgmt := rfl
@[simp] theorem State.setDport_power (k : Fin 5) (f : DramPort → DramPort) : (s.setDport k f).power = s.power := rfl
@[simp] theorem State.setDport_host (k : Fin 5) (f : DramPort → DramPort) : (s.setDport k f).host = s.host := rfl
@[simp] theorem State.setDport_mbx (k : Fin 5) (f : DramPort → DramPort) : (s.setDport k f).mbx = s.mbx := rfl
@[simp] theorem State.setDport_cam (k : Fin 5) (f : DramPort → DramPort) : (s.setDport k f).cam = s.cam := rfl
@[simp] theorem State.setDport_pipe (k : Fin 5) (f : DramPort → DramPort) : (s.setDport k f).pipe = s.pipe := rfl
@[simp] theorem State.setDport_stitch (k : Fin 5) (f : DramPort → DramPort) : (s.setDport k f).stitch = s.stitch := rfl
@[simp] theorem State.setDport_seg (k : Fin 5) (f : DramPort → DramPort) : (s.setDport k f).seg = s.seg := rfl
@[simp] theorem State.setDport_gust (k : Fin 5) (f : DramPort → DramPort) : (s.setDport k f).gust = s.gust := rfl
@[simp] theorem State.setDport_ej (k : Fin 5) (f : DramPort → DramPort) : (s.setDport k f).ej = s.ej := rfl
@[simp] theorem State.setDport_eng (k : Fin 5) (f : DramPort → DramPort) : (s.setDport k f).eng = s.eng := rfl
@[simp] theorem State.setDport_outp (k : Fin 5) (f : DramPort → DramPort) : (s.setDport k f).outp = s.outp := rfl
@[simp] theorem State.setDport_net (k : Fin 5) (f : DramPort → DramPort) : (s.setDport k f).net = s.net := rfl
@[simp] theorem State.setDport_station (k : Fin 5) (f : DramPort → DramPort) : (s.setDport k f).station = s.station := rfl
@[simp] theorem State.setDport_dram (k : Fin 5) (f : DramPort → DramPort) : (s.setDport k f).dram = { s.dram with port := upd s.dram.port k f } := rfl
@[simp] theorem State.setDport_eccBad (k : Fin 5) (f : DramPort → DramPort) : (s.setDport k f).eccBad = s.eccBad := rfl
@[simp] theorem State.setDport_eccSoft (k : Fin 5) (f : DramPort → DramPort) : (s.setDport k f).eccSoft = s.eccSoft := rfl

/-! ### `State.setEng` -/

@[simp] theorem State.setEng_pending (e : Fin 192) (f : Engine → Engine) : (s.setEng e f).pending = s.pending := rfl
@[simp] theorem State.setEng_now (e : Fin 192) (f : Engine → Engine) : (s.setEng e f).now = s.now := rfl
@[simp] theorem State.setEng_freeCount (e : Fin 192) (f : Engine → Engine) : (s.setEng e f).freeCount = s.freeCount := rfl
@[simp] theorem State.setEng_out (e : Fin 192) (f : Engine → Engine) : (s.setEng e f).out = s.out := rfl
@[simp] theorem State.setEng_readData (e : Fin 192) (f : Engine → Engine) : (s.setEng e f).readData = s.readData := rfl
@[simp] theorem State.setEng_readBytes (e : Fin 192) (f : Engine → Engine) : (s.setEng e f).readBytes = s.readBytes := rfl
@[simp] theorem State.setEng_mem (e : Fin 192) (f : Engine → Engine) : (s.setEng e f).mem = s.mem := rfl
@[simp] theorem State.setEng_time (e : Fin 192) (f : Engine → Engine) : (s.setEng e f).time = s.time := rfl
@[simp] theorem State.setEng_pos (e : Fin 192) (f : Engine → Engine) : (s.setEng e f).pos = s.pos := rfl
@[simp] theorem State.setEng_evt (e : Fin 192) (f : Engine → Engine) : (s.setEng e f).evt = s.evt := rfl
@[simp] theorem State.setEng_flt (e : Fin 192) (f : Engine → Engine) : (s.setEng e f).flt = s.flt := rfl
@[simp] theorem State.setEng_mgmt (e : Fin 192) (f : Engine → Engine) : (s.setEng e f).mgmt = s.mgmt := rfl
@[simp] theorem State.setEng_power (e : Fin 192) (f : Engine → Engine) : (s.setEng e f).power = s.power := rfl
@[simp] theorem State.setEng_host (e : Fin 192) (f : Engine → Engine) : (s.setEng e f).host = s.host := rfl
@[simp] theorem State.setEng_mbx (e : Fin 192) (f : Engine → Engine) : (s.setEng e f).mbx = s.mbx := rfl
@[simp] theorem State.setEng_cam (e : Fin 192) (f : Engine → Engine) : (s.setEng e f).cam = s.cam := rfl
@[simp] theorem State.setEng_pipe (e : Fin 192) (f : Engine → Engine) : (s.setEng e f).pipe = s.pipe := rfl
@[simp] theorem State.setEng_stitch (e : Fin 192) (f : Engine → Engine) : (s.setEng e f).stitch = s.stitch := rfl
@[simp] theorem State.setEng_seg (e : Fin 192) (f : Engine → Engine) : (s.setEng e f).seg = s.seg := rfl
@[simp] theorem State.setEng_gust (e : Fin 192) (f : Engine → Engine) : (s.setEng e f).gust = s.gust := rfl
@[simp] theorem State.setEng_ej (e : Fin 192) (f : Engine → Engine) : (s.setEng e f).ej = s.ej := rfl
@[simp] theorem State.setEng_eng (e : Fin 192) (f : Engine → Engine) : (s.setEng e f).eng = { s.eng with eng := upd s.eng.eng e f } := rfl
@[simp] theorem State.setEng_outp (e : Fin 192) (f : Engine → Engine) : (s.setEng e f).outp = s.outp := rfl
@[simp] theorem State.setEng_net (e : Fin 192) (f : Engine → Engine) : (s.setEng e f).net = s.net := rfl
@[simp] theorem State.setEng_station (e : Fin 192) (f : Engine → Engine) : (s.setEng e f).station = s.station := rfl
@[simp] theorem State.setEng_dram (e : Fin 192) (f : Engine → Engine) : (s.setEng e f).dram = s.dram := rfl
@[simp] theorem State.setEng_eccBad (e : Fin 192) (f : Engine → Engine) : (s.setEng e f).eccBad = s.eccBad := rfl
@[simp] theorem State.setEng_eccSoft (e : Fin 192) (f : Engine → Engine) : (s.setEng e f).eccSoft = s.eccSoft := rfl

/-! ### `State.setCluster` -/

@[simp] theorem State.setCluster_pending (c : Fin 12) (f : Cluster → Cluster) : (s.setCluster c f).pending = s.pending := rfl
@[simp] theorem State.setCluster_now (c : Fin 12) (f : Cluster → Cluster) : (s.setCluster c f).now = s.now := rfl
@[simp] theorem State.setCluster_freeCount (c : Fin 12) (f : Cluster → Cluster) : (s.setCluster c f).freeCount = s.freeCount := rfl
@[simp] theorem State.setCluster_out (c : Fin 12) (f : Cluster → Cluster) : (s.setCluster c f).out = s.out := rfl
@[simp] theorem State.setCluster_readData (c : Fin 12) (f : Cluster → Cluster) : (s.setCluster c f).readData = s.readData := rfl
@[simp] theorem State.setCluster_readBytes (c : Fin 12) (f : Cluster → Cluster) : (s.setCluster c f).readBytes = s.readBytes := rfl
@[simp] theorem State.setCluster_mem (c : Fin 12) (f : Cluster → Cluster) : (s.setCluster c f).mem = s.mem := rfl
@[simp] theorem State.setCluster_time (c : Fin 12) (f : Cluster → Cluster) : (s.setCluster c f).time = s.time := rfl
@[simp] theorem State.setCluster_pos (c : Fin 12) (f : Cluster → Cluster) : (s.setCluster c f).pos = s.pos := rfl
@[simp] theorem State.setCluster_evt (c : Fin 12) (f : Cluster → Cluster) : (s.setCluster c f).evt = s.evt := rfl
@[simp] theorem State.setCluster_flt (c : Fin 12) (f : Cluster → Cluster) : (s.setCluster c f).flt = s.flt := rfl
@[simp] theorem State.setCluster_mgmt (c : Fin 12) (f : Cluster → Cluster) : (s.setCluster c f).mgmt = s.mgmt := rfl
@[simp] theorem State.setCluster_power (c : Fin 12) (f : Cluster → Cluster) : (s.setCluster c f).power = s.power := rfl
@[simp] theorem State.setCluster_host (c : Fin 12) (f : Cluster → Cluster) : (s.setCluster c f).host = s.host := rfl
@[simp] theorem State.setCluster_mbx (c : Fin 12) (f : Cluster → Cluster) : (s.setCluster c f).mbx = s.mbx := rfl
@[simp] theorem State.setCluster_cam (c : Fin 12) (f : Cluster → Cluster) : (s.setCluster c f).cam = s.cam := rfl
@[simp] theorem State.setCluster_pipe (c : Fin 12) (f : Cluster → Cluster) : (s.setCluster c f).pipe = s.pipe := rfl
@[simp] theorem State.setCluster_stitch (c : Fin 12) (f : Cluster → Cluster) : (s.setCluster c f).stitch = s.stitch := rfl
@[simp] theorem State.setCluster_seg (c : Fin 12) (f : Cluster → Cluster) : (s.setCluster c f).seg = s.seg := rfl
@[simp] theorem State.setCluster_gust (c : Fin 12) (f : Cluster → Cluster) : (s.setCluster c f).gust = s.gust := rfl
@[simp] theorem State.setCluster_ej (c : Fin 12) (f : Cluster → Cluster) : (s.setCluster c f).ej = s.ej := rfl
@[simp] theorem State.setCluster_eng (c : Fin 12) (f : Cluster → Cluster) : (s.setCluster c f).eng = { s.eng with cluster := upd s.eng.cluster c f } := rfl
@[simp] theorem State.setCluster_outp (c : Fin 12) (f : Cluster → Cluster) : (s.setCluster c f).outp = s.outp := rfl
@[simp] theorem State.setCluster_net (c : Fin 12) (f : Cluster → Cluster) : (s.setCluster c f).net = s.net := rfl
@[simp] theorem State.setCluster_station (c : Fin 12) (f : Cluster → Cluster) : (s.setCluster c f).station = s.station := rfl
@[simp] theorem State.setCluster_dram (c : Fin 12) (f : Cluster → Cluster) : (s.setCluster c f).dram = s.dram := rfl
@[simp] theorem State.setCluster_eccBad (c : Fin 12) (f : Cluster → Cluster) : (s.setCluster c f).eccBad = s.eccBad := rfl
@[simp] theorem State.setCluster_eccSoft (c : Fin 12) (f : Cluster → Cluster) : (s.setCluster c f).eccSoft = s.eccSoft := rfl

/-! ### `State.setSide` -/

@[simp] theorem State.setSide_pending (d : Fin 2) (f : EllSide → EllSide) : (s.setSide d f).pending = s.pending := rfl
@[simp] theorem State.setSide_now (d : Fin 2) (f : EllSide → EllSide) : (s.setSide d f).now = s.now := rfl
@[simp] theorem State.setSide_freeCount (d : Fin 2) (f : EllSide → EllSide) : (s.setSide d f).freeCount = s.freeCount := rfl
@[simp] theorem State.setSide_out (d : Fin 2) (f : EllSide → EllSide) : (s.setSide d f).out = s.out := rfl
@[simp] theorem State.setSide_readData (d : Fin 2) (f : EllSide → EllSide) : (s.setSide d f).readData = s.readData := rfl
@[simp] theorem State.setSide_readBytes (d : Fin 2) (f : EllSide → EllSide) : (s.setSide d f).readBytes = s.readBytes := rfl
@[simp] theorem State.setSide_mem (d : Fin 2) (f : EllSide → EllSide) : (s.setSide d f).mem = s.mem := rfl
@[simp] theorem State.setSide_time (d : Fin 2) (f : EllSide → EllSide) : (s.setSide d f).time = s.time := rfl
@[simp] theorem State.setSide_pos (d : Fin 2) (f : EllSide → EllSide) : (s.setSide d f).pos = s.pos := rfl
@[simp] theorem State.setSide_evt (d : Fin 2) (f : EllSide → EllSide) : (s.setSide d f).evt = s.evt := rfl
@[simp] theorem State.setSide_flt (d : Fin 2) (f : EllSide → EllSide) : (s.setSide d f).flt = s.flt := rfl
@[simp] theorem State.setSide_mgmt (d : Fin 2) (f : EllSide → EllSide) : (s.setSide d f).mgmt = s.mgmt := rfl
@[simp] theorem State.setSide_power (d : Fin 2) (f : EllSide → EllSide) : (s.setSide d f).power = s.power := rfl
@[simp] theorem State.setSide_host (d : Fin 2) (f : EllSide → EllSide) : (s.setSide d f).host = s.host := rfl
@[simp] theorem State.setSide_mbx (d : Fin 2) (f : EllSide → EllSide) : (s.setSide d f).mbx = s.mbx := rfl
@[simp] theorem State.setSide_cam (d : Fin 2) (f : EllSide → EllSide) : (s.setSide d f).cam = s.cam := rfl
@[simp] theorem State.setSide_pipe (d : Fin 2) (f : EllSide → EllSide) : (s.setSide d f).pipe = s.pipe := rfl
@[simp] theorem State.setSide_stitch (d : Fin 2) (f : EllSide → EllSide) : (s.setSide d f).stitch = s.stitch := rfl
@[simp] theorem State.setSide_seg (d : Fin 2) (f : EllSide → EllSide) : (s.setSide d f).seg = s.seg := rfl
@[simp] theorem State.setSide_gust (d : Fin 2) (f : EllSide → EllSide) : (s.setSide d f).gust = s.gust := rfl
@[simp] theorem State.setSide_ej (d : Fin 2) (f : EllSide → EllSide) : (s.setSide d f).ej = s.ej := rfl
@[simp] theorem State.setSide_eng (d : Fin 2) (f : EllSide → EllSide) : (s.setSide d f).eng = s.eng := rfl
@[simp] theorem State.setSide_outp (d : Fin 2) (f : EllSide → EllSide) : (s.setSide d f).outp = s.outp := rfl
@[simp] theorem State.setSide_net (d : Fin 2) (f : EllSide → EllSide) : (s.setSide d f).net = s.net := rfl
@[simp] theorem State.setSide_station (d : Fin 2) (f : EllSide → EllSide) : (s.setSide d f).station = { s.station with side := upd s.station.side d f } := rfl
@[simp] theorem State.setSide_dram (d : Fin 2) (f : EllSide → EllSide) : (s.setSide d f).dram = s.dram := rfl
@[simp] theorem State.setSide_eccBad (d : Fin 2) (f : EllSide → EllSide) : (s.setSide d f).eccBad = s.eccBad := rfl
@[simp] theorem State.setSide_eccSoft (d : Fin 2) (f : EllSide → EllSide) : (s.setSide d f).eccSoft = s.eccSoft := rfl

/-! ### `State.setEth` -/

@[simp] theorem State.setEth_pending (n : Fin 4) (f : EthPort → EthPort) : (s.setEth n f).pending = s.pending := rfl
@[simp] theorem State.setEth_now (n : Fin 4) (f : EthPort → EthPort) : (s.setEth n f).now = s.now := rfl
@[simp] theorem State.setEth_freeCount (n : Fin 4) (f : EthPort → EthPort) : (s.setEth n f).freeCount = s.freeCount := rfl
@[simp] theorem State.setEth_out (n : Fin 4) (f : EthPort → EthPort) : (s.setEth n f).out = s.out := rfl
@[simp] theorem State.setEth_readData (n : Fin 4) (f : EthPort → EthPort) : (s.setEth n f).readData = s.readData := rfl
@[simp] theorem State.setEth_readBytes (n : Fin 4) (f : EthPort → EthPort) : (s.setEth n f).readBytes = s.readBytes := rfl
@[simp] theorem State.setEth_mem (n : Fin 4) (f : EthPort → EthPort) : (s.setEth n f).mem = s.mem := rfl
@[simp] theorem State.setEth_time (n : Fin 4) (f : EthPort → EthPort) : (s.setEth n f).time = s.time := rfl
@[simp] theorem State.setEth_pos (n : Fin 4) (f : EthPort → EthPort) : (s.setEth n f).pos = s.pos := rfl
@[simp] theorem State.setEth_evt (n : Fin 4) (f : EthPort → EthPort) : (s.setEth n f).evt = s.evt := rfl
@[simp] theorem State.setEth_flt (n : Fin 4) (f : EthPort → EthPort) : (s.setEth n f).flt = s.flt := rfl
@[simp] theorem State.setEth_mgmt (n : Fin 4) (f : EthPort → EthPort) : (s.setEth n f).mgmt = s.mgmt := rfl
@[simp] theorem State.setEth_power (n : Fin 4) (f : EthPort → EthPort) : (s.setEth n f).power = s.power := rfl
@[simp] theorem State.setEth_host (n : Fin 4) (f : EthPort → EthPort) : (s.setEth n f).host = s.host := rfl
@[simp] theorem State.setEth_mbx (n : Fin 4) (f : EthPort → EthPort) : (s.setEth n f).mbx = s.mbx := rfl
@[simp] theorem State.setEth_cam (n : Fin 4) (f : EthPort → EthPort) : (s.setEth n f).cam = s.cam := rfl
@[simp] theorem State.setEth_pipe (n : Fin 4) (f : EthPort → EthPort) : (s.setEth n f).pipe = s.pipe := rfl
@[simp] theorem State.setEth_stitch (n : Fin 4) (f : EthPort → EthPort) : (s.setEth n f).stitch = s.stitch := rfl
@[simp] theorem State.setEth_seg (n : Fin 4) (f : EthPort → EthPort) : (s.setEth n f).seg = s.seg := rfl
@[simp] theorem State.setEth_gust (n : Fin 4) (f : EthPort → EthPort) : (s.setEth n f).gust = s.gust := rfl
@[simp] theorem State.setEth_ej (n : Fin 4) (f : EthPort → EthPort) : (s.setEth n f).ej = s.ej := rfl
@[simp] theorem State.setEth_eng (n : Fin 4) (f : EthPort → EthPort) : (s.setEth n f).eng = s.eng := rfl
@[simp] theorem State.setEth_outp (n : Fin 4) (f : EthPort → EthPort) : (s.setEth n f).outp = s.outp := rfl
@[simp] theorem State.setEth_net (n : Fin 4) (f : EthPort → EthPort) : (s.setEth n f).net = { s.net with port := upd s.net.port n f } := rfl
@[simp] theorem State.setEth_station (n : Fin 4) (f : EthPort → EthPort) : (s.setEth n f).station = s.station := rfl
@[simp] theorem State.setEth_dram (n : Fin 4) (f : EthPort → EthPort) : (s.setEth n f).dram = s.dram := rfl
@[simp] theorem State.setEth_eccBad (n : Fin 4) (f : EthPort → EthPort) : (s.setEth n f).eccBad = s.eccBad := rfl
@[simp] theorem State.setEth_eccSoft (n : Fin 4) (f : EthPort → EthPort) : (s.setEth n f).eccSoft = s.eccSoft := rfl

/-! ### `State.setInst` -/

@[simp] theorem State.setInst_pending (n : Fin 4) (f : PtpInst → PtpInst) : (s.setInst n f).pending = s.pending := rfl
@[simp] theorem State.setInst_now (n : Fin 4) (f : PtpInst → PtpInst) : (s.setInst n f).now = s.now := rfl
@[simp] theorem State.setInst_freeCount (n : Fin 4) (f : PtpInst → PtpInst) : (s.setInst n f).freeCount = s.freeCount := rfl
@[simp] theorem State.setInst_out (n : Fin 4) (f : PtpInst → PtpInst) : (s.setInst n f).out = s.out := rfl
@[simp] theorem State.setInst_readData (n : Fin 4) (f : PtpInst → PtpInst) : (s.setInst n f).readData = s.readData := rfl
@[simp] theorem State.setInst_readBytes (n : Fin 4) (f : PtpInst → PtpInst) : (s.setInst n f).readBytes = s.readBytes := rfl
@[simp] theorem State.setInst_mem (n : Fin 4) (f : PtpInst → PtpInst) : (s.setInst n f).mem = s.mem := rfl
@[simp] theorem State.setInst_time (n : Fin 4) (f : PtpInst → PtpInst) : (s.setInst n f).time = s.time := rfl
@[simp] theorem State.setInst_pos (n : Fin 4) (f : PtpInst → PtpInst) : (s.setInst n f).pos = s.pos := rfl
@[simp] theorem State.setInst_evt (n : Fin 4) (f : PtpInst → PtpInst) : (s.setInst n f).evt = s.evt := rfl
@[simp] theorem State.setInst_flt (n : Fin 4) (f : PtpInst → PtpInst) : (s.setInst n f).flt = s.flt := rfl
@[simp] theorem State.setInst_mgmt (n : Fin 4) (f : PtpInst → PtpInst) : (s.setInst n f).mgmt = s.mgmt := rfl
@[simp] theorem State.setInst_power (n : Fin 4) (f : PtpInst → PtpInst) : (s.setInst n f).power = s.power := rfl
@[simp] theorem State.setInst_host (n : Fin 4) (f : PtpInst → PtpInst) : (s.setInst n f).host = s.host := rfl
@[simp] theorem State.setInst_mbx (n : Fin 4) (f : PtpInst → PtpInst) : (s.setInst n f).mbx = s.mbx := rfl
@[simp] theorem State.setInst_cam (n : Fin 4) (f : PtpInst → PtpInst) : (s.setInst n f).cam = s.cam := rfl
@[simp] theorem State.setInst_pipe (n : Fin 4) (f : PtpInst → PtpInst) : (s.setInst n f).pipe = s.pipe := rfl
@[simp] theorem State.setInst_stitch (n : Fin 4) (f : PtpInst → PtpInst) : (s.setInst n f).stitch = s.stitch := rfl
@[simp] theorem State.setInst_seg (n : Fin 4) (f : PtpInst → PtpInst) : (s.setInst n f).seg = s.seg := rfl
@[simp] theorem State.setInst_gust (n : Fin 4) (f : PtpInst → PtpInst) : (s.setInst n f).gust = s.gust := rfl
@[simp] theorem State.setInst_ej (n : Fin 4) (f : PtpInst → PtpInst) : (s.setInst n f).ej = s.ej := rfl
@[simp] theorem State.setInst_eng (n : Fin 4) (f : PtpInst → PtpInst) : (s.setInst n f).eng = s.eng := rfl
@[simp] theorem State.setInst_outp (n : Fin 4) (f : PtpInst → PtpInst) : (s.setInst n f).outp = s.outp := rfl
@[simp] theorem State.setInst_net (n : Fin 4) (f : PtpInst → PtpInst) : (s.setInst n f).net = { s.net with inst := upd s.net.inst n f } := rfl
@[simp] theorem State.setInst_station (n : Fin 4) (f : PtpInst → PtpInst) : (s.setInst n f).station = s.station := rfl
@[simp] theorem State.setInst_dram (n : Fin 4) (f : PtpInst → PtpInst) : (s.setInst n f).dram = s.dram := rfl
@[simp] theorem State.setInst_eccBad (n : Fin 4) (f : PtpInst → PtpInst) : (s.setInst n f).eccBad = s.eccBad := rfl
@[simp] theorem State.setInst_eccSoft (n : Fin 4) (f : PtpInst → PtpInst) : (s.setInst n f).eccSoft = s.eccSoft := rfl

/-! ### `State.setFathom` -/

@[simp] theorem State.setFathom_pending (p : Fin 12) (f : FathomPipe → FathomPipe) : (s.setFathom p f).pending = s.pending := rfl
@[simp] theorem State.setFathom_now (p : Fin 12) (f : FathomPipe → FathomPipe) : (s.setFathom p f).now = s.now := rfl
@[simp] theorem State.setFathom_freeCount (p : Fin 12) (f : FathomPipe → FathomPipe) : (s.setFathom p f).freeCount = s.freeCount := rfl
@[simp] theorem State.setFathom_out (p : Fin 12) (f : FathomPipe → FathomPipe) : (s.setFathom p f).out = s.out := rfl
@[simp] theorem State.setFathom_readData (p : Fin 12) (f : FathomPipe → FathomPipe) : (s.setFathom p f).readData = s.readData := rfl
@[simp] theorem State.setFathom_readBytes (p : Fin 12) (f : FathomPipe → FathomPipe) : (s.setFathom p f).readBytes = s.readBytes := rfl
@[simp] theorem State.setFathom_mem (p : Fin 12) (f : FathomPipe → FathomPipe) : (s.setFathom p f).mem = s.mem := rfl
@[simp] theorem State.setFathom_time (p : Fin 12) (f : FathomPipe → FathomPipe) : (s.setFathom p f).time = s.time := rfl
@[simp] theorem State.setFathom_pos (p : Fin 12) (f : FathomPipe → FathomPipe) : (s.setFathom p f).pos = s.pos := rfl
@[simp] theorem State.setFathom_evt (p : Fin 12) (f : FathomPipe → FathomPipe) : (s.setFathom p f).evt = s.evt := rfl
@[simp] theorem State.setFathom_flt (p : Fin 12) (f : FathomPipe → FathomPipe) : (s.setFathom p f).flt = s.flt := rfl
@[simp] theorem State.setFathom_mgmt (p : Fin 12) (f : FathomPipe → FathomPipe) : (s.setFathom p f).mgmt = s.mgmt := rfl
@[simp] theorem State.setFathom_power (p : Fin 12) (f : FathomPipe → FathomPipe) : (s.setFathom p f).power = s.power := rfl
@[simp] theorem State.setFathom_host (p : Fin 12) (f : FathomPipe → FathomPipe) : (s.setFathom p f).host = s.host := rfl
@[simp] theorem State.setFathom_mbx (p : Fin 12) (f : FathomPipe → FathomPipe) : (s.setFathom p f).mbx = s.mbx := rfl
@[simp] theorem State.setFathom_cam (p : Fin 12) (f : FathomPipe → FathomPipe) : (s.setFathom p f).cam = s.cam := rfl
@[simp] theorem State.setFathom_pipe (p : Fin 12) (f : FathomPipe → FathomPipe) : (s.setFathom p f).pipe = s.pipe := rfl
@[simp] theorem State.setFathom_stitch (p : Fin 12) (f : FathomPipe → FathomPipe) : (s.setFathom p f).stitch = s.stitch := rfl
@[simp] theorem State.setFathom_seg (p : Fin 12) (f : FathomPipe → FathomPipe) : (s.setFathom p f).seg = s.seg := rfl
@[simp] theorem State.setFathom_gust (p : Fin 12) (f : FathomPipe → FathomPipe) : (s.setFathom p f).gust = s.gust := rfl
@[simp] theorem State.setFathom_ej (p : Fin 12) (f : FathomPipe → FathomPipe) : (s.setFathom p f).ej = s.ej := rfl
@[simp] theorem State.setFathom_eng (p : Fin 12) (f : FathomPipe → FathomPipe) : (s.setFathom p f).eng = s.eng := rfl
@[simp] theorem State.setFathom_outp (p : Fin 12) (f : FathomPipe → FathomPipe) : (s.setFathom p f).outp = { s.outp with fathom := upd s.outp.fathom p f } := rfl
@[simp] theorem State.setFathom_net (p : Fin 12) (f : FathomPipe → FathomPipe) : (s.setFathom p f).net = s.net := rfl
@[simp] theorem State.setFathom_station (p : Fin 12) (f : FathomPipe → FathomPipe) : (s.setFathom p f).station = s.station := rfl
@[simp] theorem State.setFathom_dram (p : Fin 12) (f : FathomPipe → FathomPipe) : (s.setFathom p f).dram = s.dram := rfl
@[simp] theorem State.setFathom_eccBad (p : Fin 12) (f : FathomPipe → FathomPipe) : (s.setFathom p f).eccBad = s.eccBad := rfl
@[simp] theorem State.setFathom_eccSoft (p : Fin 12) (f : FathomPipe → FathomPipe) : (s.setFathom p f).eccSoft = s.eccSoft := rfl

/-! ### `State.setRing` -/

@[simp] theorem State.setRing_pending (r : Fin 16) (f : OutRing → OutRing) : (s.setRing r f).pending = s.pending := rfl
@[simp] theorem State.setRing_now (r : Fin 16) (f : OutRing → OutRing) : (s.setRing r f).now = s.now := rfl
@[simp] theorem State.setRing_freeCount (r : Fin 16) (f : OutRing → OutRing) : (s.setRing r f).freeCount = s.freeCount := rfl
@[simp] theorem State.setRing_out (r : Fin 16) (f : OutRing → OutRing) : (s.setRing r f).out = s.out := rfl
@[simp] theorem State.setRing_readData (r : Fin 16) (f : OutRing → OutRing) : (s.setRing r f).readData = s.readData := rfl
@[simp] theorem State.setRing_readBytes (r : Fin 16) (f : OutRing → OutRing) : (s.setRing r f).readBytes = s.readBytes := rfl
@[simp] theorem State.setRing_mem (r : Fin 16) (f : OutRing → OutRing) : (s.setRing r f).mem = s.mem := rfl
@[simp] theorem State.setRing_time (r : Fin 16) (f : OutRing → OutRing) : (s.setRing r f).time = s.time := rfl
@[simp] theorem State.setRing_pos (r : Fin 16) (f : OutRing → OutRing) : (s.setRing r f).pos = s.pos := rfl
@[simp] theorem State.setRing_evt (r : Fin 16) (f : OutRing → OutRing) : (s.setRing r f).evt = s.evt := rfl
@[simp] theorem State.setRing_flt (r : Fin 16) (f : OutRing → OutRing) : (s.setRing r f).flt = s.flt := rfl
@[simp] theorem State.setRing_mgmt (r : Fin 16) (f : OutRing → OutRing) : (s.setRing r f).mgmt = s.mgmt := rfl
@[simp] theorem State.setRing_power (r : Fin 16) (f : OutRing → OutRing) : (s.setRing r f).power = s.power := rfl
@[simp] theorem State.setRing_host (r : Fin 16) (f : OutRing → OutRing) : (s.setRing r f).host = s.host := rfl
@[simp] theorem State.setRing_mbx (r : Fin 16) (f : OutRing → OutRing) : (s.setRing r f).mbx = s.mbx := rfl
@[simp] theorem State.setRing_cam (r : Fin 16) (f : OutRing → OutRing) : (s.setRing r f).cam = s.cam := rfl
@[simp] theorem State.setRing_pipe (r : Fin 16) (f : OutRing → OutRing) : (s.setRing r f).pipe = s.pipe := rfl
@[simp] theorem State.setRing_stitch (r : Fin 16) (f : OutRing → OutRing) : (s.setRing r f).stitch = s.stitch := rfl
@[simp] theorem State.setRing_seg (r : Fin 16) (f : OutRing → OutRing) : (s.setRing r f).seg = s.seg := rfl
@[simp] theorem State.setRing_gust (r : Fin 16) (f : OutRing → OutRing) : (s.setRing r f).gust = s.gust := rfl
@[simp] theorem State.setRing_ej (r : Fin 16) (f : OutRing → OutRing) : (s.setRing r f).ej = s.ej := rfl
@[simp] theorem State.setRing_eng (r : Fin 16) (f : OutRing → OutRing) : (s.setRing r f).eng = s.eng := rfl
@[simp] theorem State.setRing_outp (r : Fin 16) (f : OutRing → OutRing) : (s.setRing r f).outp = { s.outp with ring := upd s.outp.ring r f } := rfl
@[simp] theorem State.setRing_net (r : Fin 16) (f : OutRing → OutRing) : (s.setRing r f).net = s.net := rfl
@[simp] theorem State.setRing_station (r : Fin 16) (f : OutRing → OutRing) : (s.setRing r f).station = s.station := rfl
@[simp] theorem State.setRing_dram (r : Fin 16) (f : OutRing → OutRing) : (s.setRing r f).dram = s.dram := rfl
@[simp] theorem State.setRing_eccBad (r : Fin 16) (f : OutRing → OutRing) : (s.setRing r f).eccBad = s.eccBad := rfl
@[simp] theorem State.setRing_eccSoft (r : Fin 16) (f : OutRing → OutRing) : (s.setRing r f).eccSoft = s.eccSoft := rfl

/-! ### `State.setStrip` -/

@[simp] theorem State.setStrip_pending (p : Fin 12) (f : StripUnit → StripUnit) : (s.setStrip p f).pending = s.pending := rfl
@[simp] theorem State.setStrip_now (p : Fin 12) (f : StripUnit → StripUnit) : (s.setStrip p f).now = s.now := rfl
@[simp] theorem State.setStrip_freeCount (p : Fin 12) (f : StripUnit → StripUnit) : (s.setStrip p f).freeCount = s.freeCount := rfl
@[simp] theorem State.setStrip_out (p : Fin 12) (f : StripUnit → StripUnit) : (s.setStrip p f).out = s.out := rfl
@[simp] theorem State.setStrip_readData (p : Fin 12) (f : StripUnit → StripUnit) : (s.setStrip p f).readData = s.readData := rfl
@[simp] theorem State.setStrip_readBytes (p : Fin 12) (f : StripUnit → StripUnit) : (s.setStrip p f).readBytes = s.readBytes := rfl
@[simp] theorem State.setStrip_mem (p : Fin 12) (f : StripUnit → StripUnit) : (s.setStrip p f).mem = s.mem := rfl
@[simp] theorem State.setStrip_time (p : Fin 12) (f : StripUnit → StripUnit) : (s.setStrip p f).time = s.time := rfl
@[simp] theorem State.setStrip_pos (p : Fin 12) (f : StripUnit → StripUnit) : (s.setStrip p f).pos = s.pos := rfl
@[simp] theorem State.setStrip_evt (p : Fin 12) (f : StripUnit → StripUnit) : (s.setStrip p f).evt = s.evt := rfl
@[simp] theorem State.setStrip_flt (p : Fin 12) (f : StripUnit → StripUnit) : (s.setStrip p f).flt = s.flt := rfl
@[simp] theorem State.setStrip_mgmt (p : Fin 12) (f : StripUnit → StripUnit) : (s.setStrip p f).mgmt = s.mgmt := rfl
@[simp] theorem State.setStrip_power (p : Fin 12) (f : StripUnit → StripUnit) : (s.setStrip p f).power = s.power := rfl
@[simp] theorem State.setStrip_host (p : Fin 12) (f : StripUnit → StripUnit) : (s.setStrip p f).host = s.host := rfl
@[simp] theorem State.setStrip_mbx (p : Fin 12) (f : StripUnit → StripUnit) : (s.setStrip p f).mbx = s.mbx := rfl
@[simp] theorem State.setStrip_cam (p : Fin 12) (f : StripUnit → StripUnit) : (s.setStrip p f).cam = s.cam := rfl
@[simp] theorem State.setStrip_pipe (p : Fin 12) (f : StripUnit → StripUnit) : (s.setStrip p f).pipe = s.pipe := rfl
@[simp] theorem State.setStrip_stitch (p : Fin 12) (f : StripUnit → StripUnit) : (s.setStrip p f).stitch = s.stitch := rfl
@[simp] theorem State.setStrip_seg (p : Fin 12) (f : StripUnit → StripUnit) : (s.setStrip p f).seg = s.seg := rfl
@[simp] theorem State.setStrip_gust (p : Fin 12) (f : StripUnit → StripUnit) : (s.setStrip p f).gust = s.gust := rfl
@[simp] theorem State.setStrip_ej (p : Fin 12) (f : StripUnit → StripUnit) : (s.setStrip p f).ej = s.ej := rfl
@[simp] theorem State.setStrip_eng (p : Fin 12) (f : StripUnit → StripUnit) : (s.setStrip p f).eng = s.eng := rfl
@[simp] theorem State.setStrip_outp (p : Fin 12) (f : StripUnit → StripUnit) : (s.setStrip p f).outp = { s.outp with strip := upd s.outp.strip p f } := rfl
@[simp] theorem State.setStrip_net (p : Fin 12) (f : StripUnit → StripUnit) : (s.setStrip p f).net = s.net := rfl
@[simp] theorem State.setStrip_station (p : Fin 12) (f : StripUnit → StripUnit) : (s.setStrip p f).station = s.station := rfl
@[simp] theorem State.setStrip_dram (p : Fin 12) (f : StripUnit → StripUnit) : (s.setStrip p f).dram = s.dram := rfl
@[simp] theorem State.setStrip_eccBad (p : Fin 12) (f : StripUnit → StripUnit) : (s.setStrip p f).eccBad = s.eccBad := rfl
@[simp] theorem State.setStrip_eccSoft (p : Fin 12) (f : StripUnit → StripUnit) : (s.setStrip p f).eccSoft = s.eccSoft := rfl

/-! ### `State.item` -/

@[simp] theorem State.item_pending (x : OutItem) : (s.item x).pending = s.pending := rfl
@[simp] theorem State.item_now (x : OutItem) : (s.item x).now = s.now := rfl
@[simp] theorem State.item_freeCount (x : OutItem) : (s.item x).freeCount = s.freeCount := rfl
@[simp] theorem State.item_out (x : OutItem) : (s.item x).out = s.out := rfl
@[simp] theorem State.item_readData (x : OutItem) : (s.item x).readData = s.readData := rfl
@[simp] theorem State.item_readBytes (x : OutItem) : (s.item x).readBytes = s.readBytes := rfl
@[simp] theorem State.item_mem (x : OutItem) : (s.item x).mem = s.mem := rfl
@[simp] theorem State.item_time (x : OutItem) : (s.item x).time = s.time := rfl
@[simp] theorem State.item_pos (x : OutItem) : (s.item x).pos = s.pos := rfl
@[simp] theorem State.item_evt (x : OutItem) : (s.item x).evt = s.evt := rfl
@[simp] theorem State.item_flt (x : OutItem) : (s.item x).flt = s.flt := rfl
@[simp] theorem State.item_mgmt (x : OutItem) : (s.item x).mgmt = s.mgmt := rfl
@[simp] theorem State.item_power (x : OutItem) : (s.item x).power = s.power := rfl
@[simp] theorem State.item_host (x : OutItem) : (s.item x).host = s.host := rfl
@[simp] theorem State.item_mbx (x : OutItem) : (s.item x).mbx = s.mbx := rfl
@[simp] theorem State.item_cam (x : OutItem) : (s.item x).cam = s.cam := rfl
@[simp] theorem State.item_pipe (x : OutItem) : (s.item x).pipe = s.pipe := rfl
@[simp] theorem State.item_stitch (x : OutItem) : (s.item x).stitch = s.stitch := rfl
@[simp] theorem State.item_seg (x : OutItem) : (s.item x).seg = s.seg := rfl
@[simp] theorem State.item_gust (x : OutItem) : (s.item x).gust = s.gust := rfl
@[simp] theorem State.item_ej (x : OutItem) : (s.item x).ej = s.ej := rfl
@[simp] theorem State.item_eng (x : OutItem) : (s.item x).eng = s.eng := rfl
@[simp] theorem State.item_outp (x : OutItem) : (s.item x).outp = { s.outp with items := s.outp.items ++ [x] } := rfl
@[simp] theorem State.item_net (x : OutItem) : (s.item x).net = s.net := rfl
@[simp] theorem State.item_station (x : OutItem) : (s.item x).station = s.station := rfl
@[simp] theorem State.item_dram (x : OutItem) : (s.item x).dram = s.dram := rfl
@[simp] theorem State.item_eccBad (x : OutItem) : (s.item x).eccBad = s.eccBad := rfl
@[simp] theorem State.item_eccSoft (x : OutItem) : (s.item x).eccSoft = s.eccSoft := rfl

/-! ### `State.setPort` -/

@[simp] theorem State.setPort_pending (p : Fin 12) (f : Port → Port) : (s.setPort p f).pending = s.pending := rfl
@[simp] theorem State.setPort_now (p : Fin 12) (f : Port → Port) : (s.setPort p f).now = s.now := rfl
@[simp] theorem State.setPort_freeCount (p : Fin 12) (f : Port → Port) : (s.setPort p f).freeCount = s.freeCount := rfl
@[simp] theorem State.setPort_out (p : Fin 12) (f : Port → Port) : (s.setPort p f).out = s.out := rfl
@[simp] theorem State.setPort_readData (p : Fin 12) (f : Port → Port) : (s.setPort p f).readData = s.readData := rfl
@[simp] theorem State.setPort_readBytes (p : Fin 12) (f : Port → Port) : (s.setPort p f).readBytes = s.readBytes := rfl
@[simp] theorem State.setPort_mem (p : Fin 12) (f : Port → Port) : (s.setPort p f).mem = s.mem := rfl
@[simp] theorem State.setPort_time (p : Fin 12) (f : Port → Port) : (s.setPort p f).time = s.time := rfl
@[simp] theorem State.setPort_pos (p : Fin 12) (f : Port → Port) : (s.setPort p f).pos = s.pos := rfl
@[simp] theorem State.setPort_evt (p : Fin 12) (f : Port → Port) : (s.setPort p f).evt = s.evt := rfl
@[simp] theorem State.setPort_flt (p : Fin 12) (f : Port → Port) : (s.setPort p f).flt = s.flt := rfl
@[simp] theorem State.setPort_mgmt (p : Fin 12) (f : Port → Port) : (s.setPort p f).mgmt = s.mgmt := rfl
@[simp] theorem State.setPort_power (p : Fin 12) (f : Port → Port) : (s.setPort p f).power = s.power := rfl
@[simp] theorem State.setPort_host (p : Fin 12) (f : Port → Port) : (s.setPort p f).host = s.host := rfl
@[simp] theorem State.setPort_mbx (p : Fin 12) (f : Port → Port) : (s.setPort p f).mbx = s.mbx := rfl
@[simp] theorem State.setPort_cam (p : Fin 12) (f : Port → Port) : (s.setPort p f).cam = { s.cam with port := upd s.cam.port p f } := rfl
@[simp] theorem State.setPort_pipe (p : Fin 12) (f : Port → Port) : (s.setPort p f).pipe = s.pipe := rfl
@[simp] theorem State.setPort_stitch (p : Fin 12) (f : Port → Port) : (s.setPort p f).stitch = s.stitch := rfl
@[simp] theorem State.setPort_seg (p : Fin 12) (f : Port → Port) : (s.setPort p f).seg = s.seg := rfl
@[simp] theorem State.setPort_gust (p : Fin 12) (f : Port → Port) : (s.setPort p f).gust = s.gust := rfl
@[simp] theorem State.setPort_ej (p : Fin 12) (f : Port → Port) : (s.setPort p f).ej = s.ej := rfl
@[simp] theorem State.setPort_eng (p : Fin 12) (f : Port → Port) : (s.setPort p f).eng = s.eng := rfl
@[simp] theorem State.setPort_outp (p : Fin 12) (f : Port → Port) : (s.setPort p f).outp = s.outp := rfl
@[simp] theorem State.setPort_net (p : Fin 12) (f : Port → Port) : (s.setPort p f).net = s.net := rfl
@[simp] theorem State.setPort_station (p : Fin 12) (f : Port → Port) : (s.setPort p f).station = s.station := rfl
@[simp] theorem State.setPort_dram (p : Fin 12) (f : Port → Port) : (s.setPort p f).dram = s.dram := rfl
@[simp] theorem State.setPort_eccBad (p : Fin 12) (f : Port → Port) : (s.setPort p f).eccBad = s.eccBad := rfl
@[simp] theorem State.setPort_eccSoft (p : Fin 12) (f : Port → Port) : (s.setPort p f).eccSoft = s.eccSoft := rfl

/-! ### `State.setLane` -/

@[simp] theorem State.setLane_pending (l : Fin 24) (f : Lane → Lane) : (s.setLane l f).pending = s.pending := rfl
@[simp] theorem State.setLane_now (l : Fin 24) (f : Lane → Lane) : (s.setLane l f).now = s.now := rfl
@[simp] theorem State.setLane_freeCount (l : Fin 24) (f : Lane → Lane) : (s.setLane l f).freeCount = s.freeCount := rfl
@[simp] theorem State.setLane_out (l : Fin 24) (f : Lane → Lane) : (s.setLane l f).out = s.out := rfl
@[simp] theorem State.setLane_readData (l : Fin 24) (f : Lane → Lane) : (s.setLane l f).readData = s.readData := rfl
@[simp] theorem State.setLane_readBytes (l : Fin 24) (f : Lane → Lane) : (s.setLane l f).readBytes = s.readBytes := rfl
@[simp] theorem State.setLane_mem (l : Fin 24) (f : Lane → Lane) : (s.setLane l f).mem = s.mem := rfl
@[simp] theorem State.setLane_time (l : Fin 24) (f : Lane → Lane) : (s.setLane l f).time = s.time := rfl
@[simp] theorem State.setLane_pos (l : Fin 24) (f : Lane → Lane) : (s.setLane l f).pos = s.pos := rfl
@[simp] theorem State.setLane_evt (l : Fin 24) (f : Lane → Lane) : (s.setLane l f).evt = s.evt := rfl
@[simp] theorem State.setLane_flt (l : Fin 24) (f : Lane → Lane) : (s.setLane l f).flt = s.flt := rfl
@[simp] theorem State.setLane_mgmt (l : Fin 24) (f : Lane → Lane) : (s.setLane l f).mgmt = s.mgmt := rfl
@[simp] theorem State.setLane_power (l : Fin 24) (f : Lane → Lane) : (s.setLane l f).power = s.power := rfl
@[simp] theorem State.setLane_host (l : Fin 24) (f : Lane → Lane) : (s.setLane l f).host = s.host := rfl
@[simp] theorem State.setLane_mbx (l : Fin 24) (f : Lane → Lane) : (s.setLane l f).mbx = s.mbx := rfl
@[simp] theorem State.setLane_cam (l : Fin 24) (f : Lane → Lane) : (s.setLane l f).cam = { s.cam with lane := upd s.cam.lane l f } := rfl
@[simp] theorem State.setLane_pipe (l : Fin 24) (f : Lane → Lane) : (s.setLane l f).pipe = s.pipe := rfl
@[simp] theorem State.setLane_stitch (l : Fin 24) (f : Lane → Lane) : (s.setLane l f).stitch = s.stitch := rfl
@[simp] theorem State.setLane_seg (l : Fin 24) (f : Lane → Lane) : (s.setLane l f).seg = s.seg := rfl
@[simp] theorem State.setLane_gust (l : Fin 24) (f : Lane → Lane) : (s.setLane l f).gust = s.gust := rfl
@[simp] theorem State.setLane_ej (l : Fin 24) (f : Lane → Lane) : (s.setLane l f).ej = s.ej := rfl
@[simp] theorem State.setLane_eng (l : Fin 24) (f : Lane → Lane) : (s.setLane l f).eng = s.eng := rfl
@[simp] theorem State.setLane_outp (l : Fin 24) (f : Lane → Lane) : (s.setLane l f).outp = s.outp := rfl
@[simp] theorem State.setLane_net (l : Fin 24) (f : Lane → Lane) : (s.setLane l f).net = s.net := rfl
@[simp] theorem State.setLane_station (l : Fin 24) (f : Lane → Lane) : (s.setLane l f).station = s.station := rfl
@[simp] theorem State.setLane_dram (l : Fin 24) (f : Lane → Lane) : (s.setLane l f).dram = s.dram := rfl
@[simp] theorem State.setLane_eccBad (l : Fin 24) (f : Lane → Lane) : (s.setLane l f).eccBad = s.eccBad := rfl
@[simp] theorem State.setLane_eccSoft (l : Fin 24) (f : Lane → Lane) : (s.setLane l f).eccSoft = s.eccSoft := rfl

/-! ### `State.setGust` -/

@[simp] theorem State.setGust_pending (f : GustBlock → GustBlock) : (s.setGust f).pending = s.pending := rfl
@[simp] theorem State.setGust_now (f : GustBlock → GustBlock) : (s.setGust f).now = s.now := rfl
@[simp] theorem State.setGust_freeCount (f : GustBlock → GustBlock) : (s.setGust f).freeCount = s.freeCount := rfl
@[simp] theorem State.setGust_out (f : GustBlock → GustBlock) : (s.setGust f).out = s.out := rfl
@[simp] theorem State.setGust_readData (f : GustBlock → GustBlock) : (s.setGust f).readData = s.readData := rfl
@[simp] theorem State.setGust_readBytes (f : GustBlock → GustBlock) : (s.setGust f).readBytes = s.readBytes := rfl
@[simp] theorem State.setGust_mem (f : GustBlock → GustBlock) : (s.setGust f).mem = s.mem := rfl
@[simp] theorem State.setGust_time (f : GustBlock → GustBlock) : (s.setGust f).time = s.time := rfl
@[simp] theorem State.setGust_pos (f : GustBlock → GustBlock) : (s.setGust f).pos = s.pos := rfl
@[simp] theorem State.setGust_evt (f : GustBlock → GustBlock) : (s.setGust f).evt = s.evt := rfl
@[simp] theorem State.setGust_flt (f : GustBlock → GustBlock) : (s.setGust f).flt = s.flt := rfl
@[simp] theorem State.setGust_mgmt (f : GustBlock → GustBlock) : (s.setGust f).mgmt = s.mgmt := rfl
@[simp] theorem State.setGust_power (f : GustBlock → GustBlock) : (s.setGust f).power = s.power := rfl
@[simp] theorem State.setGust_host (f : GustBlock → GustBlock) : (s.setGust f).host = s.host := rfl
@[simp] theorem State.setGust_mbx (f : GustBlock → GustBlock) : (s.setGust f).mbx = s.mbx := rfl
@[simp] theorem State.setGust_cam (f : GustBlock → GustBlock) : (s.setGust f).cam = s.cam := rfl
@[simp] theorem State.setGust_pipe (f : GustBlock → GustBlock) : (s.setGust f).pipe = s.pipe := rfl
@[simp] theorem State.setGust_stitch (f : GustBlock → GustBlock) : (s.setGust f).stitch = s.stitch := rfl
@[simp] theorem State.setGust_seg (f : GustBlock → GustBlock) : (s.setGust f).seg = s.seg := rfl
@[simp] theorem State.setGust_gust (f : GustBlock → GustBlock) : (s.setGust f).gust = f s.gust := rfl
@[simp] theorem State.setGust_ej (f : GustBlock → GustBlock) : (s.setGust f).ej = s.ej := rfl
@[simp] theorem State.setGust_eng (f : GustBlock → GustBlock) : (s.setGust f).eng = s.eng := rfl
@[simp] theorem State.setGust_outp (f : GustBlock → GustBlock) : (s.setGust f).outp = s.outp := rfl
@[simp] theorem State.setGust_net (f : GustBlock → GustBlock) : (s.setGust f).net = s.net := rfl
@[simp] theorem State.setGust_station (f : GustBlock → GustBlock) : (s.setGust f).station = s.station := rfl
@[simp] theorem State.setGust_dram (f : GustBlock → GustBlock) : (s.setGust f).dram = s.dram := rfl
@[simp] theorem State.setGust_eccBad (f : GustBlock → GustBlock) : (s.setGust f).eccBad = s.eccBad := rfl
@[simp] theorem State.setGust_eccSoft (f : GustBlock → GustBlock) : (s.setGust f).eccSoft = s.eccSoft := rfl

/-! ### `State.setStitch` -/

@[simp] theorem State.setStitch_pending (f : StitchBlock → StitchBlock) : (s.setStitch f).pending = s.pending := rfl
@[simp] theorem State.setStitch_now (f : StitchBlock → StitchBlock) : (s.setStitch f).now = s.now := rfl
@[simp] theorem State.setStitch_freeCount (f : StitchBlock → StitchBlock) : (s.setStitch f).freeCount = s.freeCount := rfl
@[simp] theorem State.setStitch_out (f : StitchBlock → StitchBlock) : (s.setStitch f).out = s.out := rfl
@[simp] theorem State.setStitch_readData (f : StitchBlock → StitchBlock) : (s.setStitch f).readData = s.readData := rfl
@[simp] theorem State.setStitch_readBytes (f : StitchBlock → StitchBlock) : (s.setStitch f).readBytes = s.readBytes := rfl
@[simp] theorem State.setStitch_mem (f : StitchBlock → StitchBlock) : (s.setStitch f).mem = s.mem := rfl
@[simp] theorem State.setStitch_time (f : StitchBlock → StitchBlock) : (s.setStitch f).time = s.time := rfl
@[simp] theorem State.setStitch_pos (f : StitchBlock → StitchBlock) : (s.setStitch f).pos = s.pos := rfl
@[simp] theorem State.setStitch_evt (f : StitchBlock → StitchBlock) : (s.setStitch f).evt = s.evt := rfl
@[simp] theorem State.setStitch_flt (f : StitchBlock → StitchBlock) : (s.setStitch f).flt = s.flt := rfl
@[simp] theorem State.setStitch_mgmt (f : StitchBlock → StitchBlock) : (s.setStitch f).mgmt = s.mgmt := rfl
@[simp] theorem State.setStitch_power (f : StitchBlock → StitchBlock) : (s.setStitch f).power = s.power := rfl
@[simp] theorem State.setStitch_host (f : StitchBlock → StitchBlock) : (s.setStitch f).host = s.host := rfl
@[simp] theorem State.setStitch_mbx (f : StitchBlock → StitchBlock) : (s.setStitch f).mbx = s.mbx := rfl
@[simp] theorem State.setStitch_cam (f : StitchBlock → StitchBlock) : (s.setStitch f).cam = s.cam := rfl
@[simp] theorem State.setStitch_pipe (f : StitchBlock → StitchBlock) : (s.setStitch f).pipe = s.pipe := rfl
@[simp] theorem State.setStitch_stitch (f : StitchBlock → StitchBlock) : (s.setStitch f).stitch = f s.stitch := rfl
@[simp] theorem State.setStitch_seg (f : StitchBlock → StitchBlock) : (s.setStitch f).seg = s.seg := rfl
@[simp] theorem State.setStitch_gust (f : StitchBlock → StitchBlock) : (s.setStitch f).gust = s.gust := rfl
@[simp] theorem State.setStitch_ej (f : StitchBlock → StitchBlock) : (s.setStitch f).ej = s.ej := rfl
@[simp] theorem State.setStitch_eng (f : StitchBlock → StitchBlock) : (s.setStitch f).eng = s.eng := rfl
@[simp] theorem State.setStitch_outp (f : StitchBlock → StitchBlock) : (s.setStitch f).outp = s.outp := rfl
@[simp] theorem State.setStitch_net (f : StitchBlock → StitchBlock) : (s.setStitch f).net = s.net := rfl
@[simp] theorem State.setStitch_station (f : StitchBlock → StitchBlock) : (s.setStitch f).station = s.station := rfl
@[simp] theorem State.setStitch_dram (f : StitchBlock → StitchBlock) : (s.setStitch f).dram = s.dram := rfl
@[simp] theorem State.setStitch_eccBad (f : StitchBlock → StitchBlock) : (s.setStitch f).eccBad = s.eccBad := rfl
@[simp] theorem State.setStitch_eccSoft (f : StitchBlock → StitchBlock) : (s.setStitch f).eccSoft = s.eccSoft := rfl

/-! ### `State.setQueue` -/

@[simp] theorem State.setQueue_pending (p : Fin 12) (f : DelayQueue → DelayQueue) : (s.setQueue p f).pending = s.pending := rfl
@[simp] theorem State.setQueue_now (p : Fin 12) (f : DelayQueue → DelayQueue) : (s.setQueue p f).now = s.now := rfl
@[simp] theorem State.setQueue_freeCount (p : Fin 12) (f : DelayQueue → DelayQueue) : (s.setQueue p f).freeCount = s.freeCount := rfl
@[simp] theorem State.setQueue_out (p : Fin 12) (f : DelayQueue → DelayQueue) : (s.setQueue p f).out = s.out := rfl
@[simp] theorem State.setQueue_readData (p : Fin 12) (f : DelayQueue → DelayQueue) : (s.setQueue p f).readData = s.readData := rfl
@[simp] theorem State.setQueue_readBytes (p : Fin 12) (f : DelayQueue → DelayQueue) : (s.setQueue p f).readBytes = s.readBytes := rfl
@[simp] theorem State.setQueue_mem (p : Fin 12) (f : DelayQueue → DelayQueue) : (s.setQueue p f).mem = s.mem := rfl
@[simp] theorem State.setQueue_time (p : Fin 12) (f : DelayQueue → DelayQueue) : (s.setQueue p f).time = s.time := rfl
@[simp] theorem State.setQueue_pos (p : Fin 12) (f : DelayQueue → DelayQueue) : (s.setQueue p f).pos = s.pos := rfl
@[simp] theorem State.setQueue_evt (p : Fin 12) (f : DelayQueue → DelayQueue) : (s.setQueue p f).evt = s.evt := rfl
@[simp] theorem State.setQueue_flt (p : Fin 12) (f : DelayQueue → DelayQueue) : (s.setQueue p f).flt = s.flt := rfl
@[simp] theorem State.setQueue_mgmt (p : Fin 12) (f : DelayQueue → DelayQueue) : (s.setQueue p f).mgmt = s.mgmt := rfl
@[simp] theorem State.setQueue_power (p : Fin 12) (f : DelayQueue → DelayQueue) : (s.setQueue p f).power = s.power := rfl
@[simp] theorem State.setQueue_host (p : Fin 12) (f : DelayQueue → DelayQueue) : (s.setQueue p f).host = s.host := rfl
@[simp] theorem State.setQueue_mbx (p : Fin 12) (f : DelayQueue → DelayQueue) : (s.setQueue p f).mbx = s.mbx := rfl
@[simp] theorem State.setQueue_cam (p : Fin 12) (f : DelayQueue → DelayQueue) : (s.setQueue p f).cam = s.cam := rfl
@[simp] theorem State.setQueue_pipe (p : Fin 12) (f : DelayQueue → DelayQueue) : (s.setQueue p f).pipe = s.pipe := rfl
@[simp] theorem State.setQueue_stitch (p : Fin 12) (f : DelayQueue → DelayQueue) : (s.setQueue p f).stitch = { s.stitch with queue := upd s.stitch.queue p f } := rfl
@[simp] theorem State.setQueue_seg (p : Fin 12) (f : DelayQueue → DelayQueue) : (s.setQueue p f).seg = s.seg := rfl
@[simp] theorem State.setQueue_gust (p : Fin 12) (f : DelayQueue → DelayQueue) : (s.setQueue p f).gust = s.gust := rfl
@[simp] theorem State.setQueue_ej (p : Fin 12) (f : DelayQueue → DelayQueue) : (s.setQueue p f).ej = s.ej := rfl
@[simp] theorem State.setQueue_eng (p : Fin 12) (f : DelayQueue → DelayQueue) : (s.setQueue p f).eng = s.eng := rfl
@[simp] theorem State.setQueue_outp (p : Fin 12) (f : DelayQueue → DelayQueue) : (s.setQueue p f).outp = s.outp := rfl
@[simp] theorem State.setQueue_net (p : Fin 12) (f : DelayQueue → DelayQueue) : (s.setQueue p f).net = s.net := rfl
@[simp] theorem State.setQueue_station (p : Fin 12) (f : DelayQueue → DelayQueue) : (s.setQueue p f).station = s.station := rfl
@[simp] theorem State.setQueue_dram (p : Fin 12) (f : DelayQueue → DelayQueue) : (s.setQueue p f).dram = s.dram := rfl
@[simp] theorem State.setQueue_eccBad (p : Fin 12) (f : DelayQueue → DelayQueue) : (s.setQueue p f).eccBad = s.eccBad := rfl
@[simp] theorem State.setQueue_eccSoft (p : Fin 12) (f : DelayQueue → DelayQueue) : (s.setQueue p f).eccSoft = s.eccSoft := rfl

/-! ### `State.setPipe` -/

@[simp] theorem State.setPipe_pending (p : Fin 12) (f : Pipe → Pipe) : (s.setPipe p f).pending = s.pending := rfl
@[simp] theorem State.setPipe_now (p : Fin 12) (f : Pipe → Pipe) : (s.setPipe p f).now = s.now := rfl
@[simp] theorem State.setPipe_freeCount (p : Fin 12) (f : Pipe → Pipe) : (s.setPipe p f).freeCount = s.freeCount := rfl
@[simp] theorem State.setPipe_out (p : Fin 12) (f : Pipe → Pipe) : (s.setPipe p f).out = s.out := rfl
@[simp] theorem State.setPipe_readData (p : Fin 12) (f : Pipe → Pipe) : (s.setPipe p f).readData = s.readData := rfl
@[simp] theorem State.setPipe_readBytes (p : Fin 12) (f : Pipe → Pipe) : (s.setPipe p f).readBytes = s.readBytes := rfl
@[simp] theorem State.setPipe_mem (p : Fin 12) (f : Pipe → Pipe) : (s.setPipe p f).mem = s.mem := rfl
@[simp] theorem State.setPipe_time (p : Fin 12) (f : Pipe → Pipe) : (s.setPipe p f).time = s.time := rfl
@[simp] theorem State.setPipe_pos (p : Fin 12) (f : Pipe → Pipe) : (s.setPipe p f).pos = s.pos := rfl
@[simp] theorem State.setPipe_evt (p : Fin 12) (f : Pipe → Pipe) : (s.setPipe p f).evt = s.evt := rfl
@[simp] theorem State.setPipe_flt (p : Fin 12) (f : Pipe → Pipe) : (s.setPipe p f).flt = s.flt := rfl
@[simp] theorem State.setPipe_mgmt (p : Fin 12) (f : Pipe → Pipe) : (s.setPipe p f).mgmt = s.mgmt := rfl
@[simp] theorem State.setPipe_power (p : Fin 12) (f : Pipe → Pipe) : (s.setPipe p f).power = s.power := rfl
@[simp] theorem State.setPipe_host (p : Fin 12) (f : Pipe → Pipe) : (s.setPipe p f).host = s.host := rfl
@[simp] theorem State.setPipe_mbx (p : Fin 12) (f : Pipe → Pipe) : (s.setPipe p f).mbx = s.mbx := rfl
@[simp] theorem State.setPipe_cam (p : Fin 12) (f : Pipe → Pipe) : (s.setPipe p f).cam = s.cam := rfl
@[simp] theorem State.setPipe_pipe (p : Fin 12) (f : Pipe → Pipe) : (s.setPipe p f).pipe = upd s.pipe p f := rfl
@[simp] theorem State.setPipe_stitch (p : Fin 12) (f : Pipe → Pipe) : (s.setPipe p f).stitch = s.stitch := rfl
@[simp] theorem State.setPipe_seg (p : Fin 12) (f : Pipe → Pipe) : (s.setPipe p f).seg = s.seg := rfl
@[simp] theorem State.setPipe_gust (p : Fin 12) (f : Pipe → Pipe) : (s.setPipe p f).gust = s.gust := rfl
@[simp] theorem State.setPipe_ej (p : Fin 12) (f : Pipe → Pipe) : (s.setPipe p f).ej = s.ej := rfl
@[simp] theorem State.setPipe_eng (p : Fin 12) (f : Pipe → Pipe) : (s.setPipe p f).eng = s.eng := rfl
@[simp] theorem State.setPipe_outp (p : Fin 12) (f : Pipe → Pipe) : (s.setPipe p f).outp = s.outp := rfl
@[simp] theorem State.setPipe_net (p : Fin 12) (f : Pipe → Pipe) : (s.setPipe p f).net = s.net := rfl
@[simp] theorem State.setPipe_station (p : Fin 12) (f : Pipe → Pipe) : (s.setPipe p f).station = s.station := rfl
@[simp] theorem State.setPipe_dram (p : Fin 12) (f : Pipe → Pipe) : (s.setPipe p f).dram = s.dram := rfl
@[simp] theorem State.setPipe_eccBad (p : Fin 12) (f : Pipe → Pipe) : (s.setPipe p f).eccBad = s.eccBad := rfl
@[simp] theorem State.setPipe_eccSoft (p : Fin 12) (f : Pipe → Pipe) : (s.setPipe p f).eccSoft = s.eccSoft := rfl

/-! ### `State.setBin` -/

@[simp] theorem State.setBin_pending (p : Fin 12) (f : BinChain → BinChain) : (s.setBin p f).pending = s.pending := rfl
@[simp] theorem State.setBin_now (p : Fin 12) (f : BinChain → BinChain) : (s.setBin p f).now = s.now := rfl
@[simp] theorem State.setBin_freeCount (p : Fin 12) (f : BinChain → BinChain) : (s.setBin p f).freeCount = s.freeCount := rfl
@[simp] theorem State.setBin_out (p : Fin 12) (f : BinChain → BinChain) : (s.setBin p f).out = s.out := rfl
@[simp] theorem State.setBin_readData (p : Fin 12) (f : BinChain → BinChain) : (s.setBin p f).readData = s.readData := rfl
@[simp] theorem State.setBin_readBytes (p : Fin 12) (f : BinChain → BinChain) : (s.setBin p f).readBytes = s.readBytes := rfl
@[simp] theorem State.setBin_mem (p : Fin 12) (f : BinChain → BinChain) : (s.setBin p f).mem = s.mem := rfl
@[simp] theorem State.setBin_time (p : Fin 12) (f : BinChain → BinChain) : (s.setBin p f).time = s.time := rfl
@[simp] theorem State.setBin_pos (p : Fin 12) (f : BinChain → BinChain) : (s.setBin p f).pos = s.pos := rfl
@[simp] theorem State.setBin_evt (p : Fin 12) (f : BinChain → BinChain) : (s.setBin p f).evt = s.evt := rfl
@[simp] theorem State.setBin_flt (p : Fin 12) (f : BinChain → BinChain) : (s.setBin p f).flt = s.flt := rfl
@[simp] theorem State.setBin_mgmt (p : Fin 12) (f : BinChain → BinChain) : (s.setBin p f).mgmt = s.mgmt := rfl
@[simp] theorem State.setBin_power (p : Fin 12) (f : BinChain → BinChain) : (s.setBin p f).power = s.power := rfl
@[simp] theorem State.setBin_host (p : Fin 12) (f : BinChain → BinChain) : (s.setBin p f).host = s.host := rfl
@[simp] theorem State.setBin_mbx (p : Fin 12) (f : BinChain → BinChain) : (s.setBin p f).mbx = s.mbx := rfl
@[simp] theorem State.setBin_cam (p : Fin 12) (f : BinChain → BinChain) : (s.setBin p f).cam = s.cam := rfl
@[simp] theorem State.setBin_pipe (p : Fin 12) (f : BinChain → BinChain) : (s.setBin p f).pipe = upd s.pipe p fun x => { x with bin := f x.bin } := rfl
@[simp] theorem State.setBin_stitch (p : Fin 12) (f : BinChain → BinChain) : (s.setBin p f).stitch = s.stitch := rfl
@[simp] theorem State.setBin_seg (p : Fin 12) (f : BinChain → BinChain) : (s.setBin p f).seg = s.seg := rfl
@[simp] theorem State.setBin_gust (p : Fin 12) (f : BinChain → BinChain) : (s.setBin p f).gust = s.gust := rfl
@[simp] theorem State.setBin_ej (p : Fin 12) (f : BinChain → BinChain) : (s.setBin p f).ej = s.ej := rfl
@[simp] theorem State.setBin_eng (p : Fin 12) (f : BinChain → BinChain) : (s.setBin p f).eng = s.eng := rfl
@[simp] theorem State.setBin_outp (p : Fin 12) (f : BinChain → BinChain) : (s.setBin p f).outp = s.outp := rfl
@[simp] theorem State.setBin_net (p : Fin 12) (f : BinChain → BinChain) : (s.setBin p f).net = s.net := rfl
@[simp] theorem State.setBin_station (p : Fin 12) (f : BinChain → BinChain) : (s.setBin p f).station = s.station := rfl
@[simp] theorem State.setBin_dram (p : Fin 12) (f : BinChain → BinChain) : (s.setBin p f).dram = s.dram := rfl
@[simp] theorem State.setBin_eccBad (p : Fin 12) (f : BinChain → BinChain) : (s.setBin p f).eccBad = s.eccBad := rfl
@[simp] theorem State.setBin_eccSoft (p : Fin 12) (f : BinChain → BinChain) : (s.setBin p f).eccSoft = s.eccSoft := rfl

/-! ### `State.setTare` -/

@[simp] theorem State.setTare_pending (p : Fin 12) (f : TareUnit → TareUnit) : (s.setTare p f).pending = s.pending := rfl
@[simp] theorem State.setTare_now (p : Fin 12) (f : TareUnit → TareUnit) : (s.setTare p f).now = s.now := rfl
@[simp] theorem State.setTare_freeCount (p : Fin 12) (f : TareUnit → TareUnit) : (s.setTare p f).freeCount = s.freeCount := rfl
@[simp] theorem State.setTare_out (p : Fin 12) (f : TareUnit → TareUnit) : (s.setTare p f).out = s.out := rfl
@[simp] theorem State.setTare_readData (p : Fin 12) (f : TareUnit → TareUnit) : (s.setTare p f).readData = s.readData := rfl
@[simp] theorem State.setTare_readBytes (p : Fin 12) (f : TareUnit → TareUnit) : (s.setTare p f).readBytes = s.readBytes := rfl
@[simp] theorem State.setTare_mem (p : Fin 12) (f : TareUnit → TareUnit) : (s.setTare p f).mem = s.mem := rfl
@[simp] theorem State.setTare_time (p : Fin 12) (f : TareUnit → TareUnit) : (s.setTare p f).time = s.time := rfl
@[simp] theorem State.setTare_pos (p : Fin 12) (f : TareUnit → TareUnit) : (s.setTare p f).pos = s.pos := rfl
@[simp] theorem State.setTare_evt (p : Fin 12) (f : TareUnit → TareUnit) : (s.setTare p f).evt = s.evt := rfl
@[simp] theorem State.setTare_flt (p : Fin 12) (f : TareUnit → TareUnit) : (s.setTare p f).flt = s.flt := rfl
@[simp] theorem State.setTare_mgmt (p : Fin 12) (f : TareUnit → TareUnit) : (s.setTare p f).mgmt = s.mgmt := rfl
@[simp] theorem State.setTare_power (p : Fin 12) (f : TareUnit → TareUnit) : (s.setTare p f).power = s.power := rfl
@[simp] theorem State.setTare_host (p : Fin 12) (f : TareUnit → TareUnit) : (s.setTare p f).host = s.host := rfl
@[simp] theorem State.setTare_mbx (p : Fin 12) (f : TareUnit → TareUnit) : (s.setTare p f).mbx = s.mbx := rfl
@[simp] theorem State.setTare_cam (p : Fin 12) (f : TareUnit → TareUnit) : (s.setTare p f).cam = s.cam := rfl
@[simp] theorem State.setTare_pipe (p : Fin 12) (f : TareUnit → TareUnit) : (s.setTare p f).pipe = upd s.pipe p fun x => { x with tare := f x.tare } := rfl
@[simp] theorem State.setTare_stitch (p : Fin 12) (f : TareUnit → TareUnit) : (s.setTare p f).stitch = s.stitch := rfl
@[simp] theorem State.setTare_seg (p : Fin 12) (f : TareUnit → TareUnit) : (s.setTare p f).seg = s.seg := rfl
@[simp] theorem State.setTare_gust (p : Fin 12) (f : TareUnit → TareUnit) : (s.setTare p f).gust = s.gust := rfl
@[simp] theorem State.setTare_ej (p : Fin 12) (f : TareUnit → TareUnit) : (s.setTare p f).ej = s.ej := rfl
@[simp] theorem State.setTare_eng (p : Fin 12) (f : TareUnit → TareUnit) : (s.setTare p f).eng = s.eng := rfl
@[simp] theorem State.setTare_outp (p : Fin 12) (f : TareUnit → TareUnit) : (s.setTare p f).outp = s.outp := rfl
@[simp] theorem State.setTare_net (p : Fin 12) (f : TareUnit → TareUnit) : (s.setTare p f).net = s.net := rfl
@[simp] theorem State.setTare_station (p : Fin 12) (f : TareUnit → TareUnit) : (s.setTare p f).station = s.station := rfl
@[simp] theorem State.setTare_dram (p : Fin 12) (f : TareUnit → TareUnit) : (s.setTare p f).dram = s.dram := rfl
@[simp] theorem State.setTare_eccBad (p : Fin 12) (f : TareUnit → TareUnit) : (s.setTare p f).eccBad = s.eccBad := rfl
@[simp] theorem State.setTare_eccSoft (p : Fin 12) (f : TareUnit → TareUnit) : (s.setTare p f).eccSoft = s.eccSoft := rfl

/-! ### `State.emit` -/

@[simp] theorem State.emit_pending (o : Out) : (s.emit o).pending = s.pending := rfl
@[simp] theorem State.emit_now (o : Out) : (s.emit o).now = s.now := rfl
@[simp] theorem State.emit_freeCount (o : Out) : (s.emit o).freeCount = s.freeCount := rfl
@[simp] theorem State.emit_out (o : Out) : (s.emit o).out = o :: s.out := rfl
@[simp] theorem State.emit_readData (o : Out) : (s.emit o).readData = s.readData := rfl
@[simp] theorem State.emit_readBytes (o : Out) : (s.emit o).readBytes = s.readBytes := rfl
@[simp] theorem State.emit_mem (o : Out) : (s.emit o).mem = s.mem := rfl
@[simp] theorem State.emit_time (o : Out) : (s.emit o).time = s.time := rfl
@[simp] theorem State.emit_pos (o : Out) : (s.emit o).pos = s.pos := rfl
@[simp] theorem State.emit_evt (o : Out) : (s.emit o).evt = s.evt := rfl
@[simp] theorem State.emit_flt (o : Out) : (s.emit o).flt = s.flt := rfl
@[simp] theorem State.emit_mgmt (o : Out) : (s.emit o).mgmt = s.mgmt := rfl
@[simp] theorem State.emit_power (o : Out) : (s.emit o).power = s.power := rfl
@[simp] theorem State.emit_host (o : Out) : (s.emit o).host = s.host := rfl
@[simp] theorem State.emit_mbx (o : Out) : (s.emit o).mbx = s.mbx := rfl
@[simp] theorem State.emit_cam (o : Out) : (s.emit o).cam = s.cam := rfl
@[simp] theorem State.emit_pipe (o : Out) : (s.emit o).pipe = s.pipe := rfl
@[simp] theorem State.emit_stitch (o : Out) : (s.emit o).stitch = s.stitch := rfl
@[simp] theorem State.emit_seg (o : Out) : (s.emit o).seg = s.seg := rfl
@[simp] theorem State.emit_gust (o : Out) : (s.emit o).gust = s.gust := rfl
@[simp] theorem State.emit_ej (o : Out) : (s.emit o).ej = s.ej := rfl
@[simp] theorem State.emit_eng (o : Out) : (s.emit o).eng = s.eng := rfl
@[simp] theorem State.emit_outp (o : Out) : (s.emit o).outp = s.outp := rfl
@[simp] theorem State.emit_net (o : Out) : (s.emit o).net = s.net := rfl
@[simp] theorem State.emit_station (o : Out) : (s.emit o).station = s.station := rfl
@[simp] theorem State.emit_dram (o : Out) : (s.emit o).dram = s.dram := rfl
@[simp] theorem State.emit_eccBad (o : Out) : (s.emit o).eccBad = s.eccBad := rfl
@[simp] theorem State.emit_eccSoft (o : Out) : (s.emit o).eccSoft = s.eccSoft := rfl

/-! ### `State.setBall` -/

@[simp] theorem State.setBall_pending (b : Ball) (level : Bool) : (s.setBall b level).pending = s.pending := rfl
@[simp] theorem State.setBall_now (b : Ball) (level : Bool) : (s.setBall b level).now = s.now := rfl
@[simp] theorem State.setBall_freeCount (b : Ball) (level : Bool) : (s.setBall b level).freeCount = s.freeCount := rfl
@[simp] theorem State.setBall_out (b : Ball) (level : Bool) : (s.setBall b level).out = Out.ball b level :: s.out := rfl
@[simp] theorem State.setBall_readData (b : Ball) (level : Bool) : (s.setBall b level).readData = s.readData := rfl
@[simp] theorem State.setBall_readBytes (b : Ball) (level : Bool) : (s.setBall b level).readBytes = s.readBytes := rfl
@[simp] theorem State.setBall_mem (b : Ball) (level : Bool) : (s.setBall b level).mem = s.mem := rfl
@[simp] theorem State.setBall_time (b : Ball) (level : Bool) : (s.setBall b level).time = s.time := rfl
@[simp] theorem State.setBall_pos (b : Ball) (level : Bool) : (s.setBall b level).pos = s.pos := rfl
@[simp] theorem State.setBall_evt (b : Ball) (level : Bool) : (s.setBall b level).evt = s.evt := rfl
@[simp] theorem State.setBall_flt (b : Ball) (level : Bool) : (s.setBall b level).flt = s.flt := rfl
@[simp] theorem State.setBall_mgmt (b : Ball) (level : Bool) : (s.setBall b level).mgmt = s.mgmt := rfl
@[simp] theorem State.setBall_power (b : Ball) (level : Bool) : (s.setBall b level).power = s.power := rfl
@[simp] theorem State.setBall_host (b : Ball) (level : Bool) : (s.setBall b level).host = s.host := rfl
@[simp] theorem State.setBall_mbx (b : Ball) (level : Bool) : (s.setBall b level).mbx = s.mbx := rfl
@[simp] theorem State.setBall_cam (b : Ball) (level : Bool) : (s.setBall b level).cam = s.cam := rfl
@[simp] theorem State.setBall_pipe (b : Ball) (level : Bool) : (s.setBall b level).pipe = s.pipe := rfl
@[simp] theorem State.setBall_stitch (b : Ball) (level : Bool) : (s.setBall b level).stitch = s.stitch := rfl
@[simp] theorem State.setBall_seg (b : Ball) (level : Bool) : (s.setBall b level).seg = s.seg := rfl
@[simp] theorem State.setBall_gust (b : Ball) (level : Bool) : (s.setBall b level).gust = s.gust := rfl
@[simp] theorem State.setBall_ej (b : Ball) (level : Bool) : (s.setBall b level).ej = s.ej := rfl
@[simp] theorem State.setBall_eng (b : Ball) (level : Bool) : (s.setBall b level).eng = s.eng := rfl
@[simp] theorem State.setBall_outp (b : Ball) (level : Bool) : (s.setBall b level).outp = s.outp := rfl
@[simp] theorem State.setBall_net (b : Ball) (level : Bool) : (s.setBall b level).net = s.net := rfl
@[simp] theorem State.setBall_station (b : Ball) (level : Bool) : (s.setBall b level).station = s.station := rfl
@[simp] theorem State.setBall_dram (b : Ball) (level : Bool) : (s.setBall b level).dram = s.dram := rfl
@[simp] theorem State.setBall_eccBad (b : Ball) (level : Bool) : (s.setBall b level).eccBad = s.eccBad := rfl
@[simp] theorem State.setBall_eccSoft (b : Ball) (level : Bool) : (s.setBall b level).eccSoft = s.eccSoft := rfl

/-! ### `State.report` -/

@[simp] theorem State.report_pending (r : Report) : (s.report r).pending = s.pending := rfl
@[simp] theorem State.report_now (r : Report) : (s.report r).now = s.now := rfl
@[simp] theorem State.report_freeCount (r : Report) : (s.report r).freeCount = s.freeCount := rfl
@[simp] theorem State.report_out (r : Report) : (s.report r).out = s.out := rfl
@[simp] theorem State.report_readData (r : Report) : (s.report r).readData = s.readData := rfl
@[simp] theorem State.report_readBytes (r : Report) : (s.report r).readBytes = s.readBytes := rfl
@[simp] theorem State.report_mem (r : Report) : (s.report r).mem = s.mem := rfl
@[simp] theorem State.report_time (r : Report) : (s.report r).time = s.time := rfl
@[simp] theorem State.report_pos (r : Report) : (s.report r).pos = s.pos := rfl
@[simp] theorem State.report_evt (r : Report) : (s.report r).evt = s.evt := rfl
@[simp] theorem State.report_flt (r : Report) : (s.report r).flt = { s.flt with inFlight := s.flt.inFlight ++ [r] } := rfl
@[simp] theorem State.report_mgmt (r : Report) : (s.report r).mgmt = s.mgmt := rfl
@[simp] theorem State.report_power (r : Report) : (s.report r).power = s.power := rfl
@[simp] theorem State.report_host (r : Report) : (s.report r).host = s.host := rfl
@[simp] theorem State.report_mbx (r : Report) : (s.report r).mbx = s.mbx := rfl
@[simp] theorem State.report_cam (r : Report) : (s.report r).cam = s.cam := rfl
@[simp] theorem State.report_pipe (r : Report) : (s.report r).pipe = s.pipe := rfl
@[simp] theorem State.report_stitch (r : Report) : (s.report r).stitch = s.stitch := rfl
@[simp] theorem State.report_seg (r : Report) : (s.report r).seg = s.seg := rfl
@[simp] theorem State.report_gust (r : Report) : (s.report r).gust = s.gust := rfl
@[simp] theorem State.report_ej (r : Report) : (s.report r).ej = s.ej := rfl
@[simp] theorem State.report_eng (r : Report) : (s.report r).eng = s.eng := rfl
@[simp] theorem State.report_outp (r : Report) : (s.report r).outp = s.outp := rfl
@[simp] theorem State.report_net (r : Report) : (s.report r).net = s.net := rfl
@[simp] theorem State.report_station (r : Report) : (s.report r).station = s.station := rfl
@[simp] theorem State.report_dram (r : Report) : (s.report r).dram = s.dram := rfl
@[simp] theorem State.report_eccBad (r : Report) : (s.report r).eccBad = s.eccBad := rfl
@[simp] theorem State.report_eccSoft (r : Report) : (s.report r).eccSoft = s.eccSoft := rfl

/-! ### `State.drawn` -/

@[simp] theorem State.drawn_pending : (s.drawn).pending = s.pending := rfl
@[simp] theorem State.drawn_now : (s.drawn).now = s.now := rfl
@[simp] theorem State.drawn_freeCount : (s.drawn).freeCount = s.freeCount + 1 := rfl
@[simp] theorem State.drawn_out : (s.drawn).out = s.out := rfl
@[simp] theorem State.drawn_readData : (s.drawn).readData = s.readData := rfl
@[simp] theorem State.drawn_readBytes : (s.drawn).readBytes = s.readBytes := rfl
@[simp] theorem State.drawn_mem : (s.drawn).mem = s.mem := rfl
@[simp] theorem State.drawn_time : (s.drawn).time = s.time := rfl
@[simp] theorem State.drawn_pos : (s.drawn).pos = s.pos := rfl
@[simp] theorem State.drawn_evt : (s.drawn).evt = s.evt := rfl
@[simp] theorem State.drawn_flt : (s.drawn).flt = s.flt := rfl
@[simp] theorem State.drawn_mgmt : (s.drawn).mgmt = s.mgmt := rfl
@[simp] theorem State.drawn_power : (s.drawn).power = s.power := rfl
@[simp] theorem State.drawn_host : (s.drawn).host = s.host := rfl
@[simp] theorem State.drawn_mbx : (s.drawn).mbx = s.mbx := rfl
@[simp] theorem State.drawn_cam : (s.drawn).cam = s.cam := rfl
@[simp] theorem State.drawn_pipe : (s.drawn).pipe = s.pipe := rfl
@[simp] theorem State.drawn_stitch : (s.drawn).stitch = s.stitch := rfl
@[simp] theorem State.drawn_seg : (s.drawn).seg = s.seg := rfl
@[simp] theorem State.drawn_gust : (s.drawn).gust = s.gust := rfl
@[simp] theorem State.drawn_ej : (s.drawn).ej = s.ej := rfl
@[simp] theorem State.drawn_eng : (s.drawn).eng = s.eng := rfl
@[simp] theorem State.drawn_outp : (s.drawn).outp = s.outp := rfl
@[simp] theorem State.drawn_net : (s.drawn).net = s.net := rfl
@[simp] theorem State.drawn_station : (s.drawn).station = s.station := rfl
@[simp] theorem State.drawn_dram : (s.drawn).dram = s.dram := rfl
@[simp] theorem State.drawn_eccBad : (s.drawn).eccBad = s.eccBad := rfl
@[simp] theorem State.drawn_eccSoft : (s.drawn).eccSoft = s.eccSoft := rfl

/-! ### `State.setQe` -/

@[simp] theorem State.setQe_pending (c : Fin 8) (f : QeChan → QeChan) : (s.setQe c f).pending = s.pending := rfl
@[simp] theorem State.setQe_now (c : Fin 8) (f : QeChan → QeChan) : (s.setQe c f).now = s.now := rfl
@[simp] theorem State.setQe_freeCount (c : Fin 8) (f : QeChan → QeChan) : (s.setQe c f).freeCount = s.freeCount := rfl
@[simp] theorem State.setQe_out (c : Fin 8) (f : QeChan → QeChan) : (s.setQe c f).out = s.out := rfl
@[simp] theorem State.setQe_readData (c : Fin 8) (f : QeChan → QeChan) : (s.setQe c f).readData = s.readData := rfl
@[simp] theorem State.setQe_readBytes (c : Fin 8) (f : QeChan → QeChan) : (s.setQe c f).readBytes = s.readBytes := rfl
@[simp] theorem State.setQe_mem (c : Fin 8) (f : QeChan → QeChan) : (s.setQe c f).mem = s.mem := rfl
@[simp] theorem State.setQe_time (c : Fin 8) (f : QeChan → QeChan) : (s.setQe c f).time = s.time := rfl
@[simp] theorem State.setQe_pos (c : Fin 8) (f : QeChan → QeChan) : (s.setQe c f).pos = { s.pos with qe := upd s.pos.qe c f } := rfl
@[simp] theorem State.setQe_evt (c : Fin 8) (f : QeChan → QeChan) : (s.setQe c f).evt = s.evt := rfl
@[simp] theorem State.setQe_flt (c : Fin 8) (f : QeChan → QeChan) : (s.setQe c f).flt = s.flt := rfl
@[simp] theorem State.setQe_mgmt (c : Fin 8) (f : QeChan → QeChan) : (s.setQe c f).mgmt = s.mgmt := rfl
@[simp] theorem State.setQe_power (c : Fin 8) (f : QeChan → QeChan) : (s.setQe c f).power = s.power := rfl
@[simp] theorem State.setQe_host (c : Fin 8) (f : QeChan → QeChan) : (s.setQe c f).host = s.host := rfl
@[simp] theorem State.setQe_mbx (c : Fin 8) (f : QeChan → QeChan) : (s.setQe c f).mbx = s.mbx := rfl
@[simp] theorem State.setQe_cam (c : Fin 8) (f : QeChan → QeChan) : (s.setQe c f).cam = s.cam := rfl
@[simp] theorem State.setQe_pipe (c : Fin 8) (f : QeChan → QeChan) : (s.setQe c f).pipe = s.pipe := rfl
@[simp] theorem State.setQe_stitch (c : Fin 8) (f : QeChan → QeChan) : (s.setQe c f).stitch = s.stitch := rfl
@[simp] theorem State.setQe_seg (c : Fin 8) (f : QeChan → QeChan) : (s.setQe c f).seg = s.seg := rfl
@[simp] theorem State.setQe_gust (c : Fin 8) (f : QeChan → QeChan) : (s.setQe c f).gust = s.gust := rfl
@[simp] theorem State.setQe_ej (c : Fin 8) (f : QeChan → QeChan) : (s.setQe c f).ej = s.ej := rfl
@[simp] theorem State.setQe_eng (c : Fin 8) (f : QeChan → QeChan) : (s.setQe c f).eng = s.eng := rfl
@[simp] theorem State.setQe_outp (c : Fin 8) (f : QeChan → QeChan) : (s.setQe c f).outp = s.outp := rfl
@[simp] theorem State.setQe_net (c : Fin 8) (f : QeChan → QeChan) : (s.setQe c f).net = s.net := rfl
@[simp] theorem State.setQe_station (c : Fin 8) (f : QeChan → QeChan) : (s.setQe c f).station = s.station := rfl
@[simp] theorem State.setQe_dram (c : Fin 8) (f : QeChan → QeChan) : (s.setQe c f).dram = s.dram := rfl
@[simp] theorem State.setQe_eccBad (c : Fin 8) (f : QeChan → QeChan) : (s.setQe c f).eccBad = s.eccBad := rfl
@[simp] theorem State.setQe_eccSoft (c : Fin 8) (f : QeChan → QeChan) : (s.setQe c f).eccSoft = s.eccSoft := rfl

/-! ### `State.setProbe` -/

@[simp] theorem State.setProbe_pending (p : Fin 8) (f : Probe → Probe) : (s.setProbe p f).pending = s.pending := rfl
@[simp] theorem State.setProbe_now (p : Fin 8) (f : Probe → Probe) : (s.setProbe p f).now = s.now := rfl
@[simp] theorem State.setProbe_freeCount (p : Fin 8) (f : Probe → Probe) : (s.setProbe p f).freeCount = s.freeCount := rfl
@[simp] theorem State.setProbe_out (p : Fin 8) (f : Probe → Probe) : (s.setProbe p f).out = s.out := rfl
@[simp] theorem State.setProbe_readData (p : Fin 8) (f : Probe → Probe) : (s.setProbe p f).readData = s.readData := rfl
@[simp] theorem State.setProbe_readBytes (p : Fin 8) (f : Probe → Probe) : (s.setProbe p f).readBytes = s.readBytes := rfl
@[simp] theorem State.setProbe_mem (p : Fin 8) (f : Probe → Probe) : (s.setProbe p f).mem = s.mem := rfl
@[simp] theorem State.setProbe_time (p : Fin 8) (f : Probe → Probe) : (s.setProbe p f).time = s.time := rfl
@[simp] theorem State.setProbe_pos (p : Fin 8) (f : Probe → Probe) : (s.setProbe p f).pos = { s.pos with probe := upd s.pos.probe p f } := rfl
@[simp] theorem State.setProbe_evt (p : Fin 8) (f : Probe → Probe) : (s.setProbe p f).evt = s.evt := rfl
@[simp] theorem State.setProbe_flt (p : Fin 8) (f : Probe → Probe) : (s.setProbe p f).flt = s.flt := rfl
@[simp] theorem State.setProbe_mgmt (p : Fin 8) (f : Probe → Probe) : (s.setProbe p f).mgmt = s.mgmt := rfl
@[simp] theorem State.setProbe_power (p : Fin 8) (f : Probe → Probe) : (s.setProbe p f).power = s.power := rfl
@[simp] theorem State.setProbe_host (p : Fin 8) (f : Probe → Probe) : (s.setProbe p f).host = s.host := rfl
@[simp] theorem State.setProbe_mbx (p : Fin 8) (f : Probe → Probe) : (s.setProbe p f).mbx = s.mbx := rfl
@[simp] theorem State.setProbe_cam (p : Fin 8) (f : Probe → Probe) : (s.setProbe p f).cam = s.cam := rfl
@[simp] theorem State.setProbe_pipe (p : Fin 8) (f : Probe → Probe) : (s.setProbe p f).pipe = s.pipe := rfl
@[simp] theorem State.setProbe_stitch (p : Fin 8) (f : Probe → Probe) : (s.setProbe p f).stitch = s.stitch := rfl
@[simp] theorem State.setProbe_seg (p : Fin 8) (f : Probe → Probe) : (s.setProbe p f).seg = s.seg := rfl
@[simp] theorem State.setProbe_gust (p : Fin 8) (f : Probe → Probe) : (s.setProbe p f).gust = s.gust := rfl
@[simp] theorem State.setProbe_ej (p : Fin 8) (f : Probe → Probe) : (s.setProbe p f).ej = s.ej := rfl
@[simp] theorem State.setProbe_eng (p : Fin 8) (f : Probe → Probe) : (s.setProbe p f).eng = s.eng := rfl
@[simp] theorem State.setProbe_outp (p : Fin 8) (f : Probe → Probe) : (s.setProbe p f).outp = s.outp := rfl
@[simp] theorem State.setProbe_net (p : Fin 8) (f : Probe → Probe) : (s.setProbe p f).net = s.net := rfl
@[simp] theorem State.setProbe_station (p : Fin 8) (f : Probe → Probe) : (s.setProbe p f).station = s.station := rfl
@[simp] theorem State.setProbe_dram (p : Fin 8) (f : Probe → Probe) : (s.setProbe p f).dram = s.dram := rfl
@[simp] theorem State.setProbe_eccBad (p : Fin 8) (f : Probe → Probe) : (s.setProbe p f).eccBad = s.eccBad := rfl
@[simp] theorem State.setProbe_eccSoft (p : Fin 8) (f : Probe → Probe) : (s.setProbe p f).eccSoft = s.eccSoft := rfl

/-! ### `State.setTrig` -/

@[simp] theorem State.setTrig_pending (g : Fin 12) (f : TrigGen → TrigGen) : (s.setTrig g f).pending = s.pending := rfl
@[simp] theorem State.setTrig_now (g : Fin 12) (f : TrigGen → TrigGen) : (s.setTrig g f).now = s.now := rfl
@[simp] theorem State.setTrig_freeCount (g : Fin 12) (f : TrigGen → TrigGen) : (s.setTrig g f).freeCount = s.freeCount := rfl
@[simp] theorem State.setTrig_out (g : Fin 12) (f : TrigGen → TrigGen) : (s.setTrig g f).out = s.out := rfl
@[simp] theorem State.setTrig_readData (g : Fin 12) (f : TrigGen → TrigGen) : (s.setTrig g f).readData = s.readData := rfl
@[simp] theorem State.setTrig_readBytes (g : Fin 12) (f : TrigGen → TrigGen) : (s.setTrig g f).readBytes = s.readBytes := rfl
@[simp] theorem State.setTrig_mem (g : Fin 12) (f : TrigGen → TrigGen) : (s.setTrig g f).mem = s.mem := rfl
@[simp] theorem State.setTrig_time (g : Fin 12) (f : TrigGen → TrigGen) : (s.setTrig g f).time = s.time := rfl
@[simp] theorem State.setTrig_pos (g : Fin 12) (f : TrigGen → TrigGen) : (s.setTrig g f).pos = { s.pos with trig := upd s.pos.trig g f } := rfl
@[simp] theorem State.setTrig_evt (g : Fin 12) (f : TrigGen → TrigGen) : (s.setTrig g f).evt = s.evt := rfl
@[simp] theorem State.setTrig_flt (g : Fin 12) (f : TrigGen → TrigGen) : (s.setTrig g f).flt = s.flt := rfl
@[simp] theorem State.setTrig_mgmt (g : Fin 12) (f : TrigGen → TrigGen) : (s.setTrig g f).mgmt = s.mgmt := rfl
@[simp] theorem State.setTrig_power (g : Fin 12) (f : TrigGen → TrigGen) : (s.setTrig g f).power = s.power := rfl
@[simp] theorem State.setTrig_host (g : Fin 12) (f : TrigGen → TrigGen) : (s.setTrig g f).host = s.host := rfl
@[simp] theorem State.setTrig_mbx (g : Fin 12) (f : TrigGen → TrigGen) : (s.setTrig g f).mbx = s.mbx := rfl
@[simp] theorem State.setTrig_cam (g : Fin 12) (f : TrigGen → TrigGen) : (s.setTrig g f).cam = s.cam := rfl
@[simp] theorem State.setTrig_pipe (g : Fin 12) (f : TrigGen → TrigGen) : (s.setTrig g f).pipe = s.pipe := rfl
@[simp] theorem State.setTrig_stitch (g : Fin 12) (f : TrigGen → TrigGen) : (s.setTrig g f).stitch = s.stitch := rfl
@[simp] theorem State.setTrig_seg (g : Fin 12) (f : TrigGen → TrigGen) : (s.setTrig g f).seg = s.seg := rfl
@[simp] theorem State.setTrig_gust (g : Fin 12) (f : TrigGen → TrigGen) : (s.setTrig g f).gust = s.gust := rfl
@[simp] theorem State.setTrig_ej (g : Fin 12) (f : TrigGen → TrigGen) : (s.setTrig g f).ej = s.ej := rfl
@[simp] theorem State.setTrig_eng (g : Fin 12) (f : TrigGen → TrigGen) : (s.setTrig g f).eng = s.eng := rfl
@[simp] theorem State.setTrig_outp (g : Fin 12) (f : TrigGen → TrigGen) : (s.setTrig g f).outp = s.outp := rfl
@[simp] theorem State.setTrig_net (g : Fin 12) (f : TrigGen → TrigGen) : (s.setTrig g f).net = s.net := rfl
@[simp] theorem State.setTrig_station (g : Fin 12) (f : TrigGen → TrigGen) : (s.setTrig g f).station = s.station := rfl
@[simp] theorem State.setTrig_dram (g : Fin 12) (f : TrigGen → TrigGen) : (s.setTrig g f).dram = s.dram := rfl
@[simp] theorem State.setTrig_eccBad (g : Fin 12) (f : TrigGen → TrigGen) : (s.setTrig g f).eccBad = s.eccBad := rfl
@[simp] theorem State.setTrig_eccSoft (g : Fin 12) (f : TrigGen → TrigGen) : (s.setTrig g f).eccSoft = s.eccSoft := rfl

/-! ### `State.setCons` -/

@[simp] theorem State.setCons_pending (j : Fin 96) (f : EvtCons → EvtCons) : (s.setCons j f).pending = s.pending := rfl
@[simp] theorem State.setCons_now (j : Fin 96) (f : EvtCons → EvtCons) : (s.setCons j f).now = s.now := rfl
@[simp] theorem State.setCons_freeCount (j : Fin 96) (f : EvtCons → EvtCons) : (s.setCons j f).freeCount = s.freeCount := rfl
@[simp] theorem State.setCons_out (j : Fin 96) (f : EvtCons → EvtCons) : (s.setCons j f).out = s.out := rfl
@[simp] theorem State.setCons_readData (j : Fin 96) (f : EvtCons → EvtCons) : (s.setCons j f).readData = s.readData := rfl
@[simp] theorem State.setCons_readBytes (j : Fin 96) (f : EvtCons → EvtCons) : (s.setCons j f).readBytes = s.readBytes := rfl
@[simp] theorem State.setCons_mem (j : Fin 96) (f : EvtCons → EvtCons) : (s.setCons j f).mem = s.mem := rfl
@[simp] theorem State.setCons_time (j : Fin 96) (f : EvtCons → EvtCons) : (s.setCons j f).time = s.time := rfl
@[simp] theorem State.setCons_pos (j : Fin 96) (f : EvtCons → EvtCons) : (s.setCons j f).pos = s.pos := rfl
@[simp] theorem State.setCons_evt (j : Fin 96) (f : EvtCons → EvtCons) : (s.setCons j f).evt = { s.evt with cons := upd s.evt.cons j f } := rfl
@[simp] theorem State.setCons_flt (j : Fin 96) (f : EvtCons → EvtCons) : (s.setCons j f).flt = s.flt := rfl
@[simp] theorem State.setCons_mgmt (j : Fin 96) (f : EvtCons → EvtCons) : (s.setCons j f).mgmt = s.mgmt := rfl
@[simp] theorem State.setCons_power (j : Fin 96) (f : EvtCons → EvtCons) : (s.setCons j f).power = s.power := rfl
@[simp] theorem State.setCons_host (j : Fin 96) (f : EvtCons → EvtCons) : (s.setCons j f).host = s.host := rfl
@[simp] theorem State.setCons_mbx (j : Fin 96) (f : EvtCons → EvtCons) : (s.setCons j f).mbx = s.mbx := rfl
@[simp] theorem State.setCons_cam (j : Fin 96) (f : EvtCons → EvtCons) : (s.setCons j f).cam = s.cam := rfl
@[simp] theorem State.setCons_pipe (j : Fin 96) (f : EvtCons → EvtCons) : (s.setCons j f).pipe = s.pipe := rfl
@[simp] theorem State.setCons_stitch (j : Fin 96) (f : EvtCons → EvtCons) : (s.setCons j f).stitch = s.stitch := rfl
@[simp] theorem State.setCons_seg (j : Fin 96) (f : EvtCons → EvtCons) : (s.setCons j f).seg = s.seg := rfl
@[simp] theorem State.setCons_gust (j : Fin 96) (f : EvtCons → EvtCons) : (s.setCons j f).gust = s.gust := rfl
@[simp] theorem State.setCons_ej (j : Fin 96) (f : EvtCons → EvtCons) : (s.setCons j f).ej = s.ej := rfl
@[simp] theorem State.setCons_eng (j : Fin 96) (f : EvtCons → EvtCons) : (s.setCons j f).eng = s.eng := rfl
@[simp] theorem State.setCons_outp (j : Fin 96) (f : EvtCons → EvtCons) : (s.setCons j f).outp = s.outp := rfl
@[simp] theorem State.setCons_net (j : Fin 96) (f : EvtCons → EvtCons) : (s.setCons j f).net = s.net := rfl
@[simp] theorem State.setCons_station (j : Fin 96) (f : EvtCons → EvtCons) : (s.setCons j f).station = s.station := rfl
@[simp] theorem State.setCons_dram (j : Fin 96) (f : EvtCons → EvtCons) : (s.setCons j f).dram = s.dram := rfl
@[simp] theorem State.setCons_eccBad (j : Fin 96) (f : EvtCons → EvtCons) : (s.setCons j f).eccBad = s.eccBad := rfl
@[simp] theorem State.setCons_eccSoft (j : Fin 96) (f : EvtCons → EvtCons) : (s.setCons j f).eccSoft = s.eccSoft := rfl

/-! ### `State.setChan` -/

@[simp] theorem State.setChan_pending (n : Fin 64) (f : EvtChan → EvtChan) : (s.setChan n f).pending = s.pending := rfl
@[simp] theorem State.setChan_now (n : Fin 64) (f : EvtChan → EvtChan) : (s.setChan n f).now = s.now := rfl
@[simp] theorem State.setChan_freeCount (n : Fin 64) (f : EvtChan → EvtChan) : (s.setChan n f).freeCount = s.freeCount := rfl
@[simp] theorem State.setChan_out (n : Fin 64) (f : EvtChan → EvtChan) : (s.setChan n f).out = s.out := rfl
@[simp] theorem State.setChan_readData (n : Fin 64) (f : EvtChan → EvtChan) : (s.setChan n f).readData = s.readData := rfl
@[simp] theorem State.setChan_readBytes (n : Fin 64) (f : EvtChan → EvtChan) : (s.setChan n f).readBytes = s.readBytes := rfl
@[simp] theorem State.setChan_mem (n : Fin 64) (f : EvtChan → EvtChan) : (s.setChan n f).mem = s.mem := rfl
@[simp] theorem State.setChan_time (n : Fin 64) (f : EvtChan → EvtChan) : (s.setChan n f).time = s.time := rfl
@[simp] theorem State.setChan_pos (n : Fin 64) (f : EvtChan → EvtChan) : (s.setChan n f).pos = s.pos := rfl
@[simp] theorem State.setChan_evt (n : Fin 64) (f : EvtChan → EvtChan) : (s.setChan n f).evt = { s.evt with chan := upd s.evt.chan n f } := rfl
@[simp] theorem State.setChan_flt (n : Fin 64) (f : EvtChan → EvtChan) : (s.setChan n f).flt = s.flt := rfl
@[simp] theorem State.setChan_mgmt (n : Fin 64) (f : EvtChan → EvtChan) : (s.setChan n f).mgmt = s.mgmt := rfl
@[simp] theorem State.setChan_power (n : Fin 64) (f : EvtChan → EvtChan) : (s.setChan n f).power = s.power := rfl
@[simp] theorem State.setChan_host (n : Fin 64) (f : EvtChan → EvtChan) : (s.setChan n f).host = s.host := rfl
@[simp] theorem State.setChan_mbx (n : Fin 64) (f : EvtChan → EvtChan) : (s.setChan n f).mbx = s.mbx := rfl
@[simp] theorem State.setChan_cam (n : Fin 64) (f : EvtChan → EvtChan) : (s.setChan n f).cam = s.cam := rfl
@[simp] theorem State.setChan_pipe (n : Fin 64) (f : EvtChan → EvtChan) : (s.setChan n f).pipe = s.pipe := rfl
@[simp] theorem State.setChan_stitch (n : Fin 64) (f : EvtChan → EvtChan) : (s.setChan n f).stitch = s.stitch := rfl
@[simp] theorem State.setChan_seg (n : Fin 64) (f : EvtChan → EvtChan) : (s.setChan n f).seg = s.seg := rfl
@[simp] theorem State.setChan_gust (n : Fin 64) (f : EvtChan → EvtChan) : (s.setChan n f).gust = s.gust := rfl
@[simp] theorem State.setChan_ej (n : Fin 64) (f : EvtChan → EvtChan) : (s.setChan n f).ej = s.ej := rfl
@[simp] theorem State.setChan_eng (n : Fin 64) (f : EvtChan → EvtChan) : (s.setChan n f).eng = s.eng := rfl
@[simp] theorem State.setChan_outp (n : Fin 64) (f : EvtChan → EvtChan) : (s.setChan n f).outp = s.outp := rfl
@[simp] theorem State.setChan_net (n : Fin 64) (f : EvtChan → EvtChan) : (s.setChan n f).net = s.net := rfl
@[simp] theorem State.setChan_station (n : Fin 64) (f : EvtChan → EvtChan) : (s.setChan n f).station = s.station := rfl
@[simp] theorem State.setChan_dram (n : Fin 64) (f : EvtChan → EvtChan) : (s.setChan n f).dram = s.dram := rfl
@[simp] theorem State.setChan_eccBad (n : Fin 64) (f : EvtChan → EvtChan) : (s.setChan n f).eccBad = s.eccBad := rfl
@[simp] theorem State.setChan_eccSoft (n : Fin 64) (f : EvtChan → EvtChan) : (s.setChan n f).eccSoft = s.eccSoft := rfl

/-! ### `State.setGpio` -/

@[simp] theorem State.setGpio_pending (g : Fin 32) (f : Gpio → Gpio) : (s.setGpio g f).pending = s.pending := rfl
@[simp] theorem State.setGpio_now (g : Fin 32) (f : Gpio → Gpio) : (s.setGpio g f).now = s.now := rfl
@[simp] theorem State.setGpio_freeCount (g : Fin 32) (f : Gpio → Gpio) : (s.setGpio g f).freeCount = s.freeCount := rfl
@[simp] theorem State.setGpio_out (g : Fin 32) (f : Gpio → Gpio) : (s.setGpio g f).out = s.out := rfl
@[simp] theorem State.setGpio_readData (g : Fin 32) (f : Gpio → Gpio) : (s.setGpio g f).readData = s.readData := rfl
@[simp] theorem State.setGpio_readBytes (g : Fin 32) (f : Gpio → Gpio) : (s.setGpio g f).readBytes = s.readBytes := rfl
@[simp] theorem State.setGpio_mem (g : Fin 32) (f : Gpio → Gpio) : (s.setGpio g f).mem = s.mem := rfl
@[simp] theorem State.setGpio_time (g : Fin 32) (f : Gpio → Gpio) : (s.setGpio g f).time = s.time := rfl
@[simp] theorem State.setGpio_pos (g : Fin 32) (f : Gpio → Gpio) : (s.setGpio g f).pos = s.pos := rfl
@[simp] theorem State.setGpio_evt (g : Fin 32) (f : Gpio → Gpio) : (s.setGpio g f).evt = { s.evt with gpio := upd s.evt.gpio g f } := rfl
@[simp] theorem State.setGpio_flt (g : Fin 32) (f : Gpio → Gpio) : (s.setGpio g f).flt = s.flt := rfl
@[simp] theorem State.setGpio_mgmt (g : Fin 32) (f : Gpio → Gpio) : (s.setGpio g f).mgmt = s.mgmt := rfl
@[simp] theorem State.setGpio_power (g : Fin 32) (f : Gpio → Gpio) : (s.setGpio g f).power = s.power := rfl
@[simp] theorem State.setGpio_host (g : Fin 32) (f : Gpio → Gpio) : (s.setGpio g f).host = s.host := rfl
@[simp] theorem State.setGpio_mbx (g : Fin 32) (f : Gpio → Gpio) : (s.setGpio g f).mbx = s.mbx := rfl
@[simp] theorem State.setGpio_cam (g : Fin 32) (f : Gpio → Gpio) : (s.setGpio g f).cam = s.cam := rfl
@[simp] theorem State.setGpio_pipe (g : Fin 32) (f : Gpio → Gpio) : (s.setGpio g f).pipe = s.pipe := rfl
@[simp] theorem State.setGpio_stitch (g : Fin 32) (f : Gpio → Gpio) : (s.setGpio g f).stitch = s.stitch := rfl
@[simp] theorem State.setGpio_seg (g : Fin 32) (f : Gpio → Gpio) : (s.setGpio g f).seg = s.seg := rfl
@[simp] theorem State.setGpio_gust (g : Fin 32) (f : Gpio → Gpio) : (s.setGpio g f).gust = s.gust := rfl
@[simp] theorem State.setGpio_ej (g : Fin 32) (f : Gpio → Gpio) : (s.setGpio g f).ej = s.ej := rfl
@[simp] theorem State.setGpio_eng (g : Fin 32) (f : Gpio → Gpio) : (s.setGpio g f).eng = s.eng := rfl
@[simp] theorem State.setGpio_outp (g : Fin 32) (f : Gpio → Gpio) : (s.setGpio g f).outp = s.outp := rfl
@[simp] theorem State.setGpio_net (g : Fin 32) (f : Gpio → Gpio) : (s.setGpio g f).net = s.net := rfl
@[simp] theorem State.setGpio_station (g : Fin 32) (f : Gpio → Gpio) : (s.setGpio g f).station = s.station := rfl
@[simp] theorem State.setGpio_dram (g : Fin 32) (f : Gpio → Gpio) : (s.setGpio g f).dram = s.dram := rfl
@[simp] theorem State.setGpio_eccBad (g : Fin 32) (f : Gpio → Gpio) : (s.setGpio g f).eccBad = s.eccBad := rfl
@[simp] theorem State.setGpio_eccSoft (g : Fin 32) (f : Gpio → Gpio) : (s.setGpio g f).eccSoft = s.eccSoft := rfl

/-! ### `State.setLink` -/

@[simp] theorem State.setLink_pending (l : Fin 4) (f : EjLink → EjLink) : (s.setLink l f).pending = s.pending := rfl
@[simp] theorem State.setLink_now (l : Fin 4) (f : EjLink → EjLink) : (s.setLink l f).now = s.now := rfl
@[simp] theorem State.setLink_freeCount (l : Fin 4) (f : EjLink → EjLink) : (s.setLink l f).freeCount = s.freeCount := rfl
@[simp] theorem State.setLink_out (l : Fin 4) (f : EjLink → EjLink) : (s.setLink l f).out = s.out := rfl
@[simp] theorem State.setLink_readData (l : Fin 4) (f : EjLink → EjLink) : (s.setLink l f).readData = s.readData := rfl
@[simp] theorem State.setLink_readBytes (l : Fin 4) (f : EjLink → EjLink) : (s.setLink l f).readBytes = s.readBytes := rfl
@[simp] theorem State.setLink_mem (l : Fin 4) (f : EjLink → EjLink) : (s.setLink l f).mem = s.mem := rfl
@[simp] theorem State.setLink_time (l : Fin 4) (f : EjLink → EjLink) : (s.setLink l f).time = s.time := rfl
@[simp] theorem State.setLink_pos (l : Fin 4) (f : EjLink → EjLink) : (s.setLink l f).pos = s.pos := rfl
@[simp] theorem State.setLink_evt (l : Fin 4) (f : EjLink → EjLink) : (s.setLink l f).evt = s.evt := rfl
@[simp] theorem State.setLink_flt (l : Fin 4) (f : EjLink → EjLink) : (s.setLink l f).flt = s.flt := rfl
@[simp] theorem State.setLink_mgmt (l : Fin 4) (f : EjLink → EjLink) : (s.setLink l f).mgmt = s.mgmt := rfl
@[simp] theorem State.setLink_power (l : Fin 4) (f : EjLink → EjLink) : (s.setLink l f).power = s.power := rfl
@[simp] theorem State.setLink_host (l : Fin 4) (f : EjLink → EjLink) : (s.setLink l f).host = s.host := rfl
@[simp] theorem State.setLink_mbx (l : Fin 4) (f : EjLink → EjLink) : (s.setLink l f).mbx = s.mbx := rfl
@[simp] theorem State.setLink_cam (l : Fin 4) (f : EjLink → EjLink) : (s.setLink l f).cam = s.cam := rfl
@[simp] theorem State.setLink_pipe (l : Fin 4) (f : EjLink → EjLink) : (s.setLink l f).pipe = s.pipe := rfl
@[simp] theorem State.setLink_stitch (l : Fin 4) (f : EjLink → EjLink) : (s.setLink l f).stitch = s.stitch := rfl
@[simp] theorem State.setLink_seg (l : Fin 4) (f : EjLink → EjLink) : (s.setLink l f).seg = s.seg := rfl
@[simp] theorem State.setLink_gust (l : Fin 4) (f : EjLink → EjLink) : (s.setLink l f).gust = s.gust := rfl
@[simp] theorem State.setLink_ej (l : Fin 4) (f : EjLink → EjLink) : (s.setLink l f).ej = { s.ej with link := upd s.ej.link l f } := rfl
@[simp] theorem State.setLink_eng (l : Fin 4) (f : EjLink → EjLink) : (s.setLink l f).eng = s.eng := rfl
@[simp] theorem State.setLink_outp (l : Fin 4) (f : EjLink → EjLink) : (s.setLink l f).outp = s.outp := rfl
@[simp] theorem State.setLink_net (l : Fin 4) (f : EjLink → EjLink) : (s.setLink l f).net = s.net := rfl
@[simp] theorem State.setLink_station (l : Fin 4) (f : EjLink → EjLink) : (s.setLink l f).station = s.station := rfl
@[simp] theorem State.setLink_dram (l : Fin 4) (f : EjLink → EjLink) : (s.setLink l f).dram = s.dram := rfl
@[simp] theorem State.setLink_eccBad (l : Fin 4) (f : EjLink → EjLink) : (s.setLink l f).eccBad = s.eccBad := rfl
@[simp] theorem State.setLink_eccSoft (l : Fin 4) (f : EjLink → EjLink) : (s.setLink l f).eccSoft = s.eccSoft := rfl

/-! ### `State.setRow` -/

@[simp] theorem State.setRow_pending (r : Fin 4) (f : EjRow → EjRow) : (s.setRow r f).pending = s.pending := rfl
@[simp] theorem State.setRow_now (r : Fin 4) (f : EjRow → EjRow) : (s.setRow r f).now = s.now := rfl
@[simp] theorem State.setRow_freeCount (r : Fin 4) (f : EjRow → EjRow) : (s.setRow r f).freeCount = s.freeCount := rfl
@[simp] theorem State.setRow_out (r : Fin 4) (f : EjRow → EjRow) : (s.setRow r f).out = s.out := rfl
@[simp] theorem State.setRow_readData (r : Fin 4) (f : EjRow → EjRow) : (s.setRow r f).readData = s.readData := rfl
@[simp] theorem State.setRow_readBytes (r : Fin 4) (f : EjRow → EjRow) : (s.setRow r f).readBytes = s.readBytes := rfl
@[simp] theorem State.setRow_mem (r : Fin 4) (f : EjRow → EjRow) : (s.setRow r f).mem = s.mem := rfl
@[simp] theorem State.setRow_time (r : Fin 4) (f : EjRow → EjRow) : (s.setRow r f).time = s.time := rfl
@[simp] theorem State.setRow_pos (r : Fin 4) (f : EjRow → EjRow) : (s.setRow r f).pos = s.pos := rfl
@[simp] theorem State.setRow_evt (r : Fin 4) (f : EjRow → EjRow) : (s.setRow r f).evt = s.evt := rfl
@[simp] theorem State.setRow_flt (r : Fin 4) (f : EjRow → EjRow) : (s.setRow r f).flt = s.flt := rfl
@[simp] theorem State.setRow_mgmt (r : Fin 4) (f : EjRow → EjRow) : (s.setRow r f).mgmt = s.mgmt := rfl
@[simp] theorem State.setRow_power (r : Fin 4) (f : EjRow → EjRow) : (s.setRow r f).power = s.power := rfl
@[simp] theorem State.setRow_host (r : Fin 4) (f : EjRow → EjRow) : (s.setRow r f).host = s.host := rfl
@[simp] theorem State.setRow_mbx (r : Fin 4) (f : EjRow → EjRow) : (s.setRow r f).mbx = s.mbx := rfl
@[simp] theorem State.setRow_cam (r : Fin 4) (f : EjRow → EjRow) : (s.setRow r f).cam = s.cam := rfl
@[simp] theorem State.setRow_pipe (r : Fin 4) (f : EjRow → EjRow) : (s.setRow r f).pipe = s.pipe := rfl
@[simp] theorem State.setRow_stitch (r : Fin 4) (f : EjRow → EjRow) : (s.setRow r f).stitch = s.stitch := rfl
@[simp] theorem State.setRow_seg (r : Fin 4) (f : EjRow → EjRow) : (s.setRow r f).seg = s.seg := rfl
@[simp] theorem State.setRow_gust (r : Fin 4) (f : EjRow → EjRow) : (s.setRow r f).gust = s.gust := rfl
@[simp] theorem State.setRow_ej (r : Fin 4) (f : EjRow → EjRow) : (s.setRow r f).ej = { s.ej with row := upd s.ej.row r f } := rfl
@[simp] theorem State.setRow_eng (r : Fin 4) (f : EjRow → EjRow) : (s.setRow r f).eng = s.eng := rfl
@[simp] theorem State.setRow_outp (r : Fin 4) (f : EjRow → EjRow) : (s.setRow r f).outp = s.outp := rfl
@[simp] theorem State.setRow_net (r : Fin 4) (f : EjRow → EjRow) : (s.setRow r f).net = s.net := rfl
@[simp] theorem State.setRow_station (r : Fin 4) (f : EjRow → EjRow) : (s.setRow r f).station = s.station := rfl
@[simp] theorem State.setRow_dram (r : Fin 4) (f : EjRow → EjRow) : (s.setRow r f).dram = s.dram := rfl
@[simp] theorem State.setRow_eccBad (r : Fin 4) (f : EjRow → EjRow) : (s.setRow r f).eccBad = s.eccBad := rfl
@[simp] theorem State.setRow_eccSoft (r : Fin 4) (f : EjRow → EjRow) : (s.setRow r f).eccSoft = s.eccSoft := rfl

/-! ### `State.setSess` -/

@[simp] theorem State.setSess_pending (k : Fin 14) (f : Session → Session) : (s.setSess k f).pending = s.pending := rfl
@[simp] theorem State.setSess_now (k : Fin 14) (f : Session → Session) : (s.setSess k f).now = s.now := rfl
@[simp] theorem State.setSess_freeCount (k : Fin 14) (f : Session → Session) : (s.setSess k f).freeCount = s.freeCount := rfl
@[simp] theorem State.setSess_out (k : Fin 14) (f : Session → Session) : (s.setSess k f).out = s.out := rfl
@[simp] theorem State.setSess_readData (k : Fin 14) (f : Session → Session) : (s.setSess k f).readData = s.readData := rfl
@[simp] theorem State.setSess_readBytes (k : Fin 14) (f : Session → Session) : (s.setSess k f).readBytes = s.readBytes := rfl
@[simp] theorem State.setSess_mem (k : Fin 14) (f : Session → Session) : (s.setSess k f).mem = s.mem := rfl
@[simp] theorem State.setSess_time (k : Fin 14) (f : Session → Session) : (s.setSess k f).time = s.time := rfl
@[simp] theorem State.setSess_pos (k : Fin 14) (f : Session → Session) : (s.setSess k f).pos = s.pos := rfl
@[simp] theorem State.setSess_evt (k : Fin 14) (f : Session → Session) : (s.setSess k f).evt = s.evt := rfl
@[simp] theorem State.setSess_flt (k : Fin 14) (f : Session → Session) : (s.setSess k f).flt = s.flt := rfl
@[simp] theorem State.setSess_mgmt (k : Fin 14) (f : Session → Session) : (s.setSess k f).mgmt = s.mgmt := rfl
@[simp] theorem State.setSess_power (k : Fin 14) (f : Session → Session) : (s.setSess k f).power = s.power := rfl
@[simp] theorem State.setSess_host (k : Fin 14) (f : Session → Session) : (s.setSess k f).host = s.host := rfl
@[simp] theorem State.setSess_mbx (k : Fin 14) (f : Session → Session) : (s.setSess k f).mbx = { s.mbx with sess := upd s.mbx.sess k f } := rfl
@[simp] theorem State.setSess_cam (k : Fin 14) (f : Session → Session) : (s.setSess k f).cam = s.cam := rfl
@[simp] theorem State.setSess_pipe (k : Fin 14) (f : Session → Session) : (s.setSess k f).pipe = s.pipe := rfl
@[simp] theorem State.setSess_stitch (k : Fin 14) (f : Session → Session) : (s.setSess k f).stitch = s.stitch := rfl
@[simp] theorem State.setSess_seg (k : Fin 14) (f : Session → Session) : (s.setSess k f).seg = s.seg := rfl
@[simp] theorem State.setSess_gust (k : Fin 14) (f : Session → Session) : (s.setSess k f).gust = s.gust := rfl
@[simp] theorem State.setSess_ej (k : Fin 14) (f : Session → Session) : (s.setSess k f).ej = s.ej := rfl
@[simp] theorem State.setSess_eng (k : Fin 14) (f : Session → Session) : (s.setSess k f).eng = s.eng := rfl
@[simp] theorem State.setSess_outp (k : Fin 14) (f : Session → Session) : (s.setSess k f).outp = s.outp := rfl
@[simp] theorem State.setSess_net (k : Fin 14) (f : Session → Session) : (s.setSess k f).net = s.net := rfl
@[simp] theorem State.setSess_station (k : Fin 14) (f : Session → Session) : (s.setSess k f).station = s.station := rfl
@[simp] theorem State.setSess_dram (k : Fin 14) (f : Session → Session) : (s.setSess k f).dram = s.dram := rfl
@[simp] theorem State.setSess_eccBad (k : Fin 14) (f : Session → Session) : (s.setSess k f).eccBad = s.eccBad := rfl
@[simp] theorem State.setSess_eccSoft (k : Fin 14) (f : Session → Session) : (s.setSess k f).eccSoft = s.eccSoft := rfl

/-! ### `State.setDma` -/

@[simp] theorem State.setDma_pending (k : DmaSel) (f : DmaChan → DmaChan) : (s.setDma k f).pending = s.pending := by cases k <;> rfl
@[simp] theorem State.setDma_now (k : DmaSel) (f : DmaChan → DmaChan) : (s.setDma k f).now = s.now := by cases k <;> rfl
@[simp] theorem State.setDma_freeCount (k : DmaSel) (f : DmaChan → DmaChan) : (s.setDma k f).freeCount = s.freeCount := by cases k <;> rfl
@[simp] theorem State.setDma_out (k : DmaSel) (f : DmaChan → DmaChan) : (s.setDma k f).out = s.out := by cases k <;> rfl
@[simp] theorem State.setDma_readData (k : DmaSel) (f : DmaChan → DmaChan) : (s.setDma k f).readData = s.readData := by cases k <;> rfl
@[simp] theorem State.setDma_readBytes (k : DmaSel) (f : DmaChan → DmaChan) : (s.setDma k f).readBytes = s.readBytes := by cases k <;> rfl
@[simp] theorem State.setDma_mem (k : DmaSel) (f : DmaChan → DmaChan) : (s.setDma k f).mem = s.mem := by cases k <;> rfl
@[simp] theorem State.setDma_time (k : DmaSel) (f : DmaChan → DmaChan) : (s.setDma k f).time = s.time := by cases k <;> rfl
@[simp] theorem State.setDma_pos (k : DmaSel) (f : DmaChan → DmaChan) : (s.setDma k f).pos = s.pos := by cases k <;> rfl
@[simp] theorem State.setDma_evt (k : DmaSel) (f : DmaChan → DmaChan) : (s.setDma k f).evt = s.evt := by cases k <;> rfl
@[simp] theorem State.setDma_flt (k : DmaSel) (f : DmaChan → DmaChan) : (s.setDma k f).flt = s.flt := by cases k <;> rfl
@[simp] theorem State.setDma_mgmt (k : DmaSel) (f : DmaChan → DmaChan) : (s.setDma k f).mgmt = s.mgmt := by cases k <;> rfl
@[simp] theorem State.setDma_power (k : DmaSel) (f : DmaChan → DmaChan) : (s.setDma k f).power = s.power := by cases k <;> rfl
@[simp] theorem State.setDma_mbx (k : DmaSel) (f : DmaChan → DmaChan) : (s.setDma k f).mbx = s.mbx := by cases k <;> rfl
@[simp] theorem State.setDma_cam (k : DmaSel) (f : DmaChan → DmaChan) : (s.setDma k f).cam = s.cam := by cases k <;> rfl
@[simp] theorem State.setDma_pipe (k : DmaSel) (f : DmaChan → DmaChan) : (s.setDma k f).pipe = s.pipe := by cases k <;> rfl
@[simp] theorem State.setDma_stitch (k : DmaSel) (f : DmaChan → DmaChan) : (s.setDma k f).stitch = s.stitch := by cases k <;> rfl
@[simp] theorem State.setDma_seg (k : DmaSel) (f : DmaChan → DmaChan) : (s.setDma k f).seg = s.seg := by cases k <;> rfl
@[simp] theorem State.setDma_gust (k : DmaSel) (f : DmaChan → DmaChan) : (s.setDma k f).gust = s.gust := by cases k <;> rfl
@[simp] theorem State.setDma_ej (k : DmaSel) (f : DmaChan → DmaChan) : (s.setDma k f).ej = s.ej := by cases k <;> rfl
@[simp] theorem State.setDma_eng (k : DmaSel) (f : DmaChan → DmaChan) : (s.setDma k f).eng = s.eng := by cases k <;> rfl
@[simp] theorem State.setDma_outp (k : DmaSel) (f : DmaChan → DmaChan) : (s.setDma k f).outp = s.outp := by cases k <;> rfl
@[simp] theorem State.setDma_net (k : DmaSel) (f : DmaChan → DmaChan) : (s.setDma k f).net = s.net := by cases k <;> rfl
@[simp] theorem State.setDma_station (k : DmaSel) (f : DmaChan → DmaChan) : (s.setDma k f).station = s.station := by cases k <;> rfl
@[simp] theorem State.setDma_dram (k : DmaSel) (f : DmaChan → DmaChan) : (s.setDma k f).dram = s.dram := by cases k <;> rfl
@[simp] theorem State.setDma_eccBad (k : DmaSel) (f : DmaChan → DmaChan) : (s.setDma k f).eccBad = s.eccBad := by cases k <;> rfl
@[simp] theorem State.setDma_eccSoft (k : DmaSel) (f : DmaChan → DmaChan) : (s.setDma k f).eccSoft = s.eccSoft := by cases k <;> rfl

/-! ### `State.setEngine` -/

@[simp] theorem State.setEngine_pending (h2d : Bool) (f : DmaEngine → DmaEngine) : (s.setEngine h2d f).pending = s.pending := by cases h2d <;> rfl
@[simp] theorem State.setEngine_now (h2d : Bool) (f : DmaEngine → DmaEngine) : (s.setEngine h2d f).now = s.now := by cases h2d <;> rfl
@[simp] theorem State.setEngine_freeCount (h2d : Bool) (f : DmaEngine → DmaEngine) : (s.setEngine h2d f).freeCount = s.freeCount := by cases h2d <;> rfl
@[simp] theorem State.setEngine_out (h2d : Bool) (f : DmaEngine → DmaEngine) : (s.setEngine h2d f).out = s.out := by cases h2d <;> rfl
@[simp] theorem State.setEngine_readData (h2d : Bool) (f : DmaEngine → DmaEngine) : (s.setEngine h2d f).readData = s.readData := by cases h2d <;> rfl
@[simp] theorem State.setEngine_readBytes (h2d : Bool) (f : DmaEngine → DmaEngine) : (s.setEngine h2d f).readBytes = s.readBytes := by cases h2d <;> rfl
@[simp] theorem State.setEngine_mem (h2d : Bool) (f : DmaEngine → DmaEngine) : (s.setEngine h2d f).mem = s.mem := by cases h2d <;> rfl
@[simp] theorem State.setEngine_time (h2d : Bool) (f : DmaEngine → DmaEngine) : (s.setEngine h2d f).time = s.time := by cases h2d <;> rfl
@[simp] theorem State.setEngine_pos (h2d : Bool) (f : DmaEngine → DmaEngine) : (s.setEngine h2d f).pos = s.pos := by cases h2d <;> rfl
@[simp] theorem State.setEngine_evt (h2d : Bool) (f : DmaEngine → DmaEngine) : (s.setEngine h2d f).evt = s.evt := by cases h2d <;> rfl
@[simp] theorem State.setEngine_flt (h2d : Bool) (f : DmaEngine → DmaEngine) : (s.setEngine h2d f).flt = s.flt := by cases h2d <;> rfl
@[simp] theorem State.setEngine_mgmt (h2d : Bool) (f : DmaEngine → DmaEngine) : (s.setEngine h2d f).mgmt = s.mgmt := by cases h2d <;> rfl
@[simp] theorem State.setEngine_power (h2d : Bool) (f : DmaEngine → DmaEngine) : (s.setEngine h2d f).power = s.power := by cases h2d <;> rfl
@[simp] theorem State.setEngine_mbx (h2d : Bool) (f : DmaEngine → DmaEngine) : (s.setEngine h2d f).mbx = s.mbx := by cases h2d <;> rfl
@[simp] theorem State.setEngine_cam (h2d : Bool) (f : DmaEngine → DmaEngine) : (s.setEngine h2d f).cam = s.cam := by cases h2d <;> rfl
@[simp] theorem State.setEngine_pipe (h2d : Bool) (f : DmaEngine → DmaEngine) : (s.setEngine h2d f).pipe = s.pipe := by cases h2d <;> rfl
@[simp] theorem State.setEngine_stitch (h2d : Bool) (f : DmaEngine → DmaEngine) : (s.setEngine h2d f).stitch = s.stitch := by cases h2d <;> rfl
@[simp] theorem State.setEngine_seg (h2d : Bool) (f : DmaEngine → DmaEngine) : (s.setEngine h2d f).seg = s.seg := by cases h2d <;> rfl
@[simp] theorem State.setEngine_gust (h2d : Bool) (f : DmaEngine → DmaEngine) : (s.setEngine h2d f).gust = s.gust := by cases h2d <;> rfl
@[simp] theorem State.setEngine_ej (h2d : Bool) (f : DmaEngine → DmaEngine) : (s.setEngine h2d f).ej = s.ej := by cases h2d <;> rfl
@[simp] theorem State.setEngine_eng (h2d : Bool) (f : DmaEngine → DmaEngine) : (s.setEngine h2d f).eng = s.eng := by cases h2d <;> rfl
@[simp] theorem State.setEngine_outp (h2d : Bool) (f : DmaEngine → DmaEngine) : (s.setEngine h2d f).outp = s.outp := by cases h2d <;> rfl
@[simp] theorem State.setEngine_net (h2d : Bool) (f : DmaEngine → DmaEngine) : (s.setEngine h2d f).net = s.net := by cases h2d <;> rfl
@[simp] theorem State.setEngine_station (h2d : Bool) (f : DmaEngine → DmaEngine) : (s.setEngine h2d f).station = s.station := by cases h2d <;> rfl
@[simp] theorem State.setEngine_dram (h2d : Bool) (f : DmaEngine → DmaEngine) : (s.setEngine h2d f).dram = s.dram := by cases h2d <;> rfl
@[simp] theorem State.setEngine_eccBad (h2d : Bool) (f : DmaEngine → DmaEngine) : (s.setEngine h2d f).eccBad = s.eccBad := by cases h2d <;> rfl
@[simp] theorem State.setEngine_eccSoft (h2d : Bool) (f : DmaEngine → DmaEngine) : (s.setEngine h2d f).eccSoft = s.eccSoft := by cases h2d <;> rfl

/-! ### `State.store` -/

@[simp] theorem State.store_pending (a : Nat) (bs : List Byte) : (s.store a bs).pending = s.pending := rfl
@[simp] theorem State.store_now (a : Nat) (bs : List Byte) : (s.store a bs).now = s.now := rfl
@[simp] theorem State.store_freeCount (a : Nat) (bs : List Byte) : (s.store a bs).freeCount = s.freeCount := rfl
@[simp] theorem State.store_out (a : Nat) (bs : List Byte) : (s.store a bs).out = s.out := rfl
@[simp] theorem State.store_readData (a : Nat) (bs : List Byte) : (s.store a bs).readData = s.readData := rfl
@[simp] theorem State.store_readBytes (a : Nat) (bs : List Byte) : (s.store a bs).readBytes = s.readBytes := rfl
@[simp] theorem State.store_mem (a : Nat) (bs : List Byte) : (s.store a bs).mem = memWriteN s.mem a bs := rfl
@[simp] theorem State.store_time (a : Nat) (bs : List Byte) : (s.store a bs).time = s.time := rfl
@[simp] theorem State.store_pos (a : Nat) (bs : List Byte) : (s.store a bs).pos = s.pos := rfl
@[simp] theorem State.store_evt (a : Nat) (bs : List Byte) : (s.store a bs).evt = s.evt := rfl
@[simp] theorem State.store_flt (a : Nat) (bs : List Byte) : (s.store a bs).flt = s.flt := rfl
@[simp] theorem State.store_mgmt (a : Nat) (bs : List Byte) : (s.store a bs).mgmt = s.mgmt := rfl
@[simp] theorem State.store_power (a : Nat) (bs : List Byte) : (s.store a bs).power = s.power := rfl
@[simp] theorem State.store_host (a : Nat) (bs : List Byte) : (s.store a bs).host = s.host := rfl
@[simp] theorem State.store_mbx (a : Nat) (bs : List Byte) : (s.store a bs).mbx = s.mbx := rfl
@[simp] theorem State.store_cam (a : Nat) (bs : List Byte) : (s.store a bs).cam = s.cam := rfl
@[simp] theorem State.store_pipe (a : Nat) (bs : List Byte) : (s.store a bs).pipe = s.pipe := rfl
@[simp] theorem State.store_stitch (a : Nat) (bs : List Byte) : (s.store a bs).stitch = s.stitch := rfl
@[simp] theorem State.store_seg (a : Nat) (bs : List Byte) : (s.store a bs).seg = s.seg := rfl
@[simp] theorem State.store_gust (a : Nat) (bs : List Byte) : (s.store a bs).gust = s.gust := rfl
@[simp] theorem State.store_ej (a : Nat) (bs : List Byte) : (s.store a bs).ej = s.ej := rfl
@[simp] theorem State.store_eng (a : Nat) (bs : List Byte) : (s.store a bs).eng = s.eng := rfl
@[simp] theorem State.store_outp (a : Nat) (bs : List Byte) : (s.store a bs).outp = s.outp := rfl
@[simp] theorem State.store_net (a : Nat) (bs : List Byte) : (s.store a bs).net = s.net := rfl
@[simp] theorem State.store_station (a : Nat) (bs : List Byte) : (s.store a bs).station = s.station := rfl
@[simp] theorem State.store_dram (a : Nat) (bs : List Byte) : (s.store a bs).dram = s.dram := rfl

/-! ### `State.fireVector` -/

@[simp] theorem State.fireVector_pending (v : Fin 64) : (s.fireVector v).pending = s.pending := by unfold State.fireVector; (repeat' split) <;> rfl
@[simp] theorem State.fireVector_now (v : Fin 64) : (s.fireVector v).now = s.now := by unfold State.fireVector; (repeat' split) <;> rfl
@[simp] theorem State.fireVector_freeCount (v : Fin 64) : (s.fireVector v).freeCount = s.freeCount := by unfold State.fireVector; (repeat' split) <;> rfl
@[simp] theorem State.fireVector_readData (v : Fin 64) : (s.fireVector v).readData = s.readData := by unfold State.fireVector; (repeat' split) <;> rfl
@[simp] theorem State.fireVector_readBytes (v : Fin 64) : (s.fireVector v).readBytes = s.readBytes := by unfold State.fireVector; (repeat' split) <;> rfl
@[simp] theorem State.fireVector_mem (v : Fin 64) : (s.fireVector v).mem = s.mem := by unfold State.fireVector; (repeat' split) <;> rfl
@[simp] theorem State.fireVector_time (v : Fin 64) : (s.fireVector v).time = s.time := by unfold State.fireVector; (repeat' split) <;> rfl
@[simp] theorem State.fireVector_pos (v : Fin 64) : (s.fireVector v).pos = s.pos := by unfold State.fireVector; (repeat' split) <;> rfl
@[simp] theorem State.fireVector_evt (v : Fin 64) : (s.fireVector v).evt = s.evt := by unfold State.fireVector; (repeat' split) <;> rfl
@[simp] theorem State.fireVector_flt (v : Fin 64) : (s.fireVector v).flt = s.flt := by unfold State.fireVector; (repeat' split) <;> rfl
@[simp] theorem State.fireVector_mgmt (v : Fin 64) : (s.fireVector v).mgmt = s.mgmt := by unfold State.fireVector; (repeat' split) <;> rfl
@[simp] theorem State.fireVector_power (v : Fin 64) : (s.fireVector v).power = s.power := by unfold State.fireVector; (repeat' split) <;> rfl
@[simp] theorem State.fireVector_mbx (v : Fin 64) : (s.fireVector v).mbx = s.mbx := by unfold State.fireVector; (repeat' split) <;> rfl
@[simp] theorem State.fireVector_cam (v : Fin 64) : (s.fireVector v).cam = s.cam := by unfold State.fireVector; (repeat' split) <;> rfl
@[simp] theorem State.fireVector_pipe (v : Fin 64) : (s.fireVector v).pipe = s.pipe := by unfold State.fireVector; (repeat' split) <;> rfl
@[simp] theorem State.fireVector_stitch (v : Fin 64) : (s.fireVector v).stitch = s.stitch := by unfold State.fireVector; (repeat' split) <;> rfl
@[simp] theorem State.fireVector_seg (v : Fin 64) : (s.fireVector v).seg = s.seg := by unfold State.fireVector; (repeat' split) <;> rfl
@[simp] theorem State.fireVector_gust (v : Fin 64) : (s.fireVector v).gust = s.gust := by unfold State.fireVector; (repeat' split) <;> rfl
@[simp] theorem State.fireVector_ej (v : Fin 64) : (s.fireVector v).ej = s.ej := by unfold State.fireVector; (repeat' split) <;> rfl
@[simp] theorem State.fireVector_eng (v : Fin 64) : (s.fireVector v).eng = s.eng := by unfold State.fireVector; (repeat' split) <;> rfl
@[simp] theorem State.fireVector_outp (v : Fin 64) : (s.fireVector v).outp = s.outp := by unfold State.fireVector; (repeat' split) <;> rfl
@[simp] theorem State.fireVector_net (v : Fin 64) : (s.fireVector v).net = s.net := by unfold State.fireVector; (repeat' split) <;> rfl
@[simp] theorem State.fireVector_station (v : Fin 64) : (s.fireVector v).station = s.station := by unfold State.fireVector; (repeat' split) <;> rfl
@[simp] theorem State.fireVector_dram (v : Fin 64) : (s.fireVector v).dram = s.dram := by unfold State.fireVector; (repeat' split) <;> rfl
@[simp] theorem State.fireVector_eccBad (v : Fin 64) : (s.fireVector v).eccBad = s.eccBad := by unfold State.fireVector; (repeat' split) <;> rfl
@[simp] theorem State.fireVector_eccSoft (v : Fin 64) : (s.fireVector v).eccSoft = s.eccSoft := by unfold State.fireVector; (repeat' split) <;> rfl

/-! ### `State.fireVectorN` -/

@[simp] theorem State.fireVectorN_pending (v : Nat) : (s.fireVectorN v).pending = s.pending := by unfold State.fireVectorN; split <;> simp
@[simp] theorem State.fireVectorN_now (v : Nat) : (s.fireVectorN v).now = s.now := by unfold State.fireVectorN; split <;> simp
@[simp] theorem State.fireVectorN_freeCount (v : Nat) : (s.fireVectorN v).freeCount = s.freeCount := by unfold State.fireVectorN; split <;> simp
@[simp] theorem State.fireVectorN_readData (v : Nat) : (s.fireVectorN v).readData = s.readData := by unfold State.fireVectorN; split <;> simp
@[simp] theorem State.fireVectorN_readBytes (v : Nat) : (s.fireVectorN v).readBytes = s.readBytes := by unfold State.fireVectorN; split <;> simp
@[simp] theorem State.fireVectorN_mem (v : Nat) : (s.fireVectorN v).mem = s.mem := by unfold State.fireVectorN; split <;> simp
@[simp] theorem State.fireVectorN_time (v : Nat) : (s.fireVectorN v).time = s.time := by unfold State.fireVectorN; split <;> simp
@[simp] theorem State.fireVectorN_pos (v : Nat) : (s.fireVectorN v).pos = s.pos := by unfold State.fireVectorN; split <;> simp
@[simp] theorem State.fireVectorN_evt (v : Nat) : (s.fireVectorN v).evt = s.evt := by unfold State.fireVectorN; split <;> simp
@[simp] theorem State.fireVectorN_flt (v : Nat) : (s.fireVectorN v).flt = s.flt := by unfold State.fireVectorN; split <;> simp
@[simp] theorem State.fireVectorN_mgmt (v : Nat) : (s.fireVectorN v).mgmt = s.mgmt := by unfold State.fireVectorN; split <;> simp
@[simp] theorem State.fireVectorN_power (v : Nat) : (s.fireVectorN v).power = s.power := by unfold State.fireVectorN; split <;> simp
@[simp] theorem State.fireVectorN_mbx (v : Nat) : (s.fireVectorN v).mbx = s.mbx := by unfold State.fireVectorN; split <;> simp
@[simp] theorem State.fireVectorN_cam (v : Nat) : (s.fireVectorN v).cam = s.cam := by unfold State.fireVectorN; split <;> simp
@[simp] theorem State.fireVectorN_pipe (v : Nat) : (s.fireVectorN v).pipe = s.pipe := by unfold State.fireVectorN; split <;> simp
@[simp] theorem State.fireVectorN_stitch (v : Nat) : (s.fireVectorN v).stitch = s.stitch := by unfold State.fireVectorN; split <;> simp
@[simp] theorem State.fireVectorN_seg (v : Nat) : (s.fireVectorN v).seg = s.seg := by unfold State.fireVectorN; split <;> simp
@[simp] theorem State.fireVectorN_gust (v : Nat) : (s.fireVectorN v).gust = s.gust := by unfold State.fireVectorN; split <;> simp
@[simp] theorem State.fireVectorN_ej (v : Nat) : (s.fireVectorN v).ej = s.ej := by unfold State.fireVectorN; split <;> simp
@[simp] theorem State.fireVectorN_eng (v : Nat) : (s.fireVectorN v).eng = s.eng := by unfold State.fireVectorN; split <;> simp
@[simp] theorem State.fireVectorN_outp (v : Nat) : (s.fireVectorN v).outp = s.outp := by unfold State.fireVectorN; split <;> simp
@[simp] theorem State.fireVectorN_net (v : Nat) : (s.fireVectorN v).net = s.net := by unfold State.fireVectorN; split <;> simp
@[simp] theorem State.fireVectorN_station (v : Nat) : (s.fireVectorN v).station = s.station := by unfold State.fireVectorN; split <;> simp
@[simp] theorem State.fireVectorN_dram (v : Nat) : (s.fireVectorN v).dram = s.dram := by unfold State.fireVectorN; split <;> simp
@[simp] theorem State.fireVectorN_eccBad (v : Nat) : (s.fireVectorN v).eccBad = s.eccBad := by unfold State.fireVectorN; split <;> simp
@[simp] theorem State.fireVectorN_eccSoft (v : Nat) : (s.fireVectorN v).eccSoft = s.eccSoft := by unfold State.fireVectorN; split <;> simp

/-! ### `State.driveWakeN` -/

@[simp] theorem State.driveWakeN_pending : (s.driveWakeN).pending = s.pending := by unfold State.driveWakeN; split <;> rfl
@[simp] theorem State.driveWakeN_now : (s.driveWakeN).now = s.now := by unfold State.driveWakeN; split <;> rfl
@[simp] theorem State.driveWakeN_freeCount : (s.driveWakeN).freeCount = s.freeCount := by unfold State.driveWakeN; split <;> rfl
@[simp] theorem State.driveWakeN_readData : (s.driveWakeN).readData = s.readData := by unfold State.driveWakeN; split <;> rfl
@[simp] theorem State.driveWakeN_readBytes : (s.driveWakeN).readBytes = s.readBytes := by unfold State.driveWakeN; split <;> rfl
@[simp] theorem State.driveWakeN_mem : (s.driveWakeN).mem = s.mem := by unfold State.driveWakeN; split <;> rfl
@[simp] theorem State.driveWakeN_time : (s.driveWakeN).time = s.time := by unfold State.driveWakeN; split <;> rfl
@[simp] theorem State.driveWakeN_pos : (s.driveWakeN).pos = s.pos := by unfold State.driveWakeN; split <;> rfl
@[simp] theorem State.driveWakeN_evt : (s.driveWakeN).evt = s.evt := by unfold State.driveWakeN; split <;> rfl
@[simp] theorem State.driveWakeN_flt : (s.driveWakeN).flt = s.flt := by unfold State.driveWakeN; split <;> rfl
@[simp] theorem State.driveWakeN_mgmt : (s.driveWakeN).mgmt = s.mgmt := by unfold State.driveWakeN; split <;> rfl
@[simp] theorem State.driveWakeN_power : (s.driveWakeN).power = s.power := by unfold State.driveWakeN; split <;> rfl
@[simp] theorem State.driveWakeN_mbx : (s.driveWakeN).mbx = s.mbx := by unfold State.driveWakeN; split <;> rfl
@[simp] theorem State.driveWakeN_cam : (s.driveWakeN).cam = s.cam := by unfold State.driveWakeN; split <;> rfl
@[simp] theorem State.driveWakeN_pipe : (s.driveWakeN).pipe = s.pipe := by unfold State.driveWakeN; split <;> rfl
@[simp] theorem State.driveWakeN_stitch : (s.driveWakeN).stitch = s.stitch := by unfold State.driveWakeN; split <;> rfl
@[simp] theorem State.driveWakeN_seg : (s.driveWakeN).seg = s.seg := by unfold State.driveWakeN; split <;> rfl
@[simp] theorem State.driveWakeN_gust : (s.driveWakeN).gust = s.gust := by unfold State.driveWakeN; split <;> rfl
@[simp] theorem State.driveWakeN_ej : (s.driveWakeN).ej = s.ej := by unfold State.driveWakeN; split <;> rfl
@[simp] theorem State.driveWakeN_eng : (s.driveWakeN).eng = s.eng := by unfold State.driveWakeN; split <;> rfl
@[simp] theorem State.driveWakeN_outp : (s.driveWakeN).outp = s.outp := by unfold State.driveWakeN; split <;> rfl
@[simp] theorem State.driveWakeN_net : (s.driveWakeN).net = s.net := by unfold State.driveWakeN; split <;> rfl
@[simp] theorem State.driveWakeN_station : (s.driveWakeN).station = s.station := by unfold State.driveWakeN; split <;> rfl
@[simp] theorem State.driveWakeN_dram : (s.driveWakeN).dram = s.dram := by unfold State.driveWakeN; split <;> rfl
@[simp] theorem State.driveWakeN_eccBad : (s.driveWakeN).eccBad = s.eccBad := by unfold State.driveWakeN; split <;> rfl
@[simp] theorem State.driveWakeN_eccSoft : (s.driveWakeN).eccSoft = s.eccSoft := by unfold State.driveWakeN; split <;> rfl

/-! ### `State.log` -/

@[simp] theorem State.log_pending (typ session : Nat) (data : List Nat) : (s.log typ session data).pending = s.pending := rfl
@[simp] theorem State.log_now (typ session : Nat) (data : List Nat) : (s.log typ session data).now = s.now := rfl
@[simp] theorem State.log_freeCount (typ session : Nat) (data : List Nat) : (s.log typ session data).freeCount = s.freeCount := rfl
@[simp] theorem State.log_out (typ session : Nat) (data : List Nat) : (s.log typ session data).out = s.out := rfl
@[simp] theorem State.log_readData (typ session : Nat) (data : List Nat) : (s.log typ session data).readData = s.readData := rfl
@[simp] theorem State.log_readBytes (typ session : Nat) (data : List Nat) : (s.log typ session data).readBytes = s.readBytes := rfl
@[simp] theorem State.log_mem (typ session : Nat) (data : List Nat) : (s.log typ session data).mem = s.mem := rfl
@[simp] theorem State.log_time (typ session : Nat) (data : List Nat) : (s.log typ session data).time = s.time := rfl
@[simp] theorem State.log_pos (typ session : Nat) (data : List Nat) : (s.log typ session data).pos = s.pos := rfl
@[simp] theorem State.log_evt (typ session : Nat) (data : List Nat) : (s.log typ session data).evt = s.evt := rfl
@[simp] theorem State.log_flt (typ session : Nat) (data : List Nat) : (s.log typ session data).flt = s.flt := rfl
@[simp] theorem State.log_power (typ session : Nat) (data : List Nat) : (s.log typ session data).power = s.power := rfl
@[simp] theorem State.log_host (typ session : Nat) (data : List Nat) : (s.log typ session data).host = s.host := rfl
@[simp] theorem State.log_mbx (typ session : Nat) (data : List Nat) : (s.log typ session data).mbx = s.mbx := rfl
@[simp] theorem State.log_cam (typ session : Nat) (data : List Nat) : (s.log typ session data).cam = s.cam := rfl
@[simp] theorem State.log_pipe (typ session : Nat) (data : List Nat) : (s.log typ session data).pipe = s.pipe := rfl
@[simp] theorem State.log_stitch (typ session : Nat) (data : List Nat) : (s.log typ session data).stitch = s.stitch := rfl
@[simp] theorem State.log_seg (typ session : Nat) (data : List Nat) : (s.log typ session data).seg = s.seg := rfl
@[simp] theorem State.log_gust (typ session : Nat) (data : List Nat) : (s.log typ session data).gust = s.gust := rfl
@[simp] theorem State.log_ej (typ session : Nat) (data : List Nat) : (s.log typ session data).ej = s.ej := rfl
@[simp] theorem State.log_eng (typ session : Nat) (data : List Nat) : (s.log typ session data).eng = s.eng := rfl
@[simp] theorem State.log_outp (typ session : Nat) (data : List Nat) : (s.log typ session data).outp = s.outp := rfl
@[simp] theorem State.log_net (typ session : Nat) (data : List Nat) : (s.log typ session data).net = s.net := rfl
@[simp] theorem State.log_station (typ session : Nat) (data : List Nat) : (s.log typ session data).station = s.station := rfl
@[simp] theorem State.log_dram (typ session : Nat) (data : List Nat) : (s.log typ session data).dram = s.dram := rfl
@[simp] theorem State.log_eccBad (typ session : Nat) (data : List Nat) : (s.log typ session data).eccBad = s.eccBad := rfl
@[simp] theorem State.log_eccSoft (typ session : Nat) (data : List Nat) : (s.log typ session data).eccSoft = s.eccSoft := rfl

/-! ### `State.sentFrame` -/

@[simp] theorem State.sentFrame_pending (n : Fin 4) : (s.sentFrame n).pending = s.pending := rfl
@[simp] theorem State.sentFrame_now (n : Fin 4) : (s.sentFrame n).now = s.now := rfl
@[simp] theorem State.sentFrame_freeCount (n : Fin 4) : (s.sentFrame n).freeCount = s.freeCount := rfl
@[simp] theorem State.sentFrame_out (n : Fin 4) : (s.sentFrame n).out = s.out := rfl
@[simp] theorem State.sentFrame_readData (n : Fin 4) : (s.sentFrame n).readData = s.readData := rfl
@[simp] theorem State.sentFrame_readBytes (n : Fin 4) : (s.sentFrame n).readBytes = s.readBytes := rfl
@[simp] theorem State.sentFrame_mem (n : Fin 4) : (s.sentFrame n).mem = s.mem := rfl
@[simp] theorem State.sentFrame_time (n : Fin 4) : (s.sentFrame n).time = s.time := rfl
@[simp] theorem State.sentFrame_pos (n : Fin 4) : (s.sentFrame n).pos = s.pos := rfl
@[simp] theorem State.sentFrame_evt (n : Fin 4) : (s.sentFrame n).evt = s.evt := rfl
@[simp] theorem State.sentFrame_flt (n : Fin 4) : (s.sentFrame n).flt = s.flt := rfl
@[simp] theorem State.sentFrame_mgmt (n : Fin 4) : (s.sentFrame n).mgmt = s.mgmt := rfl
@[simp] theorem State.sentFrame_power (n : Fin 4) : (s.sentFrame n).power = s.power := rfl
@[simp] theorem State.sentFrame_host (n : Fin 4) : (s.sentFrame n).host = s.host := rfl
@[simp] theorem State.sentFrame_mbx (n : Fin 4) : (s.sentFrame n).mbx = s.mbx := rfl
@[simp] theorem State.sentFrame_cam (n : Fin 4) : (s.sentFrame n).cam = s.cam := rfl
@[simp] theorem State.sentFrame_pipe (n : Fin 4) : (s.sentFrame n).pipe = s.pipe := rfl
@[simp] theorem State.sentFrame_stitch (n : Fin 4) : (s.sentFrame n).stitch = s.stitch := rfl
@[simp] theorem State.sentFrame_seg (n : Fin 4) : (s.sentFrame n).seg = s.seg := rfl
@[simp] theorem State.sentFrame_gust (n : Fin 4) : (s.sentFrame n).gust = s.gust := rfl
@[simp] theorem State.sentFrame_ej (n : Fin 4) : (s.sentFrame n).ej = s.ej := rfl
@[simp] theorem State.sentFrame_eng (n : Fin 4) : (s.sentFrame n).eng = s.eng := rfl
@[simp] theorem State.sentFrame_outp (n : Fin 4) : (s.sentFrame n).outp = s.outp := rfl
@[simp] theorem State.sentFrame_station (n : Fin 4) : (s.sentFrame n).station = s.station := rfl
@[simp] theorem State.sentFrame_dram (n : Fin 4) : (s.sentFrame n).dram = s.dram := rfl
@[simp] theorem State.sentFrame_eccBad (n : Fin 4) : (s.sentFrame n).eccBad = s.eccBad := rfl
@[simp] theorem State.sentFrame_eccSoft (n : Fin 4) : (s.sentFrame n).eccSoft = s.eccSoft := rfl

/-! ### `State.tookFrame` -/

@[simp] theorem State.tookFrame_pending (n : Fin 4) : (s.tookFrame n).pending = s.pending := rfl
@[simp] theorem State.tookFrame_now (n : Fin 4) : (s.tookFrame n).now = s.now := rfl
@[simp] theorem State.tookFrame_freeCount (n : Fin 4) : (s.tookFrame n).freeCount = s.freeCount := rfl
@[simp] theorem State.tookFrame_out (n : Fin 4) : (s.tookFrame n).out = s.out := rfl
@[simp] theorem State.tookFrame_readData (n : Fin 4) : (s.tookFrame n).readData = s.readData := rfl
@[simp] theorem State.tookFrame_readBytes (n : Fin 4) : (s.tookFrame n).readBytes = s.readBytes := rfl
@[simp] theorem State.tookFrame_mem (n : Fin 4) : (s.tookFrame n).mem = s.mem := rfl
@[simp] theorem State.tookFrame_time (n : Fin 4) : (s.tookFrame n).time = s.time := rfl
@[simp] theorem State.tookFrame_pos (n : Fin 4) : (s.tookFrame n).pos = s.pos := rfl
@[simp] theorem State.tookFrame_evt (n : Fin 4) : (s.tookFrame n).evt = s.evt := rfl
@[simp] theorem State.tookFrame_flt (n : Fin 4) : (s.tookFrame n).flt = s.flt := rfl
@[simp] theorem State.tookFrame_mgmt (n : Fin 4) : (s.tookFrame n).mgmt = s.mgmt := rfl
@[simp] theorem State.tookFrame_power (n : Fin 4) : (s.tookFrame n).power = s.power := rfl
@[simp] theorem State.tookFrame_host (n : Fin 4) : (s.tookFrame n).host = s.host := rfl
@[simp] theorem State.tookFrame_mbx (n : Fin 4) : (s.tookFrame n).mbx = s.mbx := rfl
@[simp] theorem State.tookFrame_cam (n : Fin 4) : (s.tookFrame n).cam = s.cam := rfl
@[simp] theorem State.tookFrame_pipe (n : Fin 4) : (s.tookFrame n).pipe = s.pipe := rfl
@[simp] theorem State.tookFrame_stitch (n : Fin 4) : (s.tookFrame n).stitch = s.stitch := rfl
@[simp] theorem State.tookFrame_seg (n : Fin 4) : (s.tookFrame n).seg = s.seg := rfl
@[simp] theorem State.tookFrame_gust (n : Fin 4) : (s.tookFrame n).gust = s.gust := rfl
@[simp] theorem State.tookFrame_ej (n : Fin 4) : (s.tookFrame n).ej = s.ej := rfl
@[simp] theorem State.tookFrame_eng (n : Fin 4) : (s.tookFrame n).eng = s.eng := rfl
@[simp] theorem State.tookFrame_outp (n : Fin 4) : (s.tookFrame n).outp = s.outp := rfl
@[simp] theorem State.tookFrame_station (n : Fin 4) : (s.tookFrame n).station = s.station := rfl
@[simp] theorem State.tookFrame_dram (n : Fin 4) : (s.tookFrame n).dram = s.dram := rfl
@[simp] theorem State.tookFrame_eccBad (n : Fin 4) : (s.tookFrame n).eccBad = s.eccBad := rfl
@[simp] theorem State.tookFrame_eccSoft (n : Fin 4) : (s.tookFrame n).eccSoft = s.eccSoft := rfl

/-! ### `State.droppedFrame` -/

@[simp] theorem State.droppedFrame_pending (n : Fin 4) : (s.droppedFrame n).pending = s.pending := rfl
@[simp] theorem State.droppedFrame_now (n : Fin 4) : (s.droppedFrame n).now = s.now := rfl
@[simp] theorem State.droppedFrame_freeCount (n : Fin 4) : (s.droppedFrame n).freeCount = s.freeCount := rfl
@[simp] theorem State.droppedFrame_out (n : Fin 4) : (s.droppedFrame n).out = s.out := rfl
@[simp] theorem State.droppedFrame_readData (n : Fin 4) : (s.droppedFrame n).readData = s.readData := rfl
@[simp] theorem State.droppedFrame_readBytes (n : Fin 4) : (s.droppedFrame n).readBytes = s.readBytes := rfl
@[simp] theorem State.droppedFrame_mem (n : Fin 4) : (s.droppedFrame n).mem = s.mem := rfl
@[simp] theorem State.droppedFrame_time (n : Fin 4) : (s.droppedFrame n).time = s.time := rfl
@[simp] theorem State.droppedFrame_pos (n : Fin 4) : (s.droppedFrame n).pos = s.pos := rfl
@[simp] theorem State.droppedFrame_evt (n : Fin 4) : (s.droppedFrame n).evt = s.evt := rfl
@[simp] theorem State.droppedFrame_flt (n : Fin 4) : (s.droppedFrame n).flt = s.flt := rfl
@[simp] theorem State.droppedFrame_mgmt (n : Fin 4) : (s.droppedFrame n).mgmt = s.mgmt := rfl
@[simp] theorem State.droppedFrame_power (n : Fin 4) : (s.droppedFrame n).power = s.power := rfl
@[simp] theorem State.droppedFrame_host (n : Fin 4) : (s.droppedFrame n).host = s.host := rfl
@[simp] theorem State.droppedFrame_mbx (n : Fin 4) : (s.droppedFrame n).mbx = s.mbx := rfl
@[simp] theorem State.droppedFrame_cam (n : Fin 4) : (s.droppedFrame n).cam = s.cam := rfl
@[simp] theorem State.droppedFrame_pipe (n : Fin 4) : (s.droppedFrame n).pipe = s.pipe := rfl
@[simp] theorem State.droppedFrame_stitch (n : Fin 4) : (s.droppedFrame n).stitch = s.stitch := rfl
@[simp] theorem State.droppedFrame_seg (n : Fin 4) : (s.droppedFrame n).seg = s.seg := rfl
@[simp] theorem State.droppedFrame_gust (n : Fin 4) : (s.droppedFrame n).gust = s.gust := rfl
@[simp] theorem State.droppedFrame_ej (n : Fin 4) : (s.droppedFrame n).ej = s.ej := rfl
@[simp] theorem State.droppedFrame_eng (n : Fin 4) : (s.droppedFrame n).eng = s.eng := rfl
@[simp] theorem State.droppedFrame_outp (n : Fin 4) : (s.droppedFrame n).outp = s.outp := rfl
@[simp] theorem State.droppedFrame_station (n : Fin 4) : (s.droppedFrame n).station = s.station := rfl
@[simp] theorem State.droppedFrame_dram (n : Fin 4) : (s.droppedFrame n).dram = s.dram := rfl
@[simp] theorem State.droppedFrame_eccBad (n : Fin 4) : (s.droppedFrame n).eccBad = s.eccBad := rfl
@[simp] theorem State.droppedFrame_eccSoft (n : Fin 4) : (s.droppedFrame n).eccSoft = s.eccSoft := rfl

/-! ### `State.addWork` -/

@[simp] theorem State.addWork_pending (w : SettingsWork) : (s.addWork w).pending = s.pending := rfl
@[simp] theorem State.addWork_now (w : SettingsWork) : (s.addWork w).now = s.now := rfl
@[simp] theorem State.addWork_freeCount (w : SettingsWork) : (s.addWork w).freeCount = s.freeCount := rfl
@[simp] theorem State.addWork_out (w : SettingsWork) : (s.addWork w).out = s.out := rfl
@[simp] theorem State.addWork_readData (w : SettingsWork) : (s.addWork w).readData = s.readData := rfl
@[simp] theorem State.addWork_readBytes (w : SettingsWork) : (s.addWork w).readBytes = s.readBytes := rfl
@[simp] theorem State.addWork_mem (w : SettingsWork) : (s.addWork w).mem = s.mem := rfl
@[simp] theorem State.addWork_time (w : SettingsWork) : (s.addWork w).time = s.time := rfl
@[simp] theorem State.addWork_pos (w : SettingsWork) : (s.addWork w).pos = s.pos := rfl
@[simp] theorem State.addWork_evt (w : SettingsWork) : (s.addWork w).evt = s.evt := rfl
@[simp] theorem State.addWork_flt (w : SettingsWork) : (s.addWork w).flt = s.flt := rfl
@[simp] theorem State.addWork_mgmt (w : SettingsWork) : (s.addWork w).mgmt = { s.mgmt with settingsWork := s.mgmt.settingsWork ++ [w] } := rfl
@[simp] theorem State.addWork_power (w : SettingsWork) : (s.addWork w).power = s.power := rfl
@[simp] theorem State.addWork_host (w : SettingsWork) : (s.addWork w).host = s.host := rfl
@[simp] theorem State.addWork_mbx (w : SettingsWork) : (s.addWork w).mbx = s.mbx := rfl
@[simp] theorem State.addWork_cam (w : SettingsWork) : (s.addWork w).cam = s.cam := rfl
@[simp] theorem State.addWork_pipe (w : SettingsWork) : (s.addWork w).pipe = s.pipe := rfl
@[simp] theorem State.addWork_stitch (w : SettingsWork) : (s.addWork w).stitch = s.stitch := rfl
@[simp] theorem State.addWork_seg (w : SettingsWork) : (s.addWork w).seg = s.seg := rfl
@[simp] theorem State.addWork_gust (w : SettingsWork) : (s.addWork w).gust = s.gust := rfl
@[simp] theorem State.addWork_ej (w : SettingsWork) : (s.addWork w).ej = s.ej := rfl
@[simp] theorem State.addWork_eng (w : SettingsWork) : (s.addWork w).eng = s.eng := rfl
@[simp] theorem State.addWork_outp (w : SettingsWork) : (s.addWork w).outp = s.outp := rfl
@[simp] theorem State.addWork_net (w : SettingsWork) : (s.addWork w).net = s.net := rfl
@[simp] theorem State.addWork_station (w : SettingsWork) : (s.addWork w).station = s.station := rfl
@[simp] theorem State.addWork_dram (w : SettingsWork) : (s.addWork w).dram = s.dram := rfl
@[simp] theorem State.addWork_eccBad (w : SettingsWork) : (s.addWork w).eccBad = s.eccBad := rfl
@[simp] theorem State.addWork_eccSoft (w : SettingsWork) : (s.addWork w).eccSoft = s.eccSoft := rfl

/-! ### `State.setUpdate` -/

@[simp] theorem State.setUpdate_pending (f : Update → Update) : (s.setUpdate f).pending = s.pending := rfl
@[simp] theorem State.setUpdate_now (f : Update → Update) : (s.setUpdate f).now = s.now := rfl
@[simp] theorem State.setUpdate_freeCount (f : Update → Update) : (s.setUpdate f).freeCount = s.freeCount := rfl
@[simp] theorem State.setUpdate_out (f : Update → Update) : (s.setUpdate f).out = s.out := rfl
@[simp] theorem State.setUpdate_readData (f : Update → Update) : (s.setUpdate f).readData = s.readData := rfl
@[simp] theorem State.setUpdate_readBytes (f : Update → Update) : (s.setUpdate f).readBytes = s.readBytes := rfl
@[simp] theorem State.setUpdate_mem (f : Update → Update) : (s.setUpdate f).mem = s.mem := rfl
@[simp] theorem State.setUpdate_time (f : Update → Update) : (s.setUpdate f).time = s.time := rfl
@[simp] theorem State.setUpdate_pos (f : Update → Update) : (s.setUpdate f).pos = s.pos := rfl
@[simp] theorem State.setUpdate_evt (f : Update → Update) : (s.setUpdate f).evt = s.evt := rfl
@[simp] theorem State.setUpdate_flt (f : Update → Update) : (s.setUpdate f).flt = s.flt := rfl
@[simp] theorem State.setUpdate_mgmt (f : Update → Update) : (s.setUpdate f).mgmt = { s.mgmt with update := f s.mgmt.update } := rfl
@[simp] theorem State.setUpdate_power (f : Update → Update) : (s.setUpdate f).power = s.power := rfl
@[simp] theorem State.setUpdate_host (f : Update → Update) : (s.setUpdate f).host = s.host := rfl
@[simp] theorem State.setUpdate_mbx (f : Update → Update) : (s.setUpdate f).mbx = s.mbx := rfl
@[simp] theorem State.setUpdate_cam (f : Update → Update) : (s.setUpdate f).cam = s.cam := rfl
@[simp] theorem State.setUpdate_pipe (f : Update → Update) : (s.setUpdate f).pipe = s.pipe := rfl
@[simp] theorem State.setUpdate_stitch (f : Update → Update) : (s.setUpdate f).stitch = s.stitch := rfl
@[simp] theorem State.setUpdate_seg (f : Update → Update) : (s.setUpdate f).seg = s.seg := rfl
@[simp] theorem State.setUpdate_gust (f : Update → Update) : (s.setUpdate f).gust = s.gust := rfl
@[simp] theorem State.setUpdate_ej (f : Update → Update) : (s.setUpdate f).ej = s.ej := rfl
@[simp] theorem State.setUpdate_eng (f : Update → Update) : (s.setUpdate f).eng = s.eng := rfl
@[simp] theorem State.setUpdate_outp (f : Update → Update) : (s.setUpdate f).outp = s.outp := rfl
@[simp] theorem State.setUpdate_net (f : Update → Update) : (s.setUpdate f).net = s.net := rfl
@[simp] theorem State.setUpdate_station (f : Update → Update) : (s.setUpdate f).station = s.station := rfl
@[simp] theorem State.setUpdate_dram (f : Update → Update) : (s.setUpdate f).dram = s.dram := rfl
@[simp] theorem State.setUpdate_eccBad (f : Update → Update) : (s.setUpdate f).eccBad = s.eccBad := rfl
@[simp] theorem State.setUpdate_eccSoft (f : Update → Update) : (s.setUpdate f).eccSoft = s.eccSoft := rfl

/-! ### `State.queueFrame` -/

@[simp] theorem State.queueFrame_pending (p : Fin 4) (f : TxFrame) : (s.queueFrame p f).pending = s.pending := by unfold State.queueFrame; (repeat' split) <;> rfl
@[simp] theorem State.queueFrame_now (p : Fin 4) (f : TxFrame) : (s.queueFrame p f).now = s.now := by unfold State.queueFrame; (repeat' split) <;> rfl
@[simp] theorem State.queueFrame_freeCount (p : Fin 4) (f : TxFrame) : (s.queueFrame p f).freeCount = s.freeCount := by unfold State.queueFrame; (repeat' split) <;> rfl
@[simp] theorem State.queueFrame_out (p : Fin 4) (f : TxFrame) : (s.queueFrame p f).out = s.out := by unfold State.queueFrame; (repeat' split) <;> rfl
@[simp] theorem State.queueFrame_readData (p : Fin 4) (f : TxFrame) : (s.queueFrame p f).readData = s.readData := by unfold State.queueFrame; (repeat' split) <;> rfl
@[simp] theorem State.queueFrame_readBytes (p : Fin 4) (f : TxFrame) : (s.queueFrame p f).readBytes = s.readBytes := by unfold State.queueFrame; (repeat' split) <;> rfl
@[simp] theorem State.queueFrame_mem (p : Fin 4) (f : TxFrame) : (s.queueFrame p f).mem = s.mem := by unfold State.queueFrame; (repeat' split) <;> rfl
@[simp] theorem State.queueFrame_time (p : Fin 4) (f : TxFrame) : (s.queueFrame p f).time = s.time := by unfold State.queueFrame; (repeat' split) <;> rfl
@[simp] theorem State.queueFrame_pos (p : Fin 4) (f : TxFrame) : (s.queueFrame p f).pos = s.pos := by unfold State.queueFrame; (repeat' split) <;> rfl
@[simp] theorem State.queueFrame_evt (p : Fin 4) (f : TxFrame) : (s.queueFrame p f).evt = s.evt := by unfold State.queueFrame; (repeat' split) <;> rfl
@[simp] theorem State.queueFrame_flt (p : Fin 4) (f : TxFrame) : (s.queueFrame p f).flt = s.flt := by unfold State.queueFrame; (repeat' split) <;> rfl
@[simp] theorem State.queueFrame_mgmt (p : Fin 4) (f : TxFrame) : (s.queueFrame p f).mgmt = s.mgmt := by unfold State.queueFrame; (repeat' split) <;> rfl
@[simp] theorem State.queueFrame_power (p : Fin 4) (f : TxFrame) : (s.queueFrame p f).power = s.power := by unfold State.queueFrame; (repeat' split) <;> rfl
@[simp] theorem State.queueFrame_host (p : Fin 4) (f : TxFrame) : (s.queueFrame p f).host = s.host := by unfold State.queueFrame; (repeat' split) <;> rfl
@[simp] theorem State.queueFrame_mbx (p : Fin 4) (f : TxFrame) : (s.queueFrame p f).mbx = s.mbx := by unfold State.queueFrame; (repeat' split) <;> rfl
@[simp] theorem State.queueFrame_cam (p : Fin 4) (f : TxFrame) : (s.queueFrame p f).cam = s.cam := by unfold State.queueFrame; (repeat' split) <;> rfl
@[simp] theorem State.queueFrame_pipe (p : Fin 4) (f : TxFrame) : (s.queueFrame p f).pipe = s.pipe := by unfold State.queueFrame; (repeat' split) <;> rfl
@[simp] theorem State.queueFrame_stitch (p : Fin 4) (f : TxFrame) : (s.queueFrame p f).stitch = s.stitch := by unfold State.queueFrame; (repeat' split) <;> rfl
@[simp] theorem State.queueFrame_seg (p : Fin 4) (f : TxFrame) : (s.queueFrame p f).seg = s.seg := by unfold State.queueFrame; (repeat' split) <;> rfl
@[simp] theorem State.queueFrame_gust (p : Fin 4) (f : TxFrame) : (s.queueFrame p f).gust = s.gust := by unfold State.queueFrame; (repeat' split) <;> rfl
@[simp] theorem State.queueFrame_ej (p : Fin 4) (f : TxFrame) : (s.queueFrame p f).ej = s.ej := by unfold State.queueFrame; (repeat' split) <;> rfl
@[simp] theorem State.queueFrame_eng (p : Fin 4) (f : TxFrame) : (s.queueFrame p f).eng = s.eng := by unfold State.queueFrame; (repeat' split) <;> rfl
@[simp] theorem State.queueFrame_outp (p : Fin 4) (f : TxFrame) : (s.queueFrame p f).outp = s.outp := by unfold State.queueFrame; (repeat' split) <;> rfl
@[simp] theorem State.queueFrame_station (p : Fin 4) (f : TxFrame) : (s.queueFrame p f).station = s.station := by unfold State.queueFrame; (repeat' split) <;> rfl
@[simp] theorem State.queueFrame_dram (p : Fin 4) (f : TxFrame) : (s.queueFrame p f).dram = s.dram := by unfold State.queueFrame; (repeat' split) <;> rfl
@[simp] theorem State.queueFrame_eccBad (p : Fin 4) (f : TxFrame) : (s.queueFrame p f).eccBad = s.eccBad := by unfold State.queueFrame; (repeat' split) <;> rfl
@[simp] theorem State.queueFrame_eccSoft (p : Fin 4) (f : TxFrame) : (s.queueFrame p f).eccSoft = s.eccSoft := by unfold State.queueFrame; (repeat' split) <;> rfl

/-! ### `State.sendUdp` -/

@[simp] theorem State.sendUdp_pending (p : Fin 4) (cls src destIp dest dscp : Nat) (payload : List Byte) : (s.sendUdp p cls src destIp dest dscp payload).pending = s.pending := by unfold State.sendUdp State.queueFrame; (repeat' split) <;> rfl
@[simp] theorem State.sendUdp_now (p : Fin 4) (cls src destIp dest dscp : Nat) (payload : List Byte) : (s.sendUdp p cls src destIp dest dscp payload).now = s.now := by unfold State.sendUdp State.queueFrame; (repeat' split) <;> rfl
@[simp] theorem State.sendUdp_freeCount (p : Fin 4) (cls src destIp dest dscp : Nat) (payload : List Byte) : (s.sendUdp p cls src destIp dest dscp payload).freeCount = s.freeCount := by unfold State.sendUdp State.queueFrame; (repeat' split) <;> rfl
@[simp] theorem State.sendUdp_out (p : Fin 4) (cls src destIp dest dscp : Nat) (payload : List Byte) : (s.sendUdp p cls src destIp dest dscp payload).out = s.out := by unfold State.sendUdp State.queueFrame; (repeat' split) <;> rfl
@[simp] theorem State.sendUdp_readData (p : Fin 4) (cls src destIp dest dscp : Nat) (payload : List Byte) : (s.sendUdp p cls src destIp dest dscp payload).readData = s.readData := by unfold State.sendUdp State.queueFrame; (repeat' split) <;> rfl
@[simp] theorem State.sendUdp_readBytes (p : Fin 4) (cls src destIp dest dscp : Nat) (payload : List Byte) : (s.sendUdp p cls src destIp dest dscp payload).readBytes = s.readBytes := by unfold State.sendUdp State.queueFrame; (repeat' split) <;> rfl
@[simp] theorem State.sendUdp_mem (p : Fin 4) (cls src destIp dest dscp : Nat) (payload : List Byte) : (s.sendUdp p cls src destIp dest dscp payload).mem = s.mem := by unfold State.sendUdp State.queueFrame; (repeat' split) <;> rfl
@[simp] theorem State.sendUdp_time (p : Fin 4) (cls src destIp dest dscp : Nat) (payload : List Byte) : (s.sendUdp p cls src destIp dest dscp payload).time = s.time := by unfold State.sendUdp State.queueFrame; (repeat' split) <;> rfl
@[simp] theorem State.sendUdp_pos (p : Fin 4) (cls src destIp dest dscp : Nat) (payload : List Byte) : (s.sendUdp p cls src destIp dest dscp payload).pos = s.pos := by unfold State.sendUdp State.queueFrame; (repeat' split) <;> rfl
@[simp] theorem State.sendUdp_evt (p : Fin 4) (cls src destIp dest dscp : Nat) (payload : List Byte) : (s.sendUdp p cls src destIp dest dscp payload).evt = s.evt := by unfold State.sendUdp State.queueFrame; (repeat' split) <;> rfl
@[simp] theorem State.sendUdp_flt (p : Fin 4) (cls src destIp dest dscp : Nat) (payload : List Byte) : (s.sendUdp p cls src destIp dest dscp payload).flt = s.flt := by unfold State.sendUdp State.queueFrame; (repeat' split) <;> rfl
@[simp] theorem State.sendUdp_mgmt (p : Fin 4) (cls src destIp dest dscp : Nat) (payload : List Byte) : (s.sendUdp p cls src destIp dest dscp payload).mgmt = s.mgmt := by unfold State.sendUdp State.queueFrame; (repeat' split) <;> rfl
@[simp] theorem State.sendUdp_power (p : Fin 4) (cls src destIp dest dscp : Nat) (payload : List Byte) : (s.sendUdp p cls src destIp dest dscp payload).power = s.power := by unfold State.sendUdp State.queueFrame; (repeat' split) <;> rfl
@[simp] theorem State.sendUdp_host (p : Fin 4) (cls src destIp dest dscp : Nat) (payload : List Byte) : (s.sendUdp p cls src destIp dest dscp payload).host = s.host := by unfold State.sendUdp State.queueFrame; (repeat' split) <;> rfl
@[simp] theorem State.sendUdp_mbx (p : Fin 4) (cls src destIp dest dscp : Nat) (payload : List Byte) : (s.sendUdp p cls src destIp dest dscp payload).mbx = s.mbx := by unfold State.sendUdp State.queueFrame; (repeat' split) <;> rfl
@[simp] theorem State.sendUdp_cam (p : Fin 4) (cls src destIp dest dscp : Nat) (payload : List Byte) : (s.sendUdp p cls src destIp dest dscp payload).cam = s.cam := by unfold State.sendUdp State.queueFrame; (repeat' split) <;> rfl
@[simp] theorem State.sendUdp_pipe (p : Fin 4) (cls src destIp dest dscp : Nat) (payload : List Byte) : (s.sendUdp p cls src destIp dest dscp payload).pipe = s.pipe := by unfold State.sendUdp State.queueFrame; (repeat' split) <;> rfl
@[simp] theorem State.sendUdp_stitch (p : Fin 4) (cls src destIp dest dscp : Nat) (payload : List Byte) : (s.sendUdp p cls src destIp dest dscp payload).stitch = s.stitch := by unfold State.sendUdp State.queueFrame; (repeat' split) <;> rfl
@[simp] theorem State.sendUdp_seg (p : Fin 4) (cls src destIp dest dscp : Nat) (payload : List Byte) : (s.sendUdp p cls src destIp dest dscp payload).seg = s.seg := by unfold State.sendUdp State.queueFrame; (repeat' split) <;> rfl
@[simp] theorem State.sendUdp_gust (p : Fin 4) (cls src destIp dest dscp : Nat) (payload : List Byte) : (s.sendUdp p cls src destIp dest dscp payload).gust = s.gust := by unfold State.sendUdp State.queueFrame; (repeat' split) <;> rfl
@[simp] theorem State.sendUdp_ej (p : Fin 4) (cls src destIp dest dscp : Nat) (payload : List Byte) : (s.sendUdp p cls src destIp dest dscp payload).ej = s.ej := by unfold State.sendUdp State.queueFrame; (repeat' split) <;> rfl
@[simp] theorem State.sendUdp_eng (p : Fin 4) (cls src destIp dest dscp : Nat) (payload : List Byte) : (s.sendUdp p cls src destIp dest dscp payload).eng = s.eng := by unfold State.sendUdp State.queueFrame; (repeat' split) <;> rfl
@[simp] theorem State.sendUdp_outp (p : Fin 4) (cls src destIp dest dscp : Nat) (payload : List Byte) : (s.sendUdp p cls src destIp dest dscp payload).outp = s.outp := by unfold State.sendUdp State.queueFrame; (repeat' split) <;> rfl
@[simp] theorem State.sendUdp_station (p : Fin 4) (cls src destIp dest dscp : Nat) (payload : List Byte) : (s.sendUdp p cls src destIp dest dscp payload).station = s.station := by unfold State.sendUdp State.queueFrame; (repeat' split) <;> rfl
@[simp] theorem State.sendUdp_dram (p : Fin 4) (cls src destIp dest dscp : Nat) (payload : List Byte) : (s.sendUdp p cls src destIp dest dscp payload).dram = s.dram := by unfold State.sendUdp State.queueFrame; (repeat' split) <;> rfl
@[simp] theorem State.sendUdp_eccBad (p : Fin 4) (cls src destIp dest dscp : Nat) (payload : List Byte) : (s.sendUdp p cls src destIp dest dscp payload).eccBad = s.eccBad := by unfold State.sendUdp State.queueFrame; (repeat' split) <;> rfl
@[simp] theorem State.sendUdp_eccSoft (p : Fin 4) (cls src destIp dest dscp : Nat) (payload : List Byte) : (s.sendUdp p cls src destIp dest dscp payload).eccSoft = s.eccSoft := by unfold State.sendUdp State.queueFrame; (repeat' split) <;> rfl

/-! ### `State.setObs` -/

@[simp] theorem State.setObs_pending (k : Fin 8) (level : Bool) : (s.setObs k level).pending = s.pending := by unfold State.setObs; split <;> rfl
@[simp] theorem State.setObs_now (k : Fin 8) (level : Bool) : (s.setObs k level).now = s.now := by unfold State.setObs; split <;> rfl
@[simp] theorem State.setObs_freeCount (k : Fin 8) (level : Bool) : (s.setObs k level).freeCount = s.freeCount := by unfold State.setObs; split <;> rfl
@[simp] theorem State.setObs_readData (k : Fin 8) (level : Bool) : (s.setObs k level).readData = s.readData := by unfold State.setObs; split <;> rfl
@[simp] theorem State.setObs_readBytes (k : Fin 8) (level : Bool) : (s.setObs k level).readBytes = s.readBytes := by unfold State.setObs; split <;> rfl
@[simp] theorem State.setObs_mem (k : Fin 8) (level : Bool) : (s.setObs k level).mem = s.mem := by unfold State.setObs; split <;> rfl
@[simp] theorem State.setObs_time (k : Fin 8) (level : Bool) : (s.setObs k level).time = s.time := by unfold State.setObs; split <;> rfl
@[simp] theorem State.setObs_pos (k : Fin 8) (level : Bool) : (s.setObs k level).pos = s.pos := by unfold State.setObs; split <;> rfl
@[simp] theorem State.setObs_flt (k : Fin 8) (level : Bool) : (s.setObs k level).flt = s.flt := by unfold State.setObs; split <;> rfl
@[simp] theorem State.setObs_mgmt (k : Fin 8) (level : Bool) : (s.setObs k level).mgmt = s.mgmt := by unfold State.setObs; split <;> rfl
@[simp] theorem State.setObs_power (k : Fin 8) (level : Bool) : (s.setObs k level).power = s.power := by unfold State.setObs; split <;> rfl
@[simp] theorem State.setObs_host (k : Fin 8) (level : Bool) : (s.setObs k level).host = s.host := by unfold State.setObs; split <;> rfl
@[simp] theorem State.setObs_mbx (k : Fin 8) (level : Bool) : (s.setObs k level).mbx = s.mbx := by unfold State.setObs; split <;> rfl
@[simp] theorem State.setObs_cam (k : Fin 8) (level : Bool) : (s.setObs k level).cam = s.cam := by unfold State.setObs; split <;> rfl
@[simp] theorem State.setObs_pipe (k : Fin 8) (level : Bool) : (s.setObs k level).pipe = s.pipe := by unfold State.setObs; split <;> rfl
@[simp] theorem State.setObs_stitch (k : Fin 8) (level : Bool) : (s.setObs k level).stitch = s.stitch := by unfold State.setObs; split <;> rfl
@[simp] theorem State.setObs_seg (k : Fin 8) (level : Bool) : (s.setObs k level).seg = s.seg := by unfold State.setObs; split <;> rfl
@[simp] theorem State.setObs_gust (k : Fin 8) (level : Bool) : (s.setObs k level).gust = s.gust := by unfold State.setObs; split <;> rfl
@[simp] theorem State.setObs_ej (k : Fin 8) (level : Bool) : (s.setObs k level).ej = s.ej := by unfold State.setObs; split <;> rfl
@[simp] theorem State.setObs_eng (k : Fin 8) (level : Bool) : (s.setObs k level).eng = s.eng := by unfold State.setObs; split <;> rfl
@[simp] theorem State.setObs_outp (k : Fin 8) (level : Bool) : (s.setObs k level).outp = s.outp := by unfold State.setObs; split <;> rfl
@[simp] theorem State.setObs_net (k : Fin 8) (level : Bool) : (s.setObs k level).net = s.net := by unfold State.setObs; split <;> rfl
@[simp] theorem State.setObs_station (k : Fin 8) (level : Bool) : (s.setObs k level).station = s.station := by unfold State.setObs; split <;> rfl
@[simp] theorem State.setObs_dram (k : Fin 8) (level : Bool) : (s.setObs k level).dram = s.dram := by unfold State.setObs; split <;> rfl
@[simp] theorem State.setObs_eccBad (k : Fin 8) (level : Bool) : (s.setObs k level).eccBad = s.eccBad := by unfold State.setObs; split <;> rfl
@[simp] theorem State.setObs_eccSoft (k : Fin 8) (level : Bool) : (s.setObs k level).eccSoft = s.eccSoft := by unfold State.setObs; split <;> rfl

/-! ### `State.setMailbox` -/

@[simp] theorem State.setMailbox_pending (k : Fin 4) (f : Mailbox → Mailbox) : (s.setMailbox k f).pending = s.pending := rfl
@[simp] theorem State.setMailbox_now (k : Fin 4) (f : Mailbox → Mailbox) : (s.setMailbox k f).now = s.now := rfl
@[simp] theorem State.setMailbox_freeCount (k : Fin 4) (f : Mailbox → Mailbox) : (s.setMailbox k f).freeCount = s.freeCount := rfl
@[simp] theorem State.setMailbox_out (k : Fin 4) (f : Mailbox → Mailbox) : (s.setMailbox k f).out = s.out := rfl
@[simp] theorem State.setMailbox_readData (k : Fin 4) (f : Mailbox → Mailbox) : (s.setMailbox k f).readData = s.readData := rfl
@[simp] theorem State.setMailbox_readBytes (k : Fin 4) (f : Mailbox → Mailbox) : (s.setMailbox k f).readBytes = s.readBytes := rfl
@[simp] theorem State.setMailbox_mem (k : Fin 4) (f : Mailbox → Mailbox) : (s.setMailbox k f).mem = s.mem := rfl
@[simp] theorem State.setMailbox_time (k : Fin 4) (f : Mailbox → Mailbox) : (s.setMailbox k f).time = s.time := rfl
@[simp] theorem State.setMailbox_pos (k : Fin 4) (f : Mailbox → Mailbox) : (s.setMailbox k f).pos = s.pos := rfl
@[simp] theorem State.setMailbox_evt (k : Fin 4) (f : Mailbox → Mailbox) : (s.setMailbox k f).evt = s.evt := rfl
@[simp] theorem State.setMailbox_flt (k : Fin 4) (f : Mailbox → Mailbox) : (s.setMailbox k f).flt = s.flt := rfl
@[simp] theorem State.setMailbox_mgmt (k : Fin 4) (f : Mailbox → Mailbox) : (s.setMailbox k f).mgmt = s.mgmt := rfl
@[simp] theorem State.setMailbox_power (k : Fin 4) (f : Mailbox → Mailbox) : (s.setMailbox k f).power = s.power := rfl
@[simp] theorem State.setMailbox_mbx (k : Fin 4) (f : Mailbox → Mailbox) : (s.setMailbox k f).mbx = s.mbx := rfl
@[simp] theorem State.setMailbox_cam (k : Fin 4) (f : Mailbox → Mailbox) : (s.setMailbox k f).cam = s.cam := rfl
@[simp] theorem State.setMailbox_pipe (k : Fin 4) (f : Mailbox → Mailbox) : (s.setMailbox k f).pipe = s.pipe := rfl
@[simp] theorem State.setMailbox_stitch (k : Fin 4) (f : Mailbox → Mailbox) : (s.setMailbox k f).stitch = s.stitch := rfl
@[simp] theorem State.setMailbox_seg (k : Fin 4) (f : Mailbox → Mailbox) : (s.setMailbox k f).seg = s.seg := rfl
@[simp] theorem State.setMailbox_gust (k : Fin 4) (f : Mailbox → Mailbox) : (s.setMailbox k f).gust = s.gust := rfl
@[simp] theorem State.setMailbox_ej (k : Fin 4) (f : Mailbox → Mailbox) : (s.setMailbox k f).ej = s.ej := rfl
@[simp] theorem State.setMailbox_eng (k : Fin 4) (f : Mailbox → Mailbox) : (s.setMailbox k f).eng = s.eng := rfl
@[simp] theorem State.setMailbox_outp (k : Fin 4) (f : Mailbox → Mailbox) : (s.setMailbox k f).outp = s.outp := rfl
@[simp] theorem State.setMailbox_net (k : Fin 4) (f : Mailbox → Mailbox) : (s.setMailbox k f).net = s.net := rfl
@[simp] theorem State.setMailbox_station (k : Fin 4) (f : Mailbox → Mailbox) : (s.setMailbox k f).station = s.station := rfl
@[simp] theorem State.setMailbox_dram (k : Fin 4) (f : Mailbox → Mailbox) : (s.setMailbox k f).dram = s.dram := rfl
@[simp] theorem State.setMailbox_eccBad (k : Fin 4) (f : Mailbox → Mailbox) : (s.setMailbox k f).eccBad = s.eccBad := rfl
@[simp] theorem State.setMailbox_eccSoft (k : Fin 4) (f : Mailbox → Mailbox) : (s.setMailbox k f).eccSoft = s.eccSoft := rfl

/-! ### `State.setLater` -/

@[simp] theorem State.setLater_pending (l : Later) (f : RegAccess → RegAccess) : (s.setLater l f).pending = s.pending := by cases l <;> rfl
@[simp] theorem State.setLater_now (l : Later) (f : RegAccess → RegAccess) : (s.setLater l f).now = s.now := by cases l <;> rfl
@[simp] theorem State.setLater_freeCount (l : Later) (f : RegAccess → RegAccess) : (s.setLater l f).freeCount = s.freeCount := by cases l <;> rfl
@[simp] theorem State.setLater_out (l : Later) (f : RegAccess → RegAccess) : (s.setLater l f).out = s.out := by cases l <;> rfl
@[simp] theorem State.setLater_readData (l : Later) (f : RegAccess → RegAccess) : (s.setLater l f).readData = s.readData := by cases l <;> rfl
@[simp] theorem State.setLater_readBytes (l : Later) (f : RegAccess → RegAccess) : (s.setLater l f).readBytes = s.readBytes := by cases l <;> rfl
@[simp] theorem State.setLater_mem (l : Later) (f : RegAccess → RegAccess) : (s.setLater l f).mem = s.mem := by cases l <;> rfl
@[simp] theorem State.setLater_time (l : Later) (f : RegAccess → RegAccess) : (s.setLater l f).time = s.time := by cases l <;> rfl
@[simp] theorem State.setLater_pos (l : Later) (f : RegAccess → RegAccess) : (s.setLater l f).pos = s.pos := by cases l <;> rfl
@[simp] theorem State.setLater_evt (l : Later) (f : RegAccess → RegAccess) : (s.setLater l f).evt = s.evt := by cases l <;> rfl
@[simp] theorem State.setLater_flt (l : Later) (f : RegAccess → RegAccess) : (s.setLater l f).flt = s.flt := by cases l <;> rfl
@[simp] theorem State.setLater_mgmt (l : Later) (f : RegAccess → RegAccess) : (s.setLater l f).mgmt = s.mgmt := by cases l <;> rfl
@[simp] theorem State.setLater_power (l : Later) (f : RegAccess → RegAccess) : (s.setLater l f).power = s.power := by cases l <;> rfl
@[simp] theorem State.setLater_host (l : Later) (f : RegAccess → RegAccess) : (s.setLater l f).host = s.host := by cases l <;> rfl
@[simp] theorem State.setLater_mbx (l : Later) (f : RegAccess → RegAccess) : (s.setLater l f).mbx = s.mbx := by cases l <;> rfl
@[simp] theorem State.setLater_pipe (l : Later) (f : RegAccess → RegAccess) : (s.setLater l f).pipe = s.pipe := by cases l <;> rfl
@[simp] theorem State.setLater_stitch (l : Later) (f : RegAccess → RegAccess) : (s.setLater l f).stitch = s.stitch := by cases l <;> rfl
@[simp] theorem State.setLater_seg (l : Later) (f : RegAccess → RegAccess) : (s.setLater l f).seg = s.seg := by cases l <;> rfl
@[simp] theorem State.setLater_gust (l : Later) (f : RegAccess → RegAccess) : (s.setLater l f).gust = s.gust := by cases l <;> rfl
@[simp] theorem State.setLater_ej (l : Later) (f : RegAccess → RegAccess) : (s.setLater l f).ej = s.ej := by cases l <;> rfl
@[simp] theorem State.setLater_outp (l : Later) (f : RegAccess → RegAccess) : (s.setLater l f).outp = s.outp := by cases l <;> rfl
@[simp] theorem State.setLater_net (l : Later) (f : RegAccess → RegAccess) : (s.setLater l f).net = s.net := by cases l <;> rfl
@[simp] theorem State.setLater_station (l : Later) (f : RegAccess → RegAccess) : (s.setLater l f).station = s.station := by cases l <;> rfl
@[simp] theorem State.setLater_dram (l : Later) (f : RegAccess → RegAccess) : (s.setLater l f).dram = s.dram := by cases l <;> rfl
@[simp] theorem State.setLater_eccBad (l : Later) (f : RegAccess → RegAccess) : (s.setLater l f).eccBad = s.eccBad := by cases l <;> rfl
@[simp] theorem State.setLater_eccSoft (l : Later) (f : RegAccess → RegAccess) : (s.setLater l f).eccSoft = s.eccSoft := by cases l <;> rfl

end Sys2Proof.Machine
end

