-- ==== Sys2Proof/Laws/Memory.lean ====
section
/-! SUPPORT. The laws of memory: its canonical form is kept by every operation, a read after a write gives what was
written, a write leaves every other byte alone, and equal memories are equal data. -/

namespace Sys2Proof.Machine

/-- The canonical form, said over all cells at once. -/
theorem memWf_iff (m : List Host.Cell) :
    memWf m = true ↔ m.Pairwise (fun x y => x.1 < y.1) ∧ ∀ c ∈ m, c.2 ≠ blank c.1 := by
  induction m with
  | nil => simp [memWf]
  | cons x t ih =>
    obtain ⟨a, v⟩ := x
    cases t with
    | nil => simp [memWf]
    | cons y t =>
      obtain ⟨b, w⟩ := y
      simp only [memWf, Bool.and_eq_true, bne_iff_ne, decide_eq_true_eq, ih, List.pairwise_cons, List.forall_mem_cons]
      constructor
      · rintro ⟨⟨h1, h2⟩, ⟨h3, h4⟩, h5, h6⟩
        exact ⟨⟨⟨h2, fun c hc => Nat.lt_trans h2 (h3 c hc)⟩, h3, h4⟩, h1, h5, h6⟩
      · rintro ⟨⟨⟨h2, -⟩, h3, h4⟩, h1, h5, h6⟩
        exact ⟨⟨h1, h2⟩, ⟨h3, h4⟩, h5, h6⟩

/-- An address below every listed one reads its blank value. -/
theorem memRead_blank (m : List Host.Cell) (a : Nat) (h : ∀ c ∈ m, a ≠ c.1) : memRead m a = blank a := by
  induction m with
  | nil => rfl
  | cons x t ih =>
    obtain ⟨b, w⟩ := x
    have hb : a ≠ b := h (b, w) (by simp)
    simp only [memRead, if_neg (Ne.symm hb)]
    exact ih fun c hc => h c (by simp [hc])

/-- A write leaves every other byte alone. -/
theorem memRead_memWrite_ne (m : List Host.Cell) {a c : Nat} (v : Byte) (h : c ≠ a) :
    memRead (memWrite m a v) c = memRead m c := by
  induction m with
  | nil => simp only [memWrite]; split <;> simp [memRead, Ne.symm h]
  | cons x t ih =>
    obtain ⟨b, w⟩ := x
    simp only [memWrite]
    split
    · split <;> simp [memRead, Ne.symm h]
    · split
      · subst b; split <;> simp [memRead, Ne.symm h]
      · simp only [memRead, ih]

/-- A read after a write gives the byte written. -/
theorem memRead_memWrite_same (m : List Host.Cell) (a : Nat) (v : Byte) (hm : memWf m = true) :
    memRead (memWrite m a v) a = v := by
  rw [memWf_iff] at hm
  induction m with
  | nil => simp only [memWrite]; split <;> simp [memRead, *]
  | cons x t ih =>
    obtain ⟨b, w⟩ := x
    obtain ⟨hp, hb⟩ := hm
    rw [List.pairwise_cons] at hp
    simp only [memWrite]
    split
    · rename_i hab
      split
      · rename_i hv
        rw [memRead_blank _ _ (by
          intro c hc
          rcases List.mem_cons.1 hc with rfl | hc
          · exact Nat.ne_of_lt hab
          · exact Nat.ne_of_lt (Nat.lt_trans hab (hp.1 c hc))), hv]
      · simp [memRead]
    · split
      · rename_i hab
        subst b
        split
        · rename_i hv
          rw [memRead_blank _ _ (fun c hc => Nat.ne_of_lt (hp.1 c hc)), hv]
        · simp [memRead]
      · rename_i hab
        simp only [memRead, if_neg (Ne.symm hab)]
        exact ih ⟨hp.2, fun c hc => hb c (by simp [hc])⟩

/-- A cell of memory after a write is the written one or an older one. -/
theorem mem_memWrite (m : List Host.Cell) (a : Nat) (v : Byte) (c : Host.Cell) (h : c ∈ memWrite m a v) :
    c ∈ m ∨ (c = (a, v) ∧ v ≠ blank a) := by
  induction m with
  | nil =>
    simp only [memWrite] at h
    split at h
    · simp at h
    · exact .inr ⟨by simpa using h, ‹_›⟩
  | cons x t ih =>
    obtain ⟨b, w⟩ := x
    simp only [memWrite] at h
    split at h
    · split at h
      · exact .inl h
      · rcases List.mem_cons.1 h with rfl | h
        · exact .inr ⟨rfl, ‹_›⟩
        · exact .inl h
    · split at h
      · split at h
        · exact .inl (List.mem_cons_of_mem _ h)
        · rcases List.mem_cons.1 h with rfl | h
          · exact .inr ⟨rfl, ‹_›⟩
          · exact .inl (List.mem_cons_of_mem _ h)
      · rcases List.mem_cons.1 h with rfl | h
        · exact .inl (by simp)
        · rcases ih h with h | h
          · exact .inl (List.mem_cons_of_mem _ h)
          · exact .inr h

/-- A write keeps the canonical form. -/
theorem memWrite_wf (m : List Host.Cell) (a : Nat) (v : Byte) (hm : memWf m = true) : memWf (memWrite m a v) = true := by
  rw [memWf_iff] at hm ⊢
  refine ⟨?_, fun c hc => ?_⟩
  · induction m with
    | nil => simp only [memWrite]; split <;> simp
    | cons x t ih =>
      obtain ⟨b, w⟩ := x
      obtain ⟨hp, hb⟩ := hm
      have hp' := List.pairwise_cons.1 hp
      simp only [memWrite]
      split
      · rename_i hab
        split
        · exact hp
        · refine List.pairwise_cons.2 ⟨fun c hc => ?_, hp⟩
          rcases List.mem_cons.1 hc with rfl | hc
          · exact hab
          · exact Nat.lt_trans hab (hp'.1 c hc)
      · split
        · subst b
          split
          · exact hp'.2
          · exact List.pairwise_cons.2 ⟨hp'.1, hp'.2⟩
        · rename_i h1 h2
          refine List.pairwise_cons.2 ⟨fun c hc => ?_, ih ⟨hp'.2, fun c hc => hb c (by simp [hc])⟩⟩
          rcases mem_memWrite t a v c hc with hc | ⟨rfl, -⟩
          · exact hp'.1 c hc
          · exact Nat.lt_of_le_of_ne (Nat.not_lt.1 h1) (Ne.symm h2)
  · rcases mem_memWrite m a v c hc with hc | ⟨rfl, hv⟩
    · exact hm.2 c hc
    · exact hv

/-- Writing a byte string keeps the canonical form. -/
theorem memWriteN_wf (m : List Host.Cell) (a : Nat) (bs : List Byte) (hm : memWf m = true) :
    memWf (memWriteN m a bs) = true := by
  induction bs generalizing m a with
  | nil => exact hm
  | cons v vs ih => exact ih _ _ (memWrite_wf m a v hm)

/-- A wipe keeps the canonical form. -/
theorem memWipe_wf (m : List Host.Cell) (lo hi : Nat) (hm : memWf m = true) : memWf (memWipe m lo hi) = true := by
  rw [memWf_iff] at hm ⊢
  exact ⟨hm.1.filter _, fun c hc => hm.2 c (List.mem_filter.1 hc).1⟩

/-- Writing a byte string leaves every byte outside it alone. -/
theorem memRead_memWriteN_out (m : List Host.Cell) (a : Nat) (bs : List Byte) (c : Nat)
    (h : c < a ∨ a + bs.length ≤ c) : memRead (memWriteN m a bs) c = memRead m c := by
  induction bs generalizing m a with
  | nil => rfl
  | cons v vs ih =>
    simp only [List.length_cons] at h
    rw [memWriteN, ih _ _ (by omega), memRead_memWrite_ne _ _ (by omega)]

/-- A read inside a written byte string gives the byte written. -/
theorem memRead_memWriteN_in (m : List Host.Cell) (a : Nat) (bs : List Byte) (i : Nat) (hi : i < bs.length)
    (hm : memWf m = true) : memRead (memWriteN m a bs) (a + i) = bs[i] := by
  induction bs generalizing m a i with
  | nil => simp at hi
  | cons v vs ih =>
    rw [memWriteN]
    cases i with
    | zero =>
      rw [memRead_memWriteN_out _ _ _ _ (by omega)]
      simpa using memRead_memWrite_same m a v hm
    | succ n =>
      have h := ih (memWrite m a v) (a + 1) n (by simpa using hi) (memWrite_wf m a v hm)
      simpa [Nat.add_assoc, Nat.add_comm 1 n] using h

/-- A wiped address reads its blank value. -/
theorem memRead_memWipe_in (m : List Host.Cell) (lo hi a : Nat) (h : lo ≤ a ∧ a < hi) :
    memRead (memWipe m lo hi) a = blank a := by
  refine memRead_blank _ _ fun c hc hac => ?_
  have := (List.mem_filter.1 hc).2
  simp only [Bool.or_eq_true, decide_eq_true_eq] at this
  omega

/-- A wipe leaves every address outside it alone. -/
theorem memRead_memWipe_out (m : List Host.Cell) (lo hi a : Nat) (h : a < lo ∨ hi ≤ a) :
    memRead (memWipe m lo hi) a = memRead m a := by
  induction m with
  | nil => rfl
  | cons x t ih =>
    obtain ⟨b, w⟩ := x
    by_cases hb : b < lo ∨ hi ≤ b
    · have e : memWipe ((b, w) :: t) lo hi = (b, w) :: memWipe t lo hi := by
        simp only [memWipe]; rw [List.filter_cons_of_pos (by simpa using hb)]
      rw [e]; simp only [memRead, ih]
    · have e : memWipe ((b, w) :: t) lo hi = memWipe t lo hi := by
        simp only [memWipe]; rw [List.filter_cons_of_neg (by simpa using hb)]
      rw [e, ih]; simp only [memRead]; rw [if_neg (by omega)]

/-- In canonical form an address reads other than blank exactly where it is listed. -/
theorem mem_iff_read (m : List Host.Cell) (hm : memWf m = true) (c : Host.Cell) :
    c ∈ m ↔ memRead m c.1 = c.2 ∧ c.2 ≠ blank c.1 := by
  rw [memWf_iff] at hm
  induction m with
  | nil => simp [memRead]; intro h; exact h.symm
  | cons x t ih =>
    obtain ⟨b, w⟩ := x
    obtain ⟨hp, hb⟩ := hm
    have hp' := List.pairwise_cons.1 hp
    have iht := ih ⟨hp'.2, fun c hc => hb c (by simp [hc])⟩
    simp only [memRead]
    by_cases h : b = c.1
    · rw [if_pos h]
      constructor
      · intro hc
        rcases List.mem_cons.1 hc with rfl | hc
        · exact ⟨rfl, hb _ (by simp)⟩
        · exact absurd h (Nat.ne_of_lt (hp'.1 c hc))
      · rintro ⟨rfl, -⟩
        exact List.mem_cons.2 (.inl (by rw [h]))
    · rw [if_neg h, ← iht, List.mem_cons]
      exact ⟨fun hc => hc.resolve_left fun e => h (by rw [e]), .inr⟩

/-- Equal memories are equal data. -/
theorem mem_ext (m n : List Host.Cell) (hm : memWf m = true) (hn : memWf n = true)
    (h : ∀ a : Nat, memRead m a = memRead n a) : m = n := by
  have hm' := (memWf_iff m).1 hm
  have hn' := (memWf_iff n).1 hn
  have hs : ∀ l : List Host.Cell, l.Pairwise (fun x y => x.1 < y.1) → l.Nodup := fun l hl =>
    hl.imp fun {x y} hxy e => by subst e; exact absurd hxy (Nat.lt_irrefl _)
  refine List.Perm.eq_of_pairwise (le := fun x y => x.1 < y.1)
    (fun a b _ _ h1 h2 => absurd (Nat.lt_trans h1 h2) (Nat.lt_irrefl _)) hm'.1 hn'.1 ?_
  exact (List.perm_ext_iff_of_nodup (hs m hm'.1) (hs n hn'.1)).2 fun c => by
    rw [mem_iff_read m hm, mem_iff_read n hn, h]

/-- The memory of the reset state has the canonical form. -/
theorem reset_memWf : memWf State.reset.mem = true := rfl

end Sys2Proof.Machine
end

