-- ==== Sys2Proof/Laws/Bank.lean ====
section
/-! SUPPORT. The laws of the shared operations: banks, repetition, counts, bytes, events and messages of a ring of
instances.  Each says once what its operation can do. -/

namespace Sys2Proof.Machine

/-! ### Banks -/

/-- The changed instance of a bank. -/
@[simp] theorem upd_same {α : Type} {n : Nat} (v : Vector α n) (k : Fin n) (f : α → α) : (upd v k f)[k] = f v[k] := by
  simp [upd]

/-- Every other instance of a bank. -/
theorem upd_other {α : Type} {n : Nat} (v : Vector α n) {k j : Fin n} (f : α → α) (h : j ≠ k) : (upd v k f)[j] = v[j] := by
  have : k.val ≠ j.val := fun e => h (Fin.ext e.symm)
  simp [upd, Vector.getElem_set_ne _ _ this]

/-- A change of one instance is a change of nothing else. -/
theorem upd_others {α : Type} {n : Nat} (v : Vector α n) (k : Fin n) (f : α → α) : OthersSame v (upd v k f) k :=
  fun _ h => upd_other v f h

/-- Two changes of one instance are one. -/
@[simp] theorem upd_upd {α : Type} {n : Nat} (v : Vector α n) (k : Fin n) (f g : α → α) :
    upd (upd v k f) k g = upd v k fun x => g (f x) := by
  simp [upd]

/-- A change that changes nothing. -/
theorem upd_id {α : Type} {n : Nat} (v : Vector α n) (k : Fin n) (f : α → α) (h : f v[k] = v[k]) : upd v k f = v := by
  ext i hi
  by_cases e : k.val = i
  · subst e; simpa [upd] using h
  · simp [upd, Vector.getElem_set_ne _ _ e]

/-! ### Repetition -/

@[simp] theorem forEach_nil {α β : Type} (f : α → β → β) (s : β) : forEach [] f s = s := rfl

@[simp] theorem forEach_cons {α β : Type} (a : α) (l : List α) (f : α → β → β) (s : β) :
    forEach (a :: l) f s = forEach l f (f a s) := rfl

/-- What every single action keeps, the repetition keeps. -/
theorem forEach_keeps {α β : Type} (P : β → Prop) (l : List α) (f : α → β → β)
    (h : ∀ a ∈ l, ∀ s, P s → P (f a s)) (s : β) (hs : P s) : P (forEach l f s) := by
  induction l generalizing s with
  | nil => exact hs
  | cons a l ih => exact ih (fun b hb => h b (List.mem_cons_of_mem _ hb)) _ (h a (by simp) s hs)

/-- A value that no single action changes, the repetition does not change. -/
theorem forEach_same {α β γ : Type} (g : β → γ) (l : List α) (f : α → β → β) (h : ∀ a ∈ l, ∀ s, g (f a s) = g s) (s : β) :
    g (forEach l f s) = g s :=
  forEach_keeps (fun t => g t = g s) l f (fun a ha t ht => (h a ha t).trans ht) s rfl

/-! ### Counts -/

/-- A saturating count is the smaller of the next number and all ones. -/
theorem satInc_eq_min (w n : Nat) : satInc w n = min (n + 1) (2 ^ w - 1) := by
  unfold satInc; have := Nat.one_le_two_pow (n := w); split <;> omega

/-- A saturating count of several is the smaller of the sum and all ones. -/
theorem satAdd_eq_min (w n k : Nat) : satAdd w n k = min (n + k) (2 ^ w - 1) := by
  unfold satAdd; have := Nat.one_le_two_pow (n := w); split <;> omega

/-- A saturating count stays in its width. -/
theorem satInc_lt (w n : Nat) : satInc w n < 2 ^ w := by
  rw [satInc_eq_min]; have := Nat.one_le_two_pow (n := w); omega

/-- A wrapping count stays in its width. -/
theorem modInc_lt (w n : Nat) : modInc w n < 2 ^ w := Nat.mod_lt _ (Nat.two_pow_pos w)

/-- A field of a word stays in its width. -/
theorem bits_lt (v : Word) (hi lo : Nat) : bits v hi lo < 2 ^ (hi + 1 - lo) := Nat.mod_lt _ (Nat.two_pow_pos _)

/-! ### Bytes -/

/-- A field has as many bytes as its width. -/
@[simp] theorem bytesOf_length (n v : Nat) : (bytesOf n v).length = n := by
  induction n generalizing v with
  | zero => rfl
  | succ n ih => simp [bytesOf, ih]

@[simp] theorem zeros_length (n : Nat) : (zeros n).length = n := by simp [zeros]

/-- A string that is cut or filled has the length asked for. -/
@[simp] theorem fit_length (n : Nat) (bs : List Byte) : (fit n bs).length = n := by simp [fit]

/-- A field that is written reads back, modulo its width. -/
theorem leAt_bytesOf (n v : Nat) : leAt (bytesOf n v) 0 n = v % 256 ^ n := by
  have shift : ∀ (k j : Nat) (b : Byte) (bs : List Byte), leAt (b :: bs) (j + 1) k = leAt bs j k := by
    intro k
    induction k with
    | zero => intros; rfl
    | succ k ih => intro j b bs; simp [leAt, byteAt, ih]
  induction n generalizing v with
  | zero => simp [leAt, Nat.mod_one]
  | succ n ih =>
    have e : bytesOf (n + 1) v = BitVec.ofNat 8 v :: bytesOf n (v / 256) := rfl
    have h : leAt (BitVec.ofNat 8 v :: bytesOf n (v / 256)) 0 (n + 1)
        = v % 256 + 256 * leAt (bytesOf n (v / 256)) 0 n := by
      show byteAt (BitVec.ofNat 8 v :: bytesOf n (v / 256)) 0 + 256 * leAt _ (0 + 1) n = _
      rw [shift]; simp [byteAt]
    rw [e, h, ih, Nat.pow_succ, Nat.mul_comm (256 ^ n) 256, Nat.mod_mul]

/-! ### Memory as the state holds it -/

/-- A store writes its bytes. -/
theorem store_read_in (s : State) (a : Nat) (bs : List Byte) (i : Nat) (hi : i < bs.length) (hm : MemCanonical s) :
    memRead (s.store a bs).mem (a + i) = bs[i] := by
  simpa using memRead_memWriteN_in s.mem a bs i hi hm

/-- A store leaves every byte outside it alone. -/
theorem store_read_out (s : State) (a : Nat) (bs : List Byte) : BytesSame s (s.store a bs) a bs.length :=
  fun b hb => by simpa using memRead_memWriteN_out s.mem a bs b hb

/-- A store keeps the canonical form. -/
theorem store_canonical (s : State) (a : Nat) (bs : List Byte) (hm : MemCanonical s) : MemCanonical (s.store a bs) := by
  simpa [MemCanonical] using memWriteN_wf s.mem a bs hm

end Sys2Proof.Machine
end

