-- ==== Sys2Proof/Laws/Frames.lean ====
section
/-! SUPPORT. What the shared operations leave unchanged: frames compose, and each shared operation has its own. -/

namespace Sys2Proof.Machine

/-! ### Frames compose -/

/-- Nothing done changes nothing. -/
theorem sameBut_refl (l : List Part) (s : State) : SameBut l s s := by simp [SameBut]

/-- One frame after another of the same parts. -/
theorem sameBut_trans {l : List Part} {s t u : State} (h : SameBut l s t) (k : SameBut l t u) : SameBut l s u := by
  unfold SameBut at *
  refine ⟨?_, ?_, ?_, ?_, ?_, ?_, ?_, ?_, ?_, ?_, ?_, ?_, ?_, ?_, ?_, ?_, ?_, ?_, ?_, ?_, ?_, ?_, ?_, ?_, ?_⟩ <;> grind

/-- A frame of fewer parts is a frame of more. -/
theorem sameBut_mono {l m : List Part} {s t : State} (h : SameBut l s t) (hl : ∀ x ∈ l, x ∈ m) : SameBut m s t := by
  unfold SameBut at *
  refine ⟨?_, ?_, ?_, ?_, ?_, ?_, ?_, ?_, ?_, ?_, ?_, ?_, ?_, ?_, ?_, ?_, ?_, ?_, ?_, ?_, ?_, ?_, ?_, ?_, ?_⟩ <;> grind

/-- A repeated action keeps the frame of one. -/
theorem forEach_sameBut {α : Type} (l : List Part) (as : List α) (f : α → State → State)
    (h : ∀ a ∈ as, ∀ s, SameBut l s (f a s)) (s : State) : SameBut l s (forEach as f s) :=
  forEach_keeps (fun t => SameBut l s t) as f (fun a ha t ht => sameBut_trans ht (h a ha t)) s (sameBut_refl l s)

/-! ### Output, reports, vectors, log -/

theorem emit_frame (s : State) (o : Out) : SameBut [.out] s (s.emit o) := by simp [SameBut]
theorem report_frame (s : State) (r : Report) : SameBut [.flt] s (s.report r) := by simp [SameBut]
theorem fireVector_frame (s : State) (v : Fin 64) : SameBut [.host, .out] s (s.fireVector v) := by simp [SameBut]
theorem fireVectorN_frame (s : State) (v : Nat) : SameBut [.host, .out] s (s.fireVectorN v) := by simp [SameBut]
theorem driveWakeN_frame (s : State) : SameBut [.host, .out] s s.driveWakeN := by simp [SameBut]
theorem log_frame (s : State) (typ session : Nat) (data : List Nat) : SameBut [.mgmt] s (s.log typ session data) := by
  simp [SameBut]
theorem store_frame (s : State) (a : Nat) (bs : List Byte) : SameBut [.mem, .ecc] s (s.store a bs) := by simp [SameBut]

/-! ### The event fabric (18 R415 to R419) -/

theorem setObs_frame (k : Fin 8) (level : Bool) (s : State) : SameBut [.evt, .out] s (s.setObs k level) := by simp [SameBut]

theorem obsPulse_frame (sig : Nat) (s : State) : SameBut [.evt, .out] s (s.obsPulse sig) := by
  unfold State.obsPulse
  split
  · exact sameBut_refl _ s
  · refine forEach_sameBut _ _ _ (fun k _ t => ?_) s
    split
    · exact sameBut_trans (t := { t with evt := { t.evt with obsUntil := upd t.evt.obsUntil k fun _ => t.now + 16 } })
        (by simp [SameBut]) (setObs_frame k true _)
    · exact sameBut_refl _ t

theorem gpioDrive_frame (k : Fin 24) (level : Bool) (s : State) : SameBut [.evt, .out] s (gpioDrive k level s) := by
  unfold gpioDrive; dsimp only; split <;> simp [SameBut]

theorem gpioActivate_frame (k : Fin 24) (s : State) : SameBut [.evt, .out] s (gpioActivate k s) := by
  unfold gpioActivate; dsimp only; split
  · exact sameBut_refl _ s
  · exact sameBut_trans (t := s.setCons _ _) (by simp [SameBut]) (gpioDrive_frame k _ _)

theorem consumerAction_frame (j : Fin 96) (s : State) : SameBut [.evt, .host, .out] s (consumerAction j s) := by
  unfold consumerAction
  split
  · simp [SameBut]
  · split
    · simp [SameBut]
    · split
      · simp [SameBut]
      · split
        · simp [SameBut]
        · split
          · exact sameBut_mono (gpioActivate_frame _ s) (by simp)
          · exact sameBut_refl _ s

theorem consumerEvent_frame {relay : Nat → State → State} (hr : ∀ p s, SameBut [.evt, .flt, .host, .out] s (relay p s))
    (j : Fin 96) (s : State) : SameBut [.evt, .flt, .host, .out] s (consumerEvent relay j s) := by
  have set : ∀ f, SameBut [.evt, .flt, .host, .out] s (s.setCons j f) := fun f => by simp [SameBut]
  unfold consumerEvent; dsimp only
  split
  · exact sameBut_refl _ s
  · split
    · exact set _
    · split
      · split <;> exact set _
      · split
        · exact set _
        · split
          · exact sameBut_trans (set _) (hr _ _)
          · exact sameBut_trans (set _) (sameBut_mono (consumerAction_frame _ _) (by simp))

theorem channelEvent_frame {relay : Nat → State → State} (hr : ∀ p s, SameBut [.evt, .flt, .host, .out] s (relay p s))
    (n : Fin 64) (s : State) : SameBut [.evt, .flt, .host, .out] s (channelEvent relay n s) := by
  have set : ∀ f, SameBut [.evt, .flt, .host, .out] s (s.setChan n f) := fun f => by simp [SameBut]
  unfold channelEvent; dsimp only
  split
  · exact sameBut_refl _ s
  · split
    · split
      · exact sameBut_refl _ s
      · exact set _
    · refine sameBut_trans (sameBut_trans ?_ (sameBut_mono (obsPulse_frame (1 + n.val) _) (by simp)))
        (forEach_sameBut _ _ _ (fun j _ t => ?_) _)
      · split
        · exact sameBut_trans (set _) (sameBut_mono (report_frame _ _) (by simp))
        · exact set _
      · split
        · exact consumerEvent_frame hr j t
        · exact sameBut_refl _ t

theorem produceN_frame (fuel p : Nat) (s : State) : SameBut [.evt, .flt, .host, .out] s (produceN fuel p s) := by
  induction fuel generalizing p s with
  | zero => exact sameBut_refl _ s
  | succ n ih =>
    unfold produceN
    split
    · exact sameBut_refl _ s
    · refine forEach_sameBut _ _ _ (fun k _ t => ?_) s
      split
      · exact channelEvent_frame (fun p s => ih p s) k t
      · exact sameBut_refl _ t

/-- A producer's firing changes the event fabric, what it reports, the vectors it fires and what leaves the device. -/
theorem produce_frame (p : Nat) (s : State) : SameBut [.evt, .flt, .host, .out] s (produce p s) := produceN_frame 65 p s

/-- The end of a consumer's busy time has the same reach. -/
theorem consumerEnd_frame (j : Fin 96) (s : State) : SameBut [.evt, .flt, .host, .out] s (consumerEnd j s) := by
  have set : ∀ t f, SameBut [.evt, .flt, .host, .out] t (State.setCons t j f) := fun t f => by simp [SameBut]
  unfold consumerEnd; dsimp only
  split
  · split
    · exact sameBut_trans (set _ _) (sameBut_trans (set _ _) (produce_frame _ _))
    · exact sameBut_trans (set _ _) (sameBut_trans (set _ _) (sameBut_mono (consumerAction_frame _ _) (by simp)))
  · exact set _ _

/-! ### The delivery of a response (17 R391 to R397) -/

theorem rdybsyNow_frame (s : State) : SameBut [.host, .out] s (rdybsyNow s) := by
  unfold rdybsyNow; dsimp only; split
  · exact sameBut_refl _ s
  · simp [SameBut]

theorem clearOutstanding_frame (q : Req) (s : State) : SameBut [.mbx] s (clearOutstanding q s) := by
  unfold clearOutstanding; split
  · simp [SameBut]
  · exact sameBut_refl _ s

theorem mailboxAnswer_frame (k : Fin 4) (bs : List Byte) (s : State) : SameBut [.host, .out] s (mailboxAnswer k bs s) := by
  unfold mailboxAnswer
  refine sameBut_trans (t := s.setMailbox k fun m => { m with response := fit 4096 bs, resp := true, ready := true }) ?_
    (fireVectorN_frame _ _)
  simp [SameBut, State.setMailbox]

theorem netAnswer_frame (ip port : Nat) (bs : List Byte) (s : State) : SameBut [.net, .out] s (netAnswer ip port bs s) := by
  unfold netAnswer; simp [SameBut]

/-- A response changes the session's slot, its mailbox or port counters, and what leaves the device. -/
theorem deliver_frame (q : Req) (r : Resp) (s : State) : SameBut [.mbx, .host, .net, .out] s (deliver q r s) := by
  have h1 := sameBut_mono (m := [.mbx, .host, .net, .out]) (clearOutstanding_frame q s) (by simp)
  have h2 : ∀ t, SameBut [.mbx, .host, .net, .out] t (if q.session = 0 ∧ !q.net then t else t.emit (.response r)) := by
    intro t; split
    · exact sameBut_refl _ t
    · exact sameBut_mono (emit_frame _ _) (by simp)
  have h3 := sameBut_trans h1 (h2 (clearOutstanding q s))
  unfold deliver; dsimp only
  generalize (if q.session = 0 ∧ (!q.net) = true then clearOutstanding q s
    else (clearOutstanding q s).emit (.response r)) = u at h3 ⊢
  refine sameBut_trans h3 ?_
  split
  · exact sameBut_mono (netAnswer_frame _ _ _ _) (by simp)
  · split
    · refine sameBut_trans ?_ (sameBut_mono (rdybsyNow_frame _) (by simp))
      simp [SameBut]
    · split
      · split
        · exact sameBut_mono (mailboxAnswer_frame _ _ _) (by simp)
        · exact sameBut_refl _ _
      · exact sameBut_refl _ _

/-- The stored and delivered response has the same reach. -/
theorem respond_frame (q : Req) (st : Status) (payload : List Byte) (s : State) :
    SameBut [.mbx, .host, .net, .out] s (respond q st payload s) := by
  have set : ∀ k f, SameBut [.mbx, .host, .net, .out] s (s.setSess k f) := fun k f => by simp [SameBut]
  unfold respond; dsimp only
  split
  · refine sameBut_trans ?_ (deliver_frame _ _ _)
    split
    · split
      · exact set _ _
      · exact sameBut_refl _ s
    · exact sameBut_refl _ s
  · exact sameBut_trans (set _ _) (deliver_frame _ _ _)

/-- A request that is discarded. -/
theorem discard_frame (q : Req) (s : State) : SameBut [.mbx, .host, .out] s (discard q s) := by
  have h1 := sameBut_mono (m := [.mbx, .host, .out]) (clearOutstanding_frame q s) (by simp)
  unfold discard; dsimp only
  refine sameBut_trans h1 ?_
  split
  · exact sameBut_refl _ _
  · split
    · exact sameBut_mono (rdybsyNow_frame _) (by simp)
    · split
      · split
        · simp [SameBut, State.setMailbox]
        · exact sameBut_refl _ _
      · exact sameBut_refl _ _

end Sys2Proof.Machine
end

