-- ==== Sys2Proof/WellFormed.lean ====
section
/-! DEFINITION. Well-formed commands: operands that the outside world can give, by the widths and lengths that
the spec states for them.  A command of any operand has its meaning; this says which terms stand for an event. -/

namespace Sys2Proof

namespace Machine

/-- The fields of a request fit the header, its payload the largest mailbox, and its opcode is the row's
(17 R391, Table 17.1). -/
def Req.wf (opcode : Nat) (q : Req) : Prop :=
  q.opcode = opcode ∧ q.session < 14 ∧ q.flags < 256 ∧ q.sequence < 2 ^ 32 ∧ q.payload.length ≤ 4080
    ∧ q.bulk.length ≤ 0x1000000 ∧ q.srcIp < 2 ^ 32 ∧ q.srcPort < 65536

/-- A DRAM request names a 64-byte granule of the 40-bit space, and a write brings 64 bytes and a mask of 64 bits
(15 R354). -/
def DramReq.wf (r : DramReq) : Prop :=
  r.granule < 2 ^ 34 ∧ (r.write = true → r.mask < 2 ^ 64 ∧ r.data.length = 64)

/-- A station datagram fits a frame that a port accepts (12 R285; 13 R311). -/
def EllDatagram.wf (m : EllDatagram) : Prop := m.from_ < 2 ^ 32 ∧ m.bytes.length ≤ 9554

/-- The fields of an Ethernet frame have their widths, and LEN counts header, payload and FCS (12 R285). -/
def EthFrame.wf (f : EthFrame) : Prop :=
  f.dst < 2 ^ 48 ∧ f.src < 2 ^ 48 ∧ (∀ v ∈ f.vlan, v < 4096) ∧ f.etherType < 65536 ∧ f.payload.length + 18 ≤ f.len

/-- A CoaXPress packet's stream is one byte and its samples 16 bits at most (02 Table 2.6, R53). -/
def CxpPacket.wf : CxpPacket → Prop
  | .imageHeader k => k < 256
  | .line k _ pixels _ => k < 256 ∧ ∀ px ∈ pixels, ∀ v ∈ px, v < 65536
  | .imageEnd k => k < 256

/-- A discovery answer names one to four connections; an access brings whole words (02 R52, R54). -/
def CxpResp.wf : CxpResp → Prop
  | .found => True
  | .bootstrap _ n _ _ => 1 ≤ n ∧ n ≤ 4
  | .configured => True
  | .access _ data => data.length % 4 = 0
  | .heartbeat => True

/-- A fault report names one of the 33 groups, and its values have the widths of the detail (19 Tables 19.1, 19.5). -/
def Report.wf (r : Report) : Prop :=
  r.group < 33 ∧ r.inst < 65536 ∧ r.cause < 256 ∧ r.valueA < 2 ^ 64 ∧ r.valueB < 2 ^ 64 ∧ r.valueC < 2 ^ 64

/-- The fields of an image header have their widths (20 R453). -/
def ImageInfo.wf (x : ImageInfo) : Prop :=
  x.librarySlot < 16 ∧ x.version < 2 ^ 32 ∧ x.rollback < 64 ∧ x.schema < 65536 ∧ x.minSchema < 65536
    ∧ x.size < 2 ^ 32 ∧ x.keyHash < 2 ^ 384

/-- A register write of another size carries other than 4 or 8 bytes, at most a maximum payload (16 R369). -/
def RegData.wf : RegData → Prop
  | .other bytes => bytes.length ≠ 4 ∧ bytes.length ≠ 8 ∧ bytes.length ≤ 512
  | _ => True

/-- The fields of a PTP message have their widths (12 Table 12.6). -/
def PtpMsg.wf (m : PtpMsg) : Prop :=
  m.typ < 16 ∧ m.domain < 256 ∧ m.srcIdentity < 2 ^ 64 ∧ m.srcPort < 65536 ∧ m.seq < 65536 ∧ m.reqIdentity < 2 ^ 64
    ∧ m.reqPort < 65536

/-- A channel has one or two ranks, each with three identification bytes, and the step that fails is 2 to 7 (15 R348, Table 15.2). -/
def DramTraining.wf (t : DramTraining) : Prop :=
  ∀ c ∈ t.chan.toList, 1 ≤ c.ranks.length ∧ c.ranks.length ≤ 2
    ∧ (∀ r ∈ c.ranks, r.vendor < 256 ∧ r.density < 256 ∧ r.io < 256)
    ∧ (∀ k ∈ c.first, 2 ≤ k.val) ∧ (∀ k ∈ c.retry, 2 ≤ k.val)

/-- Data that a read returns whole has the length that was asked for (16 R368). -/
def ReadEnd.lengthIs (n : Nat) : ReadEnd → Prop
  | .data bytes => bytes.length = n
  | .urCa | .poison => True

end Machine

open Machine

/-- The command's operands are ones that the outside world can give. -/
def Instr.WellFormed (i : Instr) : Prop :=
  match i with
  | .dataBlockRx _ _ _ => True
  | .invalidBlockRx _ _ => True
  | .idleBlockRx _ _ _ => True
  | .lineStartRx _ _ _ => True
  | .lineEndRx _ _ => True
  | .frameStartRx _ _ => True
  | .frameEndRx _ _ => True
  | .ctrlFragmentRx _ _ => True
  | .plHelloRx _ => True
  | .capsRx _ => True
  | .rateAckRx _ => True
  | .rateNakRx _ => True
  | .checkResultRx _ => True
  | .regRespRx _ => True
  | .settingsAppliedRx _ => True
  | .keepaliveRx _ => True
  | .ctrlAckRx _ => True
  | .ctrlAckTimeout _ _ => True
  | .keepaliveTimer _ => True
  | .primarySilenceTimeout _ => True
  | .blockLock _ _ => True
  | .bringupStepTimeout _ => True
  | .checkWindowEnd _ => True
  | .laneHelloWaitExpiry _ => True
  | .laneLoss _ => True
  | .portLoss _ => True
  | .cxpDiscoveryRetry _ => True
  | .cxpControlResponse _ r => r.wf
  | .cxpEventPacket _ _ => True
  | .cxpStreamPacket _ _ pk => pk.wf
  | .cxpConnectionLoss _ _ => True
  | .lineAtStitcher _ => True
  | .rowWindowEnd => True
  | .unionRowStart => True
  | .finalise => True
  | .ejCommandEntry _ => True
  | .dispatch => True
  | .objectTaskStart _ => True
  | .eventTaskStart _ => True
  | .deadlineReached _ => True
  | .budgetExpiry _ => True
  | .clockAdaptFault _ => True
  | .engineDmaComplete _ _ => True
  | .imageInstallDone _ => True
  | .clusterEnableDone _ => True
  | .clusterDrainEnd _ => True
  | .engSelftestDone _ _ => True
  | .add _ => True
  | .sub _ => True
  | .andS _ => True
  | .orS _ => True
  | .xorS _ => True
  | .shl _ => True
  | .shr _ => True
  | .sra _ => True
  | .slt _ => True
  | .sltu _ => True
  | .minS _ => True
  | .maxS _ => True
  | .movhi _ => True
  | .mul _ => True
  | .mulh _ => True
  | .mulhu _ => True
  | .div _ => True
  | .divu _ => True
  | .rem _ => True
  | .remu _ => True
  | .vadd _ => True
  | .vsub _ => True
  | .vmul _ => True
  | .vmin _ => True
  | .vmax _ => True
  | .vand _ => True
  | .vor _ => True
  | .vxor _ => True
  | .vshl _ => True
  | .vshr _ => True
  | .vsra _ => True
  | .vabsd _ => True
  | .vcmpeq _ => True
  | .vcmplt _ => True
  | .vcmpltu _ => True
  | .vsel _ => True
  | .vbcast _ => True
  | .vmacp _ => True
  | .vmacs _ => True
  | .vaccclr _ => True
  | .vaccrd _ => True
  | .vsum _ => True
  | .ldW _ => True
  | .ldH _ => True
  | .ldHu _ => True
  | .ldB _ => True
  | .ldBu _ => True
  | .stW _ => True
  | .stH _ => True
  | .stB _ => True
  | .vld _ => True
  | .vst _ => True
  | .vldB _ => True
  | .atomAdd _ => True
  | .illegalInstruction _ => True
  | .branch _ => True
  | .bz _ => True
  | .bnz _ => True
  | .bltz _ => True
  | .call _ => True
  | .ret _ => True
  | .verdict _ => True
  | .endTask _ => True
  | .getDma _ => True
  | .putDma _ => True
  | .waitDma _ => True
  | .poll _ => True
  | .fence _ => True
  | .timeRead _ => True
  | .budgetRead _ => True
  | .signal _ => True
  | .nop _ => True
  | .tareEvaluate _ => True
  | .tareIntervalExpiry _ => True
  | .boltHeaderEmit _ => True
  | .statsComplete _ => True
  | .pipeDrainEnd _ => True
  | .fathomLineStored _ => True
  | .cropCutStart _ => True
  | .cropWaitExpiry _ => True
  | .cropReadDone _ => True
  | .outputMessageEnqueue => True
  | .outputFlushTimeout _ _ => True
  | .outputIrqTimeout _ => True
  | .udpDatagramSend _ => True
  | .outputRingDrainEnd _ => True
  | .slotFreeze => True
  | .slotStart => True
  | .posCmdWaitExpiry => True
  | .valveAckRx _ head seq status tail => head.length = 2 ∧ seq.length = 2 ∧ status.length = 1 ∧ tail.length = 3
  | .valveAckTimeout _ => True
  | .linkDrainEnd _ => True
  | .testPulseDue => True
  | .qeEdge _ _ _ => True
  | .trigTimeDue _ => True
  | .trigOutPulseEnd _ => True
  | .qeIndex _ _ => True
  | .qeStillTimeout _ => True
  | .probeLatch _ _ => True
  | .probeSnapshotRead _ => True
  | .ethFrameRx _ f => f.wf
  | .ethLinkChange _ _ => True
  | .ptpEventRx _ e => e.msg.wf
  | .ptpGeneralRx _ m => m.wf
  | .ptpMessageTimer _ _ _ _ _ => True
  | .servoSample _ => True
  | .holdoverTimeout _ => True
  | .ppsInEdge _ => True
  | .ppsOutRise _ => True
  | .ppsOutFall _ => True
  | .cmpFire _ => True
  | .cmpArmWrite _ _ _ => True
  | .capSwTrig _ _ _ => True
  | .captureEvent _ => True
  | .timeSnapshotRead _ => True
  | .ellHelloRx _ m => m.wf
  | .ellRowsRx _ m => m.wf
  | .ellPartRx _ m => m.wf
  | .ellVerdictRx _ m => m.wf
  | .ellHelloTimer _ => True
  | .ellLossTimeout _ => True
  | .ellMergeTimeout _ _ => True
  | .ellVerdictTimeout _ _ => True
  | .dramRequest r => r.wf
  | .dramRequestComplete _ _ => True
  | .dramRefreshDue _ _ => True
  | .dramMrPoll _ _ _ => True
  | .dramDqsTrack _ => True
  | .dramIdleSrEntry _ => True
  | .dramScrubDue => True
  | .dramTrainingDone t => t.wf
  | .dramWipeDone => True
  | .mbxDoorbell _ _ bulk => bulk.length ≤ 0x1000000
  | .mbxRequestWrite _ off bs => 1 ≤ bs.length ∧ bs.length ≤ 512 ∧ off.val + bs.length ≤ 4096
  | .netRequestRx _ _ bs => bs.length ≤ 9554
  | .sbWriteRequest bs => bs.length ≤ 4096
  | .sbReadResponse _ => True
  | .sbReadStatus => True
  | .sessionIdleTimeout _ => True
  | .backgroundCommandDone _ info => info.wf
  | .slidingWindowAccess off len data _ => 1 ≤ len.val ∧ off.val + len.val ≤ 0x1000000 ∧ (∀ d ∈ data, d.length = len.val)
  | .counterLowRead _ => True
  | .reservedAddressAccess _ _ => True
  | .shArm _ _ => True
  | .shDisarm _ _ => True
  | .shRegWrite _ _ _ => True
  | .dmaEnable _ _ => True
  | .dmaEnableDone _ => True
  | .dmaDisable _ _ => True
  | .dmaClear _ _ => True
  | .dmaDoorbell _ _ => True
  | .dmaDescriptorFetched _ r => r.lengthIs 32
  | .dmaReadCompletion _ _ => True
  | .dmaDescriptorComplete _ => True
  | .dmaReadbackDone _ _ => True
  | .dmaCompletionTimeout _ => True
  | .outConsWrite _ _ => True
  | .msixVectorUnmask _ => True
  | .registerWrite _ d _ => d.wf
  | .perstAssert => True
  | .perstDeassert => True
  | .d3hotEntry => True
  | .mailboxReopen => True
  | .gpioEdge _ _ => True
  | .consumerBusyEnd _ => True
  | .evtLockoutEnd _ => True
  | .evtSwFire _ _ => True
  | .gpioPulseEnd _ => True
  | .strobeInhibitEnd _ => True
  | .faultReport rs => rs ≠ [] ∧ ∀ r ∈ rs, r.wf
  | .referenceLost _ => True
  | .clockLoss _ => True
  | .sensorSample _ voltage => ∀ v ∈ voltage.toList, v < 65536
  | .logFlush => True
  | .watchdogExpiry => True
  | .startupBegin => True
  | .mailboxesOpen => True
  | .bootArmApply _ => True
  | .armWaitExpiry => True
  | .updateIdleTimeout => True
  | .activationRestartDone => True
  | .trialConfirm => True
  | .trialWindowEnd => True
  | .powerTransitionDone => True
  | .wake => True
  | .warmReset _ => True
  | .porFall => True
  | .brownOut => True
  | .jtagLifecycleProgram _ _ _ => True
  | .bypass => True
  | .idcode => True
  | .samplePreload => True
  | .extest => True
  | .extestPulse => True
  | .extestTrain => True
  | .clamp => True
  | .highz => True
  | .devIdentify q => q.wf 0x0100
  | .sessionOpen q => q.wf 0x0101
  | .sessionClose q => q.wf 0x0102
  | .sessionClaim q => q.wf 0x0103
  | .sessionRelease q => q.wf 0x0104
  | .devStateSet q => q.wf 0x0105
  | .devReset q => q.wf 0x0106
  | .devHealth q => q.wf 0x0107
  | .camPortConfig q => q.wf 0x0200
  | .camPortEnable q => q.wf 0x0201
  | .camPortDisable q => q.wf 0x0202
  | .camLinkStatus q => q.wf 0x0203
  | .camRegAccess q => q.wf 0x0204
  | .camExposureSet q => q.wf 0x0205
  | .pipeConfig q => q.wf 0x0300
  | .pipeTableLoad q => q.wf 0x0301
  | .pipeEnable q => q.wf 0x0302
  | .pipeDisable q => q.wf 0x0303
  | .pipeStatsRead q => q.wf 0x0304
  | .tareConfig q => q.wf 0x0400
  | .tareRun q => q.wf 0x0401
  | .tareStatus q => q.wf 0x0402
  | .tareRollback q => q.wf 0x0403
  | .binConfig q => q.wf 0x0500
  | .binCoefLoad q => q.wf 0x0501
  | .stitchConfig q => q.wf 0x0600
  | .classLutLoad q => q.wf 0x0601
  | .segConfig q => q.wf 0x0602
  | .gustRulesLoad q => q.wf 0x0603
  | .engImageLoad q => q.wf 0x0700
  | .engPoolConfig q => q.wf 0x0701
  | .engStatus q => q.wf 0x0702
  | .engFenceClear q => q.wf 0x0703
  | .engPolicySet q => q.wf 0x0704
  | .qeConfig q => q.wf 0x0800
  | .qeRead q => q.wf 0x0801
  | .trigConfig q => q.wf 0x0802
  | .probeConfig q => q.wf 0x0803
  | .ejConfig q => q.wf 0x0900
  | .ejMapLoad q => q.wf 0x0901
  | .ejArm q => q.wf 0x0902
  | .ejDisarm q => q.wf 0x0903
  | .ejTestPulse q => q.wf 0x0904
  | .ethPortConfig q => q.wf 0x0A00
  | .ptpConfig q => q.wf 0x0A01
  | .ptpStatus q => q.wf 0x0A02
  | .timeBaseConfig q => q.wf 0x0A03
  | .stationConfig q => q.wf 0x0B00
  | .ellStatus q => q.wf 0x0B01
  | .fathomConfig q => q.wf 0x0C00
  | .outputRingConfig q => q.wf 0x0C01
  | .coderConfig q => q.wf 0x0C02
  | .previewConfig q => q.wf 0x0C03
  | .dramStatus q => q.wf 0x0D00
  | .dramQosSet q => q.wf 0x0D01
  | .evtChannelConfig q => q.wf 0x0E00
  | .evtChannelStatus q => q.wf 0x0E01
  | .fltRead q => q.wf 0x0F00
  | .fltAck q => q.wf 0x0F01
  | .mgtSensorsRead q => q.wf 0x1000
  | .logRead q => q.wf 0x1001
  | .settingsSave q => q.wf 0x1003
  | .settingsLoad q => q.wf 0x1004
  | .settingsAcceptDefaults q => q.wf 0x1005
  | .updateBegin q => q.wf 0x1010
  | .updateBlock q => q.wf 0x1011
  | .updateVerify q => q.wf 0x1012
  | .updateActivate q => q.wf 0x1013
  | .updateAbort q => q.wf 0x1014
  | .updateStatus q => q.wf 0x1015
  | .lcsRead q => q.wf 0x1020
  | .obsSelect q => q.wf 0x1021
  | .qeSpacingEnd _ => True
  | .engineClockStep _ _ => True
  | .clockRestored _ => True
  | .pcieLinkChange _ _ => True
  | .mgtRestartDone => True
  | .ptpAnnounceTimeout _ _ => True
  | .libraryActivationDone => True

end Sys2Proof
end

