-- ==== Sys2Proof/Tests/Slice0.lean ====
section
/-! SUPPORT. The model's own tests: ill-formed commands, and for the statements of the certificates states and operands that
meet their hypotheses (`wit_` theorems). -/

namespace Sys2Proof.Tests

open Sys2Proof Sys2Proof.Machine

-- One proof after another: each evaluation in the kernel takes a thread of its own otherwise.
set_option Elab.async false

/-! ### Engines (09) -/

/-- Engine `e` runs an event task at code address 8, where the word `w` stands. -/
def engRuns (e : Fin 192) (w : Nat) (f : Engine → Engine) : State :=
  let r := State.reset
  let x : Engine := { state := .event, task := .event 0, clock := 100, pc := 8, budget := 50 }
  { r with eng := { r.eng with eng := r.eng.eng.set e (f x) }, mem := memWriteN [] (localAddr e 8) (bytesOf 4 w) }

/-- A budget of 49 cycles is enough for any instruction. -/
theorem stands_of_budget {s : State} {e : Fin 192} {f op : Nat} (h : At s e f op = true) (b : 49 ≤ (s.eng.eng[e]).budget) :
    Stands s e f op = true := by
  have c : instrCycles s < (s.eng.eng[e]).budget := by unfold instrCycles; omega
  simp only [Stands, h, InBudget, decide_eq_true c, Bool.true_or, Bool.and_self]

/-- A legal word of every format and OP, with its format, OP and the word (09 Tables 9.2, 9.3). -/
def legalWords : List (Nat × Nat × Nat) :=
  (List.range 20).map (fun op => (0, op, op * 2 ^ 24 + 3 * 2 ^ 19 + 1 * 2 ^ 14 + 2))
    ++ ((List.range 22).map fun op => (1, op, 2 ^ 29 + op * 2 ^ 23 + (if op = 21 then 0 else 3) * 2 ^ 18
      + (if op = 16 ∨ op = 19 then 0 else 2) * 2 ^ 14))
    ++ ((List.range 12).map fun op => (2, op, 2 * 2 ^ 29 + op * 2 ^ 25 + 3 * 2 ^ 20))
    ++ ((List.range 8).map fun op => (3, op, 3 * 2 ^ 29 + op * 2 ^ 26 + (if op = 0 then 1 else 2 ^ 21 + 2 ^ 17)))
    ++ ((List.range 4).map fun op => (4, op, 4 * 2 ^ 29 + op * 2 ^ 26))
    ++ (List.range 5).map fun op => (5, op, 5 * 2 ^ 29 + op * 2 ^ 26)

/-- Every instruction has a state in which it stands and may retire with a next word: the hypotheses of the statements on scalar,
vector, memory, branch, task and control instructions. -/
theorem wit_instructions : ∀ r ∈ legalWords, Stands (engRuns 17 r.2.2 id) 17 r.1 r.2.1 = true ∧ HasNext (engRuns 17 r.2.2 id) 17 = true := by
  have h : ∀ r ∈ legalWords, At (engRuns 17 r.2.2 id) 17 r.1 r.2.1 = true ∧ 49 ≤ ((engRuns 17 r.2.2 id).eng.eng[(17 : Fin 192)]).budget
      ∧ HasNext (engRuns 17 r.2.2 id) 17 = true := by decide +kernel
  exact fun r m => ⟨stands_of_budget (h r m).1 (h r m).2.1, (h r m).2.2⟩

/-- A word of data and one of shared memory can be read and written at their first and last place; an odd address can not. -/
theorem wit_memory : CanRead State.reset 17 0x3FFFC 4 = true ∧ CanRead State.reset 17 0x100000 4 = true
    ∧ CanRead State.reset 17 0x40000 4 = false ∧ CanRead State.reset 17 2 4 = false ∧ CanWrite 17 0x10000 4 = true
    ∧ CanWrite 17 0x1FFFE0 32 = true ∧ CanWrite 17 0xFFFC 4 = false ∧ CanWrite 17 0x200000 4 = false := by decide +kernel

/-- An illegal word, a misaligned load, a store to the code region, RET to 0 and VERDICT in an event task: the hypotheses of
`ProgramFaults`. -/
theorem wit_program_faults : mayIssue (engRuns 17 0xFFFFFFFF id) 17 = true ∧ legal (fetchWord (engRuns 17 0xFFFFFFFF id) 17) = false
    ∧ (effAddr ((engRuns 17 0x40300002 id).eng.eng[(17 : Fin 192)]) 0x40300002#32).toNat % 4 ≠ 0
    ∧ (effAddr ((engRuns 17 0x4A300000 id).eng.eng[(17 : Fin 192)]) 0x4A300000#32).toNat < 0x10000
    ∧ sreg ((engRuns 17 0x74200000 id).eng.eng[(17 : Fin 192)]) 1 = 0
    ∧ ((engRuns 17 0x78220000 id).eng.eng[(17 : Fin 192)]).task = .event 0 := by decide +kernel

/-- An object of class 2 in the dispatcher. -/
def obj : RefObj :=
  { record := { id := 77, verdict := 3 }, features := [], cls := 2, crop := false, timeKey := 50000, posKey := none, cmd := {}
    pol := { entry := 1 } }

/-- The verdicts ACCEPT to REFER with no result, one inline result byte, or a window of memory are legal; verdict 0 and 33 bytes are
not. -/
theorem wit_verdict : verdictOk (BitVec.ofNat 32 (2 ^ 17)) 0 = true ∧ verdictOk (BitVec.ofNat 32 (3 * 2 ^ 17 + 2 ^ 11 + 2 ^ 10)) 0x3FFFF = true
    ∧ verdictOk (BitVec.ofNat 32 (2 ^ 17 + 32 * 2 ^ 11)) 0x3FFE0 = true ∧ verdictOk 0 0 = false
    ∧ verdictOk (BitVec.ofNat 32 (2 ^ 17 + 33 * 2 ^ 11)) 0x10000 = false := by decide +kernel

/-- Engine 17 runs an object task with a legal VERDICT: the hypotheses of `TaskEnds`. -/
theorem wit_task_ends : let s := engRuns 17 0x78220000 fun x => { x with state := .object, task := .object obj true }
    At s 17 3 6 = true ∧ (s.eng.eng[(17 : Fin 192)]).task = .object obj true ∧ verdictOk (fetchWord s 17) 0 = true
      ∧ errWords s.eccBad (localAddr 17 0) 0 = [] := by decide +kernel

/-- A legal GET of 64 bytes from DRAM stands with room in its queue, and a queued transfer ends on a running fabric: the hypotheses
of `EngineTransfers`. -/
theorem wit_transfers : let s := engRuns 17 0x80200000 fun x => { x with sreg := x.sreg.set 1 0x20000#32 }
    let s := { s with mem := memWriteN s.mem (localAddr 17 0x20000) (bytesOf 8 (0x1008000000 + 0x100000) ++ bytesOf 4 0x10000 ++ bytesOf 2 63) }
    let d := memReadN s.mem (localAddr 17 0x20000) 32
    At s 17 4 0 = true ∧ s.clockRuns 12 = true
      ∧ dmaLegal s 17 d { put := false, ext := leAt d 0 8, loc := leAt d 8 4, len := leAt d 12 2 + 1, rows := 1, extStride := 0, locStride := 0 }
        = true := by decide +kernel

/-- An engine without a task may not issue, and one whose budget is one cycle has a VERDICT that may not retire: the hypotheses of
`EngineWaits`. -/
theorem wit_engine_waits : mayIssue State.reset 0 = false
    ∧ (let s := engRuns 17 0x78220000 fun x => { x with budget := 1 }
      At s 17 3 6 = true ∧ InBudget s 17 3 6 = false) := by
  refine ⟨by decide +kernel, by decide +kernel, ?_⟩
  have : instrCycles (engRuns 17 0x78220000 fun x => { x with budget := 1 }) = 1
      ∨ 1 < instrCycles (engRuns 17 0x78220000 fun x => { x with budget := 1 }) := by unfold instrCycles; omega
  have b : ((engRuns 17 0x78220000 fun x => { x with budget := 1 }).eng.eng[(17 : Fin 192)]).budget = 1 := by decide +kernel
  unfold InBudget; rw [b]; rcases this with h | h
  · rw [h]; decide
  · simp; omega

/-- Cluster 1 is ENABLED for all classes with an idle engine, and `obj` waits: the hypotheses of `DispatchAssigns`, of
`DeadlineFallback` before and after its deadline, and of `ClusterStates`. -/
def waits (now : Nat) : State :=
  let r := State.reset
  { r with eng := { r.eng with refer := [obj]
                               cluster := r.eng.cluster.set 1 { r.eng.cluster[1] with state := .enabled, classMask := 0xFFFF }
                               eng := r.eng.eng.set 16 { r.eng.eng[16] with state := .idle, clock := 80 } }
           time := { r.time with tb := r.time.tb.set 0 { r.time.tb[0] with time := { ns := now } } } }

theorem wit_dispatch : (waits 0).power.state = .active ∧ (waits 0).clockRuns 12 = true
    ∧ firstAssignable (waits 0) (waitingObjs (waits 0)) = some (obj, 16)
    ∧ firstAssignable State.reset (waitingObjs State.reset) = none := by decide +kernel

theorem wit_deadline : (waitingObjs (waits 0)).find? (fun o => o.record.id == 77) = some obj
    ∧ deadlineReached (waits 0) obj = false ∧ deadlineReached (waits 50000) obj = true := by decide +kernel

/-- The object's slack is enough, or not enough, for another dispatch: the hypotheses of `Redispatch`. -/
theorem wit_redispatch : obj.redispatched = false ∧ obj.decided = false
    ∧ (1000 * obj.pol.marginUs : Int) ≤ (obj.timeKey - (waits 30000).tbTs 0).toInt
    ∧ ¬ (1000 * obj.pol.marginUs : Int) ≤ (obj.timeKey - (waits 30001).tbTs 0).toInt := by decide +kernel

/-- A task whose budget is used up, an idle engine, and a bad word at the program counter: the hypotheses of `EngineFailures`. -/
theorem wit_failures : taskRuns ((engRuns 17 0 fun x => { x with budget := 0 }).eng.eng[(17 : Fin 192)]) = true
    ∧ ((waits 0).eng.eng[(16 : Fin 192)]).state = .idle
    ∧ (let s := { engRuns 17 0 id with eccBad := [(localAddr 17 8) / 8] }
      mayIssue s 17 = true ∧ s.bad (localAddr 17 8) = true) := by decide +kernel

/-- A cluster that installs, one that is ENABLING, one that drains without tasks, and an engine under test: the hypotheses of
`ClusterStates` and `EngineService`. -/
theorem wit_clusters : let s := State.reset
    let c := fun (k : Cluster) => { s with eng := { s.eng with cluster := s.eng.cluster.set 1 k } }
    ((c { installing := some [] }).eng.cluster[(1 : Fin 12)]).installing = some []
    ∧ ((c { state := .enabling }).eng.cluster[(1 : Fin 12)]).state = .enabling
    ∧ (∀ e : Fin 192, e.val / 16 = 1 → ((c { state := .draining }).eng.eng[e]).state ≠ .object)
    ∧ ((engRuns 17 0 fun x => { x with state := .testing }).eng.eng[(17 : Fin 192)]).state = .testing := by decide +kernel

/-- An image of one entry at 0x100 with a budget of 900: the hypotheses of `TasksStart`, for an object task and for task input 2 of
cluster 1. -/
def tasked : State :=
  let r := State.reset
  let img := zeros 32 ++ bytesOf 2 1 ++ zeros 30 ++ bytesOf 4 0x100 ++ bytesOf 4 900 ++ zeros 8
  let k : Cluster := { state := .enabled, image := some img, tinEntry := (Vector.replicate 4 0xFF).set 2 0, tinHome := Vector.replicate 4 3 }
  let o := { obj with pol := { entry := 0 } }
  { r with eng := { r.eng with cluster := r.eng.cluster.set 1 k
                               eng := (r.eng.eng.set 19 { state := .idle, clock := 80 }).set 20 { state := .object, task := .object o false } }
           evt := { r.evt with cons := r.evt.cons.set 6 { pending := true } } }

theorem wit_tasks : (clusterEntry tasked 1 0).map (fun x => (x.offset, x.budget)) = some (0x100, 900)
    ∧ tinEngine tasked 1 2 = some 19 ∧ (tasked.evt.cons[tinConsumer 1 2]).pending = true ∧ memWf tasked.mem = true
    ∧ (tasked.eng.eng[(20 : Fin 192)]).task = .object { obj with pol := { entry := 0 } } false := by decide +kernel

/-! ### Camera links (02) -/

/-- The settings of a Phirvo Link port of `lanes` lanes up to 50G, one stream of four channels. -/
def phirvo (lanes : Nat) : PortConfig :=
  { cxp := false, maxMode := 3, lanes := lanes, precode := 1, split := false, streamMask := 1, cxpLatency := 0
    cxpStreamId := Vector.replicate 4 0, chMask := Vector.replicate 4 15, startCol := Vector.replicate 4 0 }

/-- A CoaXPress port of `lanes` connections. -/
def coax (lanes : Nat) : PortConfig := { phirvo lanes with cxp := true, maxMode := 10 }

/-- Port `p` with its settings, link and lanes. -/
def portOn (p : Fin 12) (c : PortConfig) (link : LinkState) (a b : Lane) : State :=
  let s := State.reset
  { s with cam := { port := s.cam.port.set p { config := some c, unit := .enabled, link := link }
                    lane := (s.cam.lane.set (laneIx p 0) a).set (laneIx p 1) b } }

/-- Port 3 in RUN on both lanes. -/
def running : State := portOn 3 (phirvo 2) .run { state := .run, lock := true, fill := 16 } { state := .run, lock := true, fill := 16 }

/-- A block with a header as a camera sends it first: payload scrambled from an empty register. -/
def sent (header payload : Nat) : BitVec 66 :=
  (((scramble 0 (BitVec.ofNat 64 payload)).1.zeroExtend 66) <<< 2) ||| BitVec.ofNat 66 header

/-- An IDLE block, a data block, an invalid header and a TRIGGER arrive as such on a lane that is up: the hypotheses of
`ReceivedBlocks`. -/
theorem wit_blocks : laneUp running 6 = true ∧ laneUp State.reset 6 = false
    ∧ ((receiveBlock 6 (sent 2 0x1E) running).1.header = 2 ∧ (receiveBlock 6 (sent 2 0x1E) running).1.byte 0 = 0x1E)
    ∧ (receiveBlock 6 (sent 1 0xFFFFFFFFFFFFFFFF) running).1.header = 1
    ∧ (receiveBlock 6 (sent 3 0) running).1.header = 3 ∧ (receiveBlock 6 (sent 0 0) running).1.header = 0
    ∧ (receiveBlock 6 (sent 2 0x78) running).1.byte 0 = 0x78
    ∧ (receiveBlock 6 (sent 2 0x99) running).1.byte 0 = 0x99 := by decide +kernel

/-- An IDLE at a fill of 17 is deleted, at 16 it stays, at 15 one is inserted. -/
theorem test_idle_fill : ((match exec (.idleBlockRx 6 (sent 2 0x1E) 17) running with
      | .next t => [(t.cam.lane[(6 : Fin 24)]).idleDel, (t.cam.lane[(6 : Fin 24)]).idleIns] | _ => []) = [1, 0])
    ∧ ((match exec (.idleBlockRx 6 (sent 2 0x1E) 16) running with
      | .next t => [(t.cam.lane[(6 : Fin 24)]).idleDel, (t.cam.lane[(6 : Fin 24)]).idleIns] | _ => []) = [0, 0])
    ∧ ((match exec (.idleBlockRx 6 (sent 2 0x1E) 15) running with
      | .next t => [(t.cam.lane[(6 : Fin 24)]).idleDel, (t.cam.lane[(6 : Fin 24)]).idleIns] | _ => []) = [0, 1]) := by decide +kernel

/-- A LINE_START on a locked lane and on one without lock, on a port with both lanes, and the first and last fragment of a message
with its CRC: the hypotheses of `LineStartsAndFragments`. -/
theorem wit_line_start : dualLane running 3 = true ∧ dualLane (portOn 3 (phirvo 1) .run { state := .run } {}) 3 = false
    ∧ ((receiveBlock 6 (sent 2 (0x2D + 0x100 * 2)) running).1.byte 0, (receiveBlock 6 (sent 2 (0x2D + 0x100 * 2)) running).1.byte 1) = (0x2D, 2)
    ∧ (addFragment none 0 true (ctrlBytes 0x0E 7 [])).bind (fun r => parseMsg r.1) = some { typ := 0x0E, seq := 7, body := [] }
    ∧ addFragment (some ([1], 1)) 2 false [2] = none ∧ parseMsg (zeros 6) = none := by decide +kernel

/-- A line that LINE_END closes on a one-lane port, and on a two-lane port with the part of the other lane there, late, or
missing: the hypotheses of `LineEnds`. -/
theorem wit_line_end : let d : LaneLine := { stream := 0, number := 9, announced := 2, blocks := [5] }
    let s := portOn 3 (phirvo 2) .run { state := .run, lock := true, line := some d } { state := .run, done := [{ d with number := 8 }, d] }
    (receiveBlock 6 (sent 2 0x33) s).1.byte 0 = 0x33 ∧ ((receiveBlock 6 (sent 2 0x33) s).2.cam.lane[(6 : Fin 24)]).line = some d
      ∧ dualLane s 3 = true ∧ otherLane 6 = 7 ∧ ((s.cam.lane[(7 : Fin 24)]).done = [{ d with number := 8 }] ++ d :: []) := by decide +kernel

/-- Every message type with a row waits in an inbox, on a lane in the step that the row needs: the hypotheses of
`ControlMessages`. -/
theorem wit_messages : ∀ typ ∈ [0x01, 0x02, 0x04, 0x05, 0x06, 0x09, 0x0B, 0x0E, 0x0F], ∀ st ∈ [LinkState.hello, .step10g, .stepPam4],
    let s := portOn 3 (phirvo 2) .search { state := st, precode := true, inbox := [{ typ := 0x10, seq := 1, body := [] }, { typ := typ, seq := 2, body := [2] }] } {}
    (s.cam.lane[(6 : Fin 24)]).inbox.find? (·.typ == typ) = some { typ := typ, seq := 2, body := [2] }
      ∧ (s.cam.lane[(6 : Fin 24)]).state = st ∧ laneOwner s 6 = 3 ∧ (s.cam.port[(3 : Fin 12)]).config = some (phirvo 2) := by decide +kernel

/-- A lane in SEARCH, one in each rate step under its check, one whose step has attempts left, and one that waits for LANE_UP of the other:
the hypotheses of `BringUp` and `DegradedStart`. -/
theorem wit_bring_up : (∀ st ∈ [LinkState.search, .step10g, .stepPam4, .hello, .negotiate],
      laneUp (portOn 3 (phirvo 2) .search { state := st, checking := true } {}) 6 = true)
    ∧ (let s := portOn 3 (phirvo 2) .search { state := .run } { state := .search }
      lanesInRun s 3 = [6] ∧ portRuns s 3 = false ∧ (portLanes s 3).length = 2 ∧ isCxp s 3 = false) := by decide +kernel

/-- A downlink at its boundary with nothing, a TRIGGER or a CTRL block waiting, and one just before it; a message without its ACK
at its first and last repetition: the hypotheses of `ControlTimers`. -/
theorem wit_downlink : let x : Lane := { state := .run, txBits := 61, txTrig := [5], txCtrl := [6], txSinceIdle := 2047 }
    let o : Outstanding := { lane := 0, msg := { typ := 0x0E, seq := 4, body := [] }, repeats := 3 }
    66 ≤ x.txBits + 5 ∧ ({ x with txBits := 60 } : Lane).txBits + 5 < 66 ∧ portRuns running 3 = true ∧ isCxp running 3 = false
      ∧ [o].find? (fun o => o.msg.seq == 4) = some o ∧ 3 ≤ o.repeats := by decide +kernel

/-- A port in RUN on two lanes that loses one or both, and one that starts: the hypotheses of `LinkLoss`. -/
theorem wit_link_loss : (running.cam.port[(3 : Fin 12)]).unit = .enabled ∧ lanesPowered running = true ∧ pairIdle running 3 = false
    ∧ laneUp running 7 = true ∧ laneOwner running 7 = 3 ∧ pairIdle (portOn 2 (coax 4) .run {} {}) 3 = true
    ∧ laneOwner (portOn 2 (coax 4) .run {} {}) 7 = 2 := by decide +kernel

/-- CoaXPress ports in discovery, configuration and RUN, a mapped and an unmapped stream: the hypotheses of `CoaXPress`. -/
theorem wit_coax : let s := portOn 2 (coax 4) .run { state := .run } { state := .run }
    (s.cam.port[(2 : Fin 12)]).config = some (coax 4) ∧ portRuns s 2 = true ∧ (portLanes s 2)[3]? = some 7
      ∧ cxpStream (coax 4) 0 = some 0 ∧ cxpStream (coax 4) 9 = none
      ∧ ((portOn 2 (coax 4) .cxpDiscovery {} {}).cam.port[(2 : Fin 12)]).link = .cxpDiscovery := by decide +kernel

/-! ### Bolts, shadow sets, Tare, rows, rules (03, 05, 07, 08) -/

/-- Pipe 3 ENABLED behind a running port, with `f` of the reset pipe. -/
def pipeOn (f : Pipe → Pipe) : State :=
  let s := portOn 3 (phirvo 2) .run { state := .run, lock := true } { state := .run, lock := true }
  { s with pipe := s.pipe.set 3 (f { s.pipe[3] with unit := .enabled }) }

/-- FRAME_START and FRAME_END of the framing stream and of another one, on a port that runs and on one that does not: the hypotheses
of `FrameMarks`. -/
theorem wit_frame_marks : framingStream (phirvo 2) = some 0 ∧ framingStream (phirvo 2) ≠ some 1
    ∧ ((receiveBlock 6 (sent 2 0x4B) running).1.byte 0, (receiveBlock 6 (sent 2 0x4B) running).1.byte 1) = (0x4B, 0)
    ∧ (receiveBlock 6 (sent 2 0x155) running).1.byte 1 = 1 ∧ portRuns (portOn 3 (phirvo 2) .search { state := .run } {}) 3 = false
    ∧ laneUp (portOn 3 (phirvo 2) .search { state := .run } {}) 6 = true := by decide +kernel

/-- Line framing takes from pipe 3 with no bolt, a full bolt, and an open bolt before and at its last line: the hypotheses of
`BoltOpens`, `BoltCloses` and `LineEntersBolt`. -/
theorem wit_framing : let b : Bolt := { lineCount := 1 }
    framingTakes (pipeOn id) 3 = true ∧ (pipeOn id).clockRuns 9 = true
      ∧ ((pipeOn fun x => { x with fullBolt := some b }).pipe[(3 : Fin 12)]).fullBolt.isSome = true
      ∧ ((pipeOn fun x => { x with bolt := some b }).pipe[(3 : Fin 12)]).active.boltLines ≠ b.lineCount + 1
      ∧ ((pipeOn id).pipe[(3 : Fin 12)]).waitFrame = false := by decide +kernel

/-- FRAME_START opens bolt 0 with the message's settings tag. -/
theorem test_bolt_opens : (((frameStart 3 77 5 {} (pipeOn id)).pipe[(3 : Fin 12)]).bolt.map fun b => (b.number, b.tag, b.camFrame)) = some (0, 77, 5) := by
  decide +kernel

/-- A closed bolt with and without lines on their way, statistics to deliver, and a pipe that has drained: the hypotheses of
`BoltRecords`. -/
theorem wit_bolt_records : let s := pipeOn fun x => { x with unit := .draining, closed := [{ number := 2 }], statsPending := [{}] }
    let t := pipeOn fun x => { x with closed := [{ number := 2 }], outLines := [{ tag := {}, bolt := 2, classes := [], values := [], channels := 4 }] }
    boltInFlight s 3 2 = false ∧ boltInFlight t 3 2 = true ∧ pipeDrained (pipeOn fun x => { x with unit := .draining }) 3 = true
      ∧ (s.pipe[(3 : Fin 12)]).statsPending = [{}] := by decide +kernel

/-- A pipe that PCIe sessions may write, and one that session 0 holds by the sideband; a set that passes the checks of ARM, and one that
does not; registers with and without writable bits: the hypotheses of `ShadowWrites` and `ShadowTransfer`. -/
theorem wit_shadow : let s := pipeOn id
    let held := { s with mbx := { s.mbx with claims := [(resPipe 3, 0)] } }
    s.pcieMayWrite (resPipe 3) = true ∧ held.pcieMayWrite (resPipe 3) = false
      ∧ shadowOk s 3 {} 4 16 = true ∧ shadowOk s 3 { format := 0 } 4 16 = false ∧ (shadowMask 0x100).isSome = true
      ∧ (s.pipe[(3 : Fin 12)]).arm = false ∧ (s.pipe[(3 : Fin 12)]).tare.state ≠ .swapPending := by decide +kernel

/-- A run in EVALUATE without and with a bad word in its pool, one in WRITE, and a pipe on whose timer a run may start: the hypotheses
of `TareRuns`. -/
theorem wit_tare : let run : TareRun := { dark := false, params := {}, blocks := [0] }
    let s := pipeOn fun x => { x with tare := { x.tare with state := .evaluate, run := some run } }
    poolBad run s = none ∧ poolBad run { s with eccBad := [0x200000000] } = some 0x200000000
      ∧ tareRoom 3 (pipeOn fun x => { x with tare := { x.tare with params := { interval := 5 } } }) = true := by decide +kernel

/-- A member pipe and another one with a line at the stitcher, with no row, a row without its line and one with it; a closed row; a
closed object: the hypotheses of `InputRows`, `UnionRow` and `Finalises`. -/
theorem wit_rows : let l : PipeLine := { tag := { number := 4 }, bolt := 0, classes := [0], values := [[1, 2, 3, 4]], channels := 4 }
    let s := pipeOn fun x => { x with outLines := [l] }
    let m := { s with stitch := { s.stitch with members := 8, row := some { number := 0, opener := {}, openerBolt := 0, openerPipe := 3 } } }
    s.clockRuns 10 = true ∧ isMember m 3 = true ∧ isMember s 3 = false ∧ (s.pipe[(3 : Fin 12)]).outLines = [l]
      ∧ (m.stitch.row.map fun r => (r.slots[(3 : Fin 12)]).came) = some false := by decide +kernel

/-- A chain of two rules that matches, one that does not, and the default: the hypotheses of `RuleChains`. -/
theorem test_rule_chains :
    let b : GustBank := { rules := [{ sel := 0, cmp := 5, flags := 1, verdict := 7 }, { priority := 3, sel := 0, cmp := 5, verdict := 2 },
      { priority := 3, sel := 0, cmp := 5, verdict := 1 }], default := 1 }
    (evaluateRules b [0]).verdict = 2 ∧ (evaluateRules b [0]).rule = some 1
      ∧ evaluateRules b [1] = { verdict := 1, byDefault := true } := by decide +kernel

/-! ### Outputs, position, events (10, 14, 18) -/

/-- Output ring 5 is an ENABLED HOST ring of 4 KiB for every kind. -/
def ringOn (f : OutRing → OutRing) : State :=
  let s := State.reset
  { s with outp := { s.outp with ring := s.outp.ring.set 5 (f { cfg := { kinds := 0x7FE, size := 4096, base := 0x10000 }, state := .enabled }) } }

/-- A staged line of a ring in DRAM: the hypotheses of `FathomStores`. -/
theorem wit_fathom : let s := State.reset
    let u := { s with dram := { s.dram with state := .ready, addrMib := 1024 } }
    let f : FathomPipe := { enable := true, base := 0x10000, lines := 2048, stride := 256, staging := [(2049, zeros 28, [1, 2])] }
    let data := f.base + 65536 + f.stride * (2049 % 2048)
    dramHas u data 2 = true ∧ dramHas u (f.base + 32) 32 = true ∧ f.base + 64 ≤ data ∧ (zeros 28).length = 28 := by decide +kernel

/-- A crop of one piece that waits, and one that has started: the hypotheses of `CropsStart` and `CropEnds`. -/
theorem wit_crops : let j : CropJob := { record := { id := 5 }, pieces := [{ pipe := 3, x0 := 0, width := 4, rowLo := 0, count := 0, truncated := false, flip := false }]
                                         colLo := 0, colHi := 3 }
    let s := State.reset
    let u := { s with outp := { s.outp with jobs := [j, { j with started := true }] } }
    u.power.state = .active ∧ j ∈ u.outp.jobs ∧ (∀ c ∈ j.pieces, c.count = 0)
      ∧ (u.outp.jobs.find? fun j => j.record.id == 5 && j.started) = some { j with started := true } := by decide +kernel

/-- An item that a ring carries and one that it does not, and a batch that waits: the hypotheses of `MessagesForm`. -/
theorem wit_items : let i : OutItem := { kind := 2, source := some 3, payload := [1] }
    let s := ringOn fun g => { g with batches := [(2, [[1]])] }
    carries (s.outp.ring[(5 : Fin 16)]).cfg 5 i = true ∧ carries (s.outp.ring[(5 : Fin 16)]).cfg 5 { i with kind := 1 } = false
      ∧ ((s.outp.ring[(5 : Fin 16)]).batches.find? fun b => b.1 == 2) = some (2, [[1]]) := by decide +kernel

/-- Messages with room, too large, and without room behind a full ring, of a kind that is held and one that is dropped, and one that
needs a PAD: the hypotheses of `MessagesHeldOrDropped` and `HostRingWrites`. -/
theorem wit_room : let m : OutMsg := { kind := 1, source := none, seq := 0, bytes := zeros 4096 }
    ringRoom (ringOn id) 5 m = true ∧ ringRoom (ringOn fun g => { g with producer := 1 }) 5 m = false
      ∧ (ringOn id).outp.ring[(5 : Fin 16)].cfg.size / 64 < ({ m with bytes := zeros 4097 }.bytes.length + 63) / 64
      ∧ ringRoom (ringOn fun g => { g with cfg := { g.cfg with udp := true } }) 5 m = true
      ∧ ringRoom (ringOn fun g => { g with cfg := { g.cfg with udp := true }, tokens := 1000 }) 5 m = false := by decide +kernel

/-- A ring with unsignalled messages, one that drains with nothing staged, and consumer indices at and beyond a ring: the hypotheses of
`RingService`. -/
theorem wit_ring_service : let s := ringOn fun g => { g with irqCount := 1, state := .draining, producer := 64 }
    let g := s.outp.ring[(5 : Fin 16)]
    g.irqCount ≠ 0 ∧ g.batches = [] ∧ g.held = [] ∧ g.frags = [] ∧ ¬ g.cfg.size / 64 < (g.producer + 2 ^ 32 - 0) % 2 ^ 32
      ∧ g.cfg.size / 64 < (g.producer + 2 ^ 32 - (2 ^ 32 - 1)) % 2 ^ 32 := by decide +kernel

/-- Channel 2 enabled, with `f` of it. -/
def qeOn (f : QeChan → QeChan) : State :=
  let s := State.reset
  { s with pos := { s.pos with qe := s.pos.qe.set 2 (f { enable := true }) }, now := 1000 }

/-- A transition inside and outside the spacing, both lines changed, none changed: the hypotheses of `EncoderEdges`, and of
`EncoderRows` on the end of the spacing and the STILL limit. -/
theorem wit_edges : qeInSpacing (qeOn id) ((qeOn id).pos.qe[(2 : Fin 8)]) = false
    ∧ qeInSpacing (qeOn fun q => { q with lastAccept := some 980 }) { enable := true, lastAccept := some 980 } = true
    ∧ (qeOn id).tbCounts 0 = true ∧ ((qeOn id).tbTime 0).totalNs = 0
    ∧ ((10 * 1000000 : Int) < ({ ns := 10000001 } : Stamp).totalNs) := by decide +kernel

/-- A rise of A counts up, and with INVERT down. -/
theorem test_edge : ((match exec (.qeEdge 2 true false) (qeOn id) with | .next t => (t.pos.qe[(2 : Fin 8)]).count | _ => 0) = 1)
    ∧ ((match exec (.qeEdge 2 true false) (qeOn fun q => { q with invert := true }) with | .next t => (t.pos.qe[(2 : Fin 8)]).count | _ => 0) = -1) := by
  decide +kernel

/-- A due and an early TIME generator, one within MIN_PERIOD_NS, and a TRIG_OUT with one generator: the hypotheses of `EncoderRows`. -/
theorem wit_triggers : let s := State.reset
    let x : TrigGen := { enable := true, timeMode := true, portMask := 8 }
    trigRuns s = true ∧ tsReached x.nextKey (s.tbTs ⟨x.source.val % 4, by omega⟩) = true
      ∧ tsReached 1 (s.tbTs ⟨x.source.val % 4, by omega⟩) = false
      ∧ trigTooSoon s x = false ∧ trigTooSoon s { x with lastAt := some 0 } = true
      ∧ x.portMask.testBit 3 = true := by decide +kernel

/-- A channel that is disabled, free, or in its lockout at the last and after the last moment of it; a channel that a session may not fire:
the hypotheses of `EventChannels`. -/
theorem wit_channels : let s := { State.reset with now := 100 }
    s.roundUpSamples 20 = 20 ∧ 81 + s.roundUpSamples 20 > s.now ∧ 80 + s.roundUpSamples 20 ≤ s.now
      ∧ s.holder (resChan 7) = none ∧ producerAlive s.power.state 0 = true ∧ producerAlive .deepSleep 61 = false
      ∧ (s.evt.chan[(7 : Fin 64)]).enabled = false := by decide +kernel

/-- A GPIO level seen for the first and for the FILTER-th time, and the width of an output that has and has not passed: the hypotheses
of `PinsAndConsumers`. -/
theorem wit_pins : let g : Gpio := { filter := 2, edge := .rise }
    true ≠ g.filtered ∧ g.heldFor + 1 < g.filter ∧ g.filter ≤ ({ g with heldFor := 1 } : Gpio).heldFor + 1 ∧ true = (g.edge == .rise)
      ∧ (0 + g.width ≤ 100) ∧ ¬ (1 + g.width ≤ 100) := by decide +kernel

/-- Slots on the grid, at a tie and at the last place before it: the hypotheses of `EjectorCommands` on slots. -/
theorem test_slots : nearestSlot {} 150000 = 100000 ∧ nearestSlot {} 150001 = 200000 ∧ nearestSlot {} (-1) = 0 := by decide +kernel

/-- A valve command of Gust meets links that are armed in RUN. -/
def ejOn (e : EjEntry) : State :=
  let s := State.reset
  { s with ej := { s.ej with entries := [e], link := s.ej.link.set 0 { state := .enabled, up := true, arm := 1, armNext := 1 } } }

/-- The entry of a command with ACTION VALVES on an armed link, with ACTION NONE, and on a disarmed link: the hypotheses of
`EjectorCommands`. -/
theorem wit_commands : let e : EjEntry := { cmd := { first := 0, last := 511, duration := 3, fireKey := 5000000 }, verdict := 2, fromGust := true }
    let s := ejOn e
    s.clockRuns 11 = true ∧ s.ej.entries = e :: [] ∧ actionOf s.ej 2 = .valves ∧ actionOf s.ej 1 = .none
      ∧ (s.ej.link[(0 : Fin 4)]).arm = 1 ∧ (s.ej.link[(1 : Fin 4)]).arm = 0 ∧ s.tbCounts 0 = true
      ∧ buildSlot s ≤ nearestSlot s.ej 5000000 := by decide +kernel

/-- A freeze point before its slot, a slot start, a test pulse: the hypotheses of `SlotsAndFrames`. -/
theorem wit_slots : let s := State.reset
    let slot := buildSlot s - s.ej.slotNs
    s.clockRuns 11 = true ∧ s.tbCounts 0 = true ∧ s.ej.frozen ≠ some slot ∧ (((s.tbTime 0).totalNs : Int) < slot ∨ slot ≤ (s.tbTime 0).totalNs) := by
  decide +kernel

/-- An acknowledgement with its CRC, and one of which an octet is wrong: the hypotheses of `ValveLinks`. -/
theorem wit_ack : let body : List Byte := [0xA5, 7, 0, 0x21]
    let crc := bytesOf 2 (crc16 body).toNat
    let s := { ejOn { cmd := {}, verdict := 2, fromGust := true } with now := 5000 }
    let t := s.setLink 0 fun k => { k with awaiting := [(7, 1000)] }
    ((t.ej.link[(0 : Fin 4)]).awaiting.filter fun x => decide (x.2 ≤ t.now)) = [(7, 1000)] ∧ t.now - 1000 ≤ t.ej.ackTimeout
      ∧ (crc16 body).toNat = (crc.getD 0 0).toNat + 256 * (crc.getD 1 0).toNat
      ∧ (match exec (.valveAckRx 0 [.sof, .data 0xA5] [.data 7, .data 0] [.data 0x21] (crc.map .data ++ [.eof])) t with
        | .next u => [(u.ej.link[(0 : Fin 4)]).goodRun, (u.ej.link[(0 : Fin 4)]).lastStatus, (u.ej.link[(0 : Fin 4)]).rttMax]
        | _ => []) = [1, 0x21, 4000] := by decide +kernel

/-! ### Time, network, stations, DRAM (12, 13, 15) -/

/-- Time base 1 on PPS_IN with a sample that waits. -/
def tbOn (f : TimeBase → TimeBase) : State :=
  let s := State.reset
  { s with time := { s.time with tb := s.time.tb.set 1 (f { state := .acquiring, enable := true, source := .ppsIn, sample := some (65536, 9) }) } }

/-- A sample within and beyond STEP_THR_NS, a SET and a step that wait, PPS edges early and in time: the hypotheses of `TimeBases`. -/
theorem wit_time_bases : ((tbOn id).oscRuns && ((tbOn id).time.tb[(1 : Fin 4)]).state != .off) = true
    ∧ ¬ ((tbOn id).time.tb[(1 : Fin 4)]).stepThr * 65536 < (65536 : Int).natAbs
    ∧ ((tbOn id).time.tb[(1 : Fin 4)]).stepThr * 65536 < (1000001 * 65536 : Int).natAbs
    ∧ ((0 : Int) + 2 ^ 40 + 0).toNat / 2 ^ 40 = 1
    ∧ ([some 0].any fun p => p.any fun p => decide (499999999 * 65536 + 65535 < p + 500000000 * 65536)) = true
    ∧ (tbOn id).power.state ≠ .deepSleep := by decide +kernel

/-- A tick moves the base by 4 ns, and loads a SET that waits. -/
theorem test_tick : ((passTick (tbOn id)).time.tb[(1 : Fin 4)]).time = { ns := 4 }
    ∧ ((passTick (tbOn fun x => { x with setPending := some { seconds := 7 } })).time.tb[(1 : Fin 4)]).time = { seconds := 7 } := by
  decide +kernel

/-- A capture, a compare key that is reached and one that is ahead, a PPS output before and after its second: the hypotheses of
`CaptureAndCompare`. -/
theorem wit_capture : tsReached 0 (State.reset.tbTs 0) = true ∧ tsReached 1 (State.reset.tbTs 0) = false
    ∧ State.reset.tbCounts 0 = true ∧ State.reset.pcieMayWrite (resTb 0) = true
    ∧ ({ State.reset with mbx := { State.reset.mbx with claims := [(resTb 0, 0)] } } : State).pcieMayWrite (resTb 0) = false := by
  decide +kernel

/-- Port E1 with a link. -/
def e1Up : State :=
  let s := State.reset
  { s with net := { s.net with port := s.net.port.set 1 { mode := .r10g, up := true, mac := 5, ip := 6 } } }

/-- A frame for the port, one for another, a bad one; an ARP request: the hypotheses of `EthernetAndPtp` on frames. -/
theorem wit_frames : addressed (e1Up.net.port[(1 : Fin 4)]) 5 = true ∧ addressed (e1Up.net.port[(1 : Fin 4)]) 7 = false
    ∧ linkPossible e1Up 1 = true ∧ linkPossible State.reset 1 = false
    ∧ arpReply (e1Up.net.port[(1 : Fin 4)]) { fcsOk := true, dst := 5, src := 8, vlan := none, etherType := 0x88B5, payload := [], len := 64 } = none := by
  decide +kernel

/-- A master port and a slave port of PTP number 2, and a transmit queue with two classes: the hypotheses of `EthernetAndPtp` on PTP. -/
theorem wit_ptp : let x : PtpInst := { enable := true, ports := 2, portState := (Vector.replicate 4 3).set 1 6 }
    let s := { e1Up with net := { e1Up.net with inst := e1Up.net.inst.set 2 x } }
    x.usesPort 1 = true ∧ x.portState[(1 : Fin 4)] = 6 ∧ s.firmwareRuns = true
      ∧ takers s 1 { typ := 1 } = [2] := by decide +kernel

/-- Side E2 in every state, with a good HELLO, a ROWS and one of an unlisted type. -/
theorem wit_stations : let s := State.reset
    let x : EllSide := { enable := true, ip := 9, state := .up, rows := [{ row := 4, pos := 100, cls := 1, entry := 0, now := 0 }] }
    let u := { s with station := { s.station with stationId := 3, side := s.station.side.set 0 x } }
    let m : EllDatagram := { checksumOk := true, from_ := 9, bytes := [0x45, 0x4C, 1, 2, 0, 0, 3] ++ zeros 33 }
    le16 m.bytes 0 = 0x4C45 ∧ byteAt m.bytes 6 = u.station.stationId ∧ byteAt m.bytes 3 = 2
      ∧ (x.rows.find? fun (o : OwnRow) => o.paired.isNone && decide ((o.pos - 102).natAbs ≤ u.station.rowTol)).isSome = true
      ∧ (x.rows.find? fun (o : OwnRow) => o.paired.isNone && decide ((o.pos - 103).natAbs ≤ u.station.rowTol)).isSome = false := by decide +kernel

/-- An own part at the left edge with its row, and a part sent to the left: the hypotheses of `StationTimers` and of the joins. -/
theorem wit_parts : let o : SegObj := { entry := 7, firstRow := 3, lastRow := 5, edgeLeft := true }
    let s := { State.reset with seg := { State.reset.seg with objs := [o] } }
    let f : Forwarded := { part := 7, left := true, colMin := 0, colMax := 1, sentAt := 0, cls := 1, tsClose := 0, tsFirst := 0, firstPos := 0, posLength := 1 }
    s.seg.objs = [o] ∧ s.station.parts = [] ∧ joinsOf o 0 = [] ∧ o.firstRow ≤ 4 ∧ 4 ≤ o.lastRow
      ∧ ([f].find? fun (f : Forwarded) => f.left == ((0 : Fin 2) == 0) && f.part == 7) = some f := by decide +kernel

/-- DRAM in READY with a granule at the end of its memory, and one beyond: the hypotheses of `DramRequests`. -/
def dramOn : State :=
  let s := State.reset
  { s with dram := { s.dram with state := .ready, addrMib := 1024, speed := 2
                                 chan := s.dram.chan.map fun c => { c with state := .active } } }

theorem wit_dram : dramHas dramOn ((2 ^ 24 - 1) * 64) 64 = true ∧ dramHas dramOn (2 ^ 24 * 64) 64 = false
    ∧ dramOn.power.state = .active ∧ memWf dramOn.mem = true := by decide +kernel

/-- A write of a whole granule is taken, and a read of it is forwarded from the write queue. -/
theorem test_dram_forward : let w : DramReq := { port := 1, agent := .engine 3, write := true, granule := 5, mask := 2 ^ 64 - 1, data := List.replicate 64 9 }
    (match exec (.dramRequest w) dramOn with
      | .next t => (match exec (.dramRequest { w with write := false }) t with
        | .next u => u.readBytes == List.replicate 64 9 && (u.dram.chan.toList.map (·.forwarded)).sum == 1
        | _ => false)
      | _ => false) = true := by decide +kernel

/-! ### DMA, host access, requests, faults, start-up, the management core (16, 17, 19, 20) -/

/-- The first H2D and D2H channels of host software. -/
def h2d4 : DmaSel := .h2d 4
def d2h8 : DmaSel := .d2h 8

/-- Host software holds both; they are as `c`, and the engines as `e`. -/
def dmaOn (c : DmaChan) (e : DmaEngine) : State :=
  let s := State.reset
  let s := { s with mbx := { s.mbx with claims := [(h2d4.res, 1), (d2h8.res, 1)] } }
  ((((s.setDma h2d4 fun _ => c).setDma d2h8 fun _ => c).setEngine true fun _ => e).setEngine false fun _ => e)

/-- A claimed channel in each state, its descriptor in progress and not; an unclaimed one: the hypotheses of `DmaControl`. -/
theorem wit_dma_control : h2d4.isHost = true ∧ (DmaSel.h2d 3).isHost = false
    ∧ (State.reset.holder h2d4.res).any (fun h => decide (1 ≤ h ∧ h ≤ 4)) = false
    ∧ ((dmaOn {} {}).holder h2d4.res).any (fun h => decide (1 ≤ h ∧ h ≤ 4)) = true
    ∧ (∀ x ∈ [UnitState.disabled, .enabling, .enabled, .draining], ((dmaOn { state := x, run := .running } {}).chan h2d4).state = x)
    ∧ ((dmaOn { state := .enabled, run := .running } {}).chan h2d4).run = .running
    ∧ busyChan (dmaOn { state := .enabled, run := .running } { act := 4, xfer := some { desc := {} } }) true = some (h2d4, { desc := {} })
    ∧ busyChan (dmaOn { state := .enabled, run := .running } {}) true = none := by decide +kernel

/-- 64 bytes from or to address 0x1008000000, which both directions reach, in accesses of 32 bytes; the last of its chain. -/
def goodDesc : Descriptor := { src := 0x1008000000, dst := 0x1008000000, lengthWord := 64, control := 5 + 8 * 5 + 2048 }

/-- A good descriptor within reach and one beyond it, a bad one; a transfer at its start, at its end and at its read-back: the
hypotheses of `DmaTransfers`. -/
theorem wit_dma_transfers : badDescriptor true goodDesc = false ∧ badDescriptor true {} = true
    ∧ windowReach (dmaOn {} {}) goodDesc.dst (goodDesc.internalLen true) = true ∧ windowReach (dmaOn {} {}) 0x1003000000 32 = false
    ∧ goodDesc.accessCount = 2 ∧ goodDesc.length = 64 ∧ isRegister (goodDesc.access 0) = false
    ∧ errWords (dmaOn {} {}).eccBad (goodDesc.access 0) goodDesc.srcW = []
    ∧ busyChan (dmaOn {} { act := 8, xfer := some { desc := goodDesc } }) false = some (d2h8, { desc := goodDesc })
    ∧ needsReadback State.reset d2h8 goodDesc = false
    ∧ needsReadback State.reset d2h8 { goodDesc with control := goodDesc.control + 512 } = true := by decide +kernel

/-- The device after reset with start-up over, firmware at work and session 2 open. -/
def operating : State :=
  let s := State.reset
  { s with
    mgmt := { s.mgmt with dev := .operational, step := 9, coldStart := false }
    mbx := { s.mbx with isOpen := true, sess := (s.mbx.sess.set 2 { isOpen := true }).set 6 { isOpen := true, addr := 3, port := 4 } }
    host := { s.host with rdybsy := true, mbx := s.host.mbx.map fun m => { m with ready := true } } }

/-- Places of registers and of a hole, a masked vector with a pending bit, accesses within and out of an agent's reach, a window on memory with
and without an uncorrectable word: the hypotheses of `HostAccess`. -/
theorem wit_host_access : bar2Addr 0 = some 0x1010100000 ∧ bar2Addr 0x1FFFFFC = none
    ∧ (let s := { State.reset with host := { State.reset.host with msixEnable := true, msix := State.reset.host.msix.set 5 { pba := true } } }; (s.host.msixEnable && (s.host.msix[(5 : Fin 64)]).pba && !s.host.functionMask) = true)
    ∧ windowReach State.reset 0x1004000000 64 = true ∧ isRegister 0x1004000000 = false ∧ tableRegion 0x1004000000 = false
    ∧ poolBlock 0x1004000000 = none ∧ windowReach State.reset 0x100D000000 1 = false
    ∧ tableRegion 0x1009000000 = true ∧ windowReach State.reset 0x1009000000 4 = true
    ∧ errWords [0x1004000000 / 8] 0x1004000000 8 ≠ [] := by decide +kernel

/-- A request frame for session 2: DEV_IDENTIFY. -/
def identify : List Byte := [0, 1, 2, 0, 9, 0, 0, 0] ++ zeros 8

/-- A request that firmware takes by each port, a repeat and another beside it: the hypotheses of `RequestPorts`. -/
theorem wit_request_ports : operating.mbx.queue = [] ∧ (operating.host.mbx[(1 : Fin 4)]).ready = true ∧ operating.host.rdybsy = true
    ∧ (plainAnswer operating (reqOf 4080 (some 2) identify)).isNone = true ∧ (plainAnswer operating (netReq 3 4 ([0, 1, 6] ++ identify.drop 3))).isNone = true
    ∧ boundTo operating (netReq 3 4 ([0, 1, 6] ++ identify.drop 3)) = true ∧ boundTo operating (netReq 3 5 ([0, 1, 6] ++ identify.drop 3)) = false
    ∧ sameRequest (netReq 3 4 identify) (netReq 3 4 identify) = true ∧ sameRequest (netReq 3 4 identify) (netReq 3 4 ([3] ++ identify.drop 1)) = false := by
  decide +kernel

/-- Open sessions 1 to 4 on the sideband and PCIe answer; session 6 idle past its limit: the hypotheses on SESSION_IDLE_TIMEOUT. -/
theorem wit_idle : ((operating.mbx.sess[(6 : Fin 14)]).isOpen && (operating.mbx.sess[(6 : Fin 14)]).outstanding.isNone && operating.firmwareRuns
    && decide ((operating.mbx.sess[(6 : Fin 14)]).lastAt + (operating.mbx.sess[(6 : Fin 14)]).idleS * 1000000000 ≤ operating.now)) = true := by
  decide +kernel

/-- A Gale, a Squall of the output rings and a level report, with and without a first record: the hypotheses of `FaultReports`. -/
theorem wit_fault_reports : 4 ≤ operating.mgmt.step ∧ operating.flt.first = none
    ∧ (let r : Report := { group := 22, cls := .squall, inst := 3, cause := 1 }; r.group = (22 : Fin 33).val ∧ operating.flt.inFlight.contains r = false ∧ r.cls ≠ .gale)
    ∧ (let r : Report := { group := 17, cls := .gale, level := true }; let s := { operating with flt := { operating.flt with levels := [r], first := some (FirstRecord.mk r .gale {} true 0) } }; (r.level && s.flt.levels.contains r) = true ∧ s.flt.first.isSome = true)
    ∧ FltClass.squall.rank < FltClass.gale.rank := by decide +kernel

/-- A clock that is there, one that is lost, a hot and an unpowered sensor: the hypotheses of `ClocksAndSensors`. -/
theorem wit_clocks : operating.power.clockOk[(14 : Fin 26)] = true
    ∧ ({ operating.power with clockOk := operating.power.clockOk.set 9 false } : PowerBlock).clockOk[(9 : Fin 26)] = false
    ∧ lossTable.length = 26 ∧ (lossTable[13]?).join = none ∧ operating.firmwareRuns = true ∧ operating.power.state ≠ .deepSleep
    ∧ (Vector.replicate 16 (930 : Int))[(3 : Fin 16)] ≥ 920 := by decide +kernel

/-- A boot from the active slot, of a trial, from the other slot and from none: the hypotheses of `StartUp`. -/
theorem wit_start_up : let s := State.reset
    let trial := { s.mgmt with bootHdr := s.mgmt.bootHdr.set 0 (some { trialSlot := some 0, attempts := 1 }) }
    let other := { s.mgmt with slots := (Vector.replicate 2 none).set 1 (some {}) }
    let none_ := { s.mgmt with slots := Vector.replicate 2 none }
    s.mgmt.step = 0 ∧ s.mgmt.dev = .rom ∧ s.mgmt.eraseDue = false ∧ slotValid s.mgmt 0 = true ∧ (bootHeader trial).2.attempts < 2
      ∧ slotValid trial 0 = true ∧ slotValid other 0 = false ∧ slotValid other 1 = true ∧ slotValid none_ 0 = false ∧ slotValid none_ 1 = false
      ∧ (policyWord s).testBit 5 = true
      ∧ (policyWord { s with mgmt := { s.mgmt with lifeCycle := .provisioned, policyFuse := 0 } }).testBit 5 = false := by decide +kernel

/-- Start-up at step 8, with no record of session 0 waiting: the hypotheses on MAILBOXES_OPEN. -/
theorem wit_mailboxes_open : let s := { State.reset with mgmt := { State.reset.mgmt with step := 8 } }
    s.mgmt.step = 8 ∧ s.firmwareRuns = true ∧ (s.mbx.queue.any fun q => !q.2.net && q.2.session == 0) = false := by decide +kernel

/-- A link that the ARM record arms and a wait at its end; a trial that ends and one that passes; a core that restarts; an update
that idles: the hypotheses of `ManagementCore`. -/
theorem wit_management : let s := operating
    let l : EjLink := { state := .enabled, up := true }
    let a := { s with mgmt := { s.mgmt with armRecord := some (1, false, false, 0) }, ej := { s.ej with link := s.ej.link.set 0 l } }
    let t := { s with mgmt := { s.mgmt with trial := true, trialS := 0, settingsResult := .loaded } }
    let d := { s with mgmt := { s.mgmt with mgtDown := true, pause := some .restart } }
    let u := { s with now := 60000000000, mgmt := { s.mgmt with update := { holder := some 2 } } }
    (a.ej.link[(0 : Fin 4)]).state = .enabled ∧ a.firmwareRuns = true ∧ (1 : Nat).testBit 0 = true ∧ a.holder (resLink 0) = none
      ∧ a.ej.galeSafe = false ∧ a.mgmt.openedAt + 0 ≤ a.now
      ∧ t.mgmt.trialAt + t.mgmt.trialS * 1000000000 ≤ t.now ∧ t.mbx.isOpen = true ∧ t.mgmt.settingsResult ≠ .unreadable
      ∧ d.mgmt.mgtDown = true ∧ d.mbx.queue = [] ∧ u.mgmt.update.lastAt + 60000000000 ≤ u.now ∧ u.mgmt.update.holder ≠ none := by
  decide +kernel

/-- The header of an activation, the one after a fallback, and the slots they boot. -/
theorem wit_restarts : let m := { operating.mgmt with mgtDown := true, pause := some .activation, bootHdr := operating.mgmt.bootHdr.set 0 (some { trialSlot := some 0 }) }
    (bootHeader m).2.trialSlot = some 0 ∧ (bootHeader m).2.attempts < 2 ∧ slotValid m 0 = true ∧ 9 ≤ m.step
      ∧ (bootHeader operating.mgmt).2.trialSlot = none ∧ slotValid operating.mgmt (bootHeader operating.mgmt).2.activeSlot = true := by
  decide +kernel

/-! ### Resets, power, the mailboxes (16, 17, 20, 21) -/

/-- A cold and a warm device, PERST_N with and without HOST_INDEPENDENT, a session to reopen: the hypotheses of `ResetRows`. -/
theorem wit_resets : let s := operating
    let h := { s with mgmt := { s.mgmt with hostIndependentWas := true } }
    State.reset.mgmt.coldStart = true ∧ s.mgmt.coldStart = false ∧ s.power.porHigh = true ∧ s.host.perst = false ∧ 9 ≤ s.mgmt.step
      ∧ s.mgmt.hostIndependentWas = false ∧ h.mgmt.hostIndependentWas = true ∧ h.power.state ≠ .deepSleep ∧ h.mbx.queue = []
      ∧ s.mbx.isOpen = true ∧ ({ s with mbx := { s.mbx with sess := s.mbx.sess.set 2 {} } } : State).mbx.sess[(2 : Fin 14)].isOpen = false := by
  decide +kernel

/-- A transition under way, a wake that waits, and life-cycle steps that go forward and backward: the hypotheses of `PowerAndTap`. -/
theorem wit_power : let s := operating
    let t := { s with power := { s.power with transit := some { target := .deepSleep } } }
    let w := { s with evt := { s.evt with cons := s.evt.cons.set 68 { pending := true } }, power := { s.power with state := .standby } }
    t.power.transit = some { target := .deepSleep } ∧ (w.evt.cons[(68 : Fin 96)]).pending = true ∧ (w.evt.cons[(68 : Fin 96)]).busy = false
      ∧ w.power.state = .standby ∧ s.mgmt.lifeCycleNext.getD s.mgmt.lifeCycle = .manufactured
      ∧ ({ s.mgmt with fuseSupply := true } : MgmtBlock).fuseSupply = true ∧ (s.ej.link[(0 : Fin 4)]).arm = 0 := by decide +kernel

/-- A request of session 2. -/
def ask (op flags : Nat) (pl : List Byte) : Req := { opcode := op, session := 2, flags := flags, sequence := 1, payload := pl }

/-- Firmware takes every request of session 2 that is well formed: the hypothesis `Taken` of the statements on the mailboxes. -/
theorem wit_taken (op flags : Nat) (pl : List Byte) : Taken op flags (ask op flags pl) operating := by
  have m : (ask op flags pl).slot = some 2 := rfl
  have o : operating.mbx.sess[(2 : Fin 14)] = { isOpen := true } := by decide +kernel
  have h : sessionOpen operating (ask op flags pl) = true := by
    show ((2 : Nat) == 0 || (operating.mbx.sess[(2 : Fin 14)]).isOpen || (false && op == 0x0101)) = true
    rw [o]; rfl
  have a : firmwareActs operating (ask op flags pl) = firmwareActs operating (ask 0 0 []) := rfl
  have b : firmwareActs operating (ask 0 0 []) = true := by decide +kernel
  have n : storedResponse (ask op flags pl) operating = none := by
    simp only [storedResponse, m]; rw [o]
  exact ⟨rfl, rfl, rfl, ⟨.inl (by decide : (2 : Nat) ≠ 0), rfl, (by decide : (2 : Nat) < 14), a.trans b, by decide +kernel, h,
    .inl (by decide +kernel), by decide +kernel⟩, n⟩

/-- No session holds anything, so every resource is free. -/
theorem wit_free (r : Nat) (q : Req) : Free operating q r := by
  have h : operating.mbx.claims = [] := by decide +kernel
  exact .inl (by simp only [State.holder, h]; rfl)

/-- Little-endian bytes of numbers, each with its width. -/
def le (l : List (Nat × Nat)) : List Byte := l.flatMap fun x => bytesOf x.1 x.2

/-- Claims, states and a reset that the payload spells: the hypotheses of `SessionCommands`. -/
theorem wit_sessions : claimListOk (ask 0x0103 0 (le [(1, 2), (1, 0), (2, 0), (2, 0x0103), (2, 0x0203)])) = true
    ∧ listedResources (le [(1, 2), (1, 0), (2, 0), (2, 0x0103), (2, 0x0203)]) = [0x0103, 0x0203]
    ∧ secResource operating 0x0103 = false ∧ stateSetOk (le [(1, 2), (1, 0xFF), (1, 0xFF), (1, 0)]) = true
    ∧ stateSetOk (le [(1, 0xFF), (1, 1), (1, 0xFF), (1, 0)]) = true ∧ (policyWord operating).testBit 3 = true
    ∧ (operating.mbx.claims.any fun c => c.2 != 0 && c.2 != 2) = false ∧ (operating.mbx.sess[(5 : Fin 14)]).isOpen = false := by
  decide +kernel

/-- The refusals of sessions: a resource of another session, and of session 0 without TAKE. -/
theorem wit_claim_blocked : let s := { operating with mbx := { operating.mbx with claims := [(0x0103, 1), (0x0203, 0)] } }
    s.holder 0x0103 = some 1 ∧ s.holder 0x0203 = some 0 ∧ (s.mbx.claims.any fun c => c.2 != 0 && c.2 != 2) = true := by decide +kernel

/-- A CoaXPress port of four lanes, a Phirvo port, a register write, a pipe and its shadow set, a LUT part: the hypotheses of
`CameraAndPipeCommands`. -/
theorem wit_camera_and_pipe : portConfigOk (le [(1, 2), (1, 1), (1, 10), (1, 4), (1, 0), (1, 0), (1, 1), (1, 7)] ++ zeros 16) = true
    ∧ portConfigOk (le [(1, 11), (1, 2), (1, 1), (1, 1), (1, 2), (1, 1), (1, 15), (1, 0)] ++ zeros 16) = true
    ∧ (∀ p : Fin 12, pipeConfigOk (pipeConfigBytes p operating.pipe[p]) = true ∧ pipeConfigMoves operating.pipe[p] (pipeConfigBytes p operating.pipe[p]) = false
      ∧ memberDiffers operating p 0 0 = false ∧ bankTaken operating.pipe[p] (bankSel 2) 1 = false ∧ (operating.pipe[p]).bolt = none
      ∧ (operating.cam.port[p]).enablePending = false)
    ∧ (let s := { operating with cam := { operating.cam with port := operating.cam.port.set 3 { config := some (portConfigOf (le [(1, 3), (1, 2), (1, 1), (1, 1)])), unit := .enabled, link := .run } } }; portRuns s 3 = true ∧ isCxp s 3 = false) := by decide +kernel

/-- The settings that the device reads back are settings it takes; a Tare run has room and no triggers, a bank of rules passes: the
hypotheses of `ChainCommands`. -/
theorem wit_chain : (let t : TareParams := {}; tareParamBytes 3 t = tareParamBytes 3 (tareParamsOf (tareParamBytes 3 t)) ∧ t.ok = true)
    ∧ portTriggered operating 3 = false ∧ tareRoom 3 operating = true ∧ (operating.pipe[(3 : Fin 12)]).tare.run = none
    ∧ binConfigOk (binParamBytes 3 {}) (operating.pipe[(3 : Fin 12)]).active.linePixels = true
    ∧ coefReserved (le [(1, 3), (1, 1)] ++ zeros 258) = true
    ∧ stitchFormOk (stitchBytes operating.stitch) = true ∧ stitchMapOk operating (stitchBytes operating.stitch) = true
    ∧ stitchOverBudget operating (stitchBytes operating.stitch) = false
    ∧ (∀ p : Fin 12, isMember operating p = true → (operating.pipe[p]).unit = .disabled)
    ∧ bankOk (List.replicate 256 {}) 1 = true ∧ stationOk (stationBytes operating.station) = true
    ∧ le32 (stationBytes operating.station) 4 + operating.stitch.webWidth ≤ 3145728
    ∧ (∀ d : Fin 2, (operating.station.side[d]).state = .up → (byteAt (stationBytes operating.station) 8).testBit d.val = true) := by
  decide +kernel

/-- A program image of one entry and four bytes of code: what stands before its CRC, and after it. -/
def imageHead : List Byte :=
  le [(4, 0x4D49444E), (2, 1), (2, 0), (4, 7), (4, 0), (4, 4), (4, 0), (4, 0), (4, 1024), (2, 1), (2, 1)] ++ zeros 24
def imageBody : List Byte := le [(4, 0), (4, 1000), (1, 1)] ++ zeros 7 ++ zeros 4
/-- The image with a word in the place of its CRC. -/
def imageWith (c : Nat) : List Byte := imageHead ++ (bytesOf 4 c ++ imageBody)

/-- A whole image is one whose CRC stands in its place, and no other: the hypotheses of `EngineAndPositionCommands` on images. -/
theorem wit_images (c : Nat) (h : c < 2 ^ 32) :
    imageCrcOk (imageWith c) = true ↔ (crc32c (imageHead ++ zeros 4 ++ imageBody)).toNat = c := by
  have a : (imageWith c).take 60 = imageHead := List.take_left' (by decide +kernel)
  have b : (imageWith c).drop 64 = imageBody := by
    rw [show (64 : Nat) = imageHead.length + (bytesOf 4 c).length by rw [bytesOf_length]; decide +kernel]
    simp [imageWith, ← List.append_assoc, List.drop_left']
  have l : 64 ≤ (imageWith c).length := by
    have x : imageHead.length = 60 := by decide +kernel
    simp only [imageWith, List.length_append, bytesOf_length, x]; omega
  have n : le32 (imageWith c) 60 = c := by
    have w : ∀ k, k < 4 → byteAt (imageWith c) (60 + k) = byteAt (bytesOf 4 c) k := by
      intro k hk
      have x : imageHead.length = 60 := by decide +kernel
      simp only [byteAt, imageWith]
      rw [List.getElem?_append_right (by omega), x, Nat.add_sub_cancel_left, List.getElem?_append_left (by rw [bytesOf_length]; omega)]
    have e : le32 (imageWith c) 60 = leAt (bytesOf 4 c) 0 4 := by
      simp only [le32, leAt]; rw [w 0 (by decide), w 1 (by decide), w 2 (by decide), w 3 (by decide)]
    rw [e, leAt_bytesOf]; exact Nat.mod_eq_of_lt h
  simp [imageCrcOk, a, b, l, n]

theorem wit_image_fields : imageFieldsOk (imageWith 0) = true := by decide +kernel

/-- Clusters, with an image and without: its hypotheses on clusters. -/
theorem wit_cluster_settings : ∀ c : Fin 12, (operating.eng.cluster[c]).state = .disabled ∧ (operating.eng.cluster[c]).enablePending = false
    ∧ poolOk operating (poolBytes operating c) = true ∧ poolRebinds operating.eng.cluster[c] (poolBytes operating c) = false
    ∧ imageMissing operating.eng.cluster[c] = true
    ∧ imageMissing { operating.eng.cluster[c] with image := some (imageWith 0) } = false := by decide +kernel

/-- A policy, an encoder, a generator: its other hypotheses. -/
theorem wit_engine_and_position : (∀ y : Fin 16, policyOk (policyBytes y.val operating.eng.policy[y]) = true)
    ∧ policyFits operating.eng.policy[(0 : Fin 16)] none = false
    ∧ policyFits operating.eng.policy[(0 : Fin 16)] (some (imageWith 0)) = true
    ∧ (∀ c : Fin 8, qeConfigOk (qeBytes c.val operating.pos.qe[c]) = true)
    ∧ (∀ g : Fin 12, trigConfigOk (trigBytes g.val operating.pos.trig[g]) = true) ∧ portsTaken operating 3 0 = false := by decide +kernel

/-- Ejection settings, a row map of two columns, a link to arm, a test pulse: the hypotheses of `EjectorSettings`. -/
theorem wit_ejector_settings : let l : EjLink := { state := .enabled, up := true, arm := 2 }
    let s := { operating with ej := { operating.ej with link := operating.ej.link.set 0 l } }
    ejConfigOk (ejBytes operating) = true ∧ ejOverBudget (ejBytes operating) = false
      ∧ operating.ej.slotNs = le32 (ejBytes operating) 0 ∧ operating.ej.phaseNs = le32 (ejBytes operating) 4
      ∧ rowMapOk (rowMapBytes { vbase := 0, endCol := 20, firstCols := [3, 9] }) = true ∧ rowMapOk (zeros 12) = false
      ∧ (∀ k : Fin 4, (operating.ej.link[k]).state ≠ .draining ∧ (operating.ej.link[k]).enablePending = false)
      ∧ s.ej.galeSafe = false ∧ s.power.state = .active ∧ s.mgmt.lifeCycle = .manufactured
      ∧ testPulseOk s (le [(2, 0), (2, 7), (2, 1), (2, 4), (2, 2), (2, 0), (4, 0)]) = true ∧ linksOf 0 7 = [0]
      ∧ (gridRuns { s with time := { s.time with tb := s.time.tb.set 0 { state := .free, enable := true, valid := true } } }) = true := by
  decide +kernel

/-- The device with DRAM and a PCIe link. -/
def equipped : State :=
  { operating with
    dram := dramOn.dram
    host := { operating.host with linkGen := 4, linkWidth := 8 } }

/-- The settings that the device reads back are settings it takes, a store and a ring within their budgets: the hypotheses of
`NetworkAndOutputCommands`. -/
theorem wit_network_and_output : (∀ n : Fin 4, ethConfigOk (ethBytes n.val equipped.net.port[n]) = true)
    ∧ (∀ i : Fin 4, ptpConfigOk (ptpBytes equipped i) = true ∧ hasPortsTc (ptpBytes equipped i) = true ∧ tbConfigOk (tbBytes equipped i) = true)
    ∧ (∀ p : Fin 12, fathomOk (fathomBytes equipped p) = true ∧ fathomRegionBad equipped p equipped.outp.fathom[p] = false
      ∧ coderOk (coderBytes equipped p) equipped.pipe[p] = true ∧ previewOk (previewBytes equipped p) = true)
    ∧ fathomBudget equipped.outp.fathom ≤ 100000000000 ∧ membersForeign equipped 2 = false
    ∧ (∀ r : Fin 16, ringOk (ringBytes r.val equipped.outp.ring[r]) = true
      ∧ ringOverBudget equipped r (ringOf (ringBytes r.val equipped.outp.ring[r])) = false ∧ (equipped.outp.ring[r]).state = .disabled
      ∧ (equipped.outp.ring[r]).enablePending = false)
    ∧ qosOk (equipped.dram.port.toList.flatMap (fun x => bytesOf 4 x.target) ++ bytesOf 4 equipped.dram.idleSr) = true := by decide +kernel

/-- A channel that closes no cycle and one that does, a Gale that persists, the life cycle that shows all: the hypotheses of
`ObservationCommands`. -/
theorem wit_observation : (∀ n : Fin 64, evtConfigOk (evtRequest n.val operating.evt.chan[n]) = true)
    ∧ evtForeign operating 2 7 0 = false ∧ (∀ j : Fin 96, secLock operating j = false) ∧ immediateCycle operating.evt.chan 7 = none
    ∧ galeLevel operating = false
    ∧ galeLevel { operating with flt := { operating.flt with levels := [{ group := 17, cls := .gale, level := true }] } } = true
    ∧ (le16 (obsBytes operating) 0) ≤ 0x59 := by decide +kernel

/-- A settings store to load, a trial without settings, an update that receives its only block, one that is verified: the hypotheses of
`SettingsAndUpdateCommands`. -/
theorem wit_settings_and_update : let s := operating
    let st : SettingsStore := { generation := 4, schema := 1, trial := false, imageVersion := 1, records := [] }
    let v := { s.mgmt with update := { state := .verified, holder := some 2, size := 4 } }
    readableStore { s.mgmt with stores := s.mgmt.stores.set 0 (some st) } = some (0, st) ∧ readableStore s.mgmt = none
      ∧ mayUpdate s 2 = true ∧ s.mgmt.update.holder = none ∧ s.mgmt.trial = false ∧ s.mgmt.update.activating = false
      ∧ (s.mbx.sess[(2 : Fin 14)]).background = none ∧ (∀ c : Fin 14, (s.mbx.sess[c]).background = none)
      ∧ v.update.state = .verified ∧ v.update.holder = some 2
      ∧ (let u : Update := { state := .receiving, holder := some 2, size := 4 }
         (0 < (u.size + 4095) / 4096 ∧ 0 + 4 ≤ min 4096 (u.size - 4096 * 0))
           ∧ (crc32c (memReadN (memWriteN u.data 0 (zeros 4)) 0 4)).toNat = 0x48674BC7)
      ∧ imageValid s.mgmt {} = true ∧ recordsGoOn s = true := by decide +kernel

/-- A queue with a command at its front and an empty one; the reset state has the invariant: the hypotheses of `StepTakesFront` and
`StepKeepsInvariant`. -/
theorem wit_step : ({ State.reset with pending := [.brownOut, .porFall] } : State).pending = .brownOut :: [.porFall]
    ∧ State.reset.pending = [] ∧ memWf State.reset.mem = true ∧ OneHolder State.reset := by
  refine ⟨rfl, by decide +kernel, by decide +kernel, ?_⟩; unfold OneHolder; decide +kernel

/-! ### Ill-formed commands: one term for each check -/

/-- Eight ill-formed requests of one row: opcode, session, flags, sequence, payload, bulk data, address and port. -/
theorem wf_refuses_requests : ¬ (Instr.sessionClose { opcode := 0x0103 }).WellFormed ∧ ¬ (Instr.sessionClose { opcode := 0x0102, session := 14 }).WellFormed
    ∧ ¬ (Instr.sessionClose { opcode := 0x0102, flags := 256 }).WellFormed
    ∧ ¬ (Instr.sessionClose { opcode := 0x0102, sequence := 2 ^ 32 }).WellFormed
    ∧ ¬ (Instr.sessionClose { opcode := 0x0102, payload := zeros 4081 }).WellFormed
    ∧ ¬ (Instr.sessionClose { opcode := 0x0102, bulk := zeros 0x1000001 }).WellFormed
    ∧ ¬ (Instr.sessionClose { opcode := 0x0102, srcIp := 2 ^ 32 }).WellFormed
    ∧ ¬ (Instr.sessionClose { opcode := 0x0102, srcPort := 65536 }).WellFormed := by
  simp [Instr.WellFormed, Req.wf]

/-- Each mailbox row asks for its own opcode. -/
theorem wf_refuses_wrong_opcode (q : Req) (h : q.opcode = 0) : ¬ (Instr.sessionOpen q).WellFormed
    ∧ ¬ (Instr.camPortConfig q).WellFormed
    ∧ ¬ (Instr.tareRun q).WellFormed
    ∧ ¬ (Instr.stitchConfig q).WellFormed
    ∧ ¬ (Instr.engImageLoad q).WellFormed
    ∧ ¬ (Instr.ejConfig q).WellFormed
    ∧ ¬ (Instr.fathomConfig q).WellFormed
    ∧ ¬ (Instr.settingsSave q).WellFormed := by
  have x : ∀ n, 0 < n → ¬ q.wf n := fun n p w => by have := w.1; omega
  exact ⟨x 0x0101 (by decide), x 0x0200 (by decide), x 0x0401 (by decide), x 0x0600 (by decide), x 0x0700 (by decide), x 0x0900 (by decide), x 0x0C00 (by decide), x 0x1003 (by decide)⟩

/-- Lengths of what a port carries. -/
theorem wf_refuses_lengths : ¬ (Instr.mbxDoorbell 0 1 (zeros 0x1000001)).WellFormed ∧ ¬ (Instr.mbxRequestWrite 0 0 []).WellFormed
    ∧ ¬ (Instr.mbxRequestWrite 0 0 (zeros 513)).WellFormed
    ∧ ¬ (Instr.netRequestRx 0 0 (zeros 9555)).WellFormed ∧ ¬ (Instr.sbWriteRequest (zeros 4097)).WellFormed
    ∧ ¬ (Instr.slidingWindowAccess 0 0 none 0).WellFormed
    ∧ ¬ (Instr.slidingWindowAccess 0 2 (some (zeros 3)) 0).WellFormed
    ∧ ¬ (Instr.registerWrite (.bar0 0) (.other (zeros 4)) 0).WellFormed ∧ ¬ (Instr.registerWrite (.bar0 0) (.other (zeros 8)) 0).WellFormed
    ∧ ¬ (Instr.registerWrite (.bar0 0) (.other (zeros 513)) 0).WellFormed
    ∧ ¬ (Instr.dmaDescriptorFetched (.h2d 4) (.data (zeros 31))).WellFormed := by
  simp [Instr.WellFormed, RegData.wf, ReadEnd.lengthIs]

/-- Accesses beyond the end of their window. -/
theorem wf_refuses_beyond_the_end : ¬ (Instr.mbxRequestWrite 0 4000 (zeros 97)).WellFormed
    ∧ ¬ (Instr.slidingWindowAccess 0xFFFFFF 2 none 0).WellFormed :=
  ⟨fun w => absurd w.2.2 (by decide), fun w => absurd w.2.1 (by decide)⟩

/-- The parts of a valve frame. -/
theorem wf_refuses_valve_frames (c : VChar) : ¬ (Instr.valveAckRx 0 [c] [c, c] [c] [c, c, c]).WellFormed
    ∧ ¬ (Instr.valveAckRx 0 [c, c] [c] [c] [c, c, c]).WellFormed ∧ ¬ (Instr.valveAckRx 0 [c, c] [c, c] [] [c, c, c]).WellFormed
    ∧ ¬ (Instr.valveAckRx 0 [c, c] [c, c] [c] [c, c]).WellFormed := by
  simp [Instr.WellFormed]

/-- DRAM requests and training. -/
theorem wf_refuses_dram (r : DramReq) (t : DramTraining) (c : Fin 8) :
    (2 ^ 34 ≤ r.granule ∨ (r.write = true ∧ (2 ^ 64 ≤ r.mask ∨ r.data.length = 63)) → ¬ (Instr.dramRequest r).WellFormed)
    ∧ ((t.chan[c]).ranks = [] ∨ 3 ≤ (t.chan[c]).ranks.length ∨ (t.chan[c]).first = some 1 ∨ (t.chan[c]).retry = some 0
      ∨ (∃ k ∈ (t.chan[c]).ranks, 256 ≤ k.vendor ∨ 256 ≤ k.density ∨ 256 ≤ k.io) → ¬ (Instr.dramTrainingDone t).WellFormed) := by
  refine ⟨fun h w => ?_, fun h w => ?_⟩
  · simp only [Instr.WellFormed, DramReq.wf] at w
    rcases h with h | ⟨x, h⟩
    · omega
    · have := w.2 x; omega
  · simp only [Instr.WellFormed, DramTraining.wf] at w
    obtain ⟨a, b, d, e, f⟩ := w t.chan[c] (by simp)
    generalize t.chan[c] = y at *
    rcases h with h | h | h | h | ⟨k, m, h⟩
    · simp [h] at a
    · omega
    · exact absurd (e 1 (by simp [h])) (by decide)
    · exact absurd (f 0 (by simp [h])) (by decide)
    · have := d k m; omega

/-- Datagrams, Ethernet frames and PTP messages. -/
theorem wf_refuses_network : ¬ (Instr.ellHelloRx 0 { checksumOk := true, from_ := 2 ^ 32, bytes := [] }).WellFormed
    ∧ ¬ (Instr.ellRowsRx 0 { checksumOk := true, from_ := 0, bytes := zeros 9555 }).WellFormed
    ∧ (∀ f : EthFrame, 2 ^ 48 ≤ f.dst ∨ 2 ^ 48 ≤ f.src ∨ f.vlan = some 4096 ∨ 65536 ≤ f.etherType ∨ f.len < f.payload.length + 18 →
      ¬ (Instr.ethFrameRx 0 f).WellFormed)
    ∧ ∀ m : PtpMsg, 16 ≤ m.typ ∨ 256 ≤ m.domain ∨ 2 ^ 64 ≤ m.srcIdentity ∨ 65536 ≤ m.srcPort ∨ 65536 ≤ m.seq ∨ 2 ^ 64 ≤ m.reqIdentity
      ∨ 65536 ≤ m.reqPort → ¬ (Instr.ptpGeneralRx 0 m).WellFormed := by
  refine ⟨by simp [Instr.WellFormed, EllDatagram.wf], by simp [Instr.WellFormed, EllDatagram.wf], fun f h w => ?_, fun m h w => ?_⟩
  · simp only [Instr.WellFormed, EthFrame.wf] at w
    rcases h with h | h | h | h | h
    · omega
    · omega
    · have := w.2.2.1 4096 (by simp [h]); omega
    · omega
    · omega
  · simp only [Instr.WellFormed, PtpMsg.wf] at w; omega

/-- CoaXPress packets and answers, fault reports, image headers, sensor samples. -/
theorem wf_refuses_others : ¬ (Instr.cxpStreamPacket 0 0 (.imageHeader 256)).WellFormed ∧ ¬ (Instr.cxpStreamPacket 0 0 (.imageEnd 256)).WellFormed
    ∧ ¬ (Instr.cxpStreamPacket 0 0 (.line 0 0 [[65536]] true)).WellFormed
    ∧ (∀ m h, ¬ (Instr.cxpControlResponse 0 (.bootstrap m 0 h h)).WellFormed ∧ ¬ (Instr.cxpControlResponse 0 (.bootstrap m 5 h h)).WellFormed)
    ∧ (∀ b, ¬ (Instr.cxpControlResponse 0 (.access b [1, 2, 3])).WellFormed)
    ∧ ¬ (Instr.faultReport []).WellFormed
    ∧ (∀ r : Report, 33 ≤ r.group ∨ 65536 ≤ r.inst ∨ 256 ≤ r.cause ∨ 2 ^ 64 ≤ r.valueA ∨ 2 ^ 64 ≤ r.valueB ∨ 2 ^ 64 ≤ r.valueC →
      ¬ (Instr.faultReport [r]).WellFormed)
    ∧ (∀ x : ImageInfo, 16 ≤ x.librarySlot ∨ 2 ^ 32 ≤ x.version ∨ 64 ≤ x.rollback ∨ 65536 ≤ x.schema ∨ 65536 ≤ x.minSchema ∨ 2 ^ 32 ≤ x.size
      ∨ 2 ^ 384 ≤ x.keyHash → ¬ (Instr.backgroundCommandDone 0 x).WellFormed)
    ∧ ∀ t, ¬ (Instr.sensorSample t (Vector.replicate 12 65536)).WellFormed := by
  refine ⟨by simp [Instr.WellFormed, CxpPacket.wf], by simp [Instr.WellFormed, CxpPacket.wf], by simp [Instr.WellFormed, CxpPacket.wf],
    by simp [Instr.WellFormed, CxpResp.wf], by simp [Instr.WellFormed, CxpResp.wf], by simp [Instr.WellFormed], fun r h w => ?_,
    fun x h w => ?_, fun t w => ?_⟩
  · have := w.2 r (by simp); simp only [Report.wf] at this; omega
  · simp only [Instr.WellFormed, ImageInfo.wf] at w; omega
  · have := w 65536 (by simp); omega

end Sys2Proof.Tests
end

section
/-! Resets (00 R7; 16 R388 to R390; 20 R438, R462, R465; 21 R478 to R482): what a cold and a warm reset, a `PERST_N` and D3hot
keep and clear, and the state that a cold reset leaves. -/

namespace Sys2Proof.Machine

/-! ### Repetition over a bank -/

/-- A repetition that visits `a` once: what holds up to the visit, what the visit makes of it, and what the rest keeps. -/
theorem forEach_visit {α β : Type} (P Q : β → Prop) {l : List α} {a : α} {f : α → β → β} (hl : l.Nodup) (ha : a ∈ l)
    (before : ∀ b ∈ l, b ≠ a → ∀ s, P s → P (f b s)) (visit : ∀ s, P s → Q (f a s))
    (after : ∀ b ∈ l, b ≠ a → ∀ s, Q s → Q (f b s)) {s : β} (hs : P s) : Q (forEach l f s) := by
  induction l generalizing s with
  | nil => simp at ha
  | cons b l ih =>
    obtain ⟨hb, hl⟩ := List.nodup_cons.1 hl
    by_cases e : b = a
    · subst e
      exact forEach_keeps Q l f (fun c hc => after c (List.mem_cons_of_mem _ hc) fun e => hb (e ▸ hc)) _ (visit s hs)
    · exact ih hl ((List.mem_cons.1 ha).resolve_left (Ne.symm e)) (fun c hc => before c (List.mem_cons_of_mem _ hc))
        (fun c hc => after c (List.mem_cons_of_mem _ hc)) (before b (by simp) e s hs)

/-- A repetition that changes element `k` of a bank at its turn `k` changes each listed element once. -/
theorem forEach_upd {β γ : Type} {n : Nat} (bank : β → Vector γ n) {f : Fin n → β → β} {g : Fin n → γ → γ}
    (h : ∀ k s, bank (f k s) = upd (bank s) k (g k)) {l : List (Fin n)} (hl : l.Nodup) {k : Fin n} (hk : k ∈ l) (s : β) :
    (bank (forEach l f s))[k] = g k (bank s)[k] :=
  forEach_visit (fun t => (bank t)[k] = (bank s)[k]) (fun t => (bank t)[k] = g k (bank s)[k]) hl hk
    (fun b _ e t ht => by rw [h, upd_other _ _ (Ne.symm e), ht])
    (fun t ht => by rw [h, upd_same, ht])
    (fun b _ e t ht => by rw [h, upd_other _ _ (Ne.symm e), ht]) rfl

/-- A repetition leaves the elements of a bank alone whose turn does not come. -/
theorem forEach_upd_other {β γ : Type} {n : Nat} (bank : β → Vector γ n) {f : Fin n → β → β} {g : Fin n → γ → γ}
    (h : ∀ k s, bank (f k s) = upd (bank s) k (g k)) {l : List (Fin n)} {k : Fin n} (hk : k ∉ l) (s : β) :
    (bank (forEach l f s))[k] = (bank s)[k] :=
  forEach_same (fun t => (bank t)[k]) l f (fun b hb t => by rw [h, upd_other _ _ fun e : k = b => hk (e ▸ hb)]) s

/-- Two changes of an element that agree on it are the same. -/
theorem upd_congr {α : Type} {n : Nat} (v : Vector α n) (k : Fin n) {f g : α → α} (h : f v[k] = g v[k]) : upd v k f = upd v k g := by
  simp only [upd, h]

/-! ### Single parts of a frame -/

theorem SameBut.pending {l : List Part} {s t : State} (h : SameBut l s t) : t.pending = s.pending := by grind [SameBut]
theorem SameBut.now {l : List Part} {s t : State} (h : SameBut l s t) : t.now = s.now := by grind [SameBut]
theorem SameBut.mgmt {l : List Part} {s t : State} (h : SameBut l s t) (hl : .mgmt ∉ l) : t.mgmt = s.mgmt := by grind [SameBut]
theorem SameBut.power {l : List Part} {s t : State} (h : SameBut l s t) (hl : .power ∉ l) : t.power = s.power := by grind [SameBut]
theorem SameBut.host {l : List Part} {s t : State} (h : SameBut l s t) (hl : .host ∉ l) : t.host = s.host := by grind [SameBut]
theorem SameBut.mbx {l : List Part} {s t : State} (h : SameBut l s t) (hl : .mbx ∉ l) : t.mbx = s.mbx := by grind [SameBut]
theorem SameBut.eng {l : List Part} {s t : State} (h : SameBut l s t) (hl : .eng ∉ l) : t.eng = s.eng := by grind [SameBut]
theorem SameBut.outp {l : List Part} {s t : State} (h : SameBut l s t) (hl : .outp ∉ l) : t.outp = s.outp := by grind [SameBut]

theorem SameBut.ecc {l : List Part} {s t : State} (h : SameBut l s t) (hl : .ecc ∉ l) :
    t.eccBad = s.eccBad ∧ t.eccSoft = s.eccSoft := by grind [SameBut]

/-! ### Cold reset (20 R438, R462; 21 R478) -/

/-- The balls take their reset levels: the levels recorded in the event fabric and what leaves the device change. -/
theorem ballsInReset_frame (s : State) : SameBut [.evt, .out] s (ballsInReset s) := by
  have ball : ∀ b v t, SameBut [.evt, .out] t (State.setBall t b v) := fun b v t => by simp [SameBut]
  have ballIf : ∀ (c : Bool) b v t, SameBut [.evt, .out] t (if c then State.setBall t b v else t) := fun c b v t => by
    split
    · exact ball b v t
    · exact sameBut_refl _ t
  unfold ballsInReset
  refine sameBut_trans (sameBut_trans (sameBut_trans (sameBut_trans (sameBut_trans (sameBut_trans (sameBut_trans
    (ball .faultN false s) (ballIf _ .rdybsy false _)) (ballIf _ .wakeN true _)) (forEach_sameBut _ _ _ ?pps _))
    (forEach_sameBut _ _ _ ?obs _)) (forEach_sameBut _ _ _ ?strobe _)) (forEach_sameBut _ _ _ ?gpio _))
    (forEach_sameBut _ _ _ ?trig _)
  case pps => exact fun k _ t => ballIf _ _ _ t
  case obs => exact fun k _ t => setObs_frame k false t
  case trig => exact fun p _ t => ballIf _ _ _ t
  case strobe =>
    intro k _ t
    split
    · exact sameBut_refl _ t
    · exact ball _ _ t
  case gpio =>
    intro k _ t
    split
    · exact sameBut_mono (emit_frame t _) (by simp)
    · exact sameBut_refl _ t

/-- From `s` to `t` a reset has taken place: every part is as after a cold reset, but for flash, fuses, the library and the
board's side. -/
def ResetKept (s t : State) : Prop :=
  SameBut [.mgmt, .power, .host, .eng, .out, .read, .mem, .ecc] { State.reset with pending := s.pending, now := s.now } t
    ∧ t.mgmt.dev = .rom ∧ t.mgmt.step = 0 ∧ t.mgmt.trial = false ∧ t.mgmt.update = {} ∧ t.mgmt.mgtDown = false
    ∧ t.mgmt.stores = s.mgmt.stores ∧ t.mgmt.tableStores = s.mgmt.tableStores ∧ t.mgmt.bootHdr = s.mgmt.bootHdr
    ∧ t.mgmt.logRing = s.mgmt.logRing ∧ t.mgmt.lifeCycle = s.mgmt.lifeCycle
    ∧ t.mgmt.lifeCycleNext = s.mgmt.lifeCycleNext ∧ t.mgmt.policyFuse = s.mgmt.policyFuse ∧ t.mgmt.rollbackFuse = s.mgmt.rollbackFuse
    ∧ t.mgmt.reserveValue = s.mgmt.reserveValue ∧ t.mgmt.hostIndependent = false ∧ t.mgmt.allow = []
    ∧ t.eng.library = s.eng.library ∧ t.power.state = .active ∧ t.power.transit = none ∧ t.power.clockOk = s.power.clockOk

/-- From `s` to `t` a cold reset has taken place. -/
def ColdReset (s t : State) : Prop :=
  ResetKept s t ∧ t.mem = [] ∧ t.eccBad = [] ∧ t.eccSoft = [] ∧ t.mgmt.slots = s.mgmt.slots
    ∧ t.mgmt.coldStart = true ∧ t.mgmt.logStaged = [] ∧ t.mgmt.logNext = s.mgmt.logNext ∧ t.eng = { library := s.eng.library }

section AfterReset

variable (m : MgmtBlock) (mem : List Host.Cell) (bad soft : List Nat) (s : State)

@[simp] theorem afterReset_mgmt : (afterReset m mem bad soft s).mgmt = m := rfl
@[simp] theorem afterReset_mem : (afterReset m mem bad soft s).mem = mem := rfl
@[simp] theorem afterReset_eccBad : (afterReset m mem bad soft s).eccBad = bad := rfl
@[simp] theorem afterReset_eccSoft : (afterReset m mem bad soft s).eccSoft = soft := rfl

@[simp] theorem afterReset_power : (afterReset m mem bad soft s).power = boardOf s.power := by
  rw [← (ballsInReset_frame s).power (by simp)]; rfl

@[simp] theorem afterReset_host : (afterReset m mem bad soft s).host = { perst := s.host.perst } := by
  rw [← (ballsInReset_frame s).host (by simp)]; rfl

@[simp] theorem afterReset_eng : (afterReset m mem bad soft s).eng = { library := s.eng.library } := by
  rw [← (ballsInReset_frame s).eng (by simp)]; rfl

/-- Of the state before it a reset keeps the model's queue and clock; the parts that it hands over are listed. -/
theorem afterReset_frame : SameBut [.mgmt, .power, .host, .eng, .out, .read, .mem, .ecc]
    { State.reset with pending := s.pending, now := s.now } (afterReset m mem bad soft s) := by
  rw [← (ballsInReset_frame s).pending, ← (ballsInReset_frame s).now]
  simp [SameBut, afterReset]

end AfterReset

theorem coldReset_spec (s : State) : ColdReset s (coldReset s) := by
  refine ⟨⟨afterReset_frame .., ?_⟩, ?_⟩ <;> simp [coldReset, flashOf, boardOf]

@[simp] theorem coldReset_host (s : State) : (coldReset s).host = { perst := s.host.perst } := by simp [coldReset]

@[simp] theorem coldReset_power (s : State) : (coldReset s).power = boardOf s.power := by simp [coldReset]

/-! ### The ABORTED end of Tare runs (05 R116, R120) -/

/-- The vectors leave `PERST_N` alone. -/
@[simp] theorem fireVectorN_perst (s : State) (v : Nat) : (s.fireVectorN v).host.perst = s.host.perst := by
  unfold State.fireVectorN State.fireVector
  split
  · split
    · rfl
    · split <;> rfl
  · rfl

/-- The log grows by an entry at least. -/
theorem log_grows (s : State) (typ session : Nat) (data : List Nat) :
    s.mgmt.logStaged.length < (s.log typ session data).mgmt.logStaged.length := by
  simp [State.log]

/-- From `s` to `t` entries have been added to the log; pipes, vectors and what left the device may have changed too. -/
structure LogsOnto (s t : State) : Prop where
  frame : SameBut [.pipe, .host, .mgmt, .out] s t
  perst : t.host.perst = s.host.perst
  mem : t.mem = s.mem
  log : ∃ staged next, t.mgmt = { s.mgmt with logStaged := s.mgmt.logStaged ++ staged, logNext := next }

theorem LogsOnto.refl (s : State) : LogsOnto s s := ⟨sameBut_refl _ s, rfl, rfl, [], _, by rw [List.append_nil]⟩

theorem LogsOnto.trans {s t u : State} (h : LogsOnto s t) (k : LogsOnto t u) : LogsOnto s u := by
  obtain ⟨l, n, hm⟩ := h.log
  obtain ⟨l', n', km⟩ := k.log
  exact ⟨sameBut_trans h.frame k.frame, k.perst.trans h.perst, k.mem.trans h.mem, l ++ l', n', by simp [km, hm]⟩

theorem LogsOnto.length_le {s t : State} (h : LogsOnto s t) : s.mgmt.logStaged.length ≤ t.mgmt.logStaged.length := by
  obtain ⟨l, n, hm⟩ := h.log; simp [hm]

theorem setTare_logsOnto (s : State) (p : Fin 12) (f : TareUnit → TareUnit) : LogsOnto s (s.setTare p f) :=
  ⟨by simp [SameBut], rfl, rfl, [], _, by rw [List.append_nil]; rfl⟩

theorem log_logsOnto (s : State) (typ session : Nat) (data : List Nat) : LogsOnto s (s.log typ session data) :=
  ⟨sameBut_mono (log_frame ..) (by simp), rfl, rfl, _, _, rfl⟩

theorem fireVectorN_logsOnto (s : State) (v : Nat) : LogsOnto s (s.fireVectorN v) :=
  ⟨sameBut_mono (fireVectorN_frame ..) (by simp), by simp, by simp, [], _, by rw [List.append_nil, State.fireVectorN_mgmt]⟩

/-- The end of a run, if there is one, shows in its pipe, in the log and in vector 62. -/
theorem endTare_logsOnto (p : Fin 12) (reason failMask : Nat) (s : State) : LogsOnto s (endTare p reason failMask s) := by
  unfold endTare; dsimp only
  split
  · exact .refl s
  · exact ((setTare_logsOnto s p _).trans (log_logsOnto _ _ _ _)).trans (fireVectorN_logsOnto _ _)

/-- Without a run nothing ends. -/
theorem endTare_idle {p : Fin 12} {s : State} (reason failMask : Nat) (h : (s.pipe[p]).tare.run = none) :
    endTare p reason failMask s = s := by
  simp only [endTare, h]

/-- The end of a run stages a log entry at least. -/
theorem endTare_run_grows {p : Fin 12} {s : State} (reason failMask : Nat) (h : (s.pipe[p]).tare.run.isSome = true) :
    s.mgmt.logStaged.length < (endTare p reason failMask s).mgmt.logStaged.length := by
  obtain ⟨r, h⟩ := Option.isSome_iff_exists.1 h
  simp only [endTare, h, State.fireVectorN_mgmt]
  exact log_grows (s.setTare p _) _ _ _

/-- The end of one run leaves the others' pipes alone. -/
theorem endTare_pipe_other {p q : Fin 12} (h : q ≠ p) (reason failMask : Nat) (s : State) :
    (endTare p reason failMask s).pipe[q] = s.pipe[q] := by
  unfold endTare; dsimp only
  split
  · rfl
  · simp only [State.fireVectorN_pipe, State.log_pipe, State.setTare_pipe]
    exact upd_other _ _ h

theorem abortTares_logsOnto (s : State) : LogsOnto s (abortTares s) :=
  forEach_keeps (LogsOnto s) _ _ (fun p _ _ h => h.trans (endTare_logsOnto p _ _ _)) s (.refl s)

theorem abortTares_idle {s : State} (h : ∀ p : Fin 12, (s.pipe[p]).tare.run = none) : abortTares s = s :=
  forEach_keeps (· = s) _ _ (fun p _ t e => by rw [e]; exact endTare_idle _ _ (h p)) s rfl

theorem abortTares_run_grows {s : State} {p : Fin 12} (h : (s.pipe[p]).tare.run.isSome = true) :
    s.mgmt.logStaged.length < (abortTares s).mgmt.logStaged.length := by
  unfold abortTares
  refine forEach_visit (f := abortTare) (fun t => LogsOnto s t ∧ t.pipe[p] = s.pipe[p])
    (fun t => s.mgmt.logStaged.length < t.mgmt.logStaged.length) (List.nodup_finRange 12) (List.mem_finRange p)
    (fun q _ e t ht => ?before) (fun t ht => ?visit) (fun q _ _ t ht => ?after) ⟨.refl s, rfl⟩
  case before => exact ⟨ht.1.trans (endTare_logsOnto q _ _ t), (endTare_pipe_other (Ne.symm e) _ _ t).trans ht.2⟩
  case visit => exact Nat.lt_of_le_of_lt ht.1.length_le (endTare_run_grows _ _ (by rwa [ht.2]))
  case after => exact Nat.lt_of_lt_of_le ht (endTare_logsOnto q _ _ t).length_le

/-! ### Warm reset (20 R462; 21 R482) -/

/-- From `s` to `t` a warm reset has taken place. -/
def WarmReset (s : State) (cause : ResetCause) (t : State) : Prop :=
  ResetKept s t ∧ t.mem = s.mem ∧ t.eccBad = s.eccBad ∧ t.eccSoft = s.eccSoft
    ∧ t.mgmt.coldStart = false ∧ t.mgmt.cause = cause ∧ s.mgmt.logStaged <+: t.mgmt.logStaged
    ∧ ((∀ p : Fin 12, (s.pipe[p]).tare.run = none) → t.mgmt.logStaged = s.mgmt.logStaged ∧ t.mgmt.logNext = s.mgmt.logNext)
    ∧ (∀ p : Fin 12, (s.pipe[p]).tare.run.isSome = true → s.mgmt.logStaged.length < t.mgmt.logStaged.length)
    ∧ (s.mgmt.update.state = .idle → t.mgmt.slots = s.mgmt.slots)
    ∧ (s.mgmt.update.state ≠ .idle → t.mgmt.slots = s.mgmt.slots.set (idxMod 1 s.mgmt.update.target) none)
    ∧ (∀ e : Fin 192, t.eng.eng[e] = { fenceCount := (s.eng.eng[e]).fenceCount })
    ∧ ∀ c : Fin 12, 0 < (s.eng.cluster[c]).spillSize →
        ((s.eng.cluster[c]).spillBase, (s.eng.cluster[c]).spillSize) ∈ t.mgmt.wipeRegions

/-- A spill window that is configured is among the regions to wipe. -/
theorem spill_mem_configuredRegions {s : State} {c : Fin 12} (h : 0 < (s.eng.cluster[c]).spillSize) :
    ((s.eng.cluster[c]).spillBase, (s.eng.cluster[c]).spillSize) ∈ configuredRegions s := by
  refine List.mem_append_right _ (List.mem_map.2 ⟨s.eng.cluster[c], List.mem_filter.2 ⟨?_, by simpa using h⟩, rfl⟩)
  simp

section KeepSticky

variable (old s : State)

@[simp] theorem keepSticky_mgmt : (keepSticky old s).mgmt = s.mgmt := by unfold keepSticky; rfl
@[simp] theorem keepSticky_power : (keepSticky old s).power = s.power := by unfold keepSticky; rfl
@[simp] theorem keepSticky_host : (keepSticky old s).host = s.host := by unfold keepSticky; rfl
@[simp] theorem keepSticky_mem : (keepSticky old s).mem = s.mem := by unfold keepSticky; rfl
@[simp] theorem keepSticky_eccBad : (keepSticky old s).eccBad = s.eccBad := by unfold keepSticky; rfl
@[simp] theorem keepSticky_eccSoft : (keepSticky old s).eccSoft = s.eccSoft := by unfold keepSticky; rfl
@[simp] theorem keepSticky_library : (keepSticky old s).eng.library = s.eng.library := by unfold keepSticky; rfl

@[simp] theorem keepSticky_engine (e : Fin 192) :
    (keepSticky old s).eng.eng[e] = { fenceCount := (old.eng.eng[e]).fenceCount } := by
  simp [keepSticky]

theorem keepSticky_frame : SameBut [.eng] s (keepSticky old s) := by simp [SameBut, keepSticky]

end KeepSticky

theorem warmReset_of_cold {s : State} (cause : ResetCause) (h : s.mgmt.coldStart = true) : warmReset cause s = coldReset s := by
  simp [warmReset, h]

/-- A warm reset proper: flash and fuses, the staged log and memory are handed over, then FENCE_COUNT. -/
theorem warmReset_of_warm {s : State} (cause : ResetCause) (h : s.mgmt.coldStart = false) :
    warmReset cause s = keepSticky (abortTares s) (afterReset { flashOf (abortTares s).mgmt with
      slots := slotsAfterReset (abortTares s).mgmt, logStaged := (abortTares s).mgmt.logStaged, coldStart := false, cause := cause
      wipeRegions := (if (abortTares s).mgmt.step < 8 then (abortTares s).mgmt.wipeRegions else [])
        ++ configuredRegions (abortTares s) }
      (abortTares s).mem (abortTares s).eccBad (abortTares s).eccSoft (abortTares s)) := by
  simp [warmReset, h]

theorem warmReset_power (s : State) (cause : ResetCause) : (warmReset cause s).power = boardOf s.power := by
  cases h : s.mgmt.coldStart with
  | true => rw [warmReset_of_cold cause h, coldReset_power]
  | false => rw [warmReset_of_warm cause h, keepSticky_power, afterReset_power, (abortTares_logsOnto s).frame.power (by simp)]

theorem warmReset_host (s : State) (cause : ResetCause) : (warmReset cause s).host = { perst := s.host.perst } := by
  cases h : s.mgmt.coldStart with
  | true => rw [warmReset_of_cold cause h, coldReset_host]
  | false => rw [warmReset_of_warm cause h, keepSticky_host, afterReset_host, (abortTares_logsOnto s).perst]

theorem warmReset_spec {s : State} (cause : ResetCause) (h : s.mgmt.coldStart = false) :
    WarmReset s cause (warmReset cause s) := by
  have idle : (∀ p : Fin 12, (s.pipe[p]).tare.run = none) → (abortTares s).mgmt = s.mgmt := fun hi => by rw [abortTares_idle hi]
  have grows := fun (p : Fin 12) => abortTares_run_grows (s := s) (p := p)
  have logs := abortTares_logsOnto s
  rw [warmReset_of_warm cause h]
  generalize abortTares s = u at *
  obtain ⟨staged, next, hm⟩ := logs.log
  obtain ⟨hbad, hsoft⟩ := logs.frame.ecc (by simp)
  refine ⟨⟨?frame, ?kept⟩, ?mem, ?bad, ?soft, rfl, rfl, ?staged, ?idle, ?run, ?slots, ?target, ?fence, ?wipe⟩
  case frame =>
    rw [← logs.frame.pending, ← logs.frame.now]
    exact sameBut_trans (afterReset_frame ..) (sameBut_mono (keepSticky_frame _ _) (by simp))
  case kept => simp [flashOf, boardOf, hm, logs.frame.eng, logs.frame.power]
  case mem => simp [logs.mem]
  case bad => simp [hbad]
  case soft => simp [hsoft]
  case staged => simp [hm]
  case idle => intro hi; simp [flashOf, idle hi]
  case run => exact grows
  case slots => intro hs; simp [slotsAfterReset, hm, hs]
  case target => intro hs; simp [slotsAfterReset, hm, hs, upd]
  case fence => intro e; rw [keepSticky_engine, logs.frame.eng (by simp)]
  case wipe =>
    intro c hc
    rw [← logs.frame.eng (by simp)] at hc ⊢
    exact List.mem_append_right _ (spill_mem_configuredRegions hc)

/-! ### Host DMA (16 Table 16.11) -/

/-- `t` is `s` but for the DMA channels and engines of the host interface. -/
def DmaOnly (s t : State) : Prop :=
  ∃ d2h h2d e1 e2, t = { s with host := { s.host with d2h := d2h, h2d := h2d, d2hEngine := e1, h2dEngine := e2 } }

theorem DmaOnly.refl (s : State) : DmaOnly s s := ⟨_, _, _, _, rfl⟩

theorem DmaOnly.trans {s t u : State} (h : DmaOnly s t) (k : DmaOnly t u) : DmaOnly s u := by
  obtain ⟨a, b, c, d, rfl⟩ := h
  obtain ⟨a', b', c', d', rfl⟩ := k
  exact ⟨a', b', c', d', rfl⟩

theorem setDma_dmaOnly (s : State) (k : DmaSel) (f : DmaChan → DmaChan) : DmaOnly s (s.setDma k f) := by
  cases k <;> exact ⟨_, _, _, _, rfl⟩

theorem setEngine_dmaOnly (s : State) (h2d : Bool) (f : DmaEngine → DmaEngine) : DmaOnly s (s.setEngine h2d f) := by
  cases h2d <;> exact ⟨_, _, _, _, rfl⟩

@[simp] theorem setDma_chan_same (s : State) (k : DmaSel) (f : DmaChan → DmaChan) : (s.setDma k f).chan k = f (s.chan k) := by
  cases k <;> exact upd_same _ _ _

theorem setDma_chan_other (s : State) {k j : DmaSel} (f : DmaChan → DmaChan) (h : j ≠ k) : (s.setDma k f).chan j = s.chan j := by
  cases k <;> cases j
  case d2h.d2h c d => exact upd_other _ _ fun e => h (e ▸ rfl)
  case h2d.h2d c d => exact upd_other _ _ fun e => h (e ▸ rfl)
  all_goals rfl

@[simp] theorem setEngine_chan (s : State) (h2d : Bool) (f : DmaEngine → DmaEngine) (k : DmaSel) :
    (s.setEngine h2d f).chan k = s.chan k := by
  cases h2d <;> cases k <;> rfl

theorem mem_hostChans (k : DmaSel) : k ∈ hostChans ↔ k.isHost = true := by
  cases k <;> simp [hostChans, DmaSel.isHost]

theorem hostChans_nodup : hostChans.Nodup := by decide

/-- Host channel `c` is abandoned, as `d`: it is DISABLED, and a chain in progress has stopped with ABORTED. -/
def Abandoned (c d : DmaChan) : Prop :=
  d.state = .disabled ∧ d.enable = false ∧ d.fetchAt = none ∧ d.ready = none
    ∧ (c.run = .running → d.run = .stopped ∧ d.stop = .aborted ∧ d.errors = c.errors + 1)
    ∧ (c.run ≠ .running → d.run = c.run ∧ d.stop = c.stop ∧ d.errors = c.errors)

theorem chanAbort_abandoned (written : Option Nat) (c : DmaChan) : Abandoned c (chanAbort written c) := by
  by_cases h : c.run = .running <;> simp [Abandoned, chanAbort, h]

/-- Channel `k` is abandoned, with the bytes that its descriptor has written. -/
def abandonChan (k : DmaSel) (s : State) : State := s.setDma k (chanAbort (writtenOf k s))

/-- The descriptor that a host channel has in progress on an engine is dropped. -/
def dropHostXfer (h2d : Bool) (s : State) : State :=
  match busyChan s h2d with
  | some (k, _) => if k.isHost then s.setEngine h2d fun e => { e with xfer := none } else s
  | none => s

theorem hostDmaAbort_eq (s : State) : hostDmaAbort s = dropHostXfer true (dropHostXfer false
    (forEach hostChans abandonChan s)) := rfl

theorem dropHostXfer_dmaOnly (h2d : Bool) (s : State) : DmaOnly s (dropHostXfer h2d s) := by
  unfold dropHostXfer
  split
  · split
    · exact setEngine_dmaOnly s h2d _
    · exact .refl s
  · exact .refl s

@[simp] theorem dropHostXfer_chan (h2d : Bool) (s : State) (k : DmaSel) : (dropHostXfer h2d s).chan k = s.chan k := by
  unfold dropHostXfer
  split
  · split
    · exact setEngine_chan s h2d _ k
    · rfl
  · rfl

theorem hostDmaAbort_dmaOnly (s : State) : DmaOnly s (hostDmaAbort s) := by
  rw [hostDmaAbort_eq]
  refine DmaOnly.trans (forEach_keeps (DmaOnly s) hostChans abandonChan (fun k _ t h => h.trans (setDma_dmaOnly t k _)) s (.refl s)) ?_
  exact (dropHostXfer_dmaOnly _ _).trans (dropHostXfer_dmaOnly _ _)

/-- Every host channel is abandoned. -/
theorem hostDmaAbort_host_chan (s : State) {k : DmaSel} (h : k.isHost = true) :
    Abandoned (s.chan k) ((hostDmaAbort s).chan k) := by
  rw [hostDmaAbort_eq, dropHostXfer_chan, dropHostXfer_chan]
  exact forEach_visit (f := abandonChan) (fun t => t.chan k = s.chan k) (fun t => Abandoned (s.chan k) (t.chan k)) hostChans_nodup
    ((mem_hostChans k).2 h) (fun j _ e t ht => (setDma_chan_other t _ (Ne.symm e)).trans ht)
    (fun t ht => by rw [abandonChan, setDma_chan_same, ht]; exact chanAbort_abandoned _ _)
    (fun j _ e t ht => by rwa [abandonChan, setDma_chan_other t _ (Ne.symm e)]) rfl

/-- Firmware's channels go on. -/
theorem hostDmaAbort_other_chan (s : State) {k : DmaSel} (h : k.isHost = false) : (hostDmaAbort s).chan k = s.chan k := by
  rw [hostDmaAbort_eq, dropHostXfer_chan, dropHostXfer_chan]
  refine forEach_same (fun t => t.chan k) _ _ (fun j hj t => setDma_chan_other t _ fun e => ?_) s
  rw [mem_hostChans, ← e, h] at hj
  exact Bool.noConfusion hj

/-! ### HOST rings (14 R340; 16 Table 16.11) -/

/-- Does a ring go on through a host reset: by UDP, off already, or configured by session 0? -/
def ringStays (g : OutRing) : Bool := g.cfg.udp || g.state == .disabled || g.owner == some 0

/-- A ring at a host reset. -/
def ringOff (g : OutRing) : OutRing :=
  if ringStays g then g
  else { g with state := .disabled, enablePending := false, held := [], batches := []
                dropped := satAdd 32 g.dropped (g.held.length + g.batches.length) }

theorem ringOff_of_stays {g : OutRing} (h : ringStays g = true) : ringOff g = g := if_pos h

theorem ringOff_of_not_stays {g : OutRing} (h : ¬ ringStays g = true) : ringOff g = { g with
    state := .disabled, enablePending := false, held := [], batches := []
    dropped := satAdd 32 g.dropped (g.held.length + g.batches.length) } := if_neg h

/-- A reset of the HOST rings is `ringOff` of every ring. -/
theorem hostRingsOff_ring (s : State) (r : Fin 16) : (hostRingsOff s).outp.ring[r] = ringOff s.outp.ring[r] := by
  unfold hostRingsOff
  refine forEach_upd (fun t : State => t.outp.ring) (g := fun _ => ringOff) (fun k t => ?_) (List.nodup_finRange 16) (List.mem_finRange r) s
  change (if ringStays t.outp.ring[k] = true then t else _).outp.ring = _
  split
  · exact (upd_id _ k ringOff (ringOff_of_stays ‹_›)).symm
  · rw [State.setRing_outp]; dsimp only
    refine upd_congr t.outp.ring k ?_
    exact (ringOff_of_not_stays ‹_›).symm

theorem hostRingsOff_frame (s : State) : SameBut [.outp] s (hostRingsOff s) := by
  refine forEach_sameBut _ _ _ (fun r _ t => ?_) s
  split
  · exact sameBut_refl _ t
  · simp [SameBut]

/-! ### D3hot and the DMA and ring part of a `PERST_N` (16 R388) -/

/-- From `s` to `t` the host DMA is abandoned and the HOST rings are off. -/
def HostDmaOff (s t : State) : Prop :=
  (∀ k : DmaSel, k.isHost = true → Abandoned (s.chan k) (t.chan k))
    ∧ (∀ k : DmaSel, k.isHost = false → t.chan k = s.chan k)
    ∧ ∀ r : Fin 16, (t.outp.ring[r]).cfg = (s.outp.ring[r]).cfg
      ∧ if (s.outp.ring[r]).cfg.udp = true ∨ (s.outp.ring[r]).state = .disabled ∨ (s.outp.ring[r]).owner = some 0
        then (t.outp.ring[r]).state = (s.outp.ring[r]).state ∧ (t.outp.ring[r]).held = (s.outp.ring[r]).held
        else (t.outp.ring[r]).state = .disabled ∧ (t.outp.ring[r]).held = [] ∧ (t.outp.ring[r]).batches = []
          ∧ (t.outp.ring[r]).dropped =
            min ((s.outp.ring[r]).dropped + ((s.outp.ring[r]).held.length + (s.outp.ring[r]).batches.length)) (2 ^ 32 - 1)

theorem ringStays_iff (g : OutRing) : ringStays g = true ↔ g.cfg.udp = true ∨ g.state = .disabled ∨ g.owner = some 0 := by
  simp [ringStays, or_assoc]

/-- The claim about the channels and rings follows from what each is: abandoned, kept, or off but for its owner. -/
theorem hostDmaOff_of {s t : State} (host : ∀ k : DmaSel, k.isHost = true → Abandoned (s.chan k) (t.chan k))
    (own : ∀ k : DmaSel, k.isHost = false → t.chan k = s.chan k)
    (rings : ∀ r : Fin 16, ∃ owner, t.outp.ring[r] = { ringOff s.outp.ring[r] with owner := owner }) : HostDmaOff s t := by
  refine ⟨host, own, fun r => ?_⟩
  obtain ⟨owner, h⟩ := rings r
  rw [h]
  generalize s.outp.ring[r] = g
  by_cases hg : ringStays g = true
  · rw [ringOff_of_stays hg, if_pos ((ringStays_iff g).1 hg)]
    exact ⟨rfl, rfl, rfl⟩
  · rw [ringOff_of_not_stays hg, if_neg (hg ∘ (ringStays_iff g).2)]
    exact ⟨rfl, rfl, rfl, rfl, satAdd_eq_min 32 _ _⟩

/-- The claim is about the host interface and the outputs only. -/
theorem HostDmaOff.congr {s t u : State} (h : HostDmaOff s t) (host : u.host = t.host) (outp : u.outp = t.outp) : HostDmaOff s u := by
  have chan : ∀ k : DmaSel, u.chan k = t.chan k := fun k => by cases k <;> simp only [State.chan, host]
  unfold HostDmaOff
  simp only [chan, outp]
  exact h

theorem hostRingsOff_chan (s : State) (k : DmaSel) : (hostRingsOff s).chan k = s.chan k := by
  have h := (hostRingsOff_frame s).host (by simp)
  cases k <;> simp only [State.chan, h]

theorem hostDmaAbort_frame (s : State) : SameBut [.host] s (hostDmaAbort s) := by
  obtain ⟨a, b, c, d, h⟩ := hostDmaAbort_dmaOnly s
  rw [h]; simp [SameBut]

/-- The DMA and ring part of a host reset. -/
def hostDmaReset (s : State) : State := hostRingsOff (hostDmaAbort s)

theorem hostDmaReset_frame (s : State) : SameBut [.host, .outp] s (hostDmaReset s) :=
  sameBut_trans (sameBut_mono (hostDmaAbort_frame s) (by simp)) (sameBut_mono (hostRingsOff_frame _) (by simp))

theorem hostDmaReset_host (s : State) : ∃ d2h h2d e1 e2, (hostDmaReset s).host =
    { s.host with d2h := d2h, h2d := h2d, d2hEngine := e1, h2dEngine := e2 } := by
  obtain ⟨a, b, c, d, h⟩ := hostDmaAbort_dmaOnly s
  exact ⟨a, b, c, d, by rw [hostDmaReset, (hostRingsOff_frame _).host (by simp), h]⟩

theorem hostDmaReset_host_chan (s : State) {k : DmaSel} (h : k.isHost = true) : Abandoned (s.chan k) ((hostDmaReset s).chan k) := by
  rw [hostDmaReset, hostRingsOff_chan]; exact hostDmaAbort_host_chan s h

theorem hostDmaReset_other_chan (s : State) {k : DmaSel} (h : k.isHost = false) : (hostDmaReset s).chan k = s.chan k := by
  rw [hostDmaReset, hostRingsOff_chan]; exact hostDmaAbort_other_chan s h

theorem hostDmaReset_ring (s : State) (r : Fin 16) : (hostDmaReset s).outp.ring[r] = ringOff s.outp.ring[r] := by
  rw [hostDmaReset, hostRingsOff_ring, (hostDmaAbort_frame s).outp (by simp)]

theorem hostDmaReset_off (s : State) : HostDmaOff s (hostDmaReset s) :=
  hostDmaOff_of (fun _ => hostDmaReset_host_chan s) (fun _ => hostDmaReset_other_chan s) fun r => ⟨_, hostDmaReset_ring s r⟩

/-! ### Closing of the PCIe sessions (16 Table 16.11; 20 Table 20.14) -/

theorem dropUpdate_frame (n : Nat) (s : State) : SameBut [.mgmt] s (dropUpdate n s) := by
  unfold dropUpdate
  split
  · simp [SameBut, updateEnds, updateLog]
  · exact sameBut_refl _ s

/-- The holder of the update lock loses it. -/
theorem dropUpdate_holder {n : Nat} {s : State} (h : s.mgmt.update.holder = some n) :
    (dropUpdate n s).mgmt.update.state = .idle ∧ (dropUpdate n s).mgmt.update.holder = none := by
  simp [dropUpdate, h, updateEnds]

theorem dropUpdate_other {n : Nat} {s : State} (h : s.mgmt.update.holder ≠ some n) : dropUpdate n s = s := if_neg h

theorem mem_pcieSessions (k : Fin 14) : k ∈ pcieSessions ↔ 1 ≤ k.val ∧ k.val ≤ 4 := by
  revert k; decide

/-- A repetition over sessions changes their records only. -/
theorem forEach_setSess_mbx (l : List (Fin 14)) (f : Session → Session) (s : State) :
    ∃ sess, forEach l (fun k t => t.setSess k f) s = { s with mbx := { s.mbx with sess := sess } } :=
  forEach_keeps (fun t => ∃ sess, t = { s with mbx := { s.mbx with sess := sess } }) _ _
    (fun k _ t ⟨_, h⟩ => ⟨_, by rw [h]; rfl⟩) s ⟨_, rfl⟩

/-- A repetition over mailboxes changes their records only. -/
theorem forEach_setMailbox_host (l : List (Fin 4)) (f : Mailbox → Mailbox) (s : State) :
    ∃ mbx, forEach l (fun k t => t.setMailbox k f) s = { s with host := { s.host with mbx := mbx } } :=
  forEach_keeps (fun t => ∃ mbx, t = { s with host := { s.host with mbx := mbx } }) _ _
    (fun k _ t ⟨_, h⟩ => ⟨_, by rw [h]; rfl⟩) s ⟨_, rfl⟩

/-- The update lock of the PCIe sessions. -/
def dropPcieUpdates (s : State) : State := forEach pcieSessions (fun k t => dropUpdate k.val t) s

theorem dropPcieUpdates_frame (s : State) : SameBut [.mgmt] s (dropPcieUpdates s) :=
  forEach_sameBut _ _ _ (fun k _ t => dropUpdate_frame k.val t) s

/-- An update that a PCIe session holds has ended. -/
theorem dropPcieUpdates_holder {s : State} {h : Nat} (hs : s.mgmt.update.holder = some h) (h1 : 1 ≤ h) (h4 : h ≤ 4) :
    (dropPcieUpdates s).mgmt.update.state = .idle ∧ (dropPcieUpdates s).mgmt.update.holder = none := by
  have ne : ∀ {k : Fin 14}, k ≠ ⟨h, by omega⟩ → some h ≠ some k.val := fun e e' => e (Fin.ext (Option.some.inj e').symm)
  unfold dropPcieUpdates
  refine forEach_visit (a := (⟨h, by omega⟩ : Fin 14)) (f := fun (k : Fin 14) t => dropUpdate k.val t) (fun t => t.mgmt.update.holder = some h)
    (fun t => t.mgmt.update.state = .idle ∧ t.mgmt.update.holder = none) (by decide) ((mem_pcieSessions _).2 ⟨h1, h4⟩)
    (fun k _ e t ht => ?before) (fun t ht => dropUpdate_holder ht) (fun k _ _ t ht => ?after) hs
  case before => rwa [dropUpdate_other (by rw [ht]; exact ne e)]
  case after => rwa [dropUpdate_other (by rw [ht.2]; simp)]

/-- A session record that the close of the PCIe sessions leaves. -/
def closedSession (c : Session) : Session := { background := c.background }

/-- A mailbox that takes no requests. -/
def closedMailbox (m : Mailbox) : Mailbox := { m with ready := false }

/-- A ring whose configuration has passed to firmware. -/
def passedRing (g : OutRing) : OutRing := { g with owner := g.owner.map toFirmware }

/-- The records of sessions and mailboxes, once the update lock is free. -/
def closePcieSlots (s : State) : State :=
  forEach (List.finRange 4) (fun k t => t.setMailbox k closedMailbox) (forEach pcieSessions (fun k t => t.setSess k closedSession) s)

/-- The configuration of the rings passes to firmware. -/
def passRings (s : State) : State := forEach (List.finRange 16) (fun r t => t.setRing r passedRing) s

/-- Claims, last writers and requests at the close of the PCIe sessions. -/
def passedMbx (m : MbxBlock) : MbxBlock := { m with
  claims := m.claims.map fun c => (c.1, toFirmware c.2)
  writers := m.writers.map fun w => { w with session := toFirmware w.session }
  queue := m.queue.filter fun q => q.2.net || !(decide (1 ≤ q.2.session ∧ q.2.session ≤ 4))
  perstClose := false }

theorem closePcieSessions_eq (s : State) : closePcieSessions s =
    let u := passRings (closePcieSlots (dropPcieUpdates s))
    { u with mbx := passedMbx u.mbx } := rfl

theorem closePcieSlots_eq (s : State) : ∃ sess mbx, closePcieSlots s =
    { s with mbx := { s.mbx with sess := sess }, host := { s.host with mbx := mbx } } := by
  obtain ⟨sess, h⟩ := forEach_setSess_mbx pcieSessions closedSession s
  obtain ⟨mbx, k⟩ := forEach_setMailbox_host (List.finRange 4) closedMailbox { s with mbx := { s.mbx with sess := sess } }
  exact ⟨sess, mbx, by rw [closePcieSlots, h, k]⟩

theorem closePcieSlots_ready (s : State) (k : Fin 4) : ((closePcieSlots s).host.mbx[k]).ready = false := by
  unfold closePcieSlots
  rw [forEach_upd (fun t : State => t.host.mbx) (g := fun _ => closedMailbox) (fun _ _ => rfl) (List.nodup_finRange 4)
    (List.mem_finRange k)]
  rfl

theorem closePcieSlots_sess (s : State) :
    (closePcieSlots s).mbx.sess = (forEach pcieSessions (fun k t => t.setSess k closedSession) s).mbx.sess := by
  obtain ⟨mbx, h⟩ := forEach_setMailbox_host (List.finRange 4) closedMailbox (forEach pcieSessions (fun k t => t.setSess k closedSession) s)
  rw [closePcieSlots, h]

theorem closePcieSlots_sess_pcie (s : State) {k : Fin 14} (h1 : 1 ≤ k.val) (h4 : k.val ≤ 4) :
    (closePcieSlots s).mbx.sess[k] = { background := (s.mbx.sess[k]).background } := by
  rw [closePcieSlots_sess]
  exact forEach_upd (fun t : State => t.mbx.sess) (g := fun _ => closedSession) (fun _ _ => rfl) (by decide)
    ((mem_pcieSessions k).2 ⟨h1, h4⟩) s

theorem closePcieSlots_sess_other (s : State) {k : Fin 14} (h : k.val < 1 ∨ 4 < k.val) :
    (closePcieSlots s).mbx.sess[k] = s.mbx.sess[k] := by
  rw [closePcieSlots_sess]
  exact forEach_upd_other (fun t : State => t.mbx.sess) (g := fun _ => closedSession) (fun _ _ => rfl)
    (fun e => by rw [mem_pcieSessions] at e; omega) s

theorem passRings_frame (s : State) : SameBut [.outp] s (passRings s) :=
  forEach_sameBut _ _ _ (fun k _ t => by simp [SameBut]) s

theorem passRings_ring (s : State) (r : Fin 16) : (passRings s).outp.ring[r] = passedRing s.outp.ring[r] :=
  forEach_upd (fun t : State => t.outp.ring) (g := fun _ => passedRing) (fun _ _ => rfl) (List.nodup_finRange 16)
    (List.mem_finRange r) s

theorem closePcieSessions_mgmt (s : State) : (closePcieSessions s).mgmt = (dropPcieUpdates s).mgmt := by
  obtain ⟨sess, mbx, h⟩ := closePcieSlots_eq (dropPcieUpdates s)
  rw [closePcieSessions_eq]; dsimp only
  rw [(passRings_frame _).mgmt (by simp), h]

theorem closePcieSessions_mbx (s : State) :
    (closePcieSessions s).mbx = passedMbx (closePcieSlots (dropPcieUpdates s)).mbx := by
  rw [closePcieSessions_eq]; dsimp only
  rw [(passRings_frame _).mbx (by simp)]

/-- Of the host interface only the mailboxes change: none takes a request. -/
theorem closePcieSessions_host (s : State) :
    ∃ mbx, (closePcieSessions s).host = { s.host with mbx := mbx } ∧ ∀ k : Fin 4, (mbx[k]).ready = false := by
  obtain ⟨sess, mbx, h⟩ := closePcieSlots_eq (dropPcieUpdates s)
  refine ⟨mbx, ?_, fun k => ?_⟩
  · rw [closePcieSessions_eq]; dsimp only
    rw [(passRings_frame _).host (by simp), h]; dsimp only
    rw [(dropPcieUpdates_frame s).host (by simp)]
  · have := closePcieSlots_ready (dropPcieUpdates s) k
    rwa [h] at this

theorem closePcieSessions_ring (s : State) (r : Fin 16) : (closePcieSessions s).outp.ring[r] = passedRing s.outp.ring[r] := by
  obtain ⟨sess, mbx, h⟩ := closePcieSlots_eq (dropPcieUpdates s)
  rw [closePcieSessions_eq]; dsimp only
  rw [passRings_ring, h]; dsimp only
  rw [(dropPcieUpdates_frame s).outp (by simp)]

theorem closePcieSessions_frame (s : State) : SameBut [.host, .mbx, .outp, .mgmt] s (closePcieSessions s) := by
  obtain ⟨sess, mbx, h⟩ := closePcieSlots_eq (dropPcieUpdates s)
  have slots : SameBut [.host, .mbx, .outp, .mgmt] (dropPcieUpdates s) (closePcieSlots (dropPcieUpdates s)) := by
    rw [h]; simp [SameBut]
  have pass := sameBut_mono (m := [.host, .mbx, .outp, .mgmt]) (passRings_frame (closePcieSlots (dropPcieUpdates s))) (by simp)
  rw [closePcieSessions_eq]
  exact sameBut_trans (sameBut_trans (sameBut_trans (sameBut_mono (dropPcieUpdates_frame s) (by simp)) slots) pass) (by simp [SameBut])

theorem closePcieSessions_claims (s : State) :
    (closePcieSessions s).mbx.claims = s.mbx.claims.map fun c => (c.1, toFirmware c.2) := by
  obtain ⟨sess, mbx, h⟩ := closePcieSlots_eq (dropPcieUpdates s)
  rw [closePcieSessions_mbx, h, (dropPcieUpdates_frame s).mbx (by simp), passedMbx]

/-- An empty queue stays empty. -/
theorem closePcieSessions_queue {s : State} (hq : s.mbx.queue = []) : (closePcieSessions s).mbx.queue = [] := by
  obtain ⟨sess, mbx, h⟩ := closePcieSlots_eq (dropPcieUpdates s)
  rw [closePcieSessions_mbx, h, (dropPcieUpdates_frame s).mbx (by simp)]
  simp [passedMbx, hq]

theorem closePcieSessions_sess_pcie (s : State) {k : Fin 14} (h1 : 1 ≤ k.val) (h4 : k.val ≤ 4) :
    (closePcieSessions s).mbx.sess[k] = { background := (s.mbx.sess[k]).background } := by
  rw [closePcieSessions_mbx, ← (dropPcieUpdates_frame s).mbx (by simp)]
  exact closePcieSlots_sess_pcie _ h1 h4

theorem closePcieSessions_sess_other (s : State) {k : Fin 14} (h : k.val < 1 ∨ 4 < k.val) :
    (closePcieSessions s).mbx.sess[k] = s.mbx.sess[k] := by
  rw [closePcieSessions_mbx, ← (dropPcieUpdates_frame s).mbx (by simp)]
  exact closePcieSlots_sess_other _ h

theorem settleQueue_nil {s : State} (h : s.mbx.queue = []) : settleQueue s = s := by
  rw [settleQueue, h]; rfl

/-! ### `PERST_N` with HOST_INDEPENDENT (16 R388, Table 16.11; 20 R456, R465) -/

/-- The link is down and the PCIe core has its defaults under a `PERST_N`. -/
def LinkOff (t : State) : Prop :=
  t.host.perst = true ∧ t.host.winBase = 0 ∧ t.host.linkGen = 0 ∧ t.host.linkWidth = 0
    ∧ t.host.msixEnable = false ∧ t.host.functionMask = false ∧ t.host.msix = Vector.replicate 64 {}
    ∧ t.host.timeoutValue = 5 ∧ t.host.timeoutDisable = false

theorem LinkOff.of_host {s t : State} (h : LinkOff s) (e : t.host = s.host) : LinkOff t := by
  rw [LinkOff, e]; exact h

/-- The state at the beginning of an assertion: `PERST_N` is noted with HOST_INDEPENDENT. -/
def perstNoted (s : State) : State :=
  { s with host := { s.host with perst := true, perstIndependent := s.mgmt.hostIndependentWas } }

theorem perstNoted_linkOff (s : State) : LinkOff (pcieCoreReset (perstNoted s)) := by
  simp [LinkOff, pcieCoreReset, perstNoted]

theorem perstNoted_frame (s : State) : SameBut [.host] s (pcieCoreReset (perstNoted s)) := by
  simp [SameBut, pcieCoreReset, perstNoted]

theorem perstNoted_chan (s : State) (k : DmaSel) : (pcieCoreReset (perstNoted s)).chan k = s.chan k := by cases k <;> rfl

/-- The part of an assertion with HOST_INDEPENDENT that waits for nobody. -/
def perstCut (s : State) : State := hostDmaReset (pcieCoreReset (perstNoted s))

theorem perstCut_frame (s : State) : SameBut [.host, .outp] s (perstCut s) :=
  sameBut_trans (sameBut_mono (perstNoted_frame s) (by simp)) (hostDmaReset_frame _)

theorem perstCut_linkOff (s : State) : LinkOff (perstCut s) := by
  obtain ⟨a, b, c, d, h⟩ := hostDmaReset_host (pcieCoreReset (perstNoted s))
  rw [LinkOff, perstCut, h]; exact perstNoted_linkOff s

theorem perstCut_host_chan (s : State) {k : DmaSel} (h : k.isHost = true) : Abandoned (s.chan k) ((perstCut s).chan k) := by
  rw [← perstNoted_chan s k]; exact hostDmaReset_host_chan _ h

theorem perstCut_other_chan (s : State) {k : DmaSel} (h : k.isHost = false) : (perstCut s).chan k = s.chan k := by
  rw [← perstNoted_chan s k]; exact hostDmaReset_other_chan _ h

theorem perstCut_ring (s : State) (r : Fin 16) : (perstCut s).outp.ring[r] = ringOff s.outp.ring[r] := by
  rw [perstCut, hostDmaReset_ring, (perstNoted_frame s).outp (by simp)]

theorem perstCut_off (s : State) : HostDmaOff s (perstCut s) :=
  hostDmaOff_of (fun _ => perstCut_host_chan s) (fun _ => perstCut_other_chan s) fun r => ⟨_, perstCut_ring s r⟩

theorem hostIndependentReset_eq (s : State) : hostIndependentReset (perstNoted s) =
    if (perstCut s).mgmt.mgtDown then { perstCut s with mbx := { (perstCut s).mbx with perstClose := true } }
    else settleQueue (closePcieSessions (perstCut s)) := by
  unfold hostIndependentReset perstCut hostDmaReset; dsimp only

/-- In a pause of the management core the closes wait. -/
theorem hostIndependentReset_of_down {s : State} (h : s.mgmt.mgtDown = true) :
    hostIndependentReset (perstNoted s) = { perstCut s with mbx := { s.mbx with perstClose := true } } := by
  rw [hostIndependentReset_eq, (perstCut_frame s).mgmt (by simp), if_pos h, (perstCut_frame s).mbx (by simp)]

/-- With no request waiting the closes follow at once and nothing else does. -/
theorem hostIndependentReset_of_up {s : State} (h : s.mgmt.mgtDown = false) (hq : s.mbx.queue = []) :
    hostIndependentReset (perstNoted s) = closePcieSessions (perstCut s) := by
  rw [hostIndependentReset_eq, (perstCut_frame s).mgmt (by simp), if_neg (by simp [h]),
    settleQueue_nil (closePcieSessions_queue (by rw [(perstCut_frame s).mbx (by simp), hq]))]

theorem closePcieSessions_chan (s : State) (k : DmaSel) : (closePcieSessions s).chan k = s.chan k := by
  obtain ⟨mbx, h, -⟩ := closePcieSessions_host s
  cases k <;> simp only [State.chan, h]

/-- What the closes leave of an assertion: link, DMA and rings as it set them. -/
theorem closePcieSessions_perstCut_off (s : State) : HostDmaOff s (closePcieSessions (perstCut s)) :=
  hostDmaOff_of (fun k h => by rw [closePcieSessions_chan]; exact perstCut_host_chan s h)
    (fun k h => by rw [closePcieSessions_chan]; exact perstCut_other_chan s h)
    fun r => ⟨(ringOff s.outp.ring[r]).owner.map toFirmware, by rw [closePcieSessions_ring, perstCut_ring, passedRing]⟩

theorem closePcieSessions_perstCut_linkOff (s : State) : LinkOff (closePcieSessions (perstCut s)) := by
  obtain ⟨mbx, h, -⟩ := closePcieSessions_host (perstCut s)
  have link := perstCut_linkOff s
  rw [LinkOff] at link ⊢
  rw [h]
  generalize (perstCut s).host = x at link ⊢
  exact link

theorem ringOff_owner (g : OutRing) : (ringOff g).owner = g.owner := by
  unfold ringOff; split <;> rfl

/-- The closes of sessions 1 to 4 between `s` and `t`: their records are blank but for a background command, what they held and
configured is session 0's, their mailboxes are not ready, and an update of theirs has ended. -/
def PcieClosed (s t : State) : Prop :=
  (∀ k : Fin 14, 1 ≤ k.val → k.val ≤ 4 → t.mbx.sess[k] = { background := (s.mbx.sess[k]).background })
    ∧ (∀ k : Fin 14, k.val < 1 ∨ 4 < k.val → t.mbx.sess[k] = s.mbx.sess[k])
    ∧ t.mbx.claims = s.mbx.claims.map (fun c => (c.1, toFirmware c.2)) ∧ (∀ k : Fin 4, (t.host.mbx[k]).ready = false)
    ∧ (∀ r : Fin 16, (t.outp.ring[r]).owner = (s.outp.ring[r]).owner.map toFirmware)
    ∧ (∀ h, s.mgmt.update.holder = some h → 1 ≤ h → h ≤ 4 → t.mgmt.update.state = .idle ∧ t.mgmt.update.holder = none)

theorem closePcieSessions_perstCut_closed (s : State) : PcieClosed s (closePcieSessions (perstCut s)) := by
  have hmbx : (perstCut s).mbx = s.mbx := (perstCut_frame s).mbx (by simp)
  have hmgmt : (perstCut s).mgmt = s.mgmt := (perstCut_frame s).mgmt (by simp)
  refine ⟨fun k h1 h4 => ?sess, fun k h => ?others, ?claims, fun k => ?ready, fun r => ?owner, fun h hs h1 h4 => ?update⟩
  case sess => rw [closePcieSessions_sess_pcie _ h1 h4, hmbx]
  case others => rw [closePcieSessions_sess_other _ h, hmbx]
  case claims => rw [closePcieSessions_claims, hmbx]
  case ready =>
    obtain ⟨mbx, h, ready⟩ := closePcieSessions_host (perstCut s)
    rw [h]; exact ready k
  case owner => rw [closePcieSessions_ring, perstCut_ring, passedRing, ringOff_owner]
  case update =>
    rw [closePcieSessions_mgmt]
    exact dropPcieUpdates_holder (by rw [hmgmt, hs]) h1 h4

/-! ### The rows -/

/-- The row of a pin notes the pin's level after the reset. -/
theorem ResetKept.setPower {s t : State} (h : ResetKept s t) {f : PowerBlock → PowerBlock} (state : ∀ w, (f w).state = w.state)
    (transit : ∀ w, (f w).transit = w.transit) (clock : ∀ w, (f w).clockOk = w.clockOk) : ResetKept s (t.setPower f) :=
  ⟨sameBut_trans h.1 (by simp [SameBut]), by
    simpa only [State.setPower_mgmt, State.setPower_eng, State.setPower_power, state, transit, clock] using h.2⟩

theorem execPorFall_cold (s : State) : ∃ t, execPorFall s = .next t ∧ ColdReset s t ∧ t.power.porHigh = false
    ∧ t.host = { perst := s.host.perst } := by
  obtain ⟨kept, rest⟩ := coldReset_spec s
  exact ⟨_, rfl, ⟨kept.setPower (fun _ => rfl) (fun _ => rfl) fun _ => rfl, rest⟩, rfl, coldReset_host s⟩

/-- A warm reset is a cold one until a cold start-up is over. -/
theorem warmReset_cases (s : State) (cause : ResetCause) :
    (s.mgmt.coldStart = true → ColdReset s (warmReset cause s))
      ∧ (s.mgmt.coldStart = false → WarmReset s cause (warmReset cause s)) :=
  ⟨fun h => by rw [warmReset_of_cold cause h]; exact coldReset_spec s, warmReset_spec cause⟩

/-- While `POR_N` is low the reset stays cold. -/
theorem execWarmReset_low {s : State} (h : s.power.porHigh = false) :
    execWarmReset true s = .next (s.setPower fun w => { w with wrstHigh := false }) := by
  simp [execWarmReset, h]

theorem execWarmReset_notAsked {s : State} (h : s.mbx.resetAsked = false) : execWarmReset false s = .next s := by
  simp [execWarmReset, h]

theorem execWarmReset_pin {s : State} (h : s.power.porHigh = true) : ∃ t, execWarmReset true s = .next t
    ∧ t.power.wrstHigh = false ∧ t.power.porHigh = true ∧ t.host = { perst := s.host.perst }
    ∧ (s.mgmt.coldStart = true → ColdReset s t) ∧ (s.mgmt.coldStart = false → WarmReset s .warmPin t) := by
  obtain ⟨cold, warm⟩ := warmReset_cases s .warmPin
  refine ⟨(warmReset .warmPin s).setPower fun w => { w with wrstHigh := false }, by simp [execWarmReset, h], rfl, ?_,
    warmReset_host s _, fun hc => ?_, fun hc => ?_⟩
  · rw [State.setPower_power, warmReset_power]; exact h
  · exact ⟨(cold hc).1.setPower (fun _ => rfl) (fun _ => rfl) fun _ => rfl, (cold hc).2⟩
  · exact ⟨(warm hc).1.setPower (fun _ => rfl) (fun _ => rfl) fun _ => rfl, (warm hc).2⟩

theorem execWarmReset_asked {s : State} (h : s.mbx.resetAsked = true) : ∃ t, execWarmReset false s = .next t
    ∧ t.host = { perst := s.host.perst }
    ∧ (s.mgmt.coldStart = true → ColdReset s t) ∧ (s.mgmt.coldStart = false → WarmReset s .devReset t) :=
  ⟨warmReset .devReset s, by simp [execWarmReset, h], warmReset_host s _, warmReset_cases s _⟩

theorem execPerstAssert_again {s : State} (h : s.host.perst = true) : execPerstAssert s = .next s := by
  simp [execPerstAssert, h]

/-- An assertion that begins: in start-up, without HOST_INDEPENDENT, in DEEP SLEEP, or else with it. -/
theorem execPerstAssert_of_high {s : State} (h : s.host.perst = false) : execPerstAssert s = .next (
    if s.mgmt.step < 9 then pcieCoreReset (perstNoted s)
    else if s.mgmt.hostIndependentWas = false then warmReset .perst (perstNoted s)
    else if s.power.state = .deepSleep then { perstNoted s with host := { (perstNoted s).host with perstPending := true } }
    else hostIndependentReset (perstNoted s)) := by
  cases hi : s.mgmt.hostIndependentWas <;> simp [execPerstAssert, perstAssert, perstNoted, h, hi]

theorem execPerstAssert_startup {s : State} (h : s.host.perst = false) (h9 : s.mgmt.step < 9) : ∃ t, execPerstAssert s = .next t
    ∧ SameBut [.host] s t ∧ LinkOff t ∧ ∀ k : DmaSel, t.chan k = s.chan k :=
  ⟨_, by rw [execPerstAssert_of_high h, if_pos h9], perstNoted_frame s, perstNoted_linkOff s, perstNoted_chan s⟩

theorem execPerstAssert_warm {s : State} (h : s.host.perst = false) (h9 : 9 ≤ s.mgmt.step) (hi : s.mgmt.hostIndependentWas = false) :
    ∃ t, execPerstAssert s = .next t ∧ t.host = { perst := true }
      ∧ (s.mgmt.coldStart = true → ColdReset s t) ∧ (s.mgmt.coldStart = false → WarmReset s .perst t) :=
  ⟨_, by rw [execPerstAssert_of_high h, if_neg (by omega), if_pos hi], warmReset_host (perstNoted s) _, warmReset_cases (perstNoted s) _⟩

theorem execPerstAssert_deepSleep {s : State} (h : s.host.perst = false) (h9 : 9 ≤ s.mgmt.step) (hi : s.mgmt.hostIndependentWas = true)
    (hp : s.power.state = .deepSleep) : execPerstAssert s =
      .next { s with host := { s.host with perst := true, perstIndependent := true, perstPending := true } } := by
  rw [execPerstAssert_of_high h, if_neg (by omega), if_neg (by simp [hi]), if_pos hp, perstNoted, hi]

theorem execPerstAssert_independent {s : State} (h : s.host.perst = false) (h9 : 9 ≤ s.mgmt.step)
    (hi : s.mgmt.hostIndependentWas = true) (hp : s.power.state ≠ .deepSleep) (hq : s.mbx.queue = []) :
    ∃ t, execPerstAssert s = .next t ∧ SameBut [.host, .mbx, .outp, .mgmt] s t ∧ LinkOff t ∧ HostDmaOff s t
      ∧ (s.mgmt.mgtDown = true → t.mbx = { s.mbx with perstClose := true } ∧ t.mgmt = s.mgmt)
      ∧ (s.mgmt.mgtDown = false → PcieClosed s t) := by
  refine ⟨hostIndependentReset (perstNoted s), by
    rw [execPerstAssert_of_high h, if_neg (by omega), if_neg (by simp [hi]), if_neg hp], ?_⟩
  have frame := perstCut_frame s
  have cut := sameBut_mono (m := [.host, .mbx, .outp, .mgmt]) frame (by simp)
  have link := perstCut_linkOff s
  have off := perstCut_off s
  cases hd : s.mgmt.mgtDown with
  | true =>
    rw [hostIndependentReset_of_down hd]
    generalize perstCut s = u at *
    exact ⟨sameBut_trans cut (by simp [SameBut]), link.of_host rfl, off.congr rfl rfl, fun _ => ⟨rfl, frame.mgmt (by simp)⟩, nofun⟩
  | false =>
    rw [hostIndependentReset_of_up hd hq]
    exact ⟨sameBut_trans cut (closePcieSessions_frame _), closePcieSessions_perstCut_linkOff s, closePcieSessions_perstCut_off s, nofun,
      fun _ => closePcieSessions_perstCut_closed s⟩

theorem execD3hotEntry_off (s : State) : ∃ t, execD3hotEntry s = .next t ∧ SameBut [.host, .outp] s t ∧ HostDmaOff s t
    ∧ t.host.perst = s.host.perst ∧ t.host.linkGen = s.host.linkGen ∧ t.host.msix = s.host.msix ∧ t.host.mbx = s.host.mbx := by
  obtain ⟨a, b, c, d, h⟩ := hostDmaReset_host s
  exact ⟨hostDmaReset s, rfl, hostDmaReset_frame s, hostDmaReset_off s, by rw [h], by rw [h], by rw [h], by rw [h]⟩

/-! ### Reopening of the mailboxes (16 R389) -/

/-- PCIe session `k + 1` opens with its mailbox, or its open mailbox is ready when nothing is outstanding. -/
def openPcieSession (k : Fin 4) (s : State) : State :=
  let n : Fin 14 := ⟨k.val + 1, by omega⟩
  if (s.mbx.sess[n]).isOpen then s.setMailbox k fun m => { m with ready := (s.mbx.sess[n]).outstanding.isNone }
  else (s.setSess n fun c => { isOpen := true, lastAt := s.now, background := c.background }).setMailbox k
    fun m => { m with ready := true }

theorem openPcieSessions_eq (s : State) : openPcieSessions s = forEach (List.finRange 4) openPcieSession s := rfl

theorem openPcieSession_frame (k : Fin 4) (s : State) : SameBut [.mbx, .host] s (openPcieSession k s) := by
  unfold openPcieSession; dsimp only; split <;> simp [SameBut]

/-- Of the host interface only one mailbox changes. -/
theorem openPcieSession_host (k : Fin 4) (s : State) :
    ∃ f, (openPcieSession k s).host = { s.host with mbx := upd s.host.mbx k f } := by
  unfold openPcieSession; dsimp only; split <;> exact ⟨_, rfl⟩

theorem openPcieSession_opens {k : Fin 4} {j : Fin 14} (h : j.val = k.val + 1) (s : State) :
    ((openPcieSession k s).mbx.sess[j]).isOpen = true := by
  obtain rfl : (⟨k.val + 1, by clear h; omega⟩ : Fin 14) = j := Fin.ext h.symm
  unfold openPcieSession; dsimp only
  split
  · assumption
  · exact congrArg Session.isOpen (upd_same s.mbx.sess _ _)

theorem openPcieSession_sess_other {k : Fin 4} {j : Fin 14} (h : j.val ≠ k.val + 1) (s : State) :
    (openPcieSession k s).mbx.sess[j] = s.mbx.sess[j] := by
  unfold openPcieSession; dsimp only
  split
  · rfl
  · exact upd_other _ _ fun e => h (congrArg Fin.val e)

/-- A session that opens accepts requests. -/
theorem openPcieSession_ready {k : Fin 4} {s : State} (h : (s.mbx.sess[(⟨k.val + 1, by omega⟩ : Fin 14)]).isOpen = false) :
    ((openPcieSession k s).host.mbx[k]).ready = true := by
  unfold openPcieSession; dsimp only
  rw [if_neg (by rw [h]; simp), State.setMailbox]; dsimp only
  rw [upd_same]

theorem openPcieSession_mailbox_other {k j : Fin 4} (h : j ≠ k) (s : State) :
    (openPcieSession k s).host.mbx[j] = s.host.mbx[j] := by
  obtain ⟨f, e⟩ := openPcieSession_host k s
  rw [e]; exact upd_other _ _ h

theorem openPcieSessions_frame (s : State) : SameBut [.mbx, .host] s (openPcieSessions s) := by
  rw [openPcieSessions_eq]; exact forEach_sameBut _ _ _ (fun k _ t => openPcieSession_frame k t) s

theorem openPcieSessions_host (s : State) : ∃ mbx, (openPcieSessions s).host = { s.host with mbx := mbx } := by
  rw [openPcieSessions_eq]
  refine forEach_keeps (fun t => ∃ mbx, t.host = { s.host with mbx := mbx }) _ _ (fun k _ t ⟨mbx, h⟩ => ?_) s ⟨_, rfl⟩
  obtain ⟨f, e⟩ := openPcieSession_host k t
  exact ⟨_, by rw [e, h]⟩

theorem openPcieSessions_opens (s : State) {j : Fin 14} (h1 : 1 ≤ j.val) (h4 : j.val ≤ 4) :
    ((openPcieSessions s).mbx.sess[j]).isOpen = true := by
  rw [openPcieSessions_eq]
  refine forEach_visit (β := State) (a := (⟨j.val - 1, by omega⟩ : Fin 4)) (fun _ => True) (fun t => (t.mbx.sess[j]).isOpen = true)
    (List.nodup_finRange 4) (List.mem_finRange _) (fun _ _ _ _ _ => trivial) (fun t _ => openPcieSession_opens (by simp; omega) t)
    (fun k _ e t ht => ?_) trivial
  rwa [openPcieSession_sess_other fun e' => e (Fin.ext (by simp; omega))]

theorem openPcieSessions_ready {s : State} (h : (s.mbx.sess[(2 : Fin 14)]).isOpen = false) :
    ((openPcieSessions s).host.mbx[(1 : Fin 4)]).ready = true := by
  rw [openPcieSessions_eq]
  refine forEach_visit (β := State) (fun t => (t.mbx.sess[(2 : Fin 14)]).isOpen = false) (fun t => (t.host.mbx[(1 : Fin 4)]).ready = true)
    (List.nodup_finRange 4) (List.mem_finRange 1) (fun k _ e t ht => ?before) (fun t ht => openPcieSession_ready ht)
    (fun k _ e t ht => ?after) h
  case before => rwa [openPcieSession_sess_other fun e' => e (Fin.ext (by simp at e' ⊢; omega))]
  case after => rwa [openPcieSession_mailbox_other (Ne.symm e)]

theorem vector4AtReopen_frame (s : State) : SameBut [.host, .out] s (vector4AtReopen s) := by
  unfold vector4AtReopen
  split
  · exact fireVector_frame s 4
  · simp [SameBut]

theorem fireVector_mbx_host (s : State) (v : Fin 64) : (s.fireVector v).host.mbx = s.host.mbx := by
  unfold State.fireVector
  split
  · rfl
  · split <;> rfl

theorem vector4AtReopen_mailboxes (s : State) : (vector4AtReopen s).host.mbx = s.host.mbx := by
  unfold vector4AtReopen
  split
  · exact fireVector_mbx_host s 4
  · rfl

/-- A vector that is let through and not masked leaves as a message. -/
theorem fireVector_unmasked {s : State} {v : Fin 64} (enabled : s.host.msixEnable = true) (allowed : s.vectorAllowed v = true)
    (unmasked : s.host.msix[v].masked = false) (function : s.host.functionMask = false) :
    s.fireVector v = s.emit (.msix v (s.host.msix[v]).addr (s.host.msix[v]).data) := by
  rw [State.fireVector, if_neg (by rw [enabled, allowed]; simp), if_neg (by rw [unmasked, function]; simp)]

theorem execMailboxReopen_nothing {s : State} (h : s.host.perst = true ∨ s.mbx.isOpen = false ∨ s.power.state = .deepSleep
    ∨ s.mgmt.step < 9 ∨ (∀ k : Fin 14, 1 ≤ k.val → k.val ≤ 4 → (s.mbx.sess[k]).isOpen = true)) :
    execMailboxReopen s = .next s := by
  refine if_pos ?_
  rcases h with h | h | h | h | h
  · simp [h]
  · simp [mailboxesServe, h]
  · simp [mailboxesServe, h]
  · simp [h]
  · have all : pcieSessions.all (fun k => (s.mbx.sess[k]).isOpen) = true :=
      List.all_eq_true.2 fun k hk => h k ((mem_pcieSessions k).1 hk).1 ((mem_pcieSessions k).1 hk).2
    rw [all, Bool.or_true]

theorem execMailboxReopen_opens {s : State} (hp : s.host.perst = false) (ho : s.mbx.isOpen = true) (hd : s.power.state ≠ .deepSleep)
    (h9 : 9 ≤ s.mgmt.step) (h2 : (s.mbx.sess[(2 : Fin 14)]).isOpen = false) :
    execMailboxReopen s = .next (vector4AtReopen (openPcieSessions s)) := by
  have all : pcieSessions.all (fun k => (s.mbx.sess[k]).isOpen) = false :=
    List.all_eq_false.2 ⟨2, by decide, by rw [h2]; simp⟩
  have serve : mailboxesServe s = true := by
    rw [mailboxesServe, ho, Bool.true_and]; exact bne_iff_ne.2 hd
  have begun : decide (s.mgmt.step < 9) = false := decide_eq_false (Nat.not_lt.2 h9)
  rw [execMailboxReopen, all, serve, begun, hp]
  rfl

theorem execMailboxReopen_opened {s : State} (hp : s.host.perst = false) (ho : s.mbx.isOpen = true) (hd : s.power.state ≠ .deepSleep)
    (h9 : 9 ≤ s.mgmt.step) (h2 : (s.mbx.sess[(2 : Fin 14)]).isOpen = false) :
    ∃ t, execMailboxReopen s = .next t ∧ SameBut [.mbx, .host, .out] s t
      ∧ (∀ k : Fin 14, 1 ≤ k.val → k.val ≤ 4 → (t.mbx.sess[k]).isOpen = true)
      ∧ (t.host.mbx[(1 : Fin 4)]).ready = true ∧ (s.host.msixEnable = false → t.host.vector4Due = true)
      ∧ (s.host.msixEnable = true → s.host.functionMask = false → (s.host.msix[(4 : Fin 64)]).masked = false →
        .msix 4 (s.host.msix[(4 : Fin 64)]).addr (s.host.msix[(4 : Fin 64)]).data ∈ t.out) := by
  obtain ⟨mbx, host⟩ := openPcieSessions_host s
  have frame := openPcieSessions_frame s
  refine ⟨_, execMailboxReopen_opens hp ho hd h9 h2, ?frame, fun k h1 h4 => ?opens, ?ready, fun he => ?due, fun he hf hm => ?fires⟩
  case frame => exact sameBut_trans (sameBut_mono frame (by simp)) (sameBut_mono (vector4AtReopen_frame _) (by simp))
  case opens => rw [(vector4AtReopen_frame _).mbx (by simp)]; exact openPcieSessions_opens s h1 h4
  case ready => rw [vector4AtReopen_mailboxes]; exact openPcieSessions_ready h2
  case due => rw [vector4AtReopen, host, if_neg (by rw [he]; simp)]
  case fires =>
    have allowed : (openPcieSessions s).vectorAllowed (4 : Fin 64) = true := by
      rw [State.vectorAllowed, frame.mgmt (by simp), decide_eq_true h9]; rfl
    rw [vector4AtReopen, if_pos (by rw [host]; exact he), fireVector_unmasked (by rw [host]; exact he) allowed
      (by rw [host]; exact hm) (by rw [host]; exact hf), host]
    exact List.mem_cons_self

/-! ### The link (16 R389, R390, Table 16.2) -/

theorem execPerstDeassert_still {s : State} (h : s.host.wakeN = false) :
    execPerstDeassert s = .next { s with host := { s.host with perst := false, perstIndependent := false } } := by
  simp [execPerstDeassert, h]

/-- The end of an assertion releases `WAKE_N`. -/
theorem execPerstDeassert_wake {s : State} (h : s.host.wakeN = true) : execPerstDeassert s =
    .next (({ s with host := { s.host with perst := false, perstIndependent := false, wakeN := false } }).setBall .wakeN true) := by
  simp [execPerstDeassert, h]

theorem execPcieLinkChange_rows (gen : Fin 5) (width : Fin 9) (s : State) :
    (gen.val = 0 → execPcieLinkChange gen width s = .next { s with host := { s.host with linkGen := 0, linkWidth := 0 } })
      ∧ (gen.val ≠ 0 → width.val ∈ [1, 2, 4, 8] →
        execPcieLinkChange gen width s = .next { s with host := { s.host with linkGen := gen.val, linkWidth := width.val } })
      ∧ (gen.val ≠ 0 → width.val ∉ [1, 2, 4, 8] → execPcieLinkChange gen width s = .next s) := by
  refine ⟨fun h => ?down, fun h hw => ?trained, fun h hw => ?other⟩
  case down => rw [execPcieLinkChange, if_neg (by simp [h]), if_pos h, h]
  case trained => rw [execPcieLinkChange, if_neg (fun e => by simp at e hw; omega), if_neg h]
  case other => exact if_pos ⟨h, by simpa using hw⟩

/-! ### The statements -/

/-- Settles O46, row by row: the cold and the warm reset, the `PERST_N` by its cases, D3hot, the link and the reopening. A
brown-out is the same function of the state as a fall of `POR_N`. -/
theorem resetRows : Obligations.ResetRows := by
  intro s
  refine ⟨fun i hi => ?_, execWarmReset_low, execWarmReset_pin, execWarmReset_notAsked, execWarmReset_asked,
    execPerstAssert_again, execPerstAssert_startup, execPerstAssert_warm, execPerstAssert_deepSleep, execPerstAssert_independent, execD3hotEntry_off s,
    execPerstDeassert_still, execPerstDeassert_wake, fun gen width => execPcieLinkChange_rows gen width s,
    execMailboxReopen_nothing, execMailboxReopen_opened⟩
  simp only [List.mem_cons, List.not_mem_nil, or_false] at hi
  rcases hi with rfl | rfl
  · exact execPorFall_cold s
  · exact execPorFall_cold s

/-- Settles O58: the fields of the reset state as they are written. -/
theorem resetState : Obligations.ResetState := by
  unfold Obligations.ResetState
  intro s
  have pipe : ∀ p : Fin 12, s.pipe[p] = {} := fun p => Vector.getElem_replicate ..
  have port : ∀ p : Fin 12, s.cam.port[p] = {} := fun p => Vector.getElem_replicate ..
  have link : ∀ l : Fin 4, s.ej.link[l] = {} := fun l => Vector.getElem_replicate ..
  have engine : ∀ e : Fin 192, s.eng.eng[e] = {} := fun e => Vector.getElem_replicate ..
  have ring : ∀ r : Fin 16, s.outp.ring[r] = {} := fun r => Vector.getElem_replicate ..
  have d2h : ∀ c : Fin 16, s.host.d2h[c] = { prio := d2hPrio c.val } := fun c => Vector.getElem_ofFn ..
  have h2d : ∀ c : Fin 8, s.host.h2d[c] = { prio := h2dPrio c.val } := fun c => Vector.getElem_ofFn ..
  have chan : ∀ k : DmaSel, (s.chan k).state = .disabled
    | .d2h c => congrArg DmaChan.state (d2h c)
    | .h2d c => congrArg DmaChan.state (h2d c)
  refine ⟨reset_memWf, List.nodup_nil, fun _ => rfl, rfl, rfl, rfl, fun p => ?_, fun p => ?_, rfl, rfl, rfl, rfl, rfl, rfl,
    by decide, fun l => ?_, fun e => ?_, fun r => ?_, chan⟩
  · rw [pipe]; decide
  · rw [port]
  · rw [link]; exact ⟨rfl, rfl⟩
  · rw [engine]; exact ⟨rfl, rfl⟩
  · rw [ring]

end Sys2Proof.Machine
end

section
/-! The scrambler of the camera links (02 R35): its register as bits of the line, and that descrambling undoes scrambling. -/

namespace Sys2Proof.Machine

/-! ### The self-synchronising register (02 R35) -/

/-- The register after one more bit of the line, the newest in bit 0. -/
def shiftIn (reg : BitVec 58) (b : Bool) : BitVec 58 := (reg <<< 1) ||| (BitVec.ofBool b).zeroExtend 58

/-- The register after `n` bits of the line, of which bit `i` may depend on the register before it. -/
def regAfter (line : Nat → BitVec 58 → Bool) (reg : BitVec 58) : Nat → BitVec 58
  | 0 => reg
  | n + 1 => shiftIn (regAfter line reg n) (line n (regAfter line reg n))

/-- A bit with the two taps of the register, x^39 and x^58. -/
def tapped (b : Bool) (reg : BitVec 58) : Bool := b ^^ reg.getLsbD 38 ^^ reg.getLsbD 57

theorem getLsbD_shiftIn {k : Nat} (reg : BitVec 58) (b : Bool) (hk : k < 58) :
    (shiftIn reg b).getLsbD k = if k = 0 then b else reg.getLsbD (k - 1) := by
  unfold shiftIn
  cases k with
  | zero => simp
  | succ k => simp [hk, -BitVec.getLsbD_eq_getElem]

/-- The fold of a block: the bits put out, newest first, and the register. -/
theorem foldl_register (out line : Nat → BitVec 58 → Bool) (reg : BitVec 58) (n : Nat) :
    (List.range n).foldl (fun (a : List Bool × BitVec 58) i => (out i a.2 :: a.1, shiftIn a.2 (line i a.2))) ([], reg)
      = (((List.range n).map fun i => out i (regAfter line reg i)).reverse, regAfter line reg n) := by
  induction n with
  | zero => rfl
  | succ n ih => simp [List.range_succ, ih, regAfter]

theorem testBit_foldr_bits (l : List Bool) (i : Nat) :
    (l.foldr (fun (b : Bool) n => 2 * n + b.toNat) 0).testBit i = (l[i]?).getD false := by
  induction l generalizing i with
  | nil => simp
  | cons b l ih =>
    cases i with
    | zero => cases b <;> simp [Nat.testBit_zero, Nat.add_mod]
    | succ i =>
      have half : (2 * l.foldr (fun (b : Bool) n => 2 * n + b.toNat) 0 + b.toNat) / 2 = l.foldr (fun (b : Bool) n => 2 * n + b.toNat) 0 := by
        have := b.toNat_lt; omega
      simp [Nat.testBit_succ, half, ih]

/-- The word of 64 bits put out. -/
theorem getLsbD_word {out : Nat → Bool} {i : Nat} (hi : i < 64) :
    (BitVec.ofNat 64 ((((List.range 64).map out).reverse).foldl (fun n b => 2 * n + b.toNat) 0)).getLsbD i = out i := by
  rw [List.foldl_reverse, BitVec.getLsbD_ofNat, testBit_foldr_bits]
  simp [hi]

theorem descramble_eq (reg : BitVec 58) (x : BitVec 64) : descramble reg x =
    (BitVec.ofNat 64 ((((List.range 64).map fun i => tapped (x.getLsbD i) (regAfter (fun i _ => x.getLsbD i) reg i)).reverse).foldl
      (fun n b => 2 * n + b.toNat) 0), regAfter (fun i _ => x.getLsbD i) reg 64) := by
  have fold := foldl_register (fun i => tapped (x.getLsbD i)) (fun i _ => x.getLsbD i) reg 64
  simp only [tapped, shiftIn] at fold ⊢
  simp only [descramble, fold]

theorem scramble_eq (reg : BitVec 58) (x : BitVec 64) : scramble reg x =
    (BitVec.ofNat 64 ((((List.range 64).map fun i => tapped (x.getLsbD i) (regAfter (fun i => tapped (x.getLsbD i)) reg i)).reverse).foldl
      (fun n b => 2 * n + b.toNat) 0), regAfter (fun i => tapped (x.getLsbD i)) reg 64) := by
  have fold := foldl_register (fun i => tapped (x.getLsbD i)) (fun i => tapped (x.getLsbD i)) reg 64
  simp only [tapped, shiftIn] at fold ⊢
  simp only [scramble, fold]

theorem descramble_bit (reg : BitVec 58) (x : BitVec 64) {i : Nat} (hi : i < 64) :
    (descramble reg x).1.getLsbD i = tapped (x.getLsbD i) (regAfter (fun i _ => x.getLsbD i) reg i) := by
  rw [descramble_eq, getLsbD_word hi]

theorem scramble_bit (reg : BitVec 58) (x : BitVec 64) {i : Nat} (hi : i < 64) :
    (scramble reg x).1.getLsbD i = tapped (x.getLsbD i) (regAfter (fun i => tapped (x.getLsbD i)) reg i) := by
  rw [scramble_eq, getLsbD_word hi]

/-- Bit `j` of what was received, counted from the oldest bit of the register: the register's 58 bits, then the block's. -/
def receivedBit (reg : BitVec 58) (x : BitVec 64) (j : Nat) : Bool :=
  if 58 ≤ j then x.getLsbD (j - 58) else reg.getLsbD (57 - j)

theorem getLsbD_regAfter (reg : BitVec 58) (x : BitVec 64) (n : Nat) {k : Nat} (hk : k < 58) :
    (regAfter (fun i _ => x.getLsbD i) reg n).getLsbD k = receivedBit reg x (n + 57 - k) := by
  induction n generalizing k with
  | zero => simp only [regAfter, receivedBit]; rw [if_neg (by omega)]; congr 1; omega
  | succ n ih =>
    rw [regAfter, getLsbD_shiftIn _ _ hk]
    split
    · subst k; simp [receivedBit]
    · rw [ih (by omega)]; congr 1; omega

/-- Both sides hold the same register all along, so the taps cancel. -/
theorem regAfter_scrambled (reg : BitVec 58) (x : BitVec 64) {n : Nat} (hn : n ≤ 64) :
    regAfter (fun i _ => (scramble reg x).1.getLsbD i) reg n = regAfter (fun i => tapped (x.getLsbD i)) reg n := by
  induction n with
  | zero => rfl
  | succ n ih => rw [regAfter, regAfter, ih (by omega), scramble_bit _ _ (by omega)]

theorem tapped_tapped (b : Bool) (reg : BitVec 58) : tapped (tapped b reg) reg = b := by
  simp only [tapped]
  cases b <;> cases reg.getLsbD 38 <;> cases reg.getLsbD 57 <;> rfl

theorem descramble_scramble (reg : BitVec 58) (x : BitVec 64) : descramble reg (scramble reg x).1 = (x, (scramble reg x).2) := by
  refine Prod.ext (BitVec.eq_of_getLsbD_eq fun i hi => ?bits) ?register
  case bits => rw [descramble_bit _ _ hi, regAfter_scrambled _ _ (by omega), scramble_bit _ _ hi, tapped_tapped]
  case register => rw [descramble_eq, scramble_eq reg x]; exact (regAfter_scrambled reg x (Nat.le_refl 64)) ▸ by rw [scramble_eq]

theorem descrambler : Sys2Proof.Descrambler := by
  intro reg x
  refine ⟨fun i hi => ?bits, fun k hk => ?register, descramble_scramble reg x⟩
  case bits =>
    rw [descramble_bit _ _ hi, tapped, getLsbD_regAfter _ _ _ (by omega), getLsbD_regAfter _ _ _ (by omega)]
    simp [receivedBit, show i + 57 - 38 = i + 19 by omega]
  case register =>
    rw [descramble_eq, getLsbD_regAfter _ _ _ hk, receivedBit, if_pos (by omega)]
    congr 1; omega

end Sys2Proof.Machine
end

section
/-! Blocks that a lane of a camera link receives (02 R38, R39, R50, R57). -/

namespace Sys2Proof.Machine

/-! ### Lanes and ports of a state -/

@[simp] theorem setLane_setLane (s : State) (l : Fin 24) (f g : Lane → Lane) :
    (s.setLane l f).setLane l g = s.setLane l fun c => g (f c) := by simp [State.setLane]

theorem setLane_congr (s : State) (l : Fin 24) {f g : Lane → Lane} (h : f s.cam.lane[l] = g s.cam.lane[l]) :
    s.setLane l f = s.setLane l g := by rw [State.setLane, upd_congr _ _ h, State.setLane]

theorem setLane_self (s : State) (l : Fin 24) {f : Lane → Lane} (h : f s.cam.lane[l] = s.cam.lane[l]) : s.setLane l f = s := by
  rw [State.setLane, upd_id _ _ _ h]

theorem setLane_lane_same (s : State) (l : Fin 24) (f : Lane → Lane) : (s.setLane l f).cam.lane[l] = f s.cam.lane[l] :=
  upd_same _ _ _

theorem setLane_lane_other (s : State) {l k : Fin 24} (f : Lane → Lane) (h : k ≠ l) : (s.setLane l f).cam.lane[k] = s.cam.lane[k] :=
  upd_other _ _ h

/-! ### Received blocks (02 R38, R39, R50, R57) -/

theorem receiveBlock_state (l : Fin 24) (blk : BitVec 66) (s : State) : (receiveBlock l blk s).2 = s.setLane l fun c =>
    { c with lastP := ((receiveBlock l blk s).2.cam.lane[l]).lastP, descr := ((receiveBlock l blk s).2.cam.lane[l]).descr, signal := true } := by
  simp [receiveBlock, -Fin.getElem_fin]

theorem elasticFill_eq (l : Fin 24) (fill : Nat) (s : State) : elasticFill l fill s =
    if fill = 32 ∨ (fill = 0 ∧ (s.cam.lane[l]).line.isSome) then
      cutLine l ((s.setLane l fun c => { c with elasticErr := min (c.elasticErr + 1) 65535, fill := 16 }).report
        { group := 0, cls := .drizzle, inst := (laneOwner s l).val, cause := 2 })
    else s.setLane l fun c => { c with fill := fill } := by
  simp only [elasticFill, elasticError, satInc_eq_min]; rfl

theorem badBlock_eq (l : Fin 24) (s : State) : badBlock l s =
    (s.setLane l fun c => { c with badHeader := min (c.badHeader + 1) (2 ^ 32 - 1) }).report
      { group := 0, cls := .drizzle, inst := (laneOwner s l).val, cause := 1 } := by
  simp only [badBlock, satInc_eq_min]; rfl

section Rows

variable {l : Fin 24} {blk : BitVec 66} {s : State}

theorem execBlockRx_down (h : laneUp s l = false) :
    (∀ fill, execDataBlockRx l blk fill s = .next s ∧ execIdleBlockRx l blk fill s = .next s) ∧ execInvalidBlockRx l blk s = .next s := by
  simp [execDataBlockRx, execIdleBlockRx, execInvalidBlockRx, h]

variable (up : laneUp s l = true)
include up

theorem execDataBlockRx_joins {d : LaneLine} (fill : Fin 33) (hdr : (receiveBlock l blk s).1.header = 1)
    (line : ((receiveBlock l blk s).2.cam.lane[l]).line = some d) : execDataBlockRx l blk fill s =
      .next (elasticFill l fill.val ((receiveBlock l blk s).2.setLane l fun c =>
        { c with line := some { d with blocks := d.blocks ++ [(receiveBlock l blk s).1.payload] } })) := by
  simp [execDataBlockRx, up, hdr, line, -Fin.getElem_fin]

theorem execDataBlockRx_untagged (fill : Fin 33) (hdr : (receiveBlock l blk s).1.header = 1)
    (line : ((receiveBlock l blk s).2.cam.lane[l]).line = none) : execDataBlockRx l blk fill s =
      .next (elasticFill l fill.val (badBlock l (receiveBlock l blk s).2)) := by
  simp [execDataBlockRx, up, hdr, line, -Fin.getElem_fin]

/-- An IDLE is deleted at a fill of 17 or more and doubled at 15 or less; at 16 neither count moves. -/
theorem execIdleBlockRx_idle (fill : Fin 33) (hdr : (receiveBlock l blk s).1.header = 2) (typ : (receiveBlock l blk s).1.byte 0 = 0x1E) :
    execIdleBlockRx l blk fill s = .next (elasticFill l fill.val ((receiveBlock l blk s).2.setLane l fun c =>
      { c with idleDel := if 17 ≤ fill.val then min (c.idleDel + 1) 65535 else c.idleDel
               idleIns := if fill.val ≤ 15 then min (c.idleIns + 1) 65535 else c.idleIns })) := by
  have idle : (receiveBlock l blk s).1.isType 0x1E = true := by simp [Block.isType, hdr, typ]
  simp only [execIdleBlockRx, up, idle, satInc_eq_min]
  rcases Nat.lt_trichotomy fill.val 16 with h | h | h
  · simp [show ¬ 17 ≤ fill.val by omega, show fill.val ≤ 15 by omega]
  · simp [h, setLane_self (receiveBlock l blk s).2 l (f := fun c => c) rfl]
  · simp [show 17 ≤ fill.val by omega, show ¬ fill.val ≤ 15 by omega]

theorem execInvalidBlockRx_unlisted (hdr : (receiveBlock l blk s).1.header = 2)
    (typ : (receiveBlock l blk s).1.byte 0 ∉ [0x1E, 0x2D, 0x33, 0x4B, 0x55, 0x66, 0x78]) :
    execInvalidBlockRx l blk s = .next (badBlock l (receiveBlock l blk s).2) := by
  have unknown : (receiveBlock l blk s).1.known = false := by simpa [Block.known, hdr] using typ
  simp [execInvalidBlockRx, up, hdr, unknown]

theorem execInvalidBlockRx_trigger (hdr : (receiveBlock l blk s).1.header = 2) (typ : (receiveBlock l blk s).1.byte 0 = 0x78) :
    execInvalidBlockRx l blk s = .next (receiveBlock l blk s).2 := by
  have listed : (receiveBlock l blk s).1.known = true := by simp [Block.known, hdr, typ]
  simp [execInvalidBlockRx, up, hdr, listed]

theorem execInvalidBlockRx_header (hdr : (receiveBlock l blk s).1.header = 0 ∨ (receiveBlock l blk s).1.header = 3) :
    execInvalidBlockRx l blk s = .next (badBlock l ((receiveBlock l blk s).2.setLane l fun c =>
      if c.checking then { c with checkBad := c.checkBad + 1 } else c)) := by
  simp [execInvalidBlockRx, up, hdr, countInvalid]

end Rows

theorem receivedBlocks : Sys2Proof.ReceivedBlocks := by
  intro l blk s
  refine ⟨execBlockRx_down, fun up => ⟨receiveBlock_state l blk s, fun fill v => elasticFill_eq l fill.val v, fun fill =>
    ⟨fun d => execDataBlockRx_joins up fill, execDataBlockRx_untagged up fill, execIdleBlockRx_idle up fill⟩,
    execInvalidBlockRx_unlisted up, execInvalidBlockRx_trigger up, execInvalidBlockRx_header up, ?frame, ?port, ?lanes, ?lane, ?report⟩⟩
  all_goals rw [badBlock_eq]
  case frame => simp [SameBut]
  case port => rfl
  case lanes => exact upd_others _ _ _
  case lane => simp [-Fin.getElem_fin]
  case report => rfl

/-- Settles O12: the scrambler by its register, the received blocks row by row. -/
theorem phirvoBlocks : Obligations.PhirvoBlocks := ⟨descrambler, receivedBlocks⟩

end Sys2Proof.Machine
end

section
/-! Lines and control fragments of the camera links (02 R37 to R39, R43, R51, R57). -/

namespace Sys2Proof.Machine

/-! ### LINE_START (02 R39, R51; 03 R66) -/

/-- The line that a LINE_START names, with a stamp of its own. -/
def startedLine (l : Fin 24) (b : Block) (s : State) : LaneLine :=
  { stream := ⟨b.byte 1 % 4, by omega⟩, number := b.field 4 4, announced := b.field 2 2, stamp := stampNow (laneOwner s l) s }

/-- The part of the same line that the other lane receives or has finished. -/
def earlierPart (l : Fin 24) (b : Block) (s : State) : Option LaneLine :=
  ((s.cam.lane[otherLane l]).line.toList ++ (s.cam.lane[otherLane l]).done).find? fun e =>
    e.number == (startedLine l b s).number && e.stream == (startedLine l b s).stream

theorem sameLine_comm (d e : LaneLine) : sameLine d e = (e.number == d.number && e.stream == d.stream) := by
  rw [sameLine, BEq.comm (a := d.number), BEq.comm (a := d.stream)]

theorem openLine_eq (l : Fin 24) (b : Block) (s : State) : openLine l b s =
    if dualLane s (laneOwner s l) then
      (earlierPart l b s).elim (startedLine l b s) fun e => { startedLine l b s with stamp := e.stamp }
    else startedLine l b s := by
  have key : sameLine (startedLine l b s) = fun e =>
      e.number == (startedLine l b s).number && e.stream == (startedLine l b s).stream := funext (sameLine_comm _)
  unfold earlierPart
  rw [← key]
  cases h : dualLane s (laneOwner s l) with
  | false => simp only [openLine, h]; rfl
  | true =>
    simp only [openLine, h, Bool.not_true, Bool.false_eq_true, if_false, if_true]
    show (match List.find? (sameLine (startedLine l b s)) _ with | some e => _ | none => _) = _
    cases List.find? (sameLine (startedLine l b s)) ((s.cam.lane[otherLane l]).line.toList ++ (s.cam.lane[otherLane l]).done) <;> rfl

theorem openLine_own {l : Fin 24} {b : Block} {s : State} (h : dualLane s (laneOwner s l) = false ∨ earlierPart l b s = none) :
    openLine l b s = startedLine l b s := by
  rw [openLine_eq]
  rcases h with single | none
  · rw [single]; rfl
  · rw [none]; exact ite_self _

theorem openLine_earlier {l : Fin 24} {b : Block} {s : State} {e : LaneLine} (dual : dualLane s (laneOwner s l) = true)
    (h : earlierPart l b s = some e) : openLine l b s = { startedLine l b s with stamp := e.stamp } := by
  rw [openLine_eq, if_pos dual, h]; rfl

/-- A line opens on a lane; a skew above 16 blocks is an elastic error. -/
def lineOpens (l : Fin 24) (skew : Fin 256) (d : LaneLine) (s : State) : State :=
  if 16 < skew.val then elasticError l (s.setLane l fun c => { c with line := some d })
  else s.setLane l fun c => { c with line := some d }

section LineStart

variable {l : Fin 24} {blk : BitVec 66} {s : State} {skew : Fin 256} (up : laneUp s l = true)
  (hdr : (receiveBlock l blk s).1.header = 2) (typ : (receiveBlock l blk s).1.byte 0 = 0x2D)
include up hdr typ

theorem execLineStartRx_unlocked (lock : ((receiveBlock l blk s).2.cam.lane[l]).lock = false) :
    execLineStartRx l blk skew s = .next (receiveBlock l blk s).2 := by
  simp [execLineStartRx, up, Block.isType, hdr, typ, lock, -Fin.getElem_fin]

theorem execLineStartRx_locked (lock : ((receiveBlock l blk s).2.cam.lane[l]).lock = true) : execLineStartRx l blk skew s =
    .next (lineOpens l skew (openLine l (receiveBlock l blk s).1 (cutLine l (receiveBlock l blk s).2)) (cutLine l (receiveBlock l blk s).2)) := by
  simp [execLineStartRx, up, Block.isType, hdr, typ, lock, lineOpens, -Fin.getElem_fin]

end LineStart

/-! ### Control fragments (02 R43) -/

/-- The fragments of the message in progress after one more. -/
def fragsWith (l : Fin 24) (b : Block) (s : State) : Option (List Byte × Nat) :=
  addFragment (s.cam.lane[l]).frags (b.byte 1 % 16) ((b.byte 1).testBit 4) ((List.range 6).map fun i => BitVec.ofNat 8 (b.byte (2 + i)))

theorem messageIn_row (l : Fin 24) {m : CtrlMsg} (s : State) (h : m.typ ∈ rxTypes) : messageIn l m s =
    (if m.typ = 0x0F then s else queueCtrl l 0x0F m.seq [] s).setLane l fun c => { c with inbox := c.inbox ++ [m] } :=
  if_pos (List.contains_iff_mem.2 h)

theorem messageIn_noRow (l : Fin 24) {m : CtrlMsg} (s : State) (h : m.typ ∉ rxTypes) : messageIn l m s =
    if m.typ = 0x0F then s else queueCtrl l 0x0F m.seq [] s :=
  if_neg (mt List.contains_iff_mem.1 h)

section Fragments

variable {l : Fin 24} {blk : BitVec 66} {s : State} (up : laneUp s l = true)
  (hdr : (receiveBlock l blk s).1.header = 2) (typ : (receiveBlock l blk s).1.byte 0 = 0x66)
include up hdr typ

theorem execCtrlFragmentRx_more (last : ((receiveBlock l blk s).1.byte 1).testBit 5 = false) : execCtrlFragmentRx l blk s =
    .next ((receiveBlock l blk s).2.setLane l fun c => { c with frags := fragsWith l (receiveBlock l blk s).1 (receiveBlock l blk s).2 }) := by
  simp [execCtrlFragmentRx, up, Block.isType, hdr, typ, last, fragsWith, -Fin.getElem_fin]

theorem execCtrlFragmentRx_last (last : ((receiveBlock l blk s).1.byte 1).testBit 5 = true) : execCtrlFragmentRx l blk s =
    .next (((fragsWith l (receiveBlock l blk s).1 (receiveBlock l blk s).2).bind fun f => parseMsg f.1).elim id (messageIn l)
      ((receiveBlock l blk s).2.setLane l fun c => { c with frags := none })) := by
  simp only [execCtrlFragmentRx, up, Block.isType, hdr, typ, last, Bool.not_true, Bool.false_eq_true, if_false, BEq.rfl, Bool.and_self]
  show Host.Outcome.next (match (fragsWith l _ _).bind fun f => parseMsg f.1 with | some m => _ | none => _) = _
  cases (fragsWith l (receiveBlock l blk s).1 (receiveBlock l blk s).2).bind fun f => parseMsg f.1 <;> rfl

theorem execCtrlFragmentRx_whole (last : ((receiveBlock l blk s).1.byte 1).testBit 5 = true) {bs : List Byte} {n : Nat} {m : CtrlMsg}
    (fr : fragsWith l (receiveBlock l blk s).1 (receiveBlock l blk s).2 = some (bs, n)) (msg : parseMsg bs = some m) :
    execCtrlFragmentRx l blk s = .next (messageIn l m ((receiveBlock l blk s).2.setLane l fun c => { c with frags := none })) := by
  rw [execCtrlFragmentRx_last up hdr typ last, fr, Option.bind_some, msg]; rfl

end Fragments

theorem lineStartsAndFragments : Sys2Proof.LineStartsAndFragments := by
  intro l blk s up
  refine ⟨fun skew hdr typ => ⟨execLineStartRx_unlocked up hdr typ, fun lock alone => ?alone, fun e lock dual earlier => ?earlier⟩,
    execCtrlFragmentRx_more up, fun hdr typ last => ⟨fun fr => ?broken, fun bs n fr msg => ?garbled, fun bs n m fr msg =>
      ⟨fun row => ?row, fun row => ?noRow⟩⟩⟩
  case alone => exact (execLineStartRx_locked up hdr typ lock).trans (by rw [openLine_own alone]; rfl)
  case earlier => exact (execLineStartRx_locked up hdr typ lock).trans (by rw [openLine_earlier dual earlier]; rfl)
  case broken =>
    rw [show exec (.ctrlFragmentRx l blk) s = _ from execCtrlFragmentRx_last up hdr typ last, show fragsWith l _ _ = none from fr]; rfl
  case garbled =>
    rw [show exec (.ctrlFragmentRx l blk) s = _ from execCtrlFragmentRx_last up hdr typ last, show fragsWith l _ _ = some (bs, n) from fr,
      Option.bind_some, msg]; rfl
  case row => exact (execCtrlFragmentRx_whole up hdr typ last fr msg).trans (congrArg _ (messageIn_row l _ row))
  case noRow => exact (execCtrlFragmentRx_whole up hdr typ last fr msg).trans (congrArg _ (messageIn_noRow l _ row))

/-! ### Finished line parts (02 R37, R51) -/

theorem otherLane_ne (l : Fin 24) : otherLane l ≠ l := by
  intro h
  have := congrArg Fin.val h
  simp only [otherLane] at this
  omega

/-- The lane without a line in progress. -/
def lineClosed (l : Fin 24) (s : State) : State := s.setLane l fun c => { c with line := none }

theorem flushParts_nil (l : Fin 24) (s : State) : flushParts l [] s = s := rfl

theorem flushDone_empty {l : Fin 24} {s : State} (h : (s.cam.lane[l]).done = []) : flushDone l s = s := by
  rw [flushDone, h, flushParts_nil, setLane_self]
  rw [← h]

section PartDone

variable {l : Fin 24} {d : LaneLine} {s : State}

theorem partDone_single (h : dualLane s (laneOwner s l) = false) :
    partDone l d s = deliverLine (laneOwner s l) d d.blocks d.crcBad d.cut (lineClosed l s) := by
  have h' : dualLane (lineClosed l s) (laneOwner (lineClosed l s) l) = false := h
  rw [partDone]
  exact if_pos (by rw [show dualLane (s.setLane l _) (laneOwner (s.setLane l _) l) = false from h]; rfl)

variable (dual : dualLane s (laneOwner s l) = true)
include dual

theorem partDone_dual : partDone l d s = match ((s.cam.lane[otherLane l]).done).find? (sameLine d) with
    | some e => joinParts l d e (lineClosed l s)
    | none => holdPart l d (lineClosed l s) := by
  have other : (lineClosed l s).cam.lane[otherLane l] = s.cam.lane[otherLane l] := setLane_lane_other _ _ (otherLane_ne l)
  rw [← other, partDone]
  exact if_neg (by rw [show dualLane (s.setLane l _) (laneOwner (s.setLane l _) l) = true from dual]; simp)

theorem partDone_waits (alone : ∀ e ∈ (s.cam.lane[otherLane l]).done, sameLine d e = false) (room : (s.cam.lane[l]).done.length < 16) :
    partDone l d s = (lineClosed l s).setLane l fun c => { c with done := c.done ++ [d] } := by
  have none : ((s.cam.lane[otherLane l]).done).find? (sameLine d) = none := List.find?_eq_none.2 fun e he => by simp [alone e he]
  have few : ((s.cam.lane[l]).done ++ [d]).length - 16 = 0 := by
    rw [List.length_append, List.length_singleton]; omega
  have same : ((lineClosed l s).cam.lane[l]).done = (s.cam.lane[l]).done := by simp [lineClosed, -Fin.getElem_fin]
  rw [partDone_dual dual, none]
  simp only [holdPart, same, few, List.take_zero, flushParts_nil, List.drop_zero]
  exact setLane_congr _ _ (by rw [same])

/-- The other lane's part has come: what waits before it there, and all that waits here, ends early. -/
theorem partDone_joins {older rest : List LaneLine} {e : LaneLine} (parts : (s.cam.lane[otherLane l]).done = older ++ e :: rest)
    (others : ∀ x ∈ older, sameLine d x = false) (same : sameLine d e = true) :
    partDone l d s =
      let v := flushParts (otherLane l) older ((flushDone l (lineClosed l s)).setLane (otherLane l) fun c => { c with done := rest })
      deliverLine (laneOwner v l) d (if l.val % 2 = 0 then interleave d.blocks e.blocks else interleave e.blocks d.blocks)
        (d.crcBad || e.crcBad) (d.cut || e.cut) v := by
  have found : ((s.cam.lane[otherLane l]).done).find? (sameLine d) = some e := by
    rw [parts, List.find?_append, List.find?_eq_none.2 fun x hx => by simp [others x hx], List.find?_cons, same]; rfl
  have done : ((lineClosed l s).cam.lane[otherLane l]).done = older ++ e :: rest := by
    rw [← parts]; exact congrArg Lane.done (setLane_lane_other _ _ (otherLane_ne l))
  have before : (older ++ e :: rest).takeWhile (fun x => !sameLine d x) = older := by
    rw [List.takeWhile_append_of_pos fun x hx => by simp [others x hx], List.takeWhile_cons_of_neg (by simp [same]), List.append_nil]
  have after : (older ++ e :: rest).drop (older.length + 1) = rest := by simp [List.drop_append]
  rw [partDone_dual dual, found]
  simp only [joinParts, done, before, after]

end PartDone

/-! ### LINE_END (02 R38, R57) -/

/-- A CRC mismatch is counted on the lane and reported. -/
def crcChecked (l : Fin 24) (bad : Bool) (s : State) : State :=
  if bad then (s.setLane l fun c => { c with crcErr := min (c.crcErr + 1) (2 ^ 32 - 1) }).report
    { group := 0, cls := .drizzle, inst := (laneOwner s l).val, cause := 0 } else s

@[simp] theorem crcChecked_port (l : Fin 24) (bad : Bool) (s : State) : (crcChecked l bad s).cam.port = s.cam.port := by
  cases bad <;> rfl

theorem crcChecked_done (l k : Fin 24) (bad : Bool) (s : State) : ((crcChecked l bad s).cam.lane[k]).done = (s.cam.lane[k]).done := by
  cases bad with
  | false => rfl
  | true =>
    by_cases h : k = l
    · subst h; simp [crcChecked, -Fin.getElem_fin]
    · exact congrArg Lane.done (setLane_lane_other _ _ h)

theorem laneOwner_congr {s t : State} (h : t.cam.port = s.cam.port) (l : Fin 24) : laneOwner t l = laneOwner s l := by
  unfold laneOwner pairTaken; rw [h]

theorem dualLane_congr {s t : State} (h : t.cam.port = s.cam.port) (p : Fin 12) : dualLane t p = dualLane s p := by
  unfold dualLane; rw [h]

theorem execLineEndRx_ends {l : Fin 24} {blk : BitVec 66} {s : State} {d : LaneLine} (up : laneUp s l = true)
    (hdr : (receiveBlock l blk s).1.header = 2) (typ : (receiveBlock l blk s).1.byte 0 = 0x33)
    (line : ((receiveBlock l blk s).2.cam.lane[l]).line = some d) :
    let bad := (crc32 d.blocks).toNat != (receiveBlock l blk s).1.field 4 4
    execLineEndRx l blk s = .next (partDone l { d with crcBad := bad } (crcChecked l bad (receiveBlock l blk s).2)) := by
  simp [execLineEndRx, up, Block.isType, hdr, typ, line, crcChecked, camReport, satInc_eq_min, -Fin.getElem_fin]

theorem sameLine_eq_false {d e : LaneLine} (h : e.number ≠ d.number ∨ e.stream ≠ d.stream) : sameLine d e = false := by
  rw [sameLine_comm, Bool.and_eq_false_iff, beq_eq_false_iff_ne, beq_eq_false_iff_ne]; exact h

theorem sameLine_eq_true {d e : LaneLine} (number : e.number = d.number) (stream : e.stream = d.stream) : sameLine d e = true := by
  rw [sameLine_comm, number, stream]; simp

theorem lineEnds : Sys2Proof.LineEnds := by
  intro l blk s d up b u bad p w o closed hdr typ line
  let e : LaneLine := { d with crcBad := bad }
  have ends : exec (.lineEndRx l blk) s = .next (partDone l e w) := execLineEndRx_ends up hdr typ line
  have port : w.cam.port = u.cam.port := crcChecked_port l bad u
  have done : ∀ k : Fin 24, (w.cam.lane[k]).done = (u.cam.lane[k]).done := fun k => crcChecked_done l k bad u
  have owner : laneOwner w l = p := laneOwner_congr port l
  have dual : dualLane w (laneOwner w l) = dualLane u p := by rw [owner]; exact dualLane_congr port p
  refine ⟨fun single => ?single, fun f rest two here own number stream => ?joined,
    fun older f rest two here others number stream => ?late, fun two others room => ?waits⟩
  case single => rw [ends, partDone_single (dual.trans single), owner]; rfl
  case joined =>
    have joins := partDone_joins (dual.trans two) (older := []) ((done o).trans here) (by simp) (sameLine_eq_true (d := e) number stream)
    have empty : ((lineClosed l w).cam.lane[l]).done = [] := by
      rw [lineClosed, setLane_lane_same]; exact (done l).trans own
    simp only [flushDone_empty empty, flushParts_nil] at joins
    rw [ends, joins]
    exact congrArg (fun p => Host.Outcome.next (deliverLine p _ _ _ _ _)) owner
  case late =>
    exact ends.trans (congrArg _ (partDone_joins (dual.trans two) ((done o).trans here)
      (fun x hx => sameLine_eq_false (d := e) (others x hx)) (sameLine_eq_true (d := e) number stream)))
  case waits =>
    exact ends.trans (congrArg _ (partDone_waits (dual.trans two) (fun x hx => sameLine_eq_false (d := e) (others x (by rwa [← done])))
      (by rwa [done])))

/-- Settles O13: LINE_START and CTRL fragments by their rows, LINE_END by what becomes of the finished part of a line. -/
theorem lineFraming : Obligations.LineFraming := ⟨lineStartsAndFragments, lineEnds⟩

end Sys2Proof.Machine
end

section
/-! The rows of the control messages of a camera (02 R41, R43, R46; 03 R84). -/

namespace Sys2Proof.Machine

/-! ### Control messages as their rows take them (02 R43) -/

/-- The state in which a row has taken a message from the inbox of a lane. -/
def msgTaken (l : Fin 24) (m : CtrlMsg) (s : State) : State := s.setLane l fun c => { c with inbox := c.inbox.erase m }

@[simp] theorem msgTaken_port (l : Fin 24) (m : CtrlMsg) (s : State) : (msgTaken l m s).cam.port = s.cam.port := rfl

theorem msgTaken_lane (l : Fin 24) (m : CtrlMsg) (s : State) :
    (msgTaken l m s).cam.lane[l] = { s.cam.lane[l] with inbox := (s.cam.lane[l]).inbox.erase m } := setLane_lane_same ..

/-- Precoding as the request for a mode asks for it. -/
def precodeAsked (p : Fin 12) (mode : Nat) (s : State) : Bool :=
  mode == 3 && (match (s.cam.port[p]).config with | some c => asksPrecode c | none => false)

theorem precodeAsked_pam4 {p : Fin 12} {u : State} {c : PortConfig} (config : (u.cam.port[p]).config = some c) :
    precodeAsked p 3 u = (c.precode != 0) := by
  simp [precodeAsked, config, asksPrecode, -Fin.getElem_fin]

section Messages

variable {l : Fin 24} {s : State} {m : CtrlMsg} (first : (s.cam.lane[l]).inbox.find? (·.typ == m.typ) = some m)
include first

theorem onMsg_takes {typ : Nat} (h : m.typ = typ) (f : List Nat → State → State) : onMsg l typ s f = .next (f m.body (msgTaken l m s)) := by
  subst h
  simp [onMsg, takeMsg, first, msgTaken, -Fin.getElem_fin]

theorem execPlHelloRx_takes (h : m.typ = 0x01) :
    execPlHelloRx l s = .next ((msgTaken l m s).setLane l fun c => { c with helloSeen := true }) := onMsg_takes first h _

theorem execKeepaliveRx_takes (h : m.typ = 0x0E) : execKeepaliveRx l s = .next (msgTaken l m s) := onMsg_takes first h _

theorem execSettingsAppliedRx_takes (h : m.typ = 0x0B) : execSettingsAppliedRx l s =
    .next ((msgTaken l m s).setPort (laneOwner s l) fun y => { y with applyLatency := (m.body[2]?).getD 0 % 8 }) := onMsg_takes first h _

theorem execCheckResultRx_takes (h : m.typ = 0x06) : execCheckResultRx l s =
    .next ((msgTaken l m s).setLane l fun c => { c with cameraBad := leAt (m.body.map (BitVec.ofNat 8)) 0 4 }) := onMsg_takes first h _

theorem execCtrlAckRx_takes (h : m.typ = 0x0F) : execCtrlAckRx l s = .next ((msgTaken l m s).setPort (laneOwner s l) fun y =>
    { y with outstanding := y.outstanding.filter fun o => o.msg.seq != m.seq }) := by
  rw [h] at first
  simp [execCtrlAckRx, takeMsg, first, msgTaken, -Fin.getElem_fin]

/-! ### RATE_ACK and RATE_NAK (02 R41, Table 2.4) -/

/-- A lane takes a mode: its line in flight ends, and it looks for block lock again. -/
def modeTaken (l : Fin 24) (n : Nat) (s : State) : State :=
  (cutLine l s).setLane l fun c => { c with mode := n, lock := false, lastP := 0 }

/-- RATE_ACK of the mode that the step asks for. -/
theorem execRateAckRx_reached (h : m.typ = 0x04) (step : (s.cam.lane[l]).state = .step10g ∧ (m.body[0]?).getD 0 = 2
      ∨ (s.cam.lane[l]).state = .stepPam4 ∧ (m.body[0]?).getD 0 = 3) :
    execRateAckRx l s = .next (modeTaken l ((m.body[0]?).getD 0) (msgTaken l m s)) := by
  rw [execRateAckRx, onMsg_takes first h]
  rcases step with ⟨st, mode⟩ | ⟨st, mode⟩
  · simp [msgTaken_lane, st, mode, modeTaken, -Fin.getElem_fin]
  · simp [msgTaken_lane, st, mode, modeTaken, -Fin.getElem_fin]

/-- RATE_ACK of the mode below: the step starts again. -/
theorem execRateAckRx_back (h : m.typ = 0x04) {mode : Nat} (step : (s.cam.lane[l]).state = .step10g ∧ mode = 2
      ∨ (s.cam.lane[l]).state = .stepPam4 ∧ mode = 3) (lower : (m.body[0]?).getD 0 = mode - 1) :
    let u := modeTaken l (mode - 1) (msgTaken l m s)
    execRateAckRx l s = .next (rateReq (laneOwner s l) l mode (precodeAsked (laneOwner s l) mode u) u) := by
  rw [execRateAckRx, onMsg_takes first h]
  rcases step with ⟨st, rfl⟩ | ⟨st, rfl⟩
  · simp [msgTaken_lane, st, lower, -Fin.getElem_fin] <;> rfl
  · simp [msgTaken_lane, st, lower, -Fin.getElem_fin] <;> rfl

/-- A refusal of precoding under PREFERRED repeats the request without it; under ON it fails the step. -/
theorem execRateNakRx_precoding (h : m.typ = 0x05) (st : (s.cam.lane[l]).state = .stepPam4) {c : PortConfig}
    (config : (s.cam.port[laneOwner s l]).config = some c) (pre : (s.cam.lane[l]).precode = true) (reason : m.body.head? = some 2) :
    execRateNakRx l s = .next (if c.precode = 1 then rateReq (laneOwner s l) l 3 false (msgTaken l m s)
      else stepFailed (laneOwner s l) l (msgTaken l m s)) := by
  have owner : laneOwner (msgTaken l m s) l = laneOwner s l := rfl
  rw [List.head?_eq_getElem?] at reason
  rw [execRateNakRx, onMsg_takes first h]
  simp [msgTaken_lane, owner, st, config, pre, reason, -Fin.getElem_fin]

theorem execRateNakRx_fails (h : m.typ = 0x05) (st : (s.cam.lane[l]).state = .step10g) (reason : m.body.head? ≠ some 2) :
    execRateNakRx l s = .next (stepFailed (laneOwner s l) l (msgTaken l m s)) := by
  have owner : laneOwner (msgTaken l m s) l = laneOwner s l := rfl
  rw [List.head?_eq_getElem?] at reason
  rw [execRateNakRx, onMsg_takes first h]
  simp [msgTaken_lane, owner, st, reason, -Fin.getElem_fin]

/-! ### CAPS and REG_RESP (02 R46; 17 Table 17.7) -/

/-- CAPS at bring-up: the target mode is the lower of the port's and the camera's, and the lane goes on. -/
theorem execCapsRx_takes (h : m.typ = 0x02) (st : (s.cam.lane[l]).state = .hello) {c : PortConfig}
    (config : (s.cam.port[laneOwner s l]).config = some c) (idle : portRuns s (laneOwner s l) = false)
    (free : (s.cam.port[laneOwner s l]).rateLimited = false) :
    execCapsRx l s = .next (nextStep (laneOwner s l) l (((msgTaken l m s).setPort (laneOwner s l) fun y =>
      { y with caps := some (parseCaps m.body), applyLatency := (m.body[8]?).getD 0 % 8
               target := max 1 (min c.maxMode ((m.body[0]?).getD 0)) }).setLane l fun c => { c with state := .negotiate })) := by
  have owner : laneOwner (msgTaken l m s) l = laneOwner s l := rfl
  have idle' : portRuns (msgTaken l m s) (laneOwner s l) = false := idle
  rw [execCapsRx, onMsg_takes first h]
  simp only [msgTaken_lane, msgTaken_port, owner, st, config, free, idle']
  rfl

/-- A response answers the access under way with its status and as many bytes as a read asked for. -/
theorem execRegRespRx_takes (h : m.typ = 0x09) {a : RegAccess} (access : (s.cam.port[laneOwner s l]).regAccess = some a) :
    execRegRespRx l s = .next (answerLater a .ok
        (bytesOf 2 ((m.body[0]?).getD 0 % 256 + 256 * ((m.body[1]?).getD 0 % 256)) ++ zeros 2
          ++ fit (if byteAt a.req.payload 1 = 0 then 4 * byteAt a.req.payload 2 else 0) ((m.body.map (BitVec.ofNat 8)).drop 2))
        ((msgTaken l m s).setPort (laneOwner s l) fun y => { y with regAccess := none })) := by
  have byte : ∀ i, byteAt (m.body.map (BitVec.ofNat 8)) i = (m.body[i]?).getD 0 % 256 := fun i => by
    cases e : m.body[i]? <;> simp [byteAt, e]
  have owner : laneOwner (msgTaken l m s) l = laneOwner s l := rfl
  rw [execRegRespRx, onMsg_takes first h]
  simp [regAnswer, regDone, owner, access, le16, leAt, byte, -Fin.getElem_fin]

end Messages

/-- Settles O14: each row takes its message from the inbox and does what its own lemma says. -/
theorem controlMessages : Obligations.ControlMessages := by
  intro l s m first
  refine ⟨execPlHelloRx_takes first, execKeepaliveRx_takes first, execSettingsAppliedRx_takes first, execCheckResultRx_takes first,
    execRateAckRx_reached first, fun h st mode => ?back10g, fun c h st mode config => ?backPam4,
    fun c h st config pre reason => execRateNakRx_precoding first h st config pre reason, execRateNakRx_fails first,
    fun c h st config idle free => execCapsRx_takes first h st config idle free, fun a h access => execRegRespRx_takes first h access,
    execCtrlAckRx_takes first⟩
  case back10g => exact execRateAckRx_back first h (mode := 2) (.inl ⟨st, rfl⟩) mode
  case backPam4 =>
    have asked := precodeAsked_pam4 (p := laneOwner s l) (u := modeTaken l 2 (msgTaken l m s)) config
    exact (execRateAckRx_back first h (mode := 3) (.inr ⟨st, rfl⟩) mode).trans (by rw [asked]; rfl)

end Sys2Proof.Machine
end

section
/-! Bring-up, the downlink and the timers of the control channel (02 R35, R42, R43, R45 to R47, R50). -/

namespace Sys2Proof.Machine

/-! ### Steps of bring-up (02 R46, R47, Table 2.4) -/

theorem cutLine_idle {l : Fin 24} {s : State} (h : (s.cam.lane[l]).line = none) : cutLine l s = s := by
  rw [cutLine, h]

/-- A lane has block lock: its line in flight has ended. -/
def lockSeen (l : Fin 24) (fom : Fin 256) (s : State) : State := (cutLine l s).setLane l fun c =>
  { c with lock := true, signal := true, eqFom := if c.mode ∈ [2, 3, 9, 10] then fom.val else 0 }

theorem lockSeen_state (l : Fin 24) (fom : Fin 256) (s : State) :
    ((lockSeen l fom s).cam.lane[l]).state = ((cutLine l s).cam.lane[l]).state := by rw [lockSeen, setLane_lane_same]

/-- The lane with its block lock, as the row writes it. -/
theorem lockSeen_eq (l : Fin 24) (fom : Fin 256) (s : State) : ((cutLine l s).setLane l fun c =>
    { c with lock := true, signal := true, eqFom := if [2, 3, 9, 10].contains c.mode then fom.val else 0 }) = lockSeen l fom s := by
  simp only [lockSeen, List.contains_iff_mem]

section BlockLock

variable {l : Fin 24} {fom : Fin 256} {s : State} (up : laneUp s l = true)
include up

/-- Block lock in SEARCH: the lane sends HELLO with a protocol version of two bytes. -/
theorem execBlockLock_search (st : ((cutLine l s).cam.lane[l]).state = .search) : ∃ body : List Nat, body.length = 2
    ∧ execBlockLock l fom s =
      .next (sendCtrl (laneOwner s l) (l.val % 2) 0x01 body ((lockSeen l fom s).setLane l fun c => { c with state := .hello })) := by
  rw [← lockSeen_state l fom] at st
  refine ⟨msgBytes 2 (Config.freeNat freeHello 0 % 65536), by simp [msgBytes], ?_⟩
  simp only [execBlockLock, up, lockSeen_eq, st, Bool.not_true, Bool.false_eq_true, if_false]

/-- Block lock in a rate step starts its check window. -/
theorem execBlockLock_step (st : ((cutLine l s).cam.lane[l]).state = .step10g ∨ ((cutLine l s).cam.lane[l]).state = .stepPam4) :
    execBlockLock l fom s =
      .next ((lockSeen l fom s).setLane l fun c => { c with checking := true, checkBad := 0, cameraBad := 0 }) := by
  rw [← lockSeen_state l fom] at st
  rcases st with st | st
  · simp only [execBlockLock, up, lockSeen_eq, st, Bool.not_true, Bool.false_eq_true, if_false]
  · simp only [execBlockLock, up, lockSeen_eq, st, Bool.not_true, Bool.false_eq_true, if_false]

end BlockLock

section Steps

variable {l : Fin 24} {s : State}

theorem execCheckWindowEnd_running (h : (s.cam.lane[l]).checking = true) : execCheckWindowEnd l s =
    let u := sendCtrl (laneOwner s l) (l.val % 2) 0x06 (msgBytes 4 (s.cam.lane[l]).checkBad) (s.setLane l fun c => { c with checking := false })
    .next (if (s.cam.lane[l]).checkBad = 0 ∧ (s.cam.lane[l]).cameraBad = 0 then nextStep (laneOwner s l) l u
      else stepFailed (laneOwner s l) l u) := by
  simp only [execCheckWindowEnd, h, Bool.not_true, Bool.false_eq_true, if_false]

theorem execBringupStepTimeout_restarts (h : (s.cam.lane[l]).state = .search ∨ (s.cam.lane[l]).state = .hello
    ∨ (s.cam.lane[l]).state = .negotiate) : execBringupStepTimeout l s = .next (startLane false l s) := by
  rcases h with h | h | h <;> simp only [execBringupStepTimeout, h]

theorem execBringupStepTimeout_fails (h : (s.cam.lane[l]).state = .step10g ∨ (s.cam.lane[l]).state = .stepPam4) :
    execBringupStepTimeout l s = .next (stepFailed (laneOwner s l) l s) := by
  rcases h with h | h <;> simp only [execBringupStepTimeout, h]

/-- A failed step with an attempt left asks for the mode below. -/
theorem stepFailed_repeats (p : Fin 12) (few : (s.cam.lane[l]).attempts + 1 < 3) : stepFailed p l s =
    let low := if (s.cam.lane[l]).state = .stepPam4 then 2 else 1
    rateReq p l low false (s.setLane l fun c => { c with mode := low, attempts := c.attempts + 1, lock := false }) := by
  simp only [stepFailed, few, if_true]

end Steps

theorem bringUp : Sys2Proof.BringUp := by
  intro l s
  refine ⟨cutLine_idle, fun fom => execBlockLock_search, fun fom => execBlockLock_step, execCheckWindowEnd_running, fun u => rfl,
    execBringupStepTimeout_restarts, execBringupStepTimeout_fails, fun st few => ?tenG, fun st few => ?pam4⟩
  case tenG => rw [stepFailed_repeats _ few]; simp only [st]; rfl
  case pam4 => rw [stepFailed_repeats _ few]; simp only [st]; rfl

/-! ### A control message on its way (02 R43) -/

section SendCtrl

variable (p : Fin 12) (k typ : Nat) (body : List Nat) (s : State)

theorem sendCtrl_frame : SameBut [.cam] s (sendCtrl p k typ body s) := by simp [SameBut, sendCtrl, queueCtrl]

theorem sendCtrl_ports : OthersSame s.cam.port (sendCtrl p k typ body s).cam.port p := upd_others _ _ _

theorem sendCtrl_lanes : OthersSame s.cam.lane (sendCtrl p k typ body s).cam.lane (laneIx p k) := upd_others _ _ _

theorem sendCtrl_lane : (sendCtrl p k typ body s).cam.lane[laneIx p k] = { s.cam.lane[laneIx p k] with
    txCtrl := (s.cam.lane[laneIx p k]).txCtrl ++ ctrlBlocks typ (s.cam.port[p]).nextSeq body } := upd_same _ _ _

theorem sendCtrl_port : (sendCtrl p k typ body s).cam.port[p] = { s.cam.port[p] with
    nextSeq := ((s.cam.port[p]).nextSeq + 1) % 256
    outstanding := (s.cam.port[p]).outstanding ++ [{ lane := k, msg := { typ := typ, seq := (s.cam.port[p]).nextSeq, body := body } }] } :=
  upd_same _ _ _

end SendCtrl

/-! ### The fragments of a message (02 R43) -/

theorem byteAt_append_zeros (bs : List Byte) (n i : Nat) : byteAt (bs ++ zeros n) i = byteAt bs i := by
  unfold byteAt zeros
  rcases Nat.lt_or_ge i bs.length with h | h
  · rw [List.getElem?_append_left h]
  · rw [List.getElem?_append_right h, List.getElem?_eq_none h, List.getElem?_replicate]
    split <;> rfl

theorem byteAt_drop (bs : List Byte) (a i : Nat) : byteAt (bs.drop a) i = byteAt bs (a + i) := by
  rw [byteAt, List.getElem?_drop, byteAt]

theorem byteAt_fit {n i : Nat} (bs : List Byte) (h : i < n) : byteAt (fit n bs) i = byteAt bs i := by
  rw [← byteAt_append_zeros bs n, fit, byteAt, List.getElem?_take_of_lt h, byteAt]

theorem leAt_congr {as bs : List Byte} {i j : Nat} (n : Nat) (h : ∀ k < n, byteAt as (i + k) = byteAt bs (j + k)) :
    leAt as i n = leAt bs j n := by
  induction n generalizing i j with
  | zero => rfl
  | succ n ih =>
    have first : byteAt as i = byteAt bs j := h 0 (by omega)
    rw [leAt, leAt, first, ih (j := j + 1) fun k hk => by simpa [Nat.add_assoc, Nat.add_comm 1] using h (k + 1) (by omega)]

theorem leAt_cons_succ (b : Byte) (bs : List Byte) (i n : Nat) : leAt (b :: bs) (i + 1) n = leAt bs i n :=
  leAt_congr n fun k _ => by rw [byteAt, byteAt, Nat.add_right_comm, List.getElem?_cons_succ]

theorem leAt_cons_zero (b : Byte) (bs : List Byte) (n : Nat) : leAt (b :: bs) 0 (n + 1) = b.toNat + 256 * leAt bs 0 n := by
  rw [leAt, leAt_cons_succ]; rfl

/-- The block of a fragment: its type, its index with the flags, and six bytes of the message. -/
theorem ctrlFragment_eq (m : List Byte) (n i : Nat) : ctrlFragment m n i = BitVec.ofNat 64
    (0x66 + 256 * (i % 16 + (if i = 0 then 16 else 0) + (if i + 1 = n then 32 else 0)) + 65536 * leAt (m ++ zeros 6) (6 * i) 6) := by
  have first : flagAt (i == 0) 4 = if i = 0 then 16 else 0 := by simp [flagAt]
  have last : flagAt (i + 1 == n) 5 = if i + 1 = n then 32 else 0 := by simp [flagAt]
  have six : leAt (fit 6 (m.drop (6 * i))) 0 6 = leAt (m ++ zeros 6) (6 * i) 6 :=
    leAt_congr 6 fun k hk => by rw [byteAt_fit _ (by omega), byteAt_drop, byteAt_append_zeros, Nat.zero_add]
  have flags : i % 16 + (if i = 0 then 16 else 0) + (if i + 1 = n then 32 else 0) < 256 := by split <;> split <;> omega
  rw [ctrlFragment, ctrlPayload, first, last]
  simp only [bytesOf, List.cons_append, List.nil_append]
  rw [leAt_cons_zero, leAt_cons_zero, six, BitVec.toNat_ofNat, BitVec.toNat_ofNat, Nat.mod_eq_of_lt flags]
  exact congrArg (BitVec.ofNat 64) (by omega)

theorem ctrlBlocks_spec (typ q : Nat) (body : List Nat) (i : Nat) :
    let whole := ctrlBytes typ q body
    let n := (whole.length + 5) / 6
    (ctrlBlocks typ q body).length = n ∧ (i < n → (ctrlBlocks typ q body)[i]? = some (BitVec.ofNat 64
      (0x66 + 256 * (i % 16 + (if i = 0 then 16 else 0) + (if i + 1 = n then 32 else 0)) + 65536 * leAt (whole ++ zeros 6) (6 * i) 6))) := by
  have count : ceilDiv (ctrlBytes typ q body).length 6 = ((ctrlBytes typ q body).length + 5) / 6 := rfl
  intro whole n
  refine ⟨by simp [ctrlBlocks, count, n, whole], fun h => ?_⟩
  rw [ctrlBlocks, List.getElem?_map, count, List.getElem?_range h, Option.map_some, ctrlFragment_eq]

/-! ### The downlink (02 R35, R42, R45, R50) -/

section Downlink

variable {l : Fin 24} {s : State} (st : (s.cam.lane[l]).state ≠ .down) (phirvo : isCxp s (laneOwner s l) = false)
include st phirvo

theorem downlinkTick_within (h : (s.cam.lane[l]).txBits + 5 < 66) :
    downlinkTick l s = s.setLane l fun c => { c with txBits := c.txBits + 5 } := by
  simp [downlinkTick, st, phirvo, h, -Fin.getElem_fin]

/-- At a block boundary the payload that is due leaves, scrambled behind a control header. -/
theorem downlinkTick_boundary (h : 66 ≤ (s.cam.lane[l]).txBits + 5) {payload : BitVec 64} {y : Lane}
    (due : txNext { s.cam.lane[l] with txBits := (s.cam.lane[l]).txBits + 5 - 66 } = (payload, y))
    (scr : y.txScr = (s.cam.lane[l]).txScr) :
    let u := scramble (s.cam.lane[l]).txScr payload
    downlinkTick l s = (s.setLane l fun _ => { y with txScr := u.2 }).emit (.block l.val (u.1.zeroExtend 66 <<< 2 ||| 2)) := by
  have sends : downlinkTick l s = sendBlock l (s.setLane l fun c => { c with txBits := c.txBits + 5 - 66 }) := by
    simp [downlinkTick, st, phirvo, Nat.not_lt.2 h, -Fin.getElem_fin]
  rw [sends]
  simp only [sendBlock, setLane_lane_same, due, scr, setLane_setLane]
  rfl

end Downlink

/-! ### The timers of the control channel (02 R42, R43) -/

theorem execKeepaliveTimer_running {p : Fin 12} {s : State} (runs : portRuns s p = true) (phirvo : isCxp s p = false) :
    execKeepaliveTimer p s = .next (sendCtrl p (s.cam.port[p]).primary 0x0E [] s) := by
  simp [execKeepaliveTimer, runs, phirvo]

section AckTimeout

variable {p : Fin 12} {s : State} {seq : Fin 256} {o : Outstanding}
  (waits : ((s.cam.port[p]).outstanding.find? fun o => o.msg.seq == seq.val) = some o)
include waits

/-- The message goes out again, and its repetition is counted. -/
theorem execCtrlAckTimeout_repeats (few : o.repeats < 3) : execCtrlAckTimeout p seq s =
    .next (queueCtrl (laneIx p o.lane) o.msg.typ o.msg.seq o.msg.body (s.setPort p fun x => { x with
      outstanding := x.outstanding.map fun y => if y = o then { y with repeats := y.repeats + 1 } else y })) := by
  simp only [execCtrlAckTimeout, waits, few, if_true]

theorem execCtrlAckTimeout_gives_up (spent : 3 ≤ o.repeats) : execCtrlAckTimeout p seq s =
    let u := s.setPort p fun x => { x with outstanding := x.outstanding.filter (· != o) }
    .next (if portRuns s p ∧ (s.cam.port[p]).primary = o.lane then portLoss p u else startLane false (laneIx p o.lane) u) := by
  simp [execCtrlAckTimeout, waits, Nat.not_lt.2 spent, portRuns, -Fin.getElem_fin]

end AckTimeout

theorem controlTimers : Sys2Proof.ControlTimers := by
  intro p s
  refine ⟨fun k typ body => ⟨_, rfl, sendCtrl_frame .., sendCtrl_ports p k typ body s, sendCtrl_lanes p k typ body s, sendCtrl_lane .., sendCtrl_port ..⟩,
    execKeepaliveTimer_running, fun typ q body i _ => ctrlBlocks_spec typ q body i, fun l st phirvo =>
      ⟨downlinkTick_within st phirvo, fun boundary => ⟨fun t r trig => ?trigger, fun none due => ?idle, fun b r none busy ctrl => ?fragment⟩⟩,
    fun seq o waits => ⟨fun few => ?repeats, execCtrlAckTimeout_gives_up waits⟩⟩
  case trigger => exact downlinkTick_boundary st phirvo boundary (by simp only [txNext, trig]) rfl
  case idle =>
    refine downlinkTick_boundary st phirvo boundary (payload := idlePayload) ?_ rfl
    rcases due with ctrl | long
    · simp only [txNext, none, ctrl, ite_self]
    · simp only [txNext, none, long, if_true]
  case fragment => exact downlinkTick_boundary st phirvo boundary (by simp only [txNext, none, Nat.not_le.2 busy, ctrl, if_false]) rfl
  case repeats =>
    refine ⟨_, execCtrlAckTimeout_repeats waits few, by simp [SameBut, queueCtrl], upd_others _ _ _, upd_others _ _ _, upd_same _ _ _, ?_⟩
    have here : o ∈ (s.cam.port[p]).outstanding := List.mem_of_find?_eq_some waits
    simpa [queueCtrl, -Fin.getElem_fin] using ⟨o, here, by simp⟩

/-- Settles O15: the rows of bring-up, then the downlink with its messages and timers. -/
theorem bringUpAndTimers : Obligations.BringUpAndTimers := ⟨bringUp, controlTimers⟩

end Sys2Proof.Machine
end

section
/-! Starts and losses of ports and lanes (01 R12; 02 R44, R46, R48, R54, R57, R58, R60). -/

namespace Sys2Proof.Machine

/-! ### The settings of the ports, and what depends on them alone -/

/-- Every port has the same settings. -/
def SameConfigs (s t : State) : Prop := ∀ q : Fin 12, (t.cam.port[q]).config = (s.cam.port[q]).config

theorem setPort_sameConfigs (s : State) (p : Fin 12) {f : Port → Port} (h : ∀ x, (f x).config = x.config) :
    SameConfigs s (s.setPort p f) := fun q => by
  by_cases e : q = p
  · subst e; rw [State.setPort_cam, upd_same, h]
  · rw [State.setPort_cam]; exact congrArg Port.config (upd_other _ _ e)

section SameConfigs

variable {s t : State} (h : SameConfigs s t)
include h

theorem SameConfigs.trans {u : State} (k : SameConfigs t u) : SameConfigs s u := fun q => (k q).trans (h q)

theorem SameConfigs.pairTaken (p : Fin 12) : pairTaken t p = pairTaken s p := by
  unfold Machine.pairTaken; rw [h]

theorem SameConfigs.pairIdle (p : Fin 12) : pairIdle t p = pairIdle s p := by
  unfold Machine.pairIdle; rw [h.pairTaken]

theorem SameConfigs.portLanes (p : Fin 12) : portLanes t p = portLanes s p := by
  unfold Machine.portLanes; rw [h, h.pairIdle]

end SameConfigs

theorem portLanes_nodup (s : State) (p : Fin 12) : (portLanes s p).Nodup := by
  unfold portLanes
  split
  · exact List.nodup_nil
  · split
    · exact List.nodup_nil
    · exact (List.nodup_finRange 24).filter _

theorem mem_portLanes {s : State} {p : Fin 12} {c : PortConfig} (config : (s.cam.port[p]).config = some c) (active : pairIdle s p = false)
    (l : Fin 24) : l ∈ portLanes s p ↔ 2 * p.val ≤ l.val ∧ l.val < 2 * p.val + c.lanes := by
  simp [portLanes, config, active, -Fin.getElem_fin]

/-! ### The start of bring-up (02 R46, R54; 01 R12) -/

/-- The lanes that a start changes, and of the ports the messages that await an ACK. -/
theorem startLane_cam (cxp : Bool) (l : Fin 24) (s : State) :
    (startLane cxp l s).cam.lane = upd s.cam.lane l (laneClear (if cxp then .cxpDiscovery else .search) (if cxp then 4 else 1) 16)
      ∧ ∀ q : Fin 12, ∃ m, (startLane cxp l s).cam.port[q] = { s.cam.port[q] with outstanding := m } := by
  refine ⟨rfl, fun q => ?_⟩
  by_cases e : q = laneOwner s l
  · exact ⟨(s.cam.port[q]).outstanding.filter fun o => o.lane != l.val % 2, by subst e; exact upd_same _ _ _⟩
  · exact ⟨(s.cam.port[q]).outstanding, upd_other _ _ e⟩

/-- The state in which the lanes of a port that starts are started. -/
def portCleared (p : Fin 12) (c : PortConfig) (s : State) : State :=
  (s.setPort p (portClear (if c.cxp then .cxpDiscovery else .search))).setPort p fun x => { x with paired := c.cxp && c.lanes == 4 }

theorem portCleared_sameConfigs (p : Fin 12) (c : PortConfig) (s : State) : SameConfigs s (portCleared p c s) :=
  (setPort_sameConfigs s p fun _ => by rfl).trans (setPort_sameConfigs _ p fun _ => by rfl)

theorem portStart_idle {p : Fin 12} {s : State} (h : pairIdle s p = true) : portStart p s = s := by
  unfold portStart
  split
  · rfl
  · rw [h, Bool.or_true]; rfl

section PortStart

variable {p : Fin 12} {c : PortConfig} {s : State} (config : (s.cam.port[p]).config = some c) (powered : lanesPowered s = true)
  (active : pairIdle s p = false)
include config powered active

theorem portStart_cam : (portStart p s).cam = (forEach (portLanes s p) (startLane c.cxp) (portCleared p c s)).cam := by
  have lanes : portLanes (portCleared p c s) p = portLanes s p := (portCleared_sameConfigs p c s).portLanes p
  rw [← lanes]
  unfold portStart
  rw [config]
  dsimp only
  rw [if_neg (by simp [powered, active])]
  let started := forEach (portLanes (portCleared p c s) p) (startLane c.cxp) (portCleared p c s)
  show (if c.cxp = true then started.emit (.cxpDiscovery p.val) else started).cam = started.cam
  split <;> rfl

theorem portStart_port : ∃ m, (portStart p s).cam.port[p] = { (portCleared p c s).cam.port[p] with outstanding := m } := by
  rw [portStart_cam config powered active]
  refine forEach_keeps (fun t : State => ∃ m, t.cam.port[p] = { (portCleared p c s).cam.port[p] with outstanding := m }) _ _
    (fun l _ t ht => ?_) _ ⟨_, rfl⟩
  obtain ⟨m, ht⟩ := ht
  obtain ⟨n, step⟩ := (startLane_cam c.cxp l t).2 p
  exact ⟨n, by rw [step, ht]⟩

theorem portStart_lane {l : Fin 24} (lo : 2 * p.val ≤ l.val) (hi : l.val < 2 * p.val + c.lanes) : (portStart p s).cam.lane[l] =
    laneClear (if c.cxp then .cxpDiscovery else .search) (if c.cxp then 4 else 1) 16 s.cam.lane[l] := by
  rw [portStart_cam config powered active]
  exact forEach_upd (bank := fun t => t.cam.lane) (fun k t => (startLane_cam c.cxp k t).1) (portLanes_nodup s p)
    ((mem_portLanes config active l).2 ⟨lo, hi⟩) (portCleared p c s)

end PortStart

/-! ### Port loss (02 R44, R57, R60) -/

theorem portRuns_not_down {s : State} {p : Fin 12} (h : portRuns s p = true) : (s.cam.port[p]).link ≠ .down := by
  intro e; simp [portRuns, e, -Fin.getElem_fin] at h

/-- An ENABLED port that is lost: its lines in flight end, it is reported, its bolts end, and it starts again. -/
theorem portLoss_enabled {p : Fin 12} {s : State} (link : (s.cam.port[p]).link ≠ .down) (unit : (s.cam.port[p]).unit = .enabled) :
    portLoss p s = portStart p ((endBolts p ((forEach (portLanes s p) cutLine s).report
      { group := 0, cls := .squall, inst := p.val, cause := 4 })).setPipe p fun x => { x with waitFrame := false }) := by
  simp [portLoss, link, unit, camReport, -Fin.getElem_fin]

/-! ### Lane loss (02 R57, R58) -/

theorem msgBytes_one {n : Nat} (h : n < 256) : msgBytes 1 n = [n] := by simp [msgBytes, bytesOf, Nat.mod_eq_of_lt h]

/-- A port of two lanes that lost one, before LANE_DOWN goes out. -/
def degradedPort (p : Fin 12) (l : Fin 24) (s : State) : State :=
  let t := startLane false l (flushDone (otherLane l) (flushDone l (cutLine (otherLane l) (cutLine l s))))
  (chainRestart p ((markDegraded p t).setPort p fun x => { x with link := .runDegraded, primary := 1 - l.val % 2 })).report
    { group := 0, cls := .squall, inst := p.val, cause := 3 }

theorem degrade_eq (p : Fin 12) (l : Fin 24) (s : State) :
    degrade p l s = sendCtrl p (1 - l.val % 2) 0x0C [l.val % 2] (degradedPort p l s) := by
  rw [← msgBytes_one (show l.val % 2 < 256 by omega)]; rfl

theorem degradedPort_port (p : Fin 12) (l : Fin 24) (s : State) : ((degradedPort p l s).cam.port[p]).link = .runDegraded
    ∧ ((degradedPort p l s).cam.port[p]).degraded = true ∧ ((degradedPort p l s).cam.port[p]).primary = 1 - l.val % 2 := by
  simp [degradedPort, chainRestart, markDegraded, -Fin.getElem_fin]

theorem degradedPort_lane (p : Fin 12) (l : Fin 24) (s : State) : ((degradedPort p l s).cam.lane[l]).state = .search :=
  congrArg Lane.state (upd_same _ _ _)

section LaneLoss

variable {l : Fin 24} {s : State} (up : laneUp s l = true)
include up

theorem laneUp_phirvo : isCxp s (laneOwner s l) = false := by
  simp [laneUp] at up; exact up.2

theorem execLaneLoss_dual (dual : dualLane s (laneOwner s l) = true) : execLaneLoss l s = .next (degrade (laneOwner s l) l s) := by
  simp [execLaneLoss, up, laneUp_phirvo up, dual]

theorem execLaneLoss_last (single : dualLane s (laneOwner s l) = false) (runs : portRuns s (laneOwner s l) = true)
    (primary : (s.cam.port[laneOwner s l]).primary = l.val % 2) : execLaneLoss l s = .next (portLoss (laneOwner s l) s) := by
  simp [execLaneLoss, up, laneUp_phirvo up, single, runs, primary, -Fin.getElem_fin]

theorem execLaneLoss_restarts (single : dualLane s (laneOwner s l) = false)
    (other : portRuns s (laneOwner s l) = false ∨ (s.cam.port[laneOwner s l]).primary ≠ l.val % 2) :
    execLaneLoss l s = .next (setPrimary (laneOwner s l) (startLane false l s)) := by
  rcases other with h | h
  · simp [execLaneLoss, up, laneUp_phirvo up, single, h]
  · simp [execLaneLoss, up, laneUp_phirvo up, single, h, -Fin.getElem_fin]

end LaneLoss

theorem linkLoss : Sys2Proof.LinkLoss := by
  intro p s
  refine ⟨fun link unit => congrArg _ (portLoss_enabled link unit), fun runs phirvo unit => ?silence,
    fun c config powered active => ?start, portStart_idle, fun l up owner single => ?single, fun l up owner dual => ?dual⟩
  case silence =>
    have silent : exec (.primarySilenceTimeout p) s = .next (portLoss p s) := congrArg _ (if_pos ⟨runs, by simp [phirvo]⟩)
    exact silent.trans (congrArg _ (portLoss_enabled (portRuns_not_down runs) unit))
  case start =>
    obtain ⟨m, port⟩ := portStart_port config powered active
    have cleared : (portCleared p c s).cam.port[p]
        = { portClear (if c.cxp then .cxpDiscovery else .search) s.cam.port[p] with paired := c.cxp && c.lanes == 4 } := by
      simp [portCleared, -Fin.getElem_fin]
    rw [port, cleared]
    refine ⟨rfl, rfl, rfl, fun l lo hi => ?_⟩
    rw [portStart_lane config powered active lo hi]
    exact ⟨rfl, rfl, rfl⟩
  case single => subst owner; exact ⟨execLaneLoss_last up single, execLaneLoss_restarts up single⟩
  case dual =>
    subst owner
    obtain ⟨link, degraded, primary⟩ := degradedPort_port (laneOwner s l) l s
    exact ⟨degradedPort (laneOwner s l) l s, (execLaneLoss_dual up dual).trans (congrArg _ (degrade_eq ..)), link, degraded, primary,
      degradedPort_lane .., List.mem_append_right _ List.mem_cons_self⟩

/-! ### The degraded start (02 R48) -/

theorem execLaneHelloWaitExpiry_degraded {p : Fin 12} {l : Fin 24} {s : State} (one : lanesInRun s p = [l]) (idle : portRuns s p = false)
    (phirvo : isCxp s p = false) (two : (portLanes s p).length = 2) (other : (s.cam.lane[otherLane l]).state = .search) :
    execLaneHelloWaitExpiry p s =
      .next (portRun p .runDegraded ((takeMode p l (markDegraded p s)).setPort p fun x => { x with primary := l.val % 2 })) := by
  simp [execLaneHelloWaitExpiry, one, idle, phirvo, two, other, -Fin.getElem_fin]

theorem degradedStart : Sys2Proof.DegradedStart := by
  intro p l s one idle phirvo two other
  refine ⟨_, execLaneHelloWaitExpiry_degraded one idle phirvo two other, ?frame, ?ports, rfl, ?port⟩
  case frame => simp [SameBut, portRun, chainRestart, takeMode, markDegraded]
  case ports =>
    simp only [portRun, chainRestart, takeMode, markDegraded, State.setBin_cam, State.setPort_cam, State.setPipe_cam, upd_upd]
    exact upd_others _ _ _
  case port => simp [portRun, chainRestart, takeMode, markDegraded, -Fin.getElem_fin]

/-- Settles O16: losses by what a port's start and a lane's loss make of ports and lanes, and the degraded start by its row. -/
theorem linkLossAndDegradedStart : Obligations.LinkLossAndDegradedStart := ⟨linkLoss, degradedStart⟩

end Sys2Proof.Machine
end

section
/-! CoaXPress ports (02 R52 to R54, R59). -/

namespace Sys2Proof.Machine

/-! ### Discovery and control (02 R52, R54, Table 2.6) -/

section Control

variable {p : Fin 12} {c : PortConfig} {s : State} (config : (s.cam.port[p]).config = some c)
include config

theorem execCxpControlResponse_found (link : (s.cam.port[p]).link = .cxpDiscovery) : execCxpControlResponse p .found s =
    .next (forEach [0x0000, 0x0004, 0x4018, 0x403C] (fun a => cxpSend p fun tag => .cxpRead p.val tag a 1)
      (s.setPort p fun y => { y with link := .cxpConfig, target := 0 })) := by
  simp only [execCxpControlResponse, config, cxpFound, link, bootstrapRegs]
  rfl

theorem execCxpControlResponse_bootstrap (speed n : Nat) (up tagged : Bool) (link : (s.cam.port[p]).link = .cxpConfig)
    (fresh : (s.cam.port[p]).target = 0) : execCxpControlResponse p (.bootstrap speed n up tagged) s =
      let m := max 4 (min c.maxMode speed)
      let k := connectionCount c.lanes n
      .next (writeConnections p m k (s.setPort p fun y =>
        { y with target := m, connections := k, cxpHighDeclared := up, cxpTagged := tagged })) := by
  simp only [execCxpControlResponse, config, cxpBootstrap, link, fresh]
  rfl

theorem execCxpControlResponse_configured (link : (s.cam.port[p]).link = .cxpConfig) (asked : (s.cam.port[p]).target ≠ 0) :
    execCxpControlResponse p .configured s = .next (cxpRun p c s) := by
  simp only [execCxpControlResponse, config, if_pos (And.intro link asked)]

variable (cxp : c.cxp = true)
include cxp

theorem isCxp_of_config : isCxp s p = true := by
  simp only [isCxp, config, cxp]

variable (runs : portRuns s p = true)
include runs

theorem execCxpControlResponse_access {a : RegAccess} (access : (s.cam.port[p]).regAccess = some a) (st : Nat) (d : List Byte) :
    execCxpControlResponse p (.access st d) s = .next (answerLater a .ok
      (bytesOf 2 st ++ zeros 2 ++ fit (if byteAt a.req.payload 1 = 0 then 4 * byteAt a.req.payload 2 else 0) d)
      (s.setPort p fun y => { y with regAccess := none })) := by
  simp [execCxpControlResponse, config, cxp, runs, regAnswer, regDone, access, -Fin.getElem_fin]

theorem execCxpControlResponse_heartbeat : execCxpControlResponse p .heartbeat s =
    .next (s.setPort p fun y => { y with cxpBeats := y.cxpBeats + 1 }) := by
  simp [execCxpControlResponse, config, cxp, runs, -Fin.getElem_fin]

theorem execCxpEventPacket_kept (data : List Byte) : execCxpEventPacket p data s =
    .next (s.setPort p fun y => { y with cxpEvents := y.cxpEvents + 1, cxpLastEvent := data.take 254 }) := by
  simp [execCxpEventPacket, isCxp_of_config config cxp, runs]

/-! ### Stream packets (02 R53) -/

section Stream

variable {conn : Fin 4} {l : Fin 24} (lane : (portLanes s p)[conn.val]? = some l)
include lane

theorem execCxpStreamPacket_unmapped {sid : Nat} (none : cxpStream c sid = none) (n : Nat) (px : List (List Nat)) :
    execCxpStreamPacket p conn (.line sid n px true) s =
      .next (s.setPort p fun y => { y with unmapped := min (y.unmapped + 1) (2 ^ 32 - 1) }) := by
  simp [execCxpStreamPacket, config, lane, cxp, runs, none, satInc_eq_min, -Fin.getElem_fin]

variable {sid : Nat} {k : Fin 4} (mapped : cxpStream c sid = some k)
include mapped

theorem execCxpStreamPacket_line (n : Nat) (px : List (List Nat)) (ok : Bool) :
    execCxpStreamPacket p conn (.line sid n px ok) s = .next (cxpLine p l k n px ok s) := by
  simp [execCxpStreamPacket, config, lane, cxp, runs, mapped, -Fin.getElem_fin]

theorem execCxpStreamPacket_imageHeader :
    execCxpStreamPacket p conn (.imageHeader sid) s = .next (streamFrameStart p k 0 0 s) := by
  simp [execCxpStreamPacket, config, lane, cxp, runs, mapped, -Fin.getElem_fin]

theorem execCxpStreamPacket_imageEnd : execCxpStreamPacket p conn (.imageEnd sid) s = .next (streamFrameEnd p k s) := by
  simp [execCxpStreamPacket, config, lane, cxp, runs, mapped, -Fin.getElem_fin]

end Stream

end Control

/-- A line packet is merged with its stamp; a CRC error is counted and reported first. -/
theorem cxpLine_eq (p : Fin 12) (l : Fin 24) (k : Fin 4) (n : Nat) (px : List (List Nat)) (ok : Bool) (s : State) :
    let blocks := packPixels (s.pipe[p]).depth px
    let u := if ok then s else (s.setLane l fun y => { y with crcErr := min (y.crcErr + 1) (2 ^ 32 - 1) }).report
      { group := 0, cls := .drizzle, inst := p.val, cause := 0 }
    cxpLine p l k n px ok s = deliverLine p
      { stream := k, number := n, announced := blocks.length, stamp := stampNow p s } blocks (!ok) false u := by
  simp only [cxpLine, satInc_eq_min]
  cases ok <;> rfl

/-! ### The connections run (02 R52, Table 2.6) -/

/-- The connections of a port in RUN at its target mode. -/
def connectionsUp (p : Fin 12) (s : State) : State :=
  forEach ((portLanes s p).take (s.cam.port[p]).connections) (fun l t => t.setLane l fun k =>
    { k with state := .run, mode := (s.cam.port[p]).target, lock := true, signal := true }) s

theorem connectionsUp_port (p : Fin 12) (s : State) : (connectionsUp p s).cam.port = s.cam.port :=
  forEach_same (fun t => t.cam.port) _ _ (fun _ _ _ => by rfl) s

theorem connectionsUp_frame (p : Fin 12) (s : State) : SameBut [.cam] s (connectionsUp p s) :=
  forEach_sameBut _ _ _ (fun _ _ t => by simp [SameBut]) s

theorem connectionsUp_lane {p : Fin 12} {s : State} {l : Fin 24} (h : l ∈ (portLanes s p).take (s.cam.port[p]).connections) :
    (connectionsUp p s).cam.lane[l] = { s.cam.lane[l] with state := .run, mode := (s.cam.port[p]).target, lock := true, signal := true } :=
  forEach_upd (bank := fun t : State => t.cam.lane) (g := fun _ k => { k with state := .run, mode := (s.cam.port[p]).target, lock := true, signal := true })
    (fun _ _ => rfl) ((portLanes_nodup s p).sublist (List.take_sublist _ _)) h s

/-- What a port takes over when its connections run. -/
def cxpReady (p : Fin 12) (c : PortConfig) (s : State) : State := (connectionsUp p s).setPort p fun x =>
  { x with mode := x.target, applyLatency := c.cxpLatency, cxpHighUp := x.cxpHighDeclared && decide (9 ≤ x.target) }

theorem cxpRun_eq (p : Fin 12) (c : PortConfig) (s : State) : cxpRun p c s =
    if (s.cam.port[p]).connections < c.lanes then portRun p .runDegraded (markDegraded p (cxpReady p c s))
    else portRun p .run (cxpReady p c s) := by
  show portRun p (if decide _ = true then _ else _) (if decide _ = true then markDegraded p (cxpReady p c s) else cxpReady p c s) = _
  by_cases h : (s.cam.port[p]).connections < c.lanes
  · simp only [h, decide_true, if_true]
  · simp only [h, decide_false, if_false, Bool.false_eq_true]

theorem markDegraded_frame (p : Fin 12) (s : State) : SameBut [.cam, .pipe] s (markDegraded p s) := by simp [SameBut, markDegraded]

theorem portRun_frame (p : Fin 12) (st : LinkState) (s : State) : SameBut [.cam, .pipe] s (portRun p st s) := by
  simp [SameBut, portRun, chainRestart]

theorem cxpReady_frame (p : Fin 12) (c : PortConfig) (s : State) : SameBut [.cam, .pipe] s (cxpReady p c s) :=
  sameBut_trans (sameBut_mono (connectionsUp_frame p s) (by simp)) (by simp [SameBut, cxpReady])

theorem cxpRun_frame (p : Fin 12) (c : PortConfig) (s : State) : SameBut [.cam, .pipe] s (cxpRun p c s) := by
  rw [cxpRun_eq]
  split
  · exact sameBut_trans (sameBut_trans (cxpReady_frame p c s) (markDegraded_frame p _)) (portRun_frame p _ _)
  · exact sameBut_trans (cxpReady_frame p c s) (portRun_frame p _ _)

theorem cxpRun_lanes (p : Fin 12) (c : PortConfig) (s : State) : (cxpRun p c s).cam.lane = (connectionsUp p s).cam.lane := by
  rw [cxpRun_eq]; split <;> rfl

theorem cxpRun_port (p : Fin 12) (c : PortConfig) (s : State) :
    let x := s.cam.port[p]
    let y := (cxpRun p c s).cam.port[p]
    y.link = (if x.connections < c.lanes then .runDegraded else .run) ∧ y.mode = x.target ∧ y.applyLatency = c.cxpLatency
      ∧ y.cxpHighUp = (x.cxpHighDeclared && decide (9 ≤ x.target)) := by
  simp only [cxpRun_eq]
  split
  · simp [portRun, chainRestart, markDegraded, cxpReady, connectionsUp_port, -Fin.getElem_fin]
  · simp [portRun, chainRestart, cxpReady, connectionsUp_port, -Fin.getElem_fin]

/-! ### Loss of a connection (02 R59) -/

/-- The port when a connection other than 0 is lost, before ConnectionConfig is written again. -/
def connectionDropped (p : Fin 12) (l : Fin 24) (s : State) : State :=
  chainRestart p ((markDegraded p (s.setLane l (laneClear .cxpDiscovery 4 16))).setPort p fun x =>
    { x with connections := (s.cam.port[p]).connections - 1, link := .runDegraded })

theorem connectionDropped_frame (p : Fin 12) (l : Fin 24) (s : State) : SameBut [.cam, .pipe] s (connectionDropped p l s) := by
  simp [SameBut, connectionDropped, chainRestart, markDegraded]

theorem connectionDropped_ports (p : Fin 12) (l : Fin 24) (s : State) : OthersSame s.cam.port (connectionDropped p l s).cam.port p := by
  simp only [connectionDropped, chainRestart, markDegraded, State.setBin_cam, State.setPort_cam, State.setPipe_cam, State.setLane_cam, upd_upd]
  exact upd_others _ _ _

theorem connectionDropped_port (p : Fin 12) (l : Fin 24) (s : State) : (connectionDropped p l s).cam.port[p] =
    { s.cam.port[p] with connections := (s.cam.port[p]).connections - 1, degraded := true, link := .runDegraded } := by
  simp [connectionDropped, chainRestart, markDegraded, -Fin.getElem_fin]

section ConnectionLoss

variable {p : Fin 12} {s : State} {k : Fin 4} {l : Fin 24} (lane : (portLanes s p)[k.val]? = some l) (cxp : isCxp s p = true)
  (runs : portRuns s p = true) (st : (s.cam.lane[l]).state = .run)
include lane cxp runs st

theorem execCxpConnectionLoss_zero (h : k = 0) : execCxpConnectionLoss p k s = .next (portLoss p s) := by
  simp only [execCxpConnectionLoss, lane, cxp, runs, st]
  simp [h]

theorem execCxpConnectionLoss_other (h : k ≠ 0) : execCxpConnectionLoss p k s =
    .next ((writeConnections p (s.cam.port[p]).mode ((s.cam.port[p]).connections - 1) (connectionDropped p l s)).report
      { group := 0, cls := .squall, inst := p.val, cause := 3 }) := by
  simp only [execCxpConnectionLoss, lane, cxp, runs, st]
  simp [h, connectionDropped, camReport, -Fin.getElem_fin]

end ConnectionLoss

/-- Settles O17, row by row; a connection that is lost leaves the port as `connectionDropped` says. -/
theorem coaXPress : Obligations.CoaXPress := by
  intro p c s config cxp
  have isC : isCxp s p = true := isCxp_of_config config cxp
  refine ⟨fun mk u => rfl, fun link => congrArg _ (if_pos link), execCxpControlResponse_found config,
    fun speed n up tagged => execCxpControlResponse_bootstrap config speed n up tagged, fun link asked => ?configured,
    fun a st d runs access => execCxpControlResponse_access config cxp runs access st d, execCxpControlResponse_heartbeat config cxp,
    fun data runs => execCxpEventPacket_kept config cxp runs data, fun conn l sid n px lane runs =>
      ⟨fun none => execCxpStreamPacket_unmapped config cxp runs lane none n px, fun k mapped => ⟨fun ok => ?line,
        execCxpStreamPacket_imageHeader config cxp runs lane mapped, execCxpStreamPacket_imageEnd config cxp runs lane mapped⟩⟩,
    fun k l lane runs st => ⟨execCxpConnectionLoss_zero lane isC runs st, fun other => ?loss⟩⟩
  case configured =>
    obtain ⟨link', mode, latency, high⟩ := cxpRun_port p c s
    refine ⟨_, execCxpControlResponse_configured config link asked, cxpRun_frame p c s, link', mode, latency, high, fun l hl => ?_⟩
    rw [cxpRun_lanes, connectionsUp_lane hl]
    exact ⟨rfl, rfl⟩
  case line => exact (execCxpStreamPacket_line config cxp runs lane mapped n px ok).trans (congrArg _ (cxpLine_eq ..))
  case loss =>
    exact ⟨connectionDropped p l s, execCxpConnectionLoss_other lane isC runs st other, connectionDropped_frame p l s,
      connectionDropped_ports p l s, upd_others _ _ _, connectionDropped_port p l s, congrArg Lane.state (upd_same _ _ _)⟩

end Sys2Proof.Machine
end

section
/-! The commands of camera ports and pipes (17 Table 17.7): a state in which the enable of one port changes another. -/

namespace Sys2Proof.Machine

/-- An operating device whose port 1 has settings of four lanes, which no CAM_PORT_CONFIG gives an odd port, and whose port 2 awaits
an ACK on its lane 0. -/
def oddPortOfFourLanes : State :=
  let four : PortConfig := { cxp := false, maxMode := 3, lanes := 4, precode := 0, split := false, streamMask := 1, cxpLatency := 0
                             cxpStreamId := Vector.replicate 4 0, chMask := Vector.replicate 4 15, startCol := Vector.replicate 4 0 }
  let awaits : Outstanding := { lane := 0, msg := { typ := 0x0E, seq := 0, body := [] } }
  let s := State.reset
  { s with
    mgmt := { s.mgmt with dev := .operational, step := 9, coldStart := false }
    mbx := { s.mbx with isOpen := true, sess := s.mbx.sess.set 2 { isOpen := true } }
    cam := { s.cam with port := (s.cam.port.set 1 { config := some four }).set 2 { outstanding := [awaits] } } }

/-- CAM_PORT_ENABLE of port 1 alone, by session 2. -/
def enablePort1 : Req := { opcode := 0x0201, session := 2, flags := 0, sequence := 1, payload := [2, 0] }

theorem enablePort1_taken : Taken 0x0201 0 enablePort1 oddPortOfFourLanes := by
  unfold Taken Served
  decide +kernel

theorem enablePort1_free (res : Nat) : Free oddPortOfFourLanes enablePort1 res := .inl rfl

/-- Port 1 starts lanes 2 to 5, and the start of lane 4 drops what port 2 awaits on it. -/
theorem enablePort1_drops_outstanding :
    ((serve cmdCamPortEnable enablePort1 oddPortOfFourLanes).cam.port[(2 : Fin 12)]).outstanding = [] := by
  decide +kernel

/-- Refutes O50: the statement is about any state and asks nothing of the settings that a port holds. With four lanes on the odd
port 1, which CAM_PORT_CONFIG refuses but the statement does not exclude, CAM_PORT_ENABLE of that port alone starts lanes of port 2 too:
the unmarked port 2 loses the message that awaits its ACK. -/
theorem not_cameraAndPipeCommands : ¬ Obligations.CameraAndPipeCommands := by
  unfold Obligations.CameraAndPipeCommands
  intro h
  obtain ⟨-, enables, -⟩ := h enablePort1 oddPortOfFourLanes
  obtain ⟨enable, -⟩ := enables rfl (by decide) (fun p _ => enablePort1_free _) (by decide +kernel)
  obtain ⟨t, pay, ht, -, -, ports⟩ := enable enablePort1_taken (by decide +kernel)
  obtain rfl : serve cmdCamPortEnable enablePort1 oddPortOfFourLanes = t := Host.Outcome.next.inj ht
  have same := ports 2
  rw [if_pos (by decide)] at same
  have := congrArg Port.outstanding same
  rw [enablePort1_drops_outstanding] at this
  exact absurd this (by decide +kernel)

end Sys2Proof.Machine
end

section
/-! Tare runs (05 R117 to R121, R128): how a closed window ends, what a write leaves of memory, and the runs that the INTERVAL
timer starts. -/

namespace Sys2Proof.Machine

/-! ### Bytes outside a range -/

theorem SameBut.pipe {l : List Part} {s t : State} (h : SameBut l s t) (hl : .pipe ∉ l) : t.pipe = s.pipe := by grind [SameBut]

theorem BytesSame.trans {s t u : State} {a n : Nat} (h : BytesSame s t a n) (k : BytesSame t u a n) : BytesSame s u a n :=
  fun b hb => (k b hb).trans (h b hb)

/-- A store inside a range leaves the bytes outside it alone. -/
theorem store_bytesSame {a n c : Nat} (s : State) (bs : List Byte) (lo : a ≤ c) (hi : c + bs.length ≤ a + n) :
    BytesSame s (s.store c bs) a n :=
  fun b hb => store_read_out s c bs b (by omega)

/-! ### The flags of the banks -/

theorem corrBank_lt (h : ShadowSet) : h.corrBank < 2 := bits_lt h.banks 0 0

/-- BANK_LOADED_CORR of the inactive bank takes the value. -/
theorem setInactiveLoaded_inactive (v : Bool) (x : Pipe) :
    (setInactiveLoaded v x).loadedCorr.toList[1 - x.active.corrBank]? = some v := by
  have := corrBank_lt x.active
  simp [setInactiveLoaded, show 1 - x.active.corrBank < 2 by omega]

/-- BANK_LOADED_CORR of the bank in use stays. -/
theorem setInactiveLoaded_active (v : Bool) (x : Pipe) :
    (setInactiveLoaded v x).loadedCorr.toList[x.active.corrBank]? = x.loadedCorr.toList[x.active.corrBank]? := by
  have := corrBank_lt x.active
  simp [setInactiveLoaded, show x.active.corrBank < 2 by omega, show x.active.corrBank ≠ 1 - x.active.corrBank by omega]

/-! ### The end of a run (05 R120) -/

/-- The Tare unit after its run has ended. -/
def endedTare (reason failMask : Nat) (t : TareUnit) : TareUnit :=
  { t with state := .idle, kind := 0, run := none, lastReason := reason, lastFailMask := failMask
           failCount := if reason = 0 then t.failCount else satInc 32 t.failCount, trigCount := 0 }

theorem endTare_pipe {p : Fin 12} {s : State} {r : TareRun} (reason failMask : Nat) (run : (s.pipe[p]).tare.run = some r) :
    (endTare p reason failMask s).pipe = (s.setTare p (endedTare reason failMask)).pipe := by
  simp only [endTare, run, State.fireVectorN_pipe, State.log_pipe]
  rfl

theorem endTare_frame (p : Fin 12) (reason failMask : Nat) (s : State) :
    SameBut [.pipe, .mgmt, .host, .out] s (endTare p reason failMask s) :=
  sameBut_mono (endTare_logsOnto p reason failMask s).frame (by simp)

/-- The end of a run leaves the other pipes alone. -/
theorem endTare_others (p : Fin 12) (reason failMask : Nat) (s : State) : OthersSame s.pipe (endTare p reason failMask s).pipe p :=
  fun _ h => endTare_pipe_other h reason failMask s

/-- A failed check gives a reason other than 0. -/
theorem failReason_ne_zero : ∀ f1 f2 f3 f4 f5 : Bool, flagAt f1 0 + flagAt f2 1 + flagAt f3 2 + flagAt f4 3 + flagAt f5 4 ≠ 0 →
    failReason (flagAt f1 0 + flagAt f2 1 + flagAt f3 2 + flagAt f4 3 + flagAt f5 4) ≠ 0 := by
  decide

theorem failReason_evaluateTare {s : State} {p : Fin 12} {run : TareRun} (fails : (evaluateTare s p run).failMask ≠ 0) :
    failReason (evaluateTare s p run).failMask ≠ 0 :=
  failReason_ne_zero _ _ _ _ _ fails

/-! ### The evaluation of a closed window (05 R117 to R120, R122) -/

/-- The Tare unit with the figures of an evaluation in its status block (05 Table 5.4). -/
def showsFigures (run : TareRun) (r : TareResult) (t : TareUnit) : TareUnit :=
  { t with minSeen := r.minSeen, maxStep := r.maxStep, clamped := r.clamped, drift := min r.drift (2 ^ 32 - 1)
           smoothMax := r.smoothMax, darkAccepted := run.darkAccepted, darkRejected := run.darkRejected }

/-- A table load since the window opened, or an armed change of bank, stands against a write (05 R122). -/
def WriteConflict (run : TareRun) (x : Pipe) : Prop :=
  run.loadConflict = true ∨ x.arm = true ∧ x.staged.corrBank = 1 - x.active.corrBank

/-- The state in which the window of a run has been evaluated. -/
def figuresShown (p : Fin 12) (run : TareRun) (s : State) : State := (s.setTare p (showsFigures run (evaluateTare s p run))).drawn

/-- The run with the new entries of its evaluation. -/
def passedRun (s : State) (p : Fin 12) (run : TareRun) : TareRun :=
  { run with result := (evaluateTare s p run).slots.map fun sl => (sl.1, sl.2.map fun e => e.map (·.value)) }

/-- The inactive bank is no longer loaded and the write of a passed run has started (05 R121). -/
def writeStarted (p : Fin 12) (run : TareRun) (s : State) : State :=
  ((figuresShown p run s).setPipe p (setInactiveLoaded false)).setTare p fun t =>
    { t with state := .write, run := some (passedRun s p run) }

theorem figuresShown_frame (p : Fin 12) (run : TareRun) (s : State) : SameBut [.pipe, .mgmt, .host, .out] s (figuresShown p run s) := by
  simp [SameBut, figuresShown]

theorem writeStarted_frame (p : Fin 12) (run : TareRun) (s : State) : SameBut [.pipe, .mgmt, .host, .out] s (writeStarted p run s) := by
  simp [SameBut, writeStarted, figuresShown]

theorem figuresShown_pipe (p : Fin 12) (run : TareRun) (s : State) : (figuresShown p run s).pipe[p] =
    { s.pipe[p] with tare := showsFigures run (evaluateTare s p run) (s.pipe[p]).tare } := upd_same _ _ _

theorem figuresShown_others (p : Fin 12) (run : TareRun) (s : State) : OthersSame s.pipe (figuresShown p run s).pipe p :=
  upd_others _ _ _

theorem writeStarted_pipe (p : Fin 12) (run : TareRun) (s : State) : (writeStarted p run s).pipe = upd s.pipe p fun x =>
    { setInactiveLoaded false x with
      tare := { showsFigures run (evaluateTare s p run) x.tare with state := .write, run := some (passedRun s p run) } } := by
  simp only [writeStarted, figuresShown, State.setTare_pipe, State.setPipe_pipe, State.drawn_pipe, upd_upd]
  rfl

section Evaluation

variable {p : Fin 12} {s : State} {run : TareRun} (held : (s.pipe[p]).tare.run = some run)

include held

/-- A run that ends after its evaluation: the frame, and the Tare unit with the reason. -/
theorem endTare_figuresShown (reason failMask : Nat) : let t := endTare p reason failMask (figuresShown p run s)
    SameBut [.pipe, .mgmt, .host, .out] s t ∧ OthersSame s.pipe t.pipe p
      ∧ (t.pipe[p]).tare = endedTare reason failMask (showsFigures run (evaluateTare s p run) (s.pipe[p]).tare) := by
  have held' : ((figuresShown p run s).pipe[p]).tare.run = some run := by rw [figuresShown_pipe]; exact held
  refine ⟨sameBut_trans (figuresShown_frame p run s) (endTare_frame ..), fun k hk => ?_, ?_⟩
  · exact (endTare_others p _ _ _ k hk).trans (figuresShown_others p run s k hk)
  · rw [endTare_pipe reason failMask held', State.setTare_pipe, upd_same, figuresShown_pipe]

variable (closed : (s.pipe[p]).tare.state = .evaluate)
include closed

theorem execTareEvaluate_accError {w : Nat} (bad : poolBad run s = some w) : execTareEvaluate p s = .next (accError p w s) := by
  simp only [execTareEvaluate, held, closed, bad]

variable (good : poolBad run s = none)
include good

theorem execTareEvaluate_fails (fails : (evaluateTare s p run).failMask ≠ 0) : execTareEvaluate p s = .next
    (endTare p (failReason (evaluateTare s p run).failMask) (evaluateTare s p run).failMask (figuresShown p run s)) := by
  simp only [execTareEvaluate, held, closed, good]
  exact if_pos fails

theorem execTareEvaluate_conflicts (passes : (evaluateTare s p run).failMask = 0) (conflict : WriteConflict run s.pipe[p]) :
    execTareEvaluate p s = .next (endTare p 0x11 0 (figuresShown p run s)) := by
  simp only [execTareEvaluate, held, closed, good]
  rw [if_neg (not_not_intro passes), if_pos (by simpa [WriteConflict] using conflict)]
  rfl

theorem execTareEvaluate_passes (passes : (evaluateTare s p run).failMask = 0) (free : ¬ WriteConflict run s.pipe[p]) :
    execTareEvaluate p s = .next (writeStarted p run s) := by
  simp only [execTareEvaluate, held, closed, good]
  rw [if_neg (not_not_intro passes), if_neg (by simpa [WriteConflict] using free)]
  rfl

end Evaluation

/-! ### The write of a passed run (05 R121) -/

/-- Address of a new entry: pixel and slot of a dark or flat table. -/
def tareEntryAddr (dark : Bool) (p b channels x c : Nat) : Nat :=
  if dark then darkAddr p b channels x c else flatAddr p b channels x c

/-- One new entry of a slot is written. -/
def writeEntry (dark : Bool) (p b channels c : Nat) (e : Nat × Option Int) (s : State) : State :=
  match e.2 with
  | none => s
  | some v => s.store (tareEntryAddr dark p b channels e.1 c) (bytesOfInt 2 v)

/-- The new entries of a slot are written. -/
def writeSlot (dark : Bool) (p b channels : Nat) (sl : Nat × List (Option Int)) (s : State) : State :=
  forEach (sl.2.mapIdx fun i e => (i, e)) (writeEntry dark p b channels sl.1) s

/-- The table of a passed run: the copy of the bank in use with the new entries. -/
def writeEntries (p : Fin 12) (dark : Bool) (slots : List (Nat × List (Option Int))) (s : State) : State :=
  forEach slots (writeSlot dark p.val (1 - (s.pipe[p]).active.corrBank) (s.pipe[p]).channels) (copyBank p (s.pipe[p]).active.corrBank s)

theorem writeTare_eq (p : Fin 12) (dark : Bool) (slots : List (Nat × List (Option Int))) (s : State) :
    writeTare p dark slots s = (writeEntries p dark slots s).setPipe p (setInactiveLoaded true) := by
  unfold writeTare
  rfl

/-- The entries of the pixels and slots that a table has take 128 KiB (04 Table 4.3). -/
theorem table_fits {channels x c : Nat} (hc : c < channels) (h8 : channels ≤ 8) (hx : x < if channels ≤ 4 then 16384 else 8192) :
    2 * (x * tableStride channels + c) + 2 ≤ 0x20000 := by
  unfold tableStride
  by_cases h4 : channels ≤ 4
  · simp only [h4, if_true] at hx ⊢; omega
  · simp only [h4, if_false] at hx ⊢; omega

/-- Such an entry lies in its bank. -/
theorem tareEntryAddr_in_bank (dark : Bool) (p b : Nat) {channels x c : Nat} (hc : c < channels) (h8 : channels ≤ 8)
    (hx : x < if channels ≤ 4 then 16384 else 8192) : bankBase p b ≤ tareEntryAddr dark p b channels x c
      ∧ tareEntryAddr dark p b channels x c + 2 ≤ bankBase p b + 0x40000 := by
  have := table_fits hc h8 hx
  cases dark with
  | true => simp only [tareEntryAddr, if_true, bankBase, darkAddr]; omega
  | false => simp only [tareEntryAddr, Bool.false_eq_true, if_false, flatAddr, bankBase, darkAddr]; omega

theorem copyBank_frame (p : Fin 12) (b : Nat) (s : State) : SameBut [.mem, .ecc] s (copyBank p b s) := by
  simp [SameBut, copyBank, clearErr]

/-- The copy of a bank writes the other bank only. -/
theorem copyBank_bytesSame (p : Fin 12) (b : Nat) (s : State) : BytesSame s (copyBank p b s) (bankBase p.val (1 - b)) 0x40000 := by
  intro a ha
  refine (forEach_same (fun m => memRead m a) _ _ (fun c hc m => memRead_memWrite_ne m _ ?_) _).trans
    (memRead_memWipe_out _ _ _ _ ha)
  have hc : bankBase p.val b ≤ c.1 ∧ c.1 < bankBase p.val b + 0x40000 := by simpa using (List.mem_filter.1 hc).2
  omega

section Write

variable (dark : Bool) (p b channels : Nat)

theorem writeEntry_frame (c : Nat) (e : Nat × Option Int) (s : State) : SameBut [.mem, .ecc] s (writeEntry dark p b channels c e s) := by
  unfold writeEntry
  split
  · exact sameBut_refl _ s
  · exact store_frame s _ _

theorem writeSlot_frame (sl : Nat × List (Option Int)) (s : State) : SameBut [.mem, .ecc] s (writeSlot dark p b channels sl s) :=
  forEach_sameBut _ _ _ (fun e _ t => writeEntry_frame dark p b channels sl.1 e t) s

theorem writeEntry_bytesSame {channels c : Nat} {e : Nat × Option Int} (hc : c < channels) (h8 : channels ≤ 8)
    (he : e.1 < if channels ≤ 4 then 16384 else 8192) (s : State) :
    BytesSame s (writeEntry dark p b channels c e s) (bankBase p b) 0x40000 := by
  obtain ⟨lo, hi⟩ := tareEntryAddr_in_bank dark p b hc h8 he
  unfold writeEntry
  split
  · exact fun _ _ => rfl
  · exact store_bytesSame s _ lo (by simpa [bytesOfInt] using hi)

/-- The entries of a slot that fits its table lie in the bank. -/
theorem writeSlot_bytesSame {channels : Nat} {sl : Nat × List (Option Int)} (hc : sl.1 < channels) (h8 : channels ≤ 8)
    (hl : sl.2.length ≤ if channels ≤ 4 then 16384 else 8192) (s : State) :
    BytesSame s (writeSlot dark p b channels sl s) (bankBase p b) 0x40000 := by
  refine forEach_keeps (fun t => BytesSame s t (bankBase p b) 0x40000) _ _ (fun e he t ht => ht.trans ?_) s fun _ _ => rfl
  obtain ⟨i, hi, rfl⟩ := List.mem_mapIdx.1 he
  exact writeEntry_bytesSame dark p b hc h8 (Nat.lt_of_lt_of_le hi hl) t

end Write

section WholeWrite

variable (p : Fin 12) (dark : Bool) (slots : List (Nat × List (Option Int))) (s : State)

theorem writeEntries_frame : SameBut [.mem, .ecc] s (writeEntries p dark slots s) :=
  sameBut_trans (copyBank_frame p _ s) (forEach_sameBut _ _ _ (fun sl _ t => writeSlot_frame _ _ _ _ sl t) _)

/-- New entries of pixels and slots that the tables have change the inactive bank only. -/
theorem writeEntries_bytesSame (h8 : (s.pipe[p]).channels ≤ 8) (fits : ∀ sl ∈ slots, sl.1 < (s.pipe[p]).channels
      ∧ sl.2.length ≤ if (s.pipe[p]).channels ≤ 4 then 16384 else 8192) :
    BytesSame s (writeEntries p dark slots s) (bankBase p.val (1 - (s.pipe[p]).active.corrBank)) 0x40000 := by
  refine forEach_keeps (fun t => BytesSame s t (bankBase p.val (1 - (s.pipe[p]).active.corrBank)) 0x40000) _ _
    (fun sl hsl t ht => ?_) _ (copyBank_bytesSame p (s.pipe[p]).active.corrBank s)
  obtain ⟨slot, pixels⟩ := fits sl hsl
  exact ht.trans (writeSlot_bytesSame dark p.val _ slot h8 pixels t)

theorem writeTare_mem : (writeTare p dark slots s).mem = (writeEntries p dark slots s).mem := by rw [writeTare_eq, State.setPipe_mem]

theorem writeTare_pipe : (writeTare p dark slots s).pipe = upd s.pipe p (setInactiveLoaded true) := by
  rw [writeTare_eq, State.setPipe_pipe, (writeEntries_frame p dark slots s).pipe (by simp)]

theorem writeTare_frame : SameBut [.pipe, .mem, .ecc] s (writeTare p dark slots s) :=
  sameBut_trans (sameBut_mono (writeEntries_frame p dark slots s) (by simp)) (by rw [writeTare_eq]; simp [SameBut])

end WholeWrite

/-- The end of a write: the table stands in the inactive bank and the run waits for its swap (05 R121). -/
def writeEnded (p : Fin 12) (run : TareRun) (s : State) : State :=
  (writeTare p run.dark run.result s).setTare p fun t => { t with state := .swapPending }

theorem execTareEvaluate_writes {p : Fin 12} {s : State} {run : TareRun} (held : (s.pipe[p]).tare.run = some run)
    (writing : (s.pipe[p]).tare.state = .write) : execTareEvaluate p s = .next (writeEnded p run s) := by
  simp only [execTareEvaluate, held, writing]
  rfl

theorem writeEnded_frame (p : Fin 12) (run : TareRun) (s : State) : SameBut [.pipe, .mem, .ecc] s (writeEnded p run s) :=
  sameBut_trans (writeTare_frame p run.dark run.result s) (by simp [SameBut, writeEnded])

theorem writeEnded_pipe (p : Fin 12) (run : TareRun) (s : State) : (writeEnded p run s).pipe = upd s.pipe p fun x =>
    { setInactiveLoaded true x with tare := { x.tare with state := .swapPending } } := by
  rw [writeEnded, State.setTare_pipe, writeTare_pipe, upd_upd]
  rfl

/-! ### The INTERVAL timer (05 Table 5.3, R128) -/

theorem startTare_frame (p : Fin 12) (dark : Bool) (s : State) : SameBut [.pipe, .mgmt, .host, .out] s (startTare p dark s) := by
  simp [SameBut, startTare]

/-- The run that a start gives the pipe: its parameters as they are and the free blocks that it needs (05 R113, R128). -/
def startedRun (p : Fin 12) (dark : Bool) (s : State) : TareRun :=
  { dark := dark, params := (s.pipe[p]).tare.params
    blocks := freeBlocks s (tareBlocksFor (s.pipe[p]).tare.params (s.pipe[p]).channels (s.pipe[p]).active.linePixels) }

theorem startTare_pipe (p : Fin 12) (dark : Bool) (s : State) : (startTare p dark s).pipe[p] = { s.pipe[p] with
    tare := { (s.pipe[p]).tare with
      state := .waitStart, kind := if dark then 2 else 1, run := some (startedRun p dark s), trigCount := 0 } } := upd_same _ _ _

theorem startTare_run (p : Fin 12) (dark : Bool) (s : State) : ((startTare p dark s).pipe[p]).tare.run = some (startedRun p dark s) := by
  rw [startTare_pipe]

theorem startTare_others (p : Fin 12) (dark : Bool) (s : State) : OthersSame s.pipe (startTare p dark s).pipe p := upd_others _ _ _

theorem execTareIntervalExpiry_starts {p : Fin 12} {s : State} (interval : (s.pipe[p]).tare.params.interval ≠ 0)
    (unit : (s.pipe[p]).unit = .enabled) (idle : (s.pipe[p]).tare.run = none) : execTareIntervalExpiry p s =
      .next (if tareRoom p s then startTare p false s else abortTare p (startTare p false s)) :=
  if_neg (by simp only [interval, unit, idle]; decide)

/-- Settles O21: the evaluation ends a run or starts its write, the end of the write puts the table into the inactive bank, and the
INTERVAL timer starts a run or ends it at once. -/
theorem tareRuns : Obligations.TareRuns := by
  intro p s
  dsimp only
  refine ⟨fun run held closed good => ?evaluates, fun run w held closed bad => execTareEvaluate_accError held closed bad,
    fun run held writing => ?writes, fun interval unit idle => ?timer⟩
  case evaluates =>
    by_cases passes : (evaluateTare s p run).failMask = 0
    · by_cases conflict : WriteConflict run s.pipe[p]
      · obtain ⟨frame, others, tare⟩ := endTare_figuresShown held 0x11 0
        exact ⟨_, execTareEvaluate_conflicts held closed good passes conflict, frame, others, fun h => absurd passes h,
          fun _ _ => by rw [tare]; exact ⟨rfl, rfl, rfl⟩, fun _ h => absurd conflict h⟩
      · refine ⟨_, execTareEvaluate_passes held closed good passes conflict, ?_, fun k hk => ?_, fun h => absurd passes h,
          fun _ h => absurd h conflict, fun _ _ => ?_⟩
        · exact writeStarted_frame p run s
        · rw [writeStarted_pipe, upd_other _ _ hk]
        · rw [writeStarted_pipe, upd_same]
          exact ⟨rfl, rfl, setInactiveLoaded_inactive false _, rfl⟩
    · obtain ⟨frame, others, tare⟩ :=
        endTare_figuresShown held (failReason (evaluateTare s p run).failMask) (evaluateTare s p run).failMask
      refine ⟨_, execTareEvaluate_fails held closed good passes, frame, others, fun _ => ?_, fun h => absurd h passes,
        fun h => absurd h passes⟩
      rw [tare]
      exact ⟨rfl, rfl, rfl, rfl, (if_neg (failReason_evaluateTare passes)).trans (satInc_eq_min ..)⟩
  case writes =>
    refine ⟨_, execTareEvaluate_writes held writing, writeEnded_frame p run s, fun k hk => ?_, ?_⟩
    · rw [writeEnded_pipe, upd_other _ _ hk]
    · rw [writeEnded_pipe, upd_same]
      refine ⟨rfl, held, setInactiveLoaded_inactive true _, setInactiveLoaded_active true _, fun _ h8 fits a ha => ?_⟩
      rw [writeEnded, State.setTare_mem, writeTare_mem]
      exact writeEntries_bytesSame p run.dark run.result s h8 fits a ha
  case timer =>
    refine ⟨_, execTareIntervalExpiry_starts interval unit idle, ?_⟩
    cases room : tareRoom p s with
    | true =>
      refine ⟨startTare_frame p false s, startTare_others p false s, fun _ => ?_, nofun⟩
      rw [if_pos rfl, startTare_pipe]
      exact ⟨rfl, rfl, _, rfl, rfl, rfl⟩
    | false =>
      refine ⟨sameBut_trans (startTare_frame p false s) (endTare_frame ..), fun k hk => ?_, nofun, fun _ => ?_⟩
      · exact (endTare_others p _ _ _ k hk).trans (startTare_others p false s k hk)
      · rw [if_neg (by decide), abortTare, endTare_pipe 0x12 0 (startTare_run p false s), State.setTare_pipe, upd_same]
        exact ⟨rfl, rfl, rfl⟩

end Sys2Proof.Machine
end

section
/-! The commands of Tare, binning, stitch, segmenter, Gust and station (17 Tables 17.8, 17.11): a memory out of its canonical form, in
which a part of a class LUT does not stand after its load. -/

namespace Sys2Proof.Machine

/-- An operating device whose pipe 0 is the only member and whose class LUT of bank 1 is being loaded. Its memory is not canonical: it
lists the first byte of that LUT twice, as 1 and as 2. -/
def lutByteListedTwice : State :=
  let s := State.reset
  { s with
    mgmt := { s.mgmt with dev := .operational, step := 9, coldStart := false }
    mbx := { s.mbx with isOpen := true, sess := s.mbx.sess.set 2 { isOpen := true } }
    stitch := { s.stitch with members := 1, lutLoad := some { kind := 2, bank := 1, total := 32768, bytes := [] } }
    mem := [(0x1009020000, 1), (0x1009020000, 2)] }

/-- CLASS_LUT_LOAD of one zero byte at offset 0 of bank 1, neither START nor LAST, by session 2. -/
def zeroLutByte : Req :=
  { opcode := 0x0601, session := 2, flags := 0, sequence := 1, payload := [1, 0, 0, 0, 0, 0, 0, 0, 0, 0x80, 0, 0, 0] }

theorem zeroLutByte_taken : Taken 0x0601 0 zeroLutByte lutByteListedTwice := by
  unfold Taken Served
  decide +kernel

theorem zeroLutByte_free (res : Nat) : Free lutByteListedTwice zeroLutByte res := .inl rfl

/-- The write of the blank value takes the first of the two cells away, so that the byte reads as the second. -/
theorem zeroLutByte_reads_two : memRead (serve cmdClassLutLoad zeroLutByte lutByteListedTwice).mem 0x1009020000 = 2 := by
  decide +kernel

/-- Refutes O51: the statement is about any state, and its clause on CLASS_LUT_LOAD says what memory reads after the load without asking
that memory is in its canonical form, as `TareRuns` does. Where a memory lists an address of the LUT twice, which no operation on a
canonical memory brings about, the load of a zero byte is answered OK and the byte reads as the second cell. -/
theorem not_chainCommands : ¬ Obligations.ChainCommands := by
  unfold Obligations.ChainCommands
  intro h
  obtain ⟨-, -, -, lut, -⟩ := h zeroLutByte lutByteListedTwice
  obtain ⟨-, loads⟩ := lut 1 false false zeroLutByte_taken (by decide) rfl (by decide) rfl rfl (fun _ _ => zeroLutByte_free _)
    ⟨0, rfl⟩ rfl (by decide) nofun nofun (fun _ => ⟨_, rfl, rfl, rfl⟩)
  obtain ⟨t, pay, ht, -, -, parts⟩ := loads (by decide +kernel)
  obtain rfl : serve cmdClassLutLoad zeroLutByte lutByteListedTwice = t := Host.Outcome.next.inj ht
  have holds : memRead (serve cmdClassLutLoad zeroLutByte lutByteListedTwice).mem 0x1009020000 = 0 :=
    (parts 0).1 rfl 0 0 (by decide)
  rw [zeroLutByte_reads_two] at holds
  exact absurd holds (by decide)

end Sys2Proof.Machine
end

section
/-! Gust rules (08 R189, R191): the chains that match, by their last rules, and the one that decides the object. -/

namespace Sys2Proof.Machine

section Chains

variable {f : List Nat} {rules : List GustRule} {i j : Nat} {r : GustRule}

/-! ### Chains -/

/-- A chain starts at rule `i`: the rule before it, if there is one, ends a chain (08 R189). -/
def ChainStarts (rules : List GustRule) (i : Nat) : Prop := i = 0 ∨ ∃ r, rules[i - 1]? = some r ∧ r.andNext = false

/-- Rule `j` is the last of a chain that matches (08 R189), in the words of `RuleChains`. -/
def EndsMatchingChain (f : List Nat) (rules : List GustRule) (j : Nat) : Prop :=
  ∃ (h : j < rules.length) (i : Nat), i ≤ j ∧ ChainStarts rules i ∧ (rules[j]).andNext = false
    ∧ ∀ k, i ≤ k → k ≤ j → ∃ r, rules[k]? = some r ∧ ruleMatches f r = true ∧ (k < j → r.andNext = true)

/-- The rules before `j` in the chain of rule `j` match: what `matchingChains` carries along as `ok`. -/
def MatchesUpTo (f : List Nat) (rules : List GustRule) (j : Nat) : Prop :=
  ∃ i ≤ j, ChainStarts rules i ∧ ∀ k, i ≤ k → k < j → ∃ r, rules[k]? = some r ∧ ruleMatches f r = true ∧ r.andNext = true

theorem matchesUpTo_zero : MatchesUpTo f rules 0 := ⟨0, Nat.le_refl _, .inl rfl, by omega⟩

/-- A rule without AND_NEXT ends its chain, and the next rule starts one. -/
theorem matchesUpTo_succ_of_last (hr : rules[i]? = some r) (ends : r.andNext = false) : MatchesUpTo f rules (i + 1) :=
  ⟨i + 1, Nat.le_refl _, .inr ⟨r, hr, ends⟩, by omega⟩

/-- A rule with AND_NEXT adds its own comparison to its chain. -/
theorem matchesUpTo_succ_of_andNext (hr : rules[i]? = some r) (more : r.andNext = true) :
    MatchesUpTo f rules (i + 1) ↔ MatchesUpTo f rules i ∧ ruleMatches f r = true := by
  constructor
  · rintro ⟨start, le, starts, before⟩
    have notNext : start ≠ i + 1 := by
      rintro rfl
      obtain h | ⟨q, hq, ends⟩ := starts
      · omega
      · obtain rfl : q = r := Option.some.inj (hq.symm.trans hr)
        exact absurd (ends.symm.trans more) (by decide)
    obtain ⟨q, hq, holds, -⟩ := before i (by omega) (by omega)
    obtain rfl : q = r := Option.some.inj (hq.symm.trans hr)
    exact ⟨⟨start, by omega, starts, fun k lo hi => before k lo (by omega)⟩, holds⟩
  · rintro ⟨⟨start, le, starts, before⟩, holds⟩
    refine ⟨start, by omega, starts, fun k lo hi => ?_⟩
    obtain rfl | lt : k = i ∨ k < i := by omega
    · exact ⟨r, hr, holds, more⟩
    · exact before k lo lt

theorem endsMatchingChain_iff (hr : rules[j]? = some r) :
    EndsMatchingChain f rules j ↔ r.andNext = false ∧ ruleMatches f r = true ∧ MatchesUpTo f rules j := by
  obtain ⟨hj, rfl⟩ := List.getElem?_eq_some_iff.mp hr
  constructor
  · rintro ⟨_, i, le, starts, last, chain⟩
    obtain ⟨q, hq, holds, -⟩ := chain j le (Nat.le_refl j)
    obtain rfl : q = rules[j] := Option.some.inj (hq.symm.trans hr)
    refine ⟨last, holds, i, le, starts, fun k lo hi => ?_⟩
    obtain ⟨q, hq, holds, more⟩ := chain k lo (Nat.le_of_lt hi)
    exact ⟨q, hq, holds, more hi⟩
  · rintro ⟨last, holds, i, le, starts, before⟩
    refine ⟨hj, i, le, starts, last, fun k lo hi => ?_⟩
    obtain rfl | lt := Nat.eq_or_lt_of_le hi
    · exact ⟨_, hr, holds, fun h => absurd h (Nat.lt_irrefl _)⟩
    · obtain ⟨q, hq, holds, more⟩ := before k lo lt
      exact ⟨q, hq, holds, fun _ => more⟩

/-! ### The list of matching chains -/

/-- From rule `i` on, with `ok` as the rules before it leave it, the list names the last rules of the chains that match. -/
theorem mem_matchingChains_from {rest : List GustRule} {ok : Bool} (suffix : rules.drop i = rest)
    (hok : ok = true ↔ MatchesUpTo f rules i) :
    (j, r) ∈ matchingChains f i ok rest ↔ i ≤ j ∧ rules[j]? = some r ∧ EndsMatchingChain f rules j := by
  induction rest generalizing i ok with
  | nil =>
    have beyond : rules.length ≤ i := List.drop_eq_nil_iff.mp suffix
    simp only [matchingChains, List.not_mem_nil, false_iff]
    rintro ⟨le, hr, -⟩
    have := (List.getElem?_eq_some_iff.mp hr).1
    omega
  | cons q rest ih =>
    have hq : rules[i]? = some q := by rw [← List.head?_drop, suffix]; rfl
    have suffix' : rules.drop (i + 1) = rest := by rw [← List.tail_drop, suffix]; rfl
    have hereOrLater : (i ≤ j ∧ rules[j]? = some r ∧ EndsMatchingChain f rules j) ↔
        (j = i ∧ r = q ∧ EndsMatchingChain f rules i) ∨ (i + 1 ≤ j ∧ rules[j]? = some r ∧ EndsMatchingChain f rules j) := by
      constructor
      · rintro ⟨le, hr, ends⟩
        obtain rfl | lt := Nat.eq_or_lt_of_le le
        · exact .inl ⟨rfl, Option.some.inj (hr.symm.trans hq), ends⟩
        · exact .inr ⟨lt, hr, ends⟩
      · rintro (⟨rfl, rfl, ends⟩ | ⟨lt, hr, ends⟩)
        · exact ⟨Nat.le_refl _, hq, ends⟩
        · exact ⟨by omega, hr, ends⟩
    have endsHere : EndsMatchingChain f rules i ↔ q.andNext = false ∧ (ok && ruleMatches f q) = true := by
      rw [endsMatchingChain_iff hq, ← hok, Bool.and_eq_true, and_comm (a := ok = true)]
    rw [hereOrLater, endsHere]
    cases more : q.andNext with
    | true =>
      have hok' : (ok && ruleMatches f q) = true ↔ MatchesUpTo f rules (i + 1) := by
        rw [matchesUpTo_succ_of_andNext hq more, ← hok, Bool.and_eq_true]
      simp [matchingChains, more, ih suffix' hok']
    | false =>
      have tail := ih suffix' (ok := true) (by simp [matchesUpTo_succ_of_last hq more])
      cases holds : ok && ruleMatches f q with
      | true => simp [matchingChains, more, holds, tail]
      | false => simp [matchingChains, more, holds, tail]

theorem mem_matchingChains : (j, r) ∈ matchingChains f 0 true rules ↔ rules[j]? = some r ∧ EndsMatchingChain f rules j := by
  have fromZero := mem_matchingChains_from (f := f) (rules := rules) (j := j) (r := r) (i := 0) (ok := true) rfl
    (by simp [matchesUpTo_zero])
  simpa using fromZero

/-- The chains stand in the list by rising rule number. -/
theorem matchingChains_numbers_sublist (f : List Nat) (i : Nat) (ok : Bool) (rules : List GustRule) :
    ((matchingChains f i ok rules).map Prod.fst).Sublist (List.range' i rules.length) := by
  induction rules generalizing i ok with
  | nil => exact .slnil
  | cons q rest ih =>
    rw [matchingChains, List.length_cons, List.range'_succ]
    split
    · exact (ih _ _).cons _
    · split
      · exact (ih _ _).cons_cons _
      · exact (ih _ _).cons _

theorem matchingChains_rising (f : List Nat) (i : Nat) (ok : Bool) (rules : List GustRule) :
    (matchingChains f i ok rules).Pairwise (·.1 < ·.1) :=
  List.pairwise_map.mp ((List.pairwise_lt_range').sublist (matchingChains_numbers_sublist f i ok rules))

/-! ### The winner -/

/-- The winner so far after chain `x`: only a higher PRIORITY takes its place (08 R189). -/
def takeBetter (b : Option (Nat × GustRule)) (x : Nat × GustRule) : Option (Nat × GustRule) :=
  match b with
  | none => some x
  | some y => if y.2.priority < x.2.priority then some x else some y

theorem winningChain_eq_foldl (l : List (Nat × GustRule)) : winningChain l = l.foldl takeBetter none := rfl

theorem takeBetter_none (x : Nat × GustRule) : takeBetter none x = some x := rfl

theorem takeBetter_of_lt {x y : Nat × GustRule} (lt : y.2.priority < x.2.priority) : takeBetter (some y) x = some x := if_pos lt

theorem takeBetter_of_le {x y : Nat × GustRule} (le : x.2.priority ≤ y.2.priority) : takeBetter (some y) x = some y :=
  if_neg (Nat.not_lt_of_le le)

theorem takeBetter_cases (b : Option (Nat × GustRule)) (x : Nat × GustRule) : takeBetter b x = b ∨ takeBetter b x = some x := by
  cases b with
  | none => exact .inr rfl
  | some y =>
    obtain lt | le := Nat.lt_or_ge y.2.priority x.2.priority
    · exact .inr (takeBetter_of_lt lt)
    · exact .inl (takeBetter_of_le le)

/-- The winner is one of the chains. -/
theorem mem_of_foldl_takeBetter {l : List (Nat × GustRule)} {b : Option (Nat × GustRule)} {y : Nat × GustRule}
    (won : l.foldl takeBetter b = some y) : b = some y ∨ y ∈ l := by
  induction l generalizing b with
  | nil => exact .inl won
  | cons x l ih =>
    obtain first | later := ih won
    · obtain same | taken := takeBetter_cases b x
      · exact .inl (same.symm.trans first)
      · obtain rfl : x = y := Option.some.inj (taken.symm.trans first)
        exact .inr (List.mem_cons_self ..)
    · exact .inr (List.mem_cons_of_mem x later)

/-- No later chain of a PRIORITY that is not higher takes the winner's place. -/
theorem foldl_takeBetter_of_le {l : List (Nat × GustRule)} {x : Nat × GustRule} (le : ∀ y ∈ l, y.2.priority ≤ x.2.priority) :
    l.foldl takeBetter (some x) = some x := by
  induction l with
  | nil => rfl
  | cons y l ih =>
    rw [List.foldl_cons, takeBetter_of_le (le y (List.mem_cons_self ..))]
    exact ih fun z hz => le z (List.mem_cons_of_mem y hz)

/-- A chain wins against lower priorities before it and priorities that are not higher after it. -/
theorem winningChain_between {before after : List (Nat × GustRule)} {x : Nat × GustRule}
    (lower : ∀ y ∈ before, y.2.priority < x.2.priority) (notHigher : ∀ y ∈ after, y.2.priority ≤ x.2.priority) :
    winningChain (before ++ x :: after) = some x := by
  have taken : takeBetter (before.foldl takeBetter none) x = some x := by
    cases won : before.foldl takeBetter none with
    | none => exact takeBetter_none x
    | some y =>
      obtain none_eq | hy := mem_of_foldl_takeBetter won
      · cases none_eq
      · exact takeBetter_of_lt (lower y hy)
  rw [winningChain_eq_foldl, List.foldl_append, List.foldl_cons, taken, foldl_takeBetter_of_le notHigher]

/-- Highest PRIORITY first, then the lowest number (08 R189): in a list by rising number, the chains before the winner have lower
priorities. -/
theorem winningChain_eq_some {l : List (Nat × GustRule)} (rising : l.Pairwise (·.1 < ·.1)) {x : Nat × GustRule} (hx : x ∈ l)
    (best : ∀ y ∈ l, y.2.priority ≤ x.2.priority ∧ (y.2.priority = x.2.priority → x.1 ≤ y.1)) : winningChain l = some x := by
  obtain ⟨before, after, rfl⟩ := List.append_of_mem hx
  obtain ⟨-, -, across⟩ := List.pairwise_append.mp rising
  refine winningChain_between (fun y hy => ?_) fun y hy => ?_
  · obtain ⟨le, tie⟩ := best y (List.mem_append_left _ hy)
    have earlier : y.1 < x.1 := across y hy x (List.mem_cons_self ..)
    exact Nat.lt_of_le_of_ne le fun same => Nat.not_lt_of_le (tie same) earlier
  · exact (best y (List.mem_append_right _ (List.mem_cons_of_mem x hy))).1

/-! ### The verdict -/

theorem evaluateRules_default {b : GustBank} (noChain : ∀ j, ¬ EndsMatchingChain f b.rules j) :
    evaluateRules b f = { verdict := b.default, byDefault := true } := by
  have empty : matchingChains f 0 true b.rules = [] :=
    List.eq_nil_iff_forall_not_mem.mpr fun x hx => noChain x.1 (mem_matchingChains.mp hx).2
  rw [evaluateRules, empty]
  rfl

theorem evaluateRules_winner {b : GustBank} (hr : b.rules[j]? = some r) (ends : EndsMatchingChain f b.rules j)
    (best : ∀ k q, b.rules[k]? = some q → EndsMatchingChain f b.rules k →
      q.priority ≤ r.priority ∧ (q.priority = r.priority → j ≤ k)) :
    evaluateRules b f = { verdict := r.verdict % 16, crop := r.flags.testBit 1, rule := idx? 256 j } := by
  have won : winningChain (matchingChains f 0 true b.rules) = some (j, r) := by
    refine winningChain_eq_some (matchingChains_rising ..) (mem_matchingChains.mpr ⟨hr, ends⟩) fun y hy => ?_
    obtain ⟨hq, endsToo⟩ := mem_matchingChains.mp hy
    exact best y.1 y.2 hq endsToo
  rw [evaluateRules, won]

end Chains

/-- Settles O22: `matchingChains` lists by rising number the last rules of the chains that match, and the winner is the first of that
list with the highest PRIORITY. -/
theorem ruleChains : Obligations.RuleChains := by
  unfold Obligations.RuleChains
  exact fun b f => ⟨evaluateRules_default, fun j r => evaluateRules_winner⟩

end Sys2Proof.Machine
end
